-- ==== Sys2Proof/Word.lean ====
section
/-! DEFINITION. The plainest types of the model: bytes, words, the instance numbers of 00 R4 and
the association list in which sparse tables are held. -/

namespace Sys2Proof

/-- One octet. -/
abbrev Byte := BitVec 8

/-- A run of octets: the content of a sector, of a message or of an OCT or STR value. -/
abbrev Bytes := List Byte

/-- A time in ns of the module's clock (00 "TIME"; 10 R270, the pair clock). -/
abbrev Time := Nat

/-- Instance numbers, counted from 0 (instance `i` of the spec is index `i - 1`, 00 R4). -/
abbrev Port := Fin 32
abbrev Group := Fin 8
abbrev Bay := Fin 24
abbrev PoolNo := Fin 16
abbrev Lane := Fin 104
abbrev Cluster := Fin 4
abbrev Engine := Fin 36
abbrev Feed := Fin 2
abbrev SwPort := Fin 30
abbrev SwClass := Fin 4
abbrev Domain := Fin 3
abbrev Die := Fin 2
abbrev Block := Fin 15

/-- A sparse table: pairs of a key and an entry, keys strictly rising. -/
abbrev Tbl (α : Type) := List (Nat × α)

end Sys2Proof
end

