-- ==== Sys2Proof/Types.lean ====
section
/-! DEFINITION. The data that commands carry and that State holds: modes, dictionary values, map
entries, cycle-record entries, frames, descriptors. Plain data throughout. -/

namespace Sys2Proof

/-- The twelve major modes (00 R6, 14 R368). -/
inductive Mode where
  | reset | boot | isolated | solo | active | standby | coldStandby | takeover | rejoin
  | quiesced | holdup | safe
deriving DecidableEq, Repr

/-- Power states (14 R375); `none` is the 255 that RESET and HOLDUP report (14 R377). -/
inductive PowerState where
  | full | trimmed | dormant | none
deriving DecidableEq, Repr

/-- Privileges, in rising order (00 "Dictionary types"). -/
inductive Priv where
  | observer | operator | maintainer | factory
deriving DecidableEq, Repr

/-- Access codes of an object (00 "Dictionary types"). -/
inductive Access where
  | ro | rw | wo | rws
deriving DecidableEq, Repr

/-- Scope of an object (15 R398). -/
inductive Scope where
  | module | pair | session
deriving DecidableEq, Repr

/-- Type codes of a dictionary value (15 R402, codes 1 to 12). -/
inductive Ty where
  | bool | u8 | u16 | u32 | u64 | i16 | i32 | str | oct | addr | time | dur
deriving DecidableEq, Repr

/-- A dictionary value: an integer, or the octets of STR, OCT and ADDR. -/
inductive Val where
  | num (n : Int)
  | oct (b : Bytes)
deriving DecidableEq, Repr

/-- Epquin statuses (15 R405). -/
inductive EpStatus where
  | ok | noObject | noSub | type | range | denied | mode | busyInService | groupAborted
  | readOnly | stale | internal
deriving DecidableEq, Repr

/-- One item of a request: index, sub-index, TYPE and value (15 R402). A GET item has no value. -/
structure Item where
  index : Nat
  sub   : Nat
  ty    : Ty
  val   : Val
deriving DecidableEq, Repr

/-- A write to one named object, as a session sends it: the session, the sub-index and the value. -/
structure Write where
  sess : Nat
  sub  : Nat
  val  : Val
deriving DecidableEq, Repr

/-- Path of a management session (15 R407). -/
inductive Path where
  | mgmtPort | inband | mirror | mailbox
deriving DecidableEq, Repr

/-- Transport of a host connection (02). -/
inductive Transport where
  | tcp | rdma
deriving DecidableEq, Repr

/-- Class of an admitted command (03 R84). -/
inductive AdmClass where
  | committed | excess
deriving DecidableEq, Repr

/-- Where a command comes from: a fabric connection or an attach submission queue (13 R356). -/
inductive Src where
  | fabric (conn : Nat)
  | attach (sqid : Nat)
deriving DecidableEq, Repr

/-- NVMe statuses the module returns (03 R92). -/
inductive Status where
  | success | invalidOpcode | invalidField | dataTransfer | internal | aborted | invalidNs
  | sglLength | sglType | writeProtected | lbaRange | abortLimit | aerLimit | invalidLogPage
  | notSaveable | connectBusy | connectInvalid | connectHost | anaInaccessible | unrecovered
  | invalidQueue | invalidQueueSize
deriving DecidableEq, Repr

/-- The data descriptor of a command (03 R91): whether its type is one that R91 allows, its length in bytes, on
RDMA the remote address and key of its keyed data block, and whether it asks for a Send with Invalidate (02
R52). -/
structure Sgl where
  typeOk : Bool
  len    : Nat
  addr   : Nat
  key    : BitVec 32
  inval  : Bool
deriving DecidableEq, Repr

/-- Where an admin command comes from, its FUSE and its data descriptor (03 R73, R92). -/
structure AdmHead where
  src  : Src
  fuse : BitVec 2
  sgl  : Sgl
deriving DecidableEq, Repr

/-- What every admin command carries beside its own operands. -/
structure AdmCmd extends AdmHead where
  cid  : Nat
deriving DecidableEq, Repr

/-- The fields of an I/O command that the command stage reads (03 R72, R73, R92; 13 R356, R360).
`nlb` counts sectors from 1. `bar2` is the module's own BAR2 offset of the data, for an attach
command whose PRP entries point there. -/
structure IoCmd where
  src      : Src
  cid      : Nat
  nsid     : Nat
  slba     : Nat
  nlb      : Nat
  trump    : Bool
  fuse     : BitVec 2
  prot     : Bool
  sgl      : Sgl
  bar2     : Option Nat
deriving DecidableEq, Repr

/-- State of a logical block (06 R147). -/
inductive LbState where
  | unmapped | filling | mapped | merging
deriving DecidableEq, Repr

/-- LB map entry (06 R147). `bands` lists BAND0 to BAND2 of the set, in order, as far as they are opened; `set` is
SET, r - 1. -/
structure LbEntry where
  bands      : List Nat
  set        : Nat
  state      : LbState
  fill       : Nat
  epoch      : BitVec 24
  hasRuns    : Bool
  fillClosed : Bool
deriving DecidableEq, Repr

/-- Kind of a band (06 R148). -/
inductive BandKind where
  | free | data | sharedLog | seqLog | staging | mergeTarget | system
deriving DecidableEq, Repr

/-- Member state (08 R215). -/
inductive MState where
  | good | lost | rebuilding
deriving DecidableEq, Repr

/-- Member word of a band-table entry (06 R148); carrier 31 is none. -/
structure Member where
  carrier : Nat
  eu      : Nat
  mstate  : MState
deriving DecidableEq, Repr

/-- Band-table entry (06 R148), with the retry position of 07 R199, the read counter of 07 R200 and
the spare list left after the band's own substitutions (08 R211, R220). -/
structure Band where
  kind        : BandKind
  isOpen      : Bool
  awaitResync : Bool
  verify      : Bool
  retiring    : Bool
  ns          : Nat
  owner       : Nat
  program     : Nat
  readers     : Nat
  openseq     : Nat
  members     : List Member
  retryPos    : Nat
  readCount   : Nat
  spares      : List Nat
deriving DecidableEq, Repr

/-- Kind of an overlay run: the RKIND codes of 06 R149, and 3, the lost run of 08 R226. -/
inductive RKind where
  | log | zero | staging | lost
deriving DecidableEq, Repr

/-- Overlay run entry (06 R149); `len` counts sectors from 1. -/
structure Run where
  lb    : Nat
  start : Nat
  len   : Nat
  kind  : RKind
  epoch : BitVec 24
  band  : Nat
  slot  : Nat
deriving DecidableEq, Repr

/-- State of a caddy slot (06 R154). -/
inductive SlotState where
  | free | placed | gathered | programmed | superseded | zeroRun | received
deriving DecidableEq, Repr

/-- One caddy write slot with its descriptor (06 R154). `cycle` is the low 32 bits of the placing cycle, `seq` the
place in the order of placement (06 R160), `zlen` the run length a zero-run descriptor carries in its slot, `gone`
the sectors of it already superseded (06 R155), `zdone` its leading sectors that stripes already carry (06 R173).
`late` names the supersessions that no committed record carries yet, as sector and cycle, and `was` is the state
before them (01 R17). `readers` is the reader count of the caddy index (06 R146), `conn` and `cid` the command a
state-6 slot belongs to (06 R157). -/
structure Slot where
  ns      : Nat
  lba     : Nat
  cycle   : Nat
  seq     : Nat
  state   : SlotState
  was     : SlotState
  late    : List (Nat × Nat)
  dest    : Nat
  data    : Bytes
  zlen    : Nat
  gone    : List Nat
  zdone   : Nat
  readers : Nat
  conn    : Nat
  cid     : Nat
deriving DecidableEq, Repr

/-- State of an array carrier (08 R216, R237). -/
inductive CarState where
  | absent | inService | lost | heldOut | notAdmitted
deriving DecidableEq, Repr

/-- What a connection's opening fixes (10 R272 CONN_OPEN; 02 R39, R45, R52). `wnd` is the receive window the
opening offers, in bytes. -/
structure ConnInfo where
  kind     : Transport
  port     : Nat
  src      : Bytes
  svc      : Nat
  listen   : Nat
  isn      : Nat
  peerIsn  : Nat
  mss      : Nat
  wnd      : Nat
  wscale   : Bool
  sack     : Bool
  tstamps  : Bool
  ecn      : Bool
  dscp     : Nat
  pcp      : Nat
  respRes  : Nat
deriving DecidableEq, Repr

/-- Field that the invalid attribute of a failed Connect points at (03 R64). -/
inductive ConnectField where
  | none | subnqn | qid | sqsize | cntlid
deriving DecidableEq, Repr

/-- A window register set of the attach port (13 R357), in granules. -/
structure Win where
  offset : Nat
  length : Nat
  enable : Bool
  peerWrite : Bool
  peerRead : Bool
deriving DecidableEq, Repr

/-- What a Connect fixes for a connection's queue (03 R65, R69): controller and queue, the association, and
whether SQ flow control is in use. The last five fields hand a running controller over to a joiner: its last
command (R81), event configuration, changed namespaces (R67), CC and CSTS. -/
structure QueueInfo where
  ctrl      : Nat
  qid       : Nat
  sqsize    : Nat
  subsys    : Nat
  host      : Nat
  hostNqn   : Bytes
  discovery : Bool
  kato      : Nat
  sqFlow    : Bool
  lastCmd   : Time
  aenConfig : Nat
  changedNs : List Nat
  cc        : Nat
  csts      : Nat
deriving DecidableEq, Repr

/-- The key exchange chosen for a TLS connection (02 R49). -/
inductive KeyEx where
  | pskDhe384 | pskDhe256 | pskKe
deriving DecidableEq, Repr

/-- Field that a C2HTermReq points at (03 R69). -/
inductive TermField where
  | none | ttag
deriving DecidableEq, Repr

/-- A read-only status or a message the module sends to a host on a connection or a port. -/
inductive HostMsg where
  /-- SYN-ACK with the MSS and the options it carries (02 R45). -/
  | synAck (mss : Nat) (shift : Option Nat) (sack tstamps ecn : Bool)
  /-- ACK with the ranges held beyond the position (02 R45 SACK). -/
  | ack (pos : Nat) (sack : List (Nat × Nat))
  | rst | rej (reason : Nat) | fin
  /-- REP with the responder resources it offers (02 R52). -/
  | rep (respRes : Nat)
  | retransmit (pos : Nat)
  | connectResp (cid : Nat) (status : Status) (cntlid : Nat) (field : ConnectField) (sqhd : Option Nat)
  | r2t (cid : Nat) (ttag : Nat) (off len : Nat)
  | rdmaRead (cid : Nat) (ttag : Nat) (addr : Nat) (key : BitVec 32) (len : Nat)
  /-- Data of a read: a C2HData PDU, or on RDMA a Write to an address under a key (04 R109). -/
  | data (cid : Nat) (dest : Option (Nat × BitVec 32)) (sectors : List Bytes)
  /-- A completion with SQHD (03 R69); `inval` is the key of a Send with Invalidate (02 R52). -/
  | completion (cid : Nat) (status : Status) (dw0 : Nat) (sqhd : Option Nat) (inval : Option (BitVec 32))
  | adminData (cid : Nat) (dest : Option (Nat × BitVec 32)) (kind : Nat) (bytes : Bytes)
  | c2hTermReq (status : Nat) (field : TermField)
  | dreq
  | serverHello (rec : Nat) (kex : KeyEx)
  | alert (code : Nat)
  | closeNotify
  | keyUpdate
  | rnrNak (timer : Nat)
  | remoteAccessNak
  | cnp
  | arpReply (addr : Bytes) (mac : BitVec 48)
  | arpRequest (addr : Bytes)
  | neighborAdvert (addr : Bytes) (mac : BitVec 48) (solicited override router : Bool)
  | neighborSolicit (addr : Bytes)
  | gratuitousArp (addr : Bytes) (mac : BitVec 48)
  | echoReply (addr : Bytes)
  | probe (serial : Bytes) (port : Nat) (seq : BitVec 32)
deriving DecidableEq, Repr

/-- Header fields of a frame to hosts (02 R32, R38, R39, R48): source MAC, VLAN (0 untagged) and priority code
point of the tag, DSCP, ECT(0), Don't Fragment, and TSval. -/
structure FrameHdr where
  src   : BitVec 48
  vlan  : Nat
  pcp   : Nat
  dscp  : Nat
  ect   : Bool
  df    : Bool
  tsval : Option Nat
deriving DecidableEq, Repr

/-- The protection of a message by TLS (09 R257): the key and IV in force, and the sequence number of its first
record. -/
structure TlsProt where
  key : BitVec 256
  iv  : BitVec 96
  seq : Nat
deriving DecidableEq, Repr

/-- A key held in a slot: its bits, and for a namespace K1 and K2 (09 R248, R249). -/
structure Key where
  k1 : BitVec 256
  k2 : BitVec 256
deriving DecidableEq, Repr, Inhabited

/-- Carrier descriptor (11 R312): the fields the module acts on, and the 256 bytes as read. -/
structure Descr where
  signature : BitVec 32
  checkOk   : Bool
  protocol  : Nat
  vendor    : Bytes
  model     : Bytes
  serial    : Bytes
  firmware  : Bytes
  euCount   : Nat
  euSize    : Nat
  pageSize  : Nat
  pagesSlc  : Nat
  cellBits  : Nat
  dies      : Nat
  cyclesNative : Nat
  cyclesSlc : Nat
  levelsNative : Nat
  levelsSlc : Nat
  correctBits : Nat
  powerMax  : Nat
  readDisturb : Nat
  tempWarn  : Int
  tempCrit  : Int
  badCapacity : Nat
  image     : Bytes
deriving DecidableEq, Repr

/-- TLS of a connection as CONN_OPEN names it (10 R272): the PSK record and the two traffic secrets. -/
structure TlsOpen where
  pskRec : Nat
  tx     : BitVec 384
  rx     : BitVec 384
deriving DecidableEq, Repr

/-- Log-band record (06 R150). -/
structure LogRec where
  kind : BandKind
  ns : Nat
  owner : Nat
  stripes : Nat
  writePtr : Nat
  /-- 07 R187: effective origin of the relocated stripes, by stripe. -/
  origins : Tbl Nat
  /-- 06 R169: merge commits at the band's opening. -/
  openedAt : Nat
deriving DecidableEq, Repr

/-- Entries of a cycle record (10 R272). A body that changes a stored structure carries the whole
new value of the structure's entry. `txPosition` follows a CONN_OPEN that hands a connection to a joiner: the
send position and queue head it stands at (10 R292 step 3). The last three stand only in a snapshot (10 R292 step 4): the
format identity, the LBs a namespace has reserved, and a command context in use. -/
inductive RecEntry where
  | rxPosition (conn pos tlsSeq : Nat)
  | txPosition (conn pos tlsSeq sqhd : Nat)
  | connOpen (conn : Nat) (info : ConnInfo) (tls : Option TlsOpen) (q : Option QueueInfo)
  | connEnd (conn reason : Nat)
  | admitted (conn sqid cid : Nat) (cls : Option AdmClass)
  | dispatch (conn sqid cid : Nat)
  | abort (conn sqid cid : Nat) (aborted : Bool)
  | place (conn cid ns lba count slot cycle : Nat) (crc : BitVec 64)
  | placeZero (conn cid ns lba count cycle : Nat)
  | writeFailed (conn cid : Nat)
  | plan (conn pos tlsSeq : Nat) (checks : List (BitVec 32)) (msg : HostMsg)
  | mapLb (lb : Nat) (e : LbEntry)
  | mapBand (band : Nat) (e : Option Band)
  | addRun (r : Run)
  | dropRuns (lb : Nat) (epoch : BitVec 24)
  | discardLb (ns lba count : Nat)
  | journalAdd (band : Nat) (e : Band)
  | journalDel (band : Nat)
  | slotState (ns lba cycle : Nat) (st : SlotState) (dest : Nat)
  | carrierState (car : Nat) (st : CarState)
  | talon (car initial spent borrowed : Nat)
  | retireEu (car eu : Nat)
  | carrierAdmit (car : Nat) (d : Descr) (bad : List Nat)
  | wear (car eu count fracN fracS : Nat) (slc : Bool)
  | readOnly (ns : Nat) (cause : Nat) (on : Bool)
  | lostRange (ns lba count cause missing band stripe detected : Nat)
  | neighbour (port : Nat) (addr : Bytes) (mac : BitVec 48)
  | config (index sub rec : Nat) (val : Val)
  | nsKey (ns gen : Nat) (key : Option Key)
  | psk (rec : Nat) (val : Bytes)
  | reserve (car : Nat) (val : BitVec 64)
  | arrayGeo (arrayId : BitVec 64) (eMiB pKiB w0 euTotal talonTotal overprov : Nat)
  | nsLbs (ns base count : Nat)
  | logBand (band : Nat) (r : LogRec) (commits : Nat)
  | context (conn cid opc ns nsid slba nlb host : Nat) (cls : Option AdmClass) (dispatched trump : Bool)
      (ttag : Nat) (status : Status) (sgl : Sgl)
deriving DecidableEq, Repr

/-- A sealed cycle record (10 R271): the header fields that carry information, and the entries. -/
structure CycleRec where
  format    : Nat
  handover  : Bool
  cold      : Bool
  join      : Bool
  length    : Nat
  cycle     : Nat
  epoch     : BitVec 32
  clock     : Time
  confirmed : Nat
  entries   : List RecEntry
deriving DecidableEq, Repr

/-- Header of a mirror frame as received (10 R268). `checkOk` is the verdict of its CHECK. -/
structure MirHdr where
  mode    : Nat
  cycle   : Nat
  epoch   : BitVec 32
  seq     : BitVec 32
  credit  : Nat
  ack     : BitVec 32
  checkOk : Bool
deriving DecidableEq, Repr

/-- One ciphertext sector carried in a SECTOR_DATA frame (10 R269). -/
structure MirSector where
  ns    : Nat
  lba   : Nat
  cycle : Nat
  data  : Bytes
deriving DecidableEq, Repr

/-- What a FILL_REQUEST asks for (10 R269). -/
inductive FillReq where
  | stream (conn pos len : Nat)
  | sectors (ns lba count : Nat)
deriving DecidableEq, Repr

/-- What the pairing frames of one partner say (10 R292 step 1, R294, R301, R302). -/
structure PairInfo where
  serial     : Bytes
  pairIdHigh : Bool
  kind       : Nat
  certOk     : Bool
  verLo      : Nat
  verHi      : Nat
  groups     : List Nat
  mode       : Nat
  epoch      : BitVec 32
  arrayId    : BitVec 64
  arrayKey   : Option (BitVec 256)
  committed  : Nat
  wasActive  : Bool
  share      : BitVec 384
deriving DecidableEq, Repr

/-- Payload of a frame at a MAC, as far as 02 R32, R38 and R43 tell frames apart. -/
inductive FrameBody where
  | probe (serial : Bytes) (port : Nat) (seq : BitVec 32)
  | pause
  | ipv4Fragment | ipv4Options | ipv6Extension | icmpOther | routerAdvert | redirect
  | stream (conn pos : Nat) (bytes : Bytes)
  | management (len : Nat)
deriving DecidableEq, Repr

/-- A frame as a port's MAC receives it (02 R28, R32). `fecBad` is none when the frame overlaps no uncorrectable
codeword, else the number of uncorrectable codewords no earlier frame has reported; `corrected` counts the
codewords corrected since the last frame. -/
structure EthFrame where
  len      : Nat
  fcsOk    : Bool
  fecBad   : Option Nat
  corrected : Nat
  tags     : Nat
  vlan     : Nat
  dst      : BitVec 48
  body     : FrameBody
deriving DecidableEq, Repr

/-- A ClientHello as 02 R49 and R50 judge it: the key-exchange modes and groups it offers, whether early data
follows it, and the PSK record its identity names. -/
structure Hello where
  suiteOk  : Bool
  version13 : Bool
  pskDhe   : Bool
  pskKe    : Bool
  secp384  : Bool
  secp256  : Bool
  earlyData : Bool
  pskRec   : Option Nat
  hostNqn  : Bytes
  fault    : Option Nat
deriving DecidableEq, Repr

/-- Sideband identity memory as read (11 R321); `ok` is false for an unreadable memory or a failed
CRC. -/
structure Sideband where
  ok     : Bool
  serial : Bytes
  image  : Bytes
deriving DecidableEq, Repr

/-- Carrier completion statuses (11 R316). -/
inductive CarStatus where
  | success | invalidOpcode | invalidField | outOfRange | pageOrder | euBad | modeConflict
  | notHolder | reserveMismatch | tagInUse | listFull | uncorrectable | erased | programFailed
  | eraseFailed | modeFailed | transferFailed | fatal (code : Fin 4)
deriving DecidableEq, Repr

/-- Carrier commands (11 R314). -/
inductive CarOp where
  | identify | setLinkTag | reserve | reserveRead | temperature | badEuList | retryLevels
  | eventWait | read | program | erase | setCellMode | markBad
deriving DecidableEq, Repr

/-- Feed states (12 R328). -/
inductive FeedState where
  | absent | good | low | lost | overvoltage | reverse
deriving DecidableEq, Repr

/-- Bay states (12 R333); `heldOff` is the 8 of 12 R331. -/
inductive BayState where
  | empty | present | debounce | locked | ramp | on | cooldown | latched | heldOff
deriving DecidableEq, Repr

/-- State of a 3.3 V auxiliary output (12 R339, R349). -/
inductive AuxState where
  | off | on | cooldown | latched
deriving DecidableEq, Repr

/-- State of an element with spares: an engine (14 R396) or a cipher lane (09 R265). -/
inductive ElemState where
  | inService | spare | underTest | retired
deriving DecidableEq, Repr

/-- A repair-map entry (14 R382). -/
structure Repair where
  time     : Time
  kind     : Nat
  source   : Nat
  instNo   : Nat
  detail   : Nat
deriving DecidableEq, Repr

/-- One event filter of a subscription (15 R417). -/
structure EvFilter where
  lo  : Nat
  hi  : Nat
  sev : Nat
deriving DecidableEq, Repr

/-- What a boot slot's check finds (14 R380). -/
structure ImageCheck where
  digestOk : Bool
  sigOk    : Bool
  version  : Nat
deriving DecidableEq, Repr, Inhabited

/-- A request as a session keeps it for 15 R404. -/
inductive Req where
  | get (index sub : Nat)
  | set (ifGen : Nat) (it : Item)
  | getMulti (items : List (Nat × Nat))
  | setGroup (ifGen : Nat) (items : List Item)
  | subscribe (filters : List EvFilter) (period : Nat) (samples : List (Nat × Nat))
  /-- FLAGS [1]: addressed to the partner (15 R402). -/
  | partner (r : Req)
deriving DecidableEq, Repr

/-- One item of a response: index, sub-index, POSITION, status and value (15 R402). -/
structure RespItem where
  index  : Nat
  sub    : Nat
  pos    : Nat
  status : EpStatus
  val    : Option Val
deriving DecidableEq, Repr

/-- A response: message status and items (15 R403). -/
structure Resp where
  status : EpStatus
  items  : List RespItem
deriving DecidableEq, Repr

/-- An event-log entry (15 R416). -/
structure LogEntry where
  time     : Time
  seq      : Nat
  code     : Nat
  severity : Nat
  instNo   : Nat
  value    : Nat
  object   : Nat
  rom      : Bool
deriving DecidableEq, Repr

/-- Why a RoCE acknowledgement is negative (02 R52, 03 R92). -/
inductive RoceNak where
  | sequence | rnr | remoteAccess
deriving DecidableEq, Repr

/-- Kinds of switch-core messages (05 R120). `memReply` travels in the class of its request. -/
inductive MsgKind where
  | descriptor | doorbell | notice | writeAck | cycleRecord | confirmation | carrierAdmin | epquin
  | hostRead | plaintext | writeData | gapFill | coldData | attachData
  | stripe | parity | memberProgram | mergeData
  | rebuildData | snapshot | selfTest | checkpoint
  | memRead (cls : Fin 4) (bytes : Nat) | memReply (cls : Fin 4)
deriving DecidableEq, Repr

/-- The body of a message: the stage's own number for it, its bytes, and for a descriptor the write message that
it names (05 R126). -/
structure MsgBody where
  num   : Nat
  bytes : Bytes
  names : Option Nat
deriving DecidableEq, Repr

/-- A message as a stage offers it to the switch core (05 R119). -/
structure CoreMsg extends MsgBody where
  kind  : MsgKind
deriving DecidableEq, Repr

/-- What a PROBE_REPORT frame tells: the ports at which a probe arrived and those that have gone down (02 R43). -/
structure PortReport where
  received : List Port
  down     : List Port
deriving DecidableEq, Repr

/-- A TCP acknowledgement: its position, the window it offers, and its SACK ranges (02 R45). -/
structure AckSeg where
  pos  : Nat
  wnd  : Nat
  sack : List (Nat × Nat)
deriving DecidableEq, Repr

/-- A TLS record's length, and the alert of a handshake fault in it (02 R49, R50). -/
structure RecordBody where
  len   : Nat
  fault : Option Nat
deriving DecidableEq, Repr

/-- A RoCE acknowledgement: its PSN, and the NAK it carries (02 R52). -/
structure RoceAck where
  psn : Nat
  nak : Option RoceNak
deriving DecidableEq, Repr

/-- SQSIZE of a Connect, and whether SQ flow control stays enabled (03 R68, R69). -/
structure SqAsk where
  size : Nat
  flow : Bool
deriving DecidableEq, Repr

/-- A cell as a block takes it from a receive buffer: its class and the state of its codeword (05 R127, R129). -/
structure TakenCell where
  cls : SwClass
  ecc : Fin 3
deriving DecidableEq, Repr

/-- A write message that a memory controller has whole: its requester and number (05 R126). -/
structure WriteRef where
  req : SwPort
  num : Nat
deriving DecidableEq, Repr

/-- What BOOT finds: the engines that pass the self-test and the codes read from the seated cages (02 R30;
14 R373). -/
structure BootFinds where
  serviceable : List Engine
  cages       : List (Group × List Nat)
deriving DecidableEq, Repr

/-- What an EPQUIN frame carries (10 R269, 15 R409): a request with the originating session and its
privilege, or the response to one. -/
inductive Tunnel where
  | request (priv : Priv) (sess trans : Nat) (req : Req)
  | response (sess trans : Nat) (r : Resp)
deriving DecidableEq, Repr

end Sys2Proof
end

