-- ==== Sys2Proof/Syntax.lean ====
section
/-! DEFINITION. The commands of the block: one constructor for each row of spec/opcode_table.json, in
the table's order, with the row's operands. `t` is the time in ns at which the command reaches the
block (10 R270). A row that is a write to a dictionary object carries the `Write` a session sends. -/

namespace Sys2Proof

inductive Instr where
  -- network ports (02)
  | portUp (t : Time) (p : Port)
  | portDown (t : Time) (p : Port)
  | recal (t : Time) (w : Write)
  | recalComplete (t : Time) (p : Port)
  | cageInsertion (t : Time) (g : Group) (codes : List Nat)
  | groupConfig (t : Time) (w : Write)
  | groupMac (t : Time) (w : Write)
  | frameReceive (t : Time) (p : Port) (f : EthFrame)
  | arpRequest (t : Time) (p : Port) (addr : Bytes)
  | neighborSolicitation (t : Time) (p : Port) (addr : Bytes) (solicited : Bool)
  | neighbourReply (t : Time) (p : Port) (addr : Bytes) (mac : BitVec 48)
  | icmpEchoRequest (t : Time) (p : Port) (addr : Bytes)
  | packetTooBig (t : Time) (conn : Nat) (mtu : Nat)
  | soloEntry (t : Time)
  | duplicateAddressDetectionEnd (t : Time) (svc : Fin 64) (conflict : Bool)
  | probeIntervalExpiry (t : Time)
  | probeReport (t : Time) (h : MirHdr) (ports : PortReport)
  | dualDeliveryRestored (t : Time)
  -- transports (02)
  | tcpSyn (t : Time) (info : ConnInfo)
  | tcpSegment (t : Time) (conn : Nat) (seq len : Nat) (capsule : Bool)
  | tcpAck (t : Time) (conn : Nat) (a : AckSeg)
  | tcpRetransmissionTimeout (t : Time) (conn : Nat)
  | tcpSendTimeout (t : Time) (conn : Nat)
  | hostConnectionClose (t : Time) (conn : Nat)
  | tlsClientHello (t : Time) (conn : Nat) (hello : Option Hello)
  | tlsRecord (t : Time) (conn : Nat) (ctype : Nat) (b : RecordBody)
  | keyupdateReceive (t : Time) (conn : Nat) (updateRequested : Bool)
  | keyupdateSend (t : Time) (conn : Nat)
  | closeNotify (t : Time) (conn : Nat)
  | roceCmRequest (t : Time) (info : ConnInfo)
  | roceSend (t : Time) (conn : Nat) (psn len : Nat)
  | roceInboundRdma (t : Time) (conn : Nat)
  | roceAck (t : Time) (conn : Nat) (a : RoceAck)
  | roceAckTimeout (t : Time) (conn : Nat)
  | roceReadResponse (t : Time) (conn : Nat) (ttag off : Nat) (sectors : List Bytes)
  | ceMarkedPacket (t : Time) (conn : Nat)
  | congestionNotification (t : Time) (conn : Nat)
  | rateRecovery (t : Time) (conn : Nat)
  | pfcPause (t : Time) (p : Port) (prio : Nat) (duration : Nat)
  | portPausedLong (t : Time) (p : Port)
  | egressSelect (t : Time) (p : Port)
  | receiveGapTimeout (t : Time) (conn : Nat)
  -- commands of hosts (03)
  | connect (t : Time) (conn : Nat) (cid : Nat) (subnqn hostnqn : Bytes) (qid : Nat) (sq : SqAsk)
      (cntlid kato : Nat)
  | propertyGet (t : Time) (conn : Nat) (cid : Nat) (offset : Nat)
  | propertySet (t : Time) (conn : Nat) (cid : Nat) (offset value : Nat)
  | disconnect (t : Time) (conn : Nat) (cid : Nat)
  | getLogPage (t : Time) (h : AdmHead) (cid : Nat) (lid : Nat) (retain : Bool)
  | identify (t : Time) (h : AdmHead) (cid : Nat) (cns nsid : Nat)
  | abort (t : Time) (h : AdmHead) (cid : Nat) (sqid target : Nat)
  | setFeatures (t : Time) (h : AdmHead) (cid : Nat) (fid : Nat) (save : Bool) (dw11 : Nat)
  | getFeatures (t : Time) (h : AdmHead) (cid : Nat) (fid : Nat) (sel : BitVec 3)
  | asynchronousEventRequest (t : Time) (h : AdmHead) (cid : Nat)
  | keepAlive (t : Time) (h : AdmHead) (cid : Nat)
  | invalidOpcode (t : Time) (src : Src) (cid : Nat) (opc : BitVec 8)
  | createIoSq (t : Time) (cid : Nat) (qid size cqid : Nat)
  | createIoCq (t : Time) (cid : Nat) (qid size : Nat)
  | deleteIoSq (t : Time) (cid : Nat) (qid : Nat)
  | deleteIoCq (t : Time) (cid : Nat) (qid : Nat)
  | flush (t : Time) (c : IoCmd)
  | read (t : Time) (c : IoCmd)
  | write (t : Time) (c : IoCmd) (inCapsule : Option (List Bytes))
  | writeZeroes (t : Time) (c : IoCmd)
  | datasetManagement (t : Time) (c : IoCmd) (deallocate : Bool) (ranges : List (Nat × Nat))
  | h2cData (t : Time) (conn : Nat) (ttag off : Nat) (sectors : List Bytes)
  | admissionRetest (t : Time)
  | commandStart (t : Time) (src : Src)
  | keepAliveExpired (t : Time) (ctrl : Nat)
  -- buffers and the pot (04)
  | granuleRequest (t : Time) (pool : PoolNo) (n : Nat)
  | releaseNotice (t : Time) (pool : PoolNo)
  | rerequestTick (t : Time)
  | refcountDecrement (t : Time) (buf : Nat)
  | coalesceWindowExpiry (t : Time) (buf : Nat)
  | cipherUnitComplete (t : Time) (unit : Nat) (sumA sumB : BitVec 64) (tagA tagB : Bool) (slotOk : Bool)
  | evictionHand (t : Time)
  | potSize (t : Time) (w : Write)
  -- switch core (05)
  | cellOffer (t : Time) (inp out : SwPort) (kind : MsgKind) (b : MsgBody)
  | cellSlot (t : Time) (out : SwPort) (ecc : Fin 3) (row : Nat)
  | creditReturn (t : Time) (out inp : SwPort) (c : TakenCell)
  | memoryReadRequest (t : Time) (ctl req : SwPort) (cls : SwClass) (bytes : Bytes)
  | writeAcknowledgement (t : Time) (ctl : SwPort) (w : WriteRef)
  | voqStalled (t : Time) (inp out : SwPort) (cls : SwClass)
  -- translation (06)
  | format (t : Time) (w : Write)
  | formatComplete (t : Time) (partnerStored : Bool)
  | nsEnable (t : Time) (sess : Nat)
  | nsDisable (t : Time) (sess : Nat)
  | nsWriteProtect (t : Time) (w : Write)
  | placementQueueReserve (t : Time)
  | stripeGather (t : Time) (lb : Nat)
  | fillWaitExpiry (t : Time) (lb : Nat)
  | logGatherWaitExpiry (t : Time) (ns : Nat)
  | caddySlotRelease (t : Time) (prog : Nat)
  | mergeQuietExpiry (t : Time) (lb : Nat)
  | mergeStart (t : Time) (lb : Nat)
  | mergeCommit (t : Time) (lb : Nat)
  | bandRelease (t : Time) (band : Nat)
  | checkpoint (t : Time)
  | journalCarrierWrite (t : Time)
  -- media lifecycle (07)
  | reclaimVictim (t : Time)
  | compactionCommit (t : Time) (job : Nat)
  | staticWearLevel (t : Time) (b : Bay)
  | memberMoveSwitch (t : Time) (job : Nat)
  | scrubIntervalExpiry (t : Time)
  | exhaustionCleared (t : Time)
  | mediaQueueSelect (t : Time) (b : Bay)
  -- carriers as array members (08, 11)
  | carrierLinkUp (t : Time) (b : Bay) (d : Descr)
  | carrierLinkDown (t : Time) (b : Bay)
  | carrierRecoveryTimeout (t : Time) (b : Bay)
  | narrowFloorCleared (t : Time)
  | carrierLostTimeout (t : Time) (b : Bay)
  | carrierReadmit (t : Time) (w : Write)
  | rebuildStart (t : Time)
  | rebuildSwitch (t : Time) (job : Nat)
  | lostClear (t : Time) (w : Write)
  -- cipher and keys (09)
  | cipherRetryComplete (t : Time) (unit : Nat) (c d : Lane) (sumC sumD : BitVec 64) (tagC tagD : Bool)
      (cEqualsA : Bool)
  | laneTestComplete (t : Time) (l : Lane) (pass : Bool)
  | clusterRebind (t : Time) (conn : Nat)
  | nsCryptoErase (t : Time) (w : Write)
  | cryptoEraseSwitch (t : Time) (ns : Nat)
  | oldKeyZeroise (t : Time) (ns : Nat)
  | escrowKek (t : Time) (w : Write)
  | arrayKeyExport (t : Time) (sess : Nat)
  | arrayKeyImport (t : Time) (w : Write)
  | pskValue (t : Time) (w : Write)
  | contextMiss (t : Time) (conn : Nat) (unwrapOk : Bool)
  | entropyTestFailure (t : Time) (src : Fin 2)
  | entropySourceRecovery (t : Time) (src : Fin 2)
  | maskReseed (t : Time)
  -- the pair (10)
  | mirrorLinkUp (t : Time)
  | mirrorLinkDown (t : Time)
  | heartbeat (t : Time) (h : MirHdr) (clock : Time) (degraded : Bool)
  | cycleRecord (t : Time) (h : MirHdr) (r : CycleRec)
  | confirm (t : Time) (h : MirHdr) (n : Nat)
  | fillRequest (t : Time) (h : MirHdr) (r : FillReq)
  | evict (t : Time) (h : MirHdr) (reason : Nat)
  | streamFill (t : Time) (h : MirHdr) (conn pos : Nat) (bytes : Bytes)
  | sectorData (t : Time) (h : MirHdr) (sectors : List MirSector)
  | snapshot (t : Time) (h : MirHdr) (entries : List RecEntry) (percent : Nat) (last : Bool)
  | pairing (t : Time) (h : MirHdr) (p : PairInfo)
  | epquin (t : Time) (h : MirHdr) (m : Tunnel)
  | mirrorRetransmitTimeout (t : Time)
  | mirrorAckIdle (t : Time)
  | cycleBoundary (t : Time)
  | fencingTimeout (t : Time)
  | heartbeatLoss (t : Time)
  | faultPairAsserted (t : Time)
  | faultLineWiring (t : Time) (line : Fin 2)
  | healthSignalMissing (t : Time)
  | reserveAnswerDeadline (t : Time)
  | rejoinStart (t : Time)
  | rejoinRetry (t : Time)
  | rejoinRequest (t : Time) (w : Write)
  | swapReminder (t : Time)
  | roleSwap (t : Time) (w : Write)
  | quiesceDrained (t : Time)
  | quiesceLimitExpiry (t : Time)
  | fwActivate (t : Time) (w : Write)
  | pairWaitExpiry (t : Time)
  | forceSolo (t : Time) (w : Write)
  -- carrier ports (11)
  | laneMargining (t : Time) (b : Bay) (lane : Fin 4) (millivolt : Nat) (milliUi : Nat)
  | carrierLinkNarrowed (t : Time) (b : Bay) (lane : Fin 4)
  | carrierReady (t : Time) (b : Bay)
  | carrierAdmitTimeout (t : Time) (b : Bay)
  | carrierIdentifyDone (t : Time) (b : Bay) (status : CarStatus) (inputs : BitVec 3) (temp : Int)
      (width : Nat)
  | setLinkTagDone (t : Time) (b : Bay) (status : CarStatus)
  | reserveDone (t : Time) (b : Bay) (status : CarStatus) (prior : BitVec 64)
  | reserveReadDone (t : Time) (b : Bay) (status : CarStatus) (value : BitVec 64)
  | temperatureDone (t : Time) (b : Bay) (status : CarStatus) (die bridge : Int)
  | badEuListDone (t : Time) (b : Bay) (status : CarStatus) (eus : List Nat)
  | retryLevelsDone (t : Time) (b : Bay) (status : CarStatus) (slc : Bool) (levels : List Nat)
  | eventWaitDone (t : Time) (b : Bay) (status : CarStatus) (code : BitVec 16)
  | carrierReadDone (t : Time) (b : Bay) (cid : Nat) (status : CarStatus) (corrected : Nat)
      (sectors : List Bytes)
  | carrierProgramDone (t : Time) (b : Bay) (cid : Nat) (status : CarStatus)
  | carrierEraseDone (t : Time) (b : Bay) (cid : Nat) (status : CarStatus)
  | setCellModeDone (t : Time) (b : Bay) (cid : Nat) (status : CarStatus)
  | markBadDone (t : Time) (b : Bay) (cid : Nat) (status : CarStatus)
  | progressLimitExpiry (t : Time) (b : Bay)
  | mediaAgeLimitExpiry (t : Time) (b : Bay) (cid : Nat)
  | adminCompletionLimitExpiry (t : Time) (b : Bay)
  | tempPollExpiry (t : Time) (b : Bay)
  -- feeds and bays (12)
  | feedGood (t : Time) (f : Feed) (millivolt : Nat)
  | feedLow (t : Time) (f : Feed) (millivolt : Nat)
  | feedLost (t : Time) (f : Feed) (millivolt : Nat)
  | feedOvervoltage (t : Time) (f : Feed) (millivolt : Nat)
  | feedOvervoltageClear (t : Time) (f : Feed) (millivolt : Nat)
  | feedReverse (t : Time) (f : Feed) (millivolt : Nat)
  | feedReverseClear (t : Time) (f : Feed) (millivolt : Nat)
  | holdupSequenceEnd (t : Time)
  | holdupRestart (t : Time)
  | bayPresent (t : Time) (b : Bay)
  | baySeated (t : Time) (b : Bay) (id : Sideband)
  | baySeatingLost (t : Time) (b : Bay) (pins : BitVec 2)
  | bayRemoved (t : Time) (b : Bay)
  | bayRampDone (t : Time) (b : Bay) (millivolt : Nat)
  | bayStartDeadline (t : Time) (b : Bay)
  | bayOvercurrent (t : Time) (b : Bay) (milliamp : Nat)
  | bayFastTrip (t : Time) (b : Bay) (milliamp : Nat)
  | bayPassTempSample (t : Time) (b : Bay) (temp : Int)
  | bayOverBudget (t : Time) (b : Bay) (milliamp : Nat)
  | bayCooldownEnd (t : Time) (b : Bay)
  | bayDebounceEnd (t : Time) (b : Bay)
  | bayLock (t : Time) (w : Write)
  | bayClear (t : Time) (w : Write)
  | auxTrip (t : Time) (b : Bay)
  | auxCooldownEnd (t : Time) (b : Bay)
  | holdupTest (t : Time) (w : Write)
  | holdupMeasurement (t : Time) (microfarad : Nat)
  -- attach port (13)
  | attachLinkUp (t : Time) (speed width : Nat)
  | attachLinkDown (t : Time)
  | attPerstAssert (t : Time)
  | hotReset (t : Time)
  | functionLevelReset (t : Time)
  | ccEnable (t : Time) (asqSize acqSize : Nat)
  | ccDisable (t : Time)
  | sqTailDoorbell (t : Time) (qid tail : Nat)
  | cqHeadDoorbell (t : Time) (qid head : Nat)
  | winCommit (t : Time) (mask : BitVec 16) (shadow : List (Fin 16 × Win))
  | peerWrite (t : Time) (win : Fin 16) (off : Nat) (bytes : Bytes)
  | peerRead (t : Time) (win : Fin 16) (off len : Nat)
  | mboxDoorbell (t : Time) (len : Nat) (req : Req)
  | bmeClear (t : Time)
  | bmeSet (t : Time)
  | hostReadCompletion (t : Time) (tag : Nat) (sectors : List Bytes)
  | attachCompletionTimeout (t : Time) (tag : Nat)
  -- modes, clocks, start-up, self-repair (14)
  | resetNAssert (t : Time)
  | resetRelease (t : Time) (testN : Bool) (s1 s2 : ImageCheck) (found : BootFinds)
  | bootComplete (t : Time) (ownImage partnerImage journalOk : Bool)
  | bootWatchdog (t : Time)
  | serviceEnable (t : Time) (w : Write)
  | restart (t : Time) (w : Write)
  | junctionOvertemp (t : Time) (d : Die)
  | supplyOutOfRange (t : Time) (d : Domain)
  | mgmtWatchdog (t : Time)
  | powerPolicy (t : Time) (w : Write)
  | loadMeasurement (t : Time) (delivered received commands : Nat)
  | idleGateExpiry (t : Time) (kind : Fin 4) (inst : Nat)
  | elementWake (t : Time) (kind : Fin 4) (inst : Nat)
  | managementWake (t : Time)
  | engineItemStall (t : Time) (e : Engine)
  | engineSramError (t : Time) (e : Engine)
  | engineCodeCheck (t : Time) (e : Engine) (ok okAfterReload : Bool)
  | engineTestComplete (t : Time) (e : Engine) (pass : Bool)
  | selfTestEngine (t : Time) (w : Write)
  | selfTestLane (t : Time) (w : Write)
  | selfTestBay (t : Time) (w : Write)
  | selfTestDone (t : Time) (pass : Bool)
  | spareTestIntervalExpiry (t : Time)
  | supplyMonitor (t : Time) (d : Domain) (slackMillivolt : Int)
  | slackCritical (t : Time) (d : Domain)
  | lifeAccounting (t : Time) (core port : Int)
  | junctionHigh (t : Time) (d : Die)
  | repairClear (t : Time) (w : Write)
  | deal (t : Time) (sess : Nat) (counts : Vector Nat 6)
  -- management (15)
  | dtlsHandshake (t : Time) (path : Path) (anchor : Option (Fin 5)) (cookieOk suiteOk : Bool)
  | sessionIdleTimeout (t : Time) (sess : Nat)
  | get (t : Time) (sess trans : Nat) (partner : Bool) (index sub : Nat)
  | set (t : Time) (sess trans : Nat) (partner : Bool) (ifGen : Nat) (it : Item)
  | getMulti (t : Time) (sess trans : Nat) (partner : Bool) (items : List (Nat × Nat))
  | setGroup (t : Time) (sess trans : Nat) (partner : Bool) (ifGen : Nat) (items : List Item)
  | subscribe (t : Time) (sess trans : Nat) (filters : List EvFilter) (period : Nat)
      (samples : List (Nat × Nat))
  | samplePeriod (t : Time) (sess : Nat)
  | notify (t : Time) (sess : Nat)
  | configWrite (t : Time) (sess : Nat) (it : Item)
  | configReset (t : Time) (w : Write)
  | anchorCert (t : Time) (w : Write) (parses : Bool)
  | attestNonce (t : Time) (w : Write)
  | attestReport (t : Time) (sess : Nat)
  | loadSlot (t : Time) (w : Write)
  | loadData (t : Time) (w : Write)
  | loadCommit (t : Time) (w : Write) (img : ImageCheck)
  | eventLogFlush (t : Time)
  | statCheckpoint (t : Time)
  | ctrSnapshot (t : Time) (w : Write)
  | ctrValue (t : Time) (w : Write)
  | ctrControl (t : Time) (w : Write)
  -- the rows the table adds at its end
  | portEnable (t : Time) (w : Write)
  | attachEnable (t : Time) (w : Write)
  | pfcPauseExpiry (t : Time) (p : Port)
  | caddyBlockFailure (t : Time) (block : Nat)
  | alwaysOnDomainStop (t : Time)
  | alwaysOnDomainStart (t : Time)
deriving DecidableEq, Repr

end Sys2Proof
end

