-- ==== Sys2Proof/Decode.lean ====
section
/-! DEFINITION. The opcode table gives no row of this block any bits: a command is not a word but an
event or a write with its operands. So no word spells a command. -/

namespace Sys2Proof

/-- The command that a word spells by the table's bits: none, for every row (log entry 1). -/
def decodeTableWord (_nbits _w : Nat) : Option Instr := none

end Sys2Proof
end

