-- ==== Sys2Proof/Machine/Bits.lean ====
section
/-! DEFINITION. Octet and bit arithmetic that the spec states itself: little-endian fields (00
R452), the CRC-64 of 09 R243, the CRC-32 of 11 R312, and GF(2⁸) with P and Q of 08 R213, R214. -/

namespace Sys2Proof.Machine

/-- The `n` octets of a number, least significant first (00 R452). -/
def leBytes : Nat → Nat → Bytes
  | 0, _ => []
  | n + 1, v => BitVec.ofNat 8 v :: leBytes n (v / 256)

/-- The number whose octets, least significant first, are given. -/
def leNat : Bytes → Nat
  | [] => 0
  | b :: l => b.toNat + 256 * leNat l

/-- One bit of a reflected CRC of width `w` with reflected polynomial `poly`. -/
def crcBit {w : Nat} (poly c : BitVec w) : BitVec w :=
  if c.getLsbD 0 then (c >>> 1) ^^^ poly else c >>> 1

/-- One octet of a reflected CRC. -/
def crcByte {w : Nat} (poly c : BitVec w) (b : Byte) : BitVec w :=
  let c := c ^^^ b.setWidth w
  crcBit poly (crcBit poly (crcBit poly (crcBit poly (crcBit poly (crcBit poly (crcBit poly
    (crcBit poly c)))))))

/-- CRC-64 with the ECMA-182 polynomial 0x42F0_E1EB_A9EA_3693, input and output reflected, initial
value and final XOR all ones (09 R243). -/
def crc64 (l : Bytes) : BitVec 64 :=
  l.foldl (crcByte 0xC96C5795D7870F42#64) (BitVec.allOnes 64) ^^^ BitVec.allOnes 64

/-- CRC-32 of IEEE 802.3 (11 R312). -/
def crc32 (l : Bytes) : BitVec 32 :=
  l.foldl (crcByte 0xEDB88320#32) (BitVec.allOnes 32) ^^^ BitVec.allOnes 32

/-- Product by g = 2 in GF(2⁸) modulo 0x11D (08 R213). -/
def gfDouble (a : Byte) : Byte :=
  if a.getLsbD 7 then (a <<< 1) ^^^ 0x1D#8 else a <<< 1

/-- Product in GF(2⁸), over the bits of the second factor from the top. -/
def gfMulGo (a b : Byte) : Nat → Byte
  | 0 => 0
  | n + 1 => let r := gfDouble (gfMulGo a (b >>> 1) n)
    if b.getLsbD 0 then r ^^^ a else r

/-- Product in GF(2⁸). -/
def gfMul (a b : Byte) : Byte := gfMulGo a b 8

/-- `g` to the power `d`. -/
def gfPow : Nat → Byte
  | 0 => 1
  | d + 1 => gfDouble (gfPow d)

/-- Power of an element. -/
def gfExp (a : Byte) : Nat → Byte
  | 0 => 1
  | n + 1 => gfMul a (gfExp a n)

/-- Inverse of a nonzero element: its 254th power. -/
def gfInv (a : Byte) : Byte := gfExp a 254

/-- Octet by octet XOR of two pages; the shorter is filled with zeros. -/
def xorBytes : Bytes → Bytes → Bytes
  | [], b => b
  | a, [] => a
  | x :: a, y :: b => (x ^^^ y) :: xorBytes a b

/-- A page times a constant. -/
def scaleBytes (c : Byte) (l : Bytes) : Bytes := l.map (gfMul c)

/-- P of the data pages, in order of data position (08 R213). -/
def parityP (pages : List Bytes) : Bytes := pages.foldr xorBytes []

/-- Q of the data pages from data position `d` upward (08 R213). -/
def parityQ : Nat → List Bytes → Bytes
  | _, [] => []
  | d, p :: l => xorBytes (scaleBytes (gfPow d) p) (parityQ (d + 1) l)

/-- Recover data positions x < y from P and Q with both taken as zero (08 R214). -/
def recoverTwo (x y : Nat) (pDiff qDiff : Bytes) : Bytes × Bytes :=
  let gyx := gfPow (y - x)
  let den := gfInv (gyx ^^^ 1)
  let a := gfMul gyx den
  let b := gfMul (gfInv (gfPow x)) den
  let dx := xorBytes (scaleBytes a pDiff) (scaleBytes b qDiff)
  (dx, xorBytes pDiff dx)

/-- All data pages of a stripe from the pages present: `data` by data position, then P and Q; none
for a missing page (08 R214). Nothing when three or more pages are missing. -/
def recoverStripe (data : List (Option Bytes)) (p q : Option Bytes) : Option (List Bytes) :=
  let known := data.map (·.getD [])
  let holes := (List.range data.length).filter fun d => (data[d]?.getD none).isNone
  match holes, p, q with
  | [], _, _ => some known
  | [x], some p, _ => some (known.set x (xorBytes p (parityP known)))
  | [x], none, some q =>
    some (known.set x (scaleBytes (gfInv (gfPow x)) (xorBytes q (parityQ 0 known))))
  | [x, y], some p, some q =>
    let r := recoverTwo x y (xorBytes p (parityP known)) (xorBytes q (parityQ 0 known))
    some ((known.set x r.1).set y r.2)
  | _, _, _ => none

/-- What a check of a whole stripe finds (08 R233). -/
inductive StripeVerdict where
  | good (affected : List Nat) | wrongP | wrongQ | wrongData (x : Nat) | lost
deriving DecidableEq, Repr

/-- The first data position whose Q syndrome is g^x times the P syndrome at every offset. -/
def findWrong (sp sq : Bytes) (n : Nat) : Option Nat :=
  (List.range n).find? fun x => decide (scaleBytes (gfPow x) sp = sq)

/-- The check of 08 R233 over `data` by data position, P and Q. -/
def checkStripe (data : List (Option Bytes)) (p q : Option Bytes) : StripeVerdict :=
  let all := data ++ [p, q]
  let holes := (List.range all.length).filter fun d => (all[d]?.getD none).isNone
  if holes.isEmpty then
    let known := data.map (·.getD [])
    let sp := xorBytes (p.getD []) (parityP known)
    let sq := xorBytes (q.getD []) (parityQ 0 known)
    let zp := sp.all (· == 0)
    let zq := sq.all (· == 0)
    if zp && zq then .good []
    else if zp then .wrongQ
    else if zq then .wrongP
    else match findWrong sp sq data.length with
      | some x => .wrongData x
      | none => .lost
  else match recoverStripe data p q with
    | none => .lost
    | some full =>
      let pOk := match p with | some p => (xorBytes p (parityP full)).all (· == 0) | none => true
      let qOk := match q with | some q => (xorBytes q (parityQ 0 full)).all (· == 0) | none => true
      if pOk && qOk then .good holes else .lost

end Sys2Proof.Machine
end

