-- ==== Sys2Proof/Config.lean ====
section
/-! DEFINITION. What one implementation fixes and what the spec leaves to other standards or leaves
open: constants without a body, so that no proof can see their values (log entries 2 to 6). -/

namespace Sys2Proof

/-- What is fixed in one module at manufacture or by straps of its board: serial number (15 R426),
reservation tag (10 R284), base of its station MACs (02 R32), the level of PAIR_ID (01 R8), and
whether it is the -SN variant (17 R451). -/
structure Ident where
  serial : Bytes
  tag : BitVec 32
  macBase : BitVec 48
  pairIdHigh : Bool
  noAttach : Bool
deriving DecidableEq, Repr, Inhabited

namespace Config

/-- The identity of this module. -/
opaque ident : Ident

/-- XTS-AES-256 of one sector under K1 and K2 with the tweak of 09 R254. -/
opaque xtsEncrypt : Key → BitVec 128 → Bytes → Bytes
opaque xtsDecrypt : Key → BitVec 128 → Bytes → Bytes

/-- XTS under the metadata key derived from the array key (09 R255). -/
opaque metaEncrypt : BitVec 256 → BitVec 128 → Bytes → Bytes

/-- RFC 3394 wrap of a key under a 32-byte key, and its unwrap (09 R252). -/
opaque wrap : Bytes → BitVec 256 → Bytes
opaque unwrap : Bytes → Bytes → Option (BitVec 256)

/-- The pair key agreed from the partner's share and a nonce of this pairing (09 R248). -/
opaque pairKey : BitVec 384 → Nat → BitVec 256

/-- The n-th ephemeral share this module offers for a pair key (09 R248). -/
opaque ownShare : Nat → BitVec 384

/-- Outputs of the CTR_DRBG (09 R262): the n-th draw. -/
opaque randomKey : Nat → Key
opaque random256 : Nat → BitVec 256
opaque random64 : Nat → BitVec 64
opaque random32 : Nat → BitVec 32

/-- SHA-384 and the ECDSA signature by the identity key (15 R413). -/
opaque sha384 : Bytes → Bytes
opaque sign : Bytes → Bytes

/-- TLS traffic secrets of the n-th handshake, of either direction, the secret after it, and the key and IV
that RFC 8446 derives from a secret. -/
opaque tlsSecret : Nat → Bool → BitVec 384
opaque nextSecret : BitVec 384 → BitVec 384
opaque trafficKey : BitVec 384 → BitVec 256
opaque trafficIv : BitVec 384 → BitVec 96

/-- Bits of the NVMe properties CAP and VS, by offset, that the spec does not state. -/
opaque property : Nat → Nat

/-- Octets of an NVMe data structure that the spec does not state, by structure and offset. -/
opaque pageByte : Nat → Nat → Byte

/-- The 32-bit check value of the n-th record, or of the whole PDU, of planned plaintext (02 R59 gives no
polynomial). -/
opaque check32 : HostMsg → Nat → BitVec 32

/-- Does the MAC need a pause of a port at the n-th frame it takes, and for how many ns? (02 R32 names the frames,
not their cause: log entry 76) -/
opaque pfcDue : Nat → Option Nat

/-- The n-th reading of a sensor that no command of the table feeds. -/
opaque reading : Nat → Nat

/-- Does a value parse as an X.509 CA certificate? (15 R410) -/
opaque certParses : Bytes → Bool

/-- What a check of an image under 14 R380 finds in its bytes. -/
opaque imageCheck : Bytes → ImageCheck

/-- Octets of identity objects that the spec gives by their source only (15 R412). -/
opaque deviceCert : Bytes
opaque caCert : Bytes
opaque rootDigest : Bytes
opaque mgmtMac : Bytes
opaque fwVersion : Nat → Bytes

/-- Spare rows of the switch-core SRAM, and cells of a row (05 R129, 14 R388 give neither). -/
opaque coreSpareRows : Nat
opaque coreRowCells : Nat

/-- The n-th ISN of a TCP connection, drawn afresh (02 R57 names it, RFC 9293 leaves it open). -/
opaque isn : Nat → Nat

/-- The n-th value a register takes where the spec says only that it is undefined. -/
opaque freeNat : Nat → Nat

end Config

end Sys2Proof
end

