-- ==== Sys2Proof/Machine/State.lean ====
section
/-! DEFINITION. The state of one AL2432 module, every part of it plain data, and the state right
after power-on reset. Each field names the file and rule of spec/ that gives it. -/

namespace Sys2Proof.Machine

/-- What stops the block: nothing does. The spec gives every command of the table an effect on the
block, so no meaning raises a fault; the one constructor is named by no meaning. Safe. -/
inductive Fault where
  /-- Raised by no meaning; kept so that the type of faults is inhabited. Safe. -/
  | none
deriving DecidableEq, Repr

/-- Why a command is turned away unexecuted. -/
inductive Refusal where
  /-- Raised by an arm of `exec` that has no meaning yet. Safe: no claim about such a command holds. -/
  | notModelled (mnemonic : String)
deriving DecidableEq, Repr

/-- What the block puts on its ports, links and pins (the model's own trace of outputs). -/
inductive Emit where
  /-- A frame that completes a message, with its header and its TLS protection; and a part of one. -/
  | host (h : FrameHdr) (port conn : Nat) (m : HostMsg) (prot : Option TlsProt)
  | hostSegment (h : FrameHdr) (port conn off len : Nat) (prot : Option TlsProt)
  /-- A priority flow control frame (02 R32). -/
  | pfc (port prio duration : Nat)
  | mirHeartbeat (clock : Time) (degraded : Bool)
  | mirRecord (r : CycleRec)
  | mirConfirm (n : Nat)
  | mirFill (r : FillReq)
  | mirEvict (reason : Nat)
  /-- Ports on which probes were received, and ports that went down (02 R43). -/
  | mirProbeReport (ports down : List Nat)
  | mirStream (conn pos : Nat) (bytes : Bytes)
  | mirSectors (l : List MirSector)
  | mirSnapshot (entries : List RecEntry) (percent : Nat)
  | mirPairing (p : PairInfo)
  | mirEpquin (m : Tunnel)
  | mirRepeat (seqs : List (BitVec 32))
  | carrier (bay : Nat) (op : CarOp) (cid eu page sector count level : Nat) (data : List Bytes)
      (header : Bytes) (expected new : BitVec 64)
  | reply (sess trans : Nat) (r : Resp)
  | notify (sess seq : Nat) (gap : Bool) (entries : List LogEntry) (samples : List RespItem)
  | attachCqe (qid cid : Nat) (st : Status) (dw0 : Nat)
  | attachRead (tag : Nat)
  | attachData (qid cid : Nat) (sectors : List Bytes)
  | attachAdmin (cid kind : Nat) (bytes : Bytes)
  | attachCpl (bytes : Bytes)
  | attachUr
  | attachAer (timeout : Bool)
  | msix (vector : Nat)
  | mailboxReply (r : Resp)
  | cageRead (g : Nat)
  | rstUnknown (conn : Nat)
  /-- A frame on the mirror link with its header (10 R268). -/
  | mirror (h : MirHdr) (frame : Emit)
deriving DecidableEq, Repr

/-! ### Modes, clocks, start-up (14) -/

/-- What took the module into QUIESCED (14 R369). -/
inductive QuiesceBy where
  | none | roleSwap | serviceEnable
deriving DecidableEq, Repr

structure ModeSt where
  /-- 00 R6, 14 R368: the major mode. -/
  mode : Mode
  /-- 14 R396 MODE_SINCE. -/
  since : Time
  /-- 14 R369: what started the drain of QUIESCED. -/
  quiesceBy : QuiesceBy
  /-- 10 R297: cycle of the sealed handover record, when one is sealed. -/
  handover : Option Nat
  /-- 14 R372 SAFE_CAUSE. -/
  safeCause : Nat
  /-- 14 R396 RESET_CAUSE. -/
  resetCause : Nat
  /-- 14 R374: boot slot requested, in retained state. -/
  bootReq : Nat
  /-- 14 R374: last mode, in retained state. -/
  lastMode : Mode
  /-- 14 R396 BOOT_SLOT: the slot running. -/
  bootSlot : Nat
  /-- 14 R381: this boot is the watchdog's second attempt. -/
  bootRetried : Bool
  /-- 14 R396 BOOT_DURATION. -/
  bootDuration : Nat
  /-- 14 R380: the fused security counter. -/
  secVersion : Nat
  /-- 14 R380: security version of the image that is running. -/
  imageVersion : Nat
  /-- 14 R375: the power state. -/
  power : PowerState
  /-- 14 R377: seconds the load has stayed past the threshold that moves the state up. -/
  loadUp : Nat
  /-- 14 R377: seconds the load has stayed past the threshold that moves the state down. -/
  loadDown : Nat
  /-- 14 R375: gated elements, as kind and instance. -/
  gated : List (Nat × Nat)
  /-- 14 R374: the always-on domain runs. -/
  alwaysOn : Bool
  /-- 17 R442: level of RESET_N. -/
  resetN : Bool
  /-- 17 R442: level of TEST_N. -/
  testN : Bool
  /-- 10 R303: the module has restarted and not served or joined since. -/
  restarted : Bool
  /-- 10 R294, R303; 14 R369: the module stays in ISOLATED until it is told to leave. -/
  holdIsolated : Bool
  /-- 10 R281: the always-on domain has lost the health signal, and its outputs have fallen. -/
  healthLost : Bool
deriving DecidableEq, Repr

/-! ### Management, events, counters (15) -/

structure Subscr where
  filters : List EvFilter
  period  : Nat
  samples : List (Nat × Nat)
deriving DecidableEq, Repr

structure Kept where
  trans : Nat
  req   : Req
  resp  : Resp
deriving DecidableEq, Repr

structure Session where
  /-- 15 R407. -/
  path : Path
  /-- 15 R410. -/
  priv : Priv
  /-- 15 R410: trust anchor the client certificate chains to (1 to 4; 5 the factory CA). -/
  anchor : Nat
  /-- 15 R398: the session-scope objects, by index. -/
  sel : Tbl Nat
  /-- 15 R401: time of the last message. -/
  lastMsg : Time
  /-- 15 R404: the last 64 responses. -/
  kept : List Kept
  /-- 15 R413. -/
  nonce : Option Bytes
  /-- 15 R417. -/
  sub : Option Subscr
  /-- 15 R418: notify sequence. -/
  notifySeq : Nat
  /-- 15 R418: queue of matching entries. -/
  notifyQ : List LogEntry
  /-- 15 R418: the queue has overflowed since the last NOTIFY. -/
  gap : Bool
  /-- 15 R418: times of the NOTIFY messages of the last second. -/
  notifyAt : List Time
  /-- 15 R417: samples that wait to be sent, oldest first. -/
  sampleQ : List (List RespItem)
  /-- 15 R415: the session holds an image load. -/
  loading : Bool
deriving DecidableEq, Repr

/-- One performance counter (15 R420, R424); its control and address bounds are values of the dictionary. -/
structure Ctr where
  value   : BitVec 48
  latch   : BitVec 48
  overflow : Bool
  mixed   : Bool
deriving DecidableEq, Repr

structure CtrBlock where
  ctrs   : Vector Ctr 8
  cycles : BitVec 64
  cyclesLatch : BitVec 64
  latched : Bool
deriving DecidableEq, Repr

structure Mgmt where
  /-- 15 R416: the event log in boot flash, oldest first. -/
  log : List LogEntry
  /-- 15 R416: entries not yet written to boot flash. -/
  pendingLog : List LogEntry
  /-- 15 R426 EVENT_NEXT. -/
  eventNext : Nat
  /-- 15 R416: the SEQ limit held in boot flash. -/
  eventLimit : Nat
  /-- Time of the last raising of each event that is limited in rate (keys code × 4096 + instance). -/
  raisedAt : Tbl Time
  /-- 15 R401: management sessions. -/
  sessions : Tbl Session
  /-- 15 R400 CONFIG_GENERATION. -/
  configGen : Nat
  /-- 15 R399: generation of the newer copy of the configuration store. -/
  storeGen : Nat
  /-- 15 R399: the older copy is the next written. -/
  storeFlip : Bool
  /-- 15 R399: values held in the newer copy of the configuration store. -/
  store : Tbl Val
  /-- 15 R419: counts of the RO objects (keys index × 256 + sub-index). -/
  counts : Tbl Nat
  /-- 15 R419: the statistics checkpoint. -/
  ckpt : Tbl Nat
  /-- 15 R415, R426: LOAD_SLOT, LOAD_OFFSET, LOAD_STATE. -/
  loadSlot : Nat
  loadOffset : Nat
  loadState : Nat
  /-- 15 R414: contents of the two image slots. -/
  slots : Vector Bytes 2
  /-- 14 R380: what a check of each slot finds; none when it holds no image. -/
  images : Vector (Option ImageCheck) 2
  /-- 15 R420. -/
  blocks : Vector CtrBlock 15
  /-- 15 R424 CTR_GENERATION. -/
  ctrGen : Nat
  /-- 15 R409: responses held until the record of a cycle is committed. -/
  owed : List (Nat × Tunnel)
  /-- 15 R409: requests sent to the partner and not answered, as session, transaction and request. -/
  forwards : List (Nat × Nat × Req)
  /-- 15 R407: requests that arrived in TAKEOVER, as session, transaction and request. -/
  waiting : List (Nat × Nat × Req)
deriving DecidableEq, Repr

/-! ### Network ports and transports (02) -/

structure PortSt where
  /-- 02 R31: declared up. -/
  up : Bool
  /-- 02 R29: a recalibration runs. -/
  recal : Bool
  /-- 02 R32, 05 R132: end of the pause in force, if any. -/
  pauseUntil : Option Time
  /-- 05 R140: start of the unbroken pause. -/
  pausedFrom : Option Time
  /-- 02 R43 DUAL_DELIVERY: 0 not applicable, 1 confirmed, 2 unconfirmed, 3 lost. -/
  dual : Nat
  /-- 02 R43: consecutive probes received by the partner, and missed. -/
  probeOk : Nat
  probeMiss : Nat
  /-- 02 R43: sequence number of the next probe. -/
  probeSeq : BitVec 32
  /-- 02 R43: a probe is out and not reported. -/
  probeOut : Bool
  /-- 02 R44: since when the port has been confirmed. -/
  confirmedAt : Time
  /-- 02 R38: start of the second in which echoes are counted, and their count. -/
  echoFrom : Time
  echoCount : Nat
  /-- 02 R31: the partner's port of that number is up. -/
  partnerUp : Bool
deriving DecidableEq, Repr

structure SvcSt where
  /-- 02 R36: the service address is served. -/
  served : Bool
  /-- 02 R36: duplicate address detection runs. -/
  dad : Bool
deriving DecidableEq, Repr

structure Neigh where
  port : Nat
  addr : Bytes
  mac  : BitVec 48
deriving DecidableEq, Repr

structure Net where
  /-- 02 R30: the plugged module offers the application of the group's code. -/
  appOk : Vector Bool 8
  /-- 02 R26: configuration code the group runs. -/
  groupRun : Vector Nat 8
  ports : Vector PortSt 32
  svcs : Vector SvcSt 64
  /-- 02 R37: neighbour table, most recently used first. -/
  neighbours : List Neigh
  /-- 02 R37: addresses being resolved, by port, with the time of the last request. -/
  resolving : List (Nat × Bytes × Time)
  /-- 10 R276: retention ring: time, connection, position, bytes. -/
  retention : List (Time × Nat × Nat × Bytes)
deriving DecidableEq, Repr

/-- The fields of a chaining context that hold keys and partial records (09 R259). -/
structure Chain where
  txKey : BitVec 256
  rxKey : BitVec 256
  txIv : BitVec 96
  rxIv : BitVec 96
  txSecret : BitVec 384
  rxSecret : BitVec 384
  rxGhash : BitVec 128
  rxDone : Nat
  rxLen : Nat
  txGhash : BitVec 128
  txDone : Nat
  txLen : Nat
deriving DecidableEq, Repr

/-- TLS state of a connection (02 R49; 09 R257, R259). -/
structure TlsSt where
  active    : Bool
  /-- 09 R257: the client Finished has arrived. -/
  finished  : Bool
  pskRec    : Nat
  /-- 02 R49: early data is being skipped. -/
  skipEarly : Bool
  txSeq     : Nat
  rxSeq     : Nat
  txRecords : Nat
  rxRecords : Nat
  /-- 09 R259 FLAGS [1], [2]. -/
  kuPlanned : Bool
  rxSwitch  : Bool
  cluster   : Nat
  chain     : Chain
deriving DecidableEq, Repr

/-- A message waiting in an egress queue (05 R130): its bytes, protection included, those already sent in
frames, the cycle of the record that plans it (none: exempt from the plan), its stream position, its planned
check values, one for each TLS record or for the unprotected PDU (02 R58, R59), its TLS protection, and the
command it belongs to. -/
structure TxFrame where
  msg   : HostMsg
  len   : Nat
  sent  : Nat
  plan  : Option Nat
  cmd   : Nat
  pos   : Nat
  checks : List (BitVec 32)
  prot  : Option TlsProt
deriving DecidableEq, Repr

/-- Sending side of a TCP connection (02 R45): the position after the last byte sent, the window the host offers,
the congestion window and slow-start threshold (RFC 5681), loss recovery (RFC 6675: ranges the host holds,
acknowledgements that signal loss, the end of the recovery under way and the position after the last byte it has
sent again), and the retransmission timer (RFC 6298: smoothed time and variation in ns, none before the first
sample, the timeout, its deadline, and the position and time being measured). -/
structure TcpTx where
  sent     : Nat
  wnd      : Nat
  cwnd     : Nat
  ssthresh : Nat
  sacked   : List (Nat × Nat)
  dups     : Nat
  recover  : Option Nat
  rexmit   : Nat
  rtt      : Option (Nat × Nat)
  rto      : Nat
  timer    : Option Time
  timed    : Option (Nat × Time)
deriving DecidableEq, Repr

/-- A token bucket (03 R84, 05 R135): level in units of 10⁻⁹ tokens, and the time of that level. -/
structure Bucket where
  level : Nat
  stamp : Time
deriving DecidableEq, Repr

structure Conn where
  info : ConnInfo
  /-- 02 R55: half-open until the host's ACK of the SYN-ACK arrives. -/
  half : Bool
  /-- 02 R58: next byte or PSN to send, first not acknowledged. -/
  txNext : Nat
  txUna : Nat
  /-- 02 R56: receive position. -/
  rxNext : Nat
  /-- 02 R45: ranges received beyond rxNext. -/
  ooo : List (Nat × Nat)
  /-- 02 R38: path MTU learned. -/
  pmtu : Nat
  tcp : TcpTx
  /-- 03 R70, 04 R100: granules held for capsules received and not yet taken as commands, oldest first. -/
  capsules : List Nat
  tls : TlsSt
  /-- 03 R64: the Connect on it failed. -/
  connectFailed : Bool
  /-- 03 R65: controller and queue the connection serves, once connected. -/
  ctrl : Option Nat
  qid : Nat
  sqsize : Nat
  sqhd : Nat
  /-- 03 R69: SQ flow control is in use. -/
  sqFlow : Bool
  /-- 05 R133: host record (0 none) and connection class 1 to 16. -/
  host : Nat
  cls : Nat
  /-- 05 R130, R134: queue of frames and virtual finish time. -/
  sendQ : List TxFrame
  finish : BitVec 64
  /-- 05 R134: the finish time is that of the message now at the head. -/
  headed : Bool
  /-- 02 R54: rate cap in Mbit/s (none: no cap), its bucket, and the last cut and notification. -/
  cap : Option Nat
  capBk : Bucket
  cutAt : Option Time
  cnpAt : Option Time
  /-- 02 R52: retries made, and retries after RNR NAKs. -/
  retries : Nat
  rnrRetries : Nat
  /-- 10 R274, R290: missing receive ranges. -/
  missing : List (Nat × Nat)
  /-- 10 R292: cycle of the record in which the connection opened. -/
  openedIn : Nat
  /-- 10 R274: receive position that the last record named. -/
  recPos : Nat
  /-- 02 R56: on a module that does not decide, its own receive positions at the last cycle boundaries, by cycle. -/
  edges : List (Nat × Nat)
  /-- 04 R104: read buffers held until the host acknowledges a stream position. -/
  refs : List (Nat × Nat)
deriving DecidableEq, Repr

/-! ### Command service (03) -/

/-- An entry of the Error Information log (03 R90): its number, the queue, CID and status of the command, and its
NSID. -/
structure ErrEntry where
  number : Nat
  qid    : Nat
  cid    : Nat
  status : Status
  nsid   : Nat
deriving DecidableEq, Repr

structure Ctrl where
  subsys : Nat
  host : Nat
  hostNqn : Bytes
  discovery : Bool
  /-- 03 R65: admin connection and I/O queues as pairs of QID and connection. -/
  admin : Nat
  ioq : List (Nat × Nat)
  /-- 03 R81: timeout in ms and time of the last command. -/
  kato : Nat
  lastCmd : Time
  /-- 03 R67: outstanding event requests, their mask by an unread notice, the enabled notices. -/
  aers : List Nat
  nsNotice : Bool
  logNotice : Bool
  /-- 03 R66: the discovery log has changed and no request was outstanding to tell it. -/
  logChanged : Bool
  aenConfig : Nat
  changedNs : List Nat
  numQueues : Nat
  /-- 03 R90: commands counted for Data Units. -/
  unitsRead : Nat
  unitsWritten : Nat
  /-- NVMe controller properties CC and CSTS (03 R87). -/
  cc : Nat
  csts : Nat
  /-- 03 R68: Aborts in progress. -/
  aborts : Nat
  /-- 10 R289: Aborts received whose outcome is not in a record, as CID, SQID and target. -/
  heldAborts : List (Nat × Nat × Nat)
  /-- 03 R90: the 64 newest errors, newest first, and how many there have been. -/
  errLog : List ErrEntry
  errCount : Nat
deriving DecidableEq, Repr

inductive Opc where
  | flush | write | read | writeZeroes | dsm
deriving DecidableEq, Repr

/-- Where a command stands (03 R76, R77). `zeroing` and `placing` wait for caddy slots; `encrypting`
is in the cipher engine; `completing` waits for the record of the cycle it names. -/
inductive Phase where
  | held | waiting | startQ | missQ | media | solicit | receiving | placing | encrypting
  | placed | completing
deriving DecidableEq, Repr

structure Cmd where
  src : Src
  cid : Nat
  opc : Opc
  ns : Nat
  nsid : Nat
  slba : Nat
  nlb : Nat
  trump : Bool
  host : Nat
  cls : Option AdmClass
  phase : Phase
  /-- Data received, by sector (none: not yet). -/
  data : List (Option Bytes)
  /-- Compared ciphertext, by sector (09 R243). -/
  enc : List (Option Bytes)
  ttag : Nat
  sgl : Sgl
  inCapsule : Bool
  /-- 04 R96: granules held, and the pool (by index) they belong to. -/
  granules : Nat
  pool : Nat
  buf : Option Nat
  status : Status
  cycle : Nat
  ranges : List (Nat × Nat)
  /-- 03 R82: the connection has ended; the result is discarded. -/
  orphan : Bool
  /-- 13 R360: window generation in force at the doorbell, and the BAR2 offset. -/
  gen : Nat
  bar2 : Option Nat
  /-- 13 R361: held since Bus Master Enable was cleared. -/
  bmeHeld : Bool
  /-- 09 R253: caught by a crypto erase before encryption. -/
  waitsKey : Bool
deriving DecidableEq, Repr

structure NsSt where
  /-- 06 R145: first LB and number of LBs reserved. -/
  base : Nat
  count : Nat
  /-- 07 R202, 08 R230: READ_ONLY by exhaustion and by the narrowing floor. -/
  roExhaust : Bool
  roFloor : Bool
deriving DecidableEq, Repr

structure CmdSt where
  ctrls : Tbl Ctrl
  cmds : Tbl Cmd
  nextCmd : Nat
  /-- 03 R85: host and namespace pair served last by the round robin. -/
  rrLast : Nat
  /-- 03 R84: buckets that are not full (keys: kind × 4096 + record; kinds 0 host committed, 1 host
  peak, 2 namespace committed, 3 namespace peak). -/
  buckets : Tbl Bucket
  ns : Tbl NsSt
  /-- 04 R101: solicitation queue, oldest first. -/
  solicitQ : List Nat
  nextTag : Nat
deriving DecidableEq, Repr

/-! ### Pools and pot (04) -/

structure PoolSt where
  used : Nat
  peak : Nat
deriving DecidableEq, Repr

inductive BufState where
  | filling | pouring | cached
deriving DecidableEq, Repr

structure Buf where
  ns : Nat
  lba : Nat
  len : Nat
  state : BufState
  count : Nat
  f : Nat
  open_ : Bool
  openedAt : Time
  admissible : Bool
  potRef : Bool
  data : List (Option Bytes)
  attached : List Nat
  failed : Option Status
  /-- 06 R170: caddy slots and bands whose reader counts this fill holds. -/
  slotRefs : List Nat
  bandRefs : List Nat
deriving DecidableEq, Repr

structure Pot where
  bufs : Tbl Buf
  nextBuf : Nat
  /-- 04 R112: cached buffers in admission order, the hand and its mark. -/
  ring : List Nat
  hand : Option Nat
  mark : Option Nat
  handOn : Bool
  revFrom : Time
  revolution : Nat
  /-- 04 R101: miss queue, oldest first. -/
  missQ : List Nat
  /-- 04 R114: granules of the region now. -/
  region : Nat
  /-- 01 R22: granules of working memory in the share of firmware, spill and reserve. -/
  reserve : Nat
deriving DecidableEq, Repr

/-! ### Switch core and egress (05) -/

/-- A cell (05 R119, R129): the message it belongs to, its payload, the end mark, whether it took a shared place,
and the poison mark. Its input, output and class are those of the queue it stands in. -/
structure Cell where
  kind : MsgKind
  num : Nat
  data : Bytes
  last : Bool
  shared : Bool
  poison : Bool
deriving DecidableEq, Repr

structure Voq where
  cells : List Cell
  stalled : Bool
deriving DecidableEq, Repr

structure Core where
  /-- 05 R122: queues by ((input × 30 + output) × 4 + class). -/
  voqs : Tbl Voq
  sharedFree : Nat
  /-- 05 R124: messages a stage keeps for an input, output and class (keys as voqs), oldest first, with the cells
  of each already accepted. -/
  offers : Tbl (List (CoreMsg × Nat))
  /-- 05 R126: descriptors that wait for the acknowledgement of the write they name, as input, output and
  message. -/
  waiting : List (Nat × Nat × CoreMsg)
  /-- 05 R127: cells of each input in an output's receive buffer (keys as voqs). -/
  inBuf : Tbl (List Cell)
  /-- 05 R125: cells of the message that a block is receiving (keys as voqs). -/
  taken : Tbl (List Cell)
  /-- 05 R126: write messages whole at a memory controller and not acknowledged, as controller, requester and
  number. -/
  written : List (Nat × Nat × Nat)
  /-- 05 R121: input served last, by output × 4 + class. -/
  rr : Tbl Nat
  /-- 05 R121: round credit left, by output × 4 + class (absent: the weight). -/
  credit : Tbl Nat
  /-- 05 R121: the last 64 slots of each output, true for class 0. -/
  hist : Tbl (List Bool)
  /-- 05 R129: time of the last uncorrectable error of a row. -/
  rowErr : Tbl Time
  /-- 05 R126: writes whose acknowledgement has reached the writer, as writer and number. -/
  acks : List (Nat × Nat)
  /-- 14 R388: spare SRAM rows left and cells withdrawn. -/
  rowSpares : Nat
  withdrawn : Nat
deriving DecidableEq, Repr

structure EgPort where
  /-- 05 R134: port virtual time. -/
  v : BitVec 64
  /-- 05 R130: control queue: connection number (0 none), header and message. -/
  ctrlQ : List (Nat × FrameHdr × HostMsg)
  /-- 05 R131: selected frames in the pipeline. -/
  pipeline : Nat
deriving DecidableEq, Repr

/-- What is left to send of a connection that has ended: the connection as it stood, with its last messages in
its queue, and the control frames that follow when that queue is empty (02 R47, R58; 05 R130). -/
structure Closing where
  x : Conn
  after : List HostMsg
deriving DecidableEq, Repr

structure Egress where
  ports : Vector EgPort 32
  /-- Ended connections with messages still to send, by numbers from 65,536 on. -/
  closing : Tbl Closing
  /-- 05 R135: buckets that are not full: hosts by kind × 4096 + record; classes by
  65536 + (port × 16 + class) × 2 + kind. -/
  buckets : Tbl Bucket
deriving DecidableEq, Repr

/-! ### Cipher and keys (09) -/

/-- What a cipher unit works on (09 R243). -/
inductive UnitOp where
  | hostRead (buf idx : Nat)
  | write (cmd idx : Nat)
  | egress (port conn off len : Nat) (last : Bool) (msg : HostMsg) (hdr : FrameHdr) (prot : Option TlsProt)
  | ingress (conn ctype len : Nat) (fault : Option Nat)
deriving DecidableEq, Repr

structure CUnit where
  op : UnitOp
  ns : Nat
  lba : Nat
  input : Bytes
  cluster : Nat
  laneA : Nat
  laneB : Nat
  sumA : BitVec 64
  sumB : BitVec 64
  /-- 09 R245: held after a mismatch. -/
  held : Bool
  /-- 09 R253: uses the old key. -/
  oldKey : Bool
deriving DecidableEq, Repr

structure Cipher where
  lanes : Vector ElemState 104
  units : Tbl CUnit
  nextUnit : Nat
  /-- 09 R242: cluster the next XTS unit goes to. -/
  rr : Nat
  /-- 09 R262: noise sources in use. -/
  sourceOk : Vector Bool 2
  /-- 09 R262: reseeds of the mask generators. -/
  maskSeeds : Nat
  /-- 09 R259, R260: resident contexts, most recently used first, and spilled ones. -/
  resident : List Nat
  spilled : List Nat
deriving DecidableEq, Repr

structure NsKey where
  key : Option Key
  gen : Nat
  /-- 09 R265 NS_KEY_STATE 2: erase in progress. -/
  erasing : Bool
  old : Option Key
deriving DecidableEq, Repr

structure Keys where
  /-- 09 R248. -/
  arrayKey : Option (BitVec 256)
  pairKey : Option (BitVec 256)
  wrapKey : BitVec 256
  kek : Option Bytes
  ns : Tbl NsKey
  psk : Tbl Bytes
deriving DecidableEq, Repr

/-! ### Translation (06), media (07), stripes (08) -/

/-- Geometry fixed at format (06 R141, R143, R145). -/
structure Geo where
  eMiB : Nat
  pKiB : Nat
  w0   : Nat
  euTotal : Nat
  talonTotal : Nat
  overprov : Nat
deriving DecidableEq, Repr

structure FillSt where
  /-- 06 R159: placement time from which FILL_WAIT runs. -/
  since : Time
deriving DecidableEq, Repr

/-- Where a stripe goes (06 R158). -/
inductive Dest where
  | direct | log | staging | job (j : Nat) | system
deriving DecidableEq, Repr

/-- A stripe whose pages are being programmed (06 R162). -/
structure Prog where
  band : Nat
  stripe : Nat
  dest : Dest
  lb : Nat
  pages : List (Option (List Bytes))
  /-- Member positions not yet reported. -/
  waiting : List Nat
  /-- Slots, as namespace, LBA and cycle, of the stripe's sectors. -/
  slots : List (Nat × Nat × Nat)
  /-- 06 R173: zero-run slots of which the stripe carries a part, named alike. -/
  parts : List (Nat × Nat × Nat)
  /-- Granules of STRIPE_BUILD and PARITY that the stripe holds (04 R96). -/
  build : Nat
  parity : Nat
  runs : List Run
  done : Bool
  /-- 06 R162 step 3: cycle of the record that carries the change. -/
  cycle : Nat
deriving DecidableEq, Repr

inductive MergeKind where
  | switch | partial_ | full
deriving DecidableEq, Repr

/-- What a background job does. -/
inductive JobKind where
  | merge (lb : Nat) (k : MergeKind) (fold : Bool)
  | compact (victim : Nat)
  | move (band pos : Nat)
  | rebuild (band pos : Nat)
  | resync (band : Nat)
  | scrub (band : Nat)
deriving DecidableEq, Repr

/-- A merge, fold, compaction, member move, rebuild, resynchronisation or scrub in progress. -/
structure Job where
  kind : JobKind
  /-- Target bands of a merge or compaction, in order of the set. -/
  targets : List Nat
  /-- Target EU and carrier of a move or a rebuild. -/
  car : Nat
  eu : Nat
  /-- 06 R165: highest current offset, rounded up. -/
  hi : Nat
  next : Nat
  total : Nat
  /-- Pages or sectors read for the stripe at `next`, by position. -/
  got : Tbl (Option (List Bytes))
  want : List Nat
  granules : Nat
  programming : Bool
  verified : Nat
  ready : Bool
  paused : Bool
  /-- 06 R166: epoch of the merge's sources. -/
  epoch : BitVec 24
  /-- Source runs of a compaction stripe, in slot order. -/
  src : List Run
  /-- 07 R204: a member move off an unreadable page. -/
  urgent : Bool
  /-- 07 R192: a static move. -/
  static : Bool
deriving DecidableEq, Repr

structure Lost where
  detected : Time
  lba : Nat
  count : Nat
  ns : Nat
  cause : Nat
  missing : Nat
  band : Nat
  stripe : Nat
deriving DecidableEq, Repr

/-- A checkpoint of the map image in system bands (06 R151): the bands, the LB map, the band table and the opening
sequence they hold. -/
structure Ckpt where
  bands : List Nat
  lbs : Tbl LbEntry
  table : Tbl Band
  seq : Nat
deriving DecidableEq, Repr

structure Xlat where
  /-- 06 R141: none before the first format. -/
  geo : Option Geo
  arrayId : BitVec 64
  lbs : Tbl LbEntry
  bands : Tbl Band
  runs : List Run
  openseq : Nat
  /-- 06 R153, R154: write slots that are not free, and the allocation pass. -/
  slots : Tbl Slot
  passAt : Nat
  /-- 06 R160: the next place in the order of placement. -/
  placeSeq : Nat
  /-- 06 R156: placement queue, oldest first. -/
  placeQ : List Nat
  /-- 06 R153, R174: this module's caddy copies of the open-band journal: the one written last, the other, and which
  of the two it is. -/
  journal : Tbl Band
  journalPrev : Tbl Band
  journalFlip : Bool
  journalRemovals : List Nat
  journalCars : List Nat
  fills : Tbl FillSt
  logs : Tbl LogRec
  progs : Tbl Prog
  nextProg : Nat
  jobs : Tbl Job
  nextJob : Nat
  /-- 06 R164: LBs due for a merge. -/
  mergeDue : List Nat
  /-- 06 R167: bands to be released once READERS is zero. -/
  releaseDue : List Nat
  /-- 07 R194, 08 R221: EUs left by a switch, as band, carrier, EU and whether to retire it. -/
  sources : List (Nat × Nat × Nat × Bool)
  /-- 08 R224: bands to relocate. -/
  relocate : List Nat
  commits : Nat
  spareUsed : Nat
  lastCheckpoint : Time
  /-- 06 R151: the last checkpoint, and the one being written. -/
  ckpt : Option Ckpt
  ckptRun : Option Ckpt
  /-- 06 R151: the band-table entries in the EU headers that page 0 of the members carries, by band. -/
  heads : Tbl Band
  /-- 07 R191: bands or members to refresh, as band × 32 + position. -/
  refresh : List Nat
  overlayHigh : Bool
  freeCritical : Bool
  stageOver : Bool
  /-- 08 R226, R227: the lost-range list, in order of detection. -/
  lost : List Lost
  lostFull : Bool
  /-- 08 R229: the first narrowed band has been formed. -/
  narrowed : Bool
  resyncKind : Nat
  formatting : Bool
  /-- 06 R142: session and transaction of the FORMAT that is to be answered. -/
  formatBy : Option (Nat × Nat × Req)
  /-- 07 R185, R208: reclamation runs; its victims not yet released. -/
  reclaiming : Bool
  victims : List Nat
  /-- 06 R152: the overlay and maps come from: 0 own image, 1 partner, 2 checkpoint. -/
  mapSource : Nat
deriving DecidableEq, Repr

/-- Why a media command was issued. -/
inductive Purpose where
  | hostRead (buf idx : Nat)
  | recon (id pos : Nat)
  | stripe (prog pos : Nat)
  | jobRead (job pos : Nat)
  | jobProg (job : Nat)
  | jobVerify (job : Nat)
  | eraseEu | setMode | markBad | system
  /-- 10 R278: a sector fill whose slot the active has freed. -/
  | fill (ns lba : Nat)
deriving DecidableEq, Repr

structure MediaCmd where
  op : CarOp
  eu : Nat
  page : Nat
  sector : Nat
  count : Nat
  level : Nat
  data : List Bytes
  queue : Nat
  purpose : Purpose
  band : Nat
  /-- 06 R151: the EU header that a program of page 0 carries. -/
  header : Bytes
  /-- 07 R199: failed retries, and the positions of the retry order already tried. -/
  tries : Nat
  reissued : Bool
  issuedAt : Time
deriving DecidableEq, Repr

/-- A page being reconstructed from the survivors of its stripe (08 R218). -/
structure Recon where
  band : Nat
  stripe : Nat
  pos : Nat
  sector : Nat
  count : Nat
  purpose : Purpose
  queue : Nat
  got : Tbl (Option (List Bytes))
  want : List Nat
  granules : Nat
  waiting : Bool
deriving DecidableEq, Repr

structure Car where
  state : CarState
  /-- Serial number of the array member at this bay (08 R216). -/
  serial : Bytes
  linkUp : Bool
  width : Nat
  /-- 11 R310: half kept of a narrowed link (false: lanes 0 and 1). -/
  half : Option Bool
  badLanes : List Nat
  marginLow : Tbl Time
  descr : Option Descr
  sideband : Option Sideband
  ready : Bool
  tagBound : Bool
  eventWait : Bool
  listsRead : Bool
  inputs : BitVec 3
  temp : Int
  /-- 10 R284 RESERVATION: last value read. -/
  value : BitVec 64
  /-- 04 R100: administrative commands postponed for want of a granule of CARRIER_ADMIN, oldest first, as
  command, level, expected and new value; and granules held for those sent. -/
  postponed : List (CarOp × Nat × BitVec 64 × BitVec 64)
  adminHeld : Nat
  /-- Administrative commands reissued once after a failed transfer (11 R316): 0 identify, 1 bad-EU list, 2 and 3 the retry
  levels of native and SLC mode. -/
  adminAgain : List Nat
  /-- 11 R318: NEW of the RESERVE commands not completed, in order. -/
  asking : List (BitVec 64)
  /-- 07 R180: free EUs, talon EUs, EUs in SLC mode, EUs on the bad list. -/
  free : List Nat
  talon : List Nat
  slc : List Nat
  bad : List Nat
  /-- 07 R190: wear counts by EU, and the fraction accumulators of native and SLC erases. -/
  wear : Tbl Nat
  fracN : Nat
  fracS : Nat
  talonInit : Nat
  spent : Nat
  borrowed : Nat
  retiredAt : List Time
  returns : List Time
  lostAt : Time
  /-- 06 R175: which of the two system EUs is written, and its next page. -/
  sysEu : Nat
  sysPage : Nat
  sysFailed : Bool
  replace : BitVec 8
  /-- 08 R225: bands listed in the journal at some moment of the absence. -/
  absentBands : List Nat
  queue : List MediaCmd
  out : Tbl MediaCmd
  nextCid : Nat
  /-- 07 R205: deficits by queue and the bytes charged lately. -/
  deficit : Tbl Nat
  recent : List (Time × Nat × Nat)
  retryNative : List Nat
  retrySlc : List Nat
  moveOn : Bool
deriving DecidableEq, Repr

structure Media where
  cars : Vector Car 24
  recons : Tbl Recon
  nextRecon : Nat
  /-- 08 R230: no band can be formed and namespaces are READ_ONLY on that account. -/
  floorRo : Bool
  exhausted : Bool
  scrubLast : Time
deriving DecidableEq, Repr

/-! ### The pair (10) -/

inductive Lag where
  | normal | late | fencing
deriving DecidableEq, Repr

/-- Why a round of compare-and-set runs (10 R285). -/
inductive Round where
  | fencing | takeover | solo | format | recheck | force | pairing
deriving DecidableEq, Repr

/-- What a received record lacks, and whether its fill has been requested (10 R274). -/
structure Lack where
  cycle : Nat
  req   : FillReq
  asked : Bool
  /-- 04 R100: granules of MIRROR_IN held for it. -/
  granules : Nat
deriving DecidableEq, Repr

structure Planned where
  cycle : Nat
  conn : Nat
  frame : TxFrame
deriving DecidableEq, Repr

structure Pair where
  /-- 10 R305 MIRROR_LINK: 0 down, 1 training, 2 up. -/
  link : Nat
  partnerSerial : Bytes
  partnerMode : Nat
  partnerKind : Nat
  partnerGroups : List Nat
  protocol : Nat
  /-- 10 R279 PAIR_STATE sources: paired, cold, partner rejoining. -/
  paired : Bool
  cold : Bool
  partnerJoining : Bool
  pairing : Bool
  /-- 10 R270. -/
  cycle : Nat
  /-- 10 R270, 02 R48: how far the pair clock stands ahead of this module's own. -/
  clockAhead : Nat
  /-- 10 R274: highest committed record; as partner, highest record confirmed. -/
  committed : Nat
  /-- 06 R153 caddy header: last sealed cycle, and whether this module was active in the epoch. -/
  lastSealed : Nat
  wasActive : Bool
  /-- 10 R272: entries of the running cycle. -/
  entries : List RecEntry
  /-- 10 R273: decisions held for the next record. -/
  heldEntries : List RecEntry
  /-- 06 R153: sealed records kept in the caddy ring. -/
  ring : Tbl CycleRec
  /-- 10 R274, partner side: records received and not confirmed, and what they lack. -/
  waiting : Tbl CycleRec
  lacks : List Lack
  /-- 03 R79: decisions of the active on commands that have not arrived here. -/
  ahead : List RecEntry
  /-- 10 R269: ciphertext that waits for the partner's credit. -/
  sectorQ : List MirSector
  planned : List Planned
  /-- 10 R284. -/
  epoch : BitVec 32
  lag : Lag
  /-- 10 R281: outputs driven high and input levels. -/
  faultOut : BitVec 2
  faultIn : BitVec 2
  /-- 10 R280: the heartbeat is present. -/
  heartbeat : Bool
  partnerDegraded : Bool
  /-- 10 R285: round in progress, carriers won, carriers asked, and values read before. -/
  round : Option Round
  won : List Nat
  asked : List Nat
  /-- 10 R285: the value each carrier was expected to hold in the round. -/
  expected : Tbl (BitVec 64)
  /-- 10 R284: value of the last committed RESERVE entry, by carrier. -/
  reserved : Tbl (BitVec 64)
  takeoverAt : Time
  takeoverColdStart : Bool
  afterHandover : Bool
  rejoinPhase : Nat
  rejoinPercent : Nat
  rejoinFrom : Time
  rejoinTries : List Time
  /-- 10 R292: next connection to hand over; 0 once the maps and the ciphertext of the snapshot are sent. -/
  handoverNext : Nat
  /-- 10 R268, R269: sequence numbers, frames not acknowledged with the times they were sent. -/
  txSeq : BitVec 32
  rxSeq : BitVec 32
  unacked : List (BitVec 32 × Nat)
  ackOwed : Bool
  partnerCredit : Nat
  lastSwap : Time
  /-- 10 R288: connections that have not yet had their frame of the first pass. -/
  firstPass : List Nat
  firstPassAt : Time
deriving DecidableEq, Repr

/-! ### Feeds and bays (12) -/

structure FeedSt where
  state : FeedState
  mv : Nat
deriving DecidableEq, Repr

structure Power where
  feeds : Vector FeedSt 2
  nodeMv : Nat
  /-- 12 R342: the hold-up sequence runs. -/
  holdRunning : Bool
  caddyOpen : Bool
  /-- 12 R350 POWER_LOSS is still to be raised, with the start it is stamped with. -/
  lossAt : Option Time
  lastHoldup : Time
  /-- 12 R346: median capacitance, samples taken, and a test in progress. -/
  cap : Nat
  samples : List Nat
  measuring : Bool
deriving DecidableEq, Repr

structure BaySt where
  state : BayState
  aux : AuxState
  seat1 : Bool
  seat2 : Bool
  prsnt : Bool
  /-- 12 R332: seating is confirmed. -/
  seated : Bool
  /-- 12 R333: times of the retries made. -/
  retries : List Time
  /-- 12 R333: seating was lost during the cool-down that runs. -/
  reseat : Bool
  lastFault : Nat
  mA : Nat
  mv : Nat
  temp : Int
  auxTrips : List Time
  calibrating : Bool
deriving DecidableEq, Repr

/-! ### Attach port (13) -/

structure AttQ where
  size : Nat
  head : Nat
  tail : Nat
  cq : Nat
  /-- 13 R360: window generations recorded at the doorbell for the entries not yet fetched. -/
  gens : List Nat
deriving DecidableEq, Repr

structure Attach where
  /-- 13 R351: link speed code 1 to 6 (0 down) and width. -/
  speed : Nat
  width : Nat
  perst : Bool
  /-- 13 R356: CC.EN, CSTS.CFS, CSTS.RDY, and the queues. -/
  ccEn : Bool
  cfs : Bool
  sqs : Tbl AttQ
  cqs : Tbl AttQ
  bme : Bool
  /-- 13 R357: window store in granules, and its bytes that are not zero. -/
  storeSize : Nat
  store : List Host.Cell
  shadow : Vector Win 16
  active : Vector Win 16
  /-- 13 R358: generation in force, held generations with their windows and users. -/
  gen : Nat
  gens : Tbl (Vector Win 16)
  genUsers : Tbl Nat
  commitResult : Nat
  /-- 13 R353: outstanding read tags: command × 65536 + sector. -/
  tags : Tbl Nat
  mboxBusy : Bool
  mboxReady : Bool
  mboxLen : Nat
  /-- 13 R363: Optimized. -/
  optimized : Bool
  features : Nat
  aers : List Nat
  /-- 03 R67: changed namespaces of the attach controller, and a notice of each type told and not yet read. -/
  changedNs : List Nat
  nsNotice : Bool
  anaNotice : Bool
  /-- 13 R363: the ANA state has changed and no request was outstanding to tell it. -/
  anaChanged : Bool
  /-- 03 R90: commands counted for Data Units, and the errors. -/
  unitsRead : Nat
  unitsWritten : Nat
  errLog : List ErrEntry
  errCount : Nat
  /-- 13 R352, R356, R361: completion entries not yet written, as SQID, CID, status and Dword 0. -/
  heldCqes : List (Nat × Nat × Status × Nat)
  /-- 13 R354: MSI-X pending bits. -/
  pba : List Nat
deriving DecidableEq, Repr

/-! ### Self-repair, supplies, ageing (14) -/

structure Eng where
  state : ElemState
  /-- Stage 1 to 6; 0 none. -/
  stage : Nat
deriving DecidableEq, Repr

structure DomSt where
  /-- 14 R391: supply held and fused start supply, in tenths of a mV. -/
  supply : Nat
  slack : Int
  /-- 14 R391: time of the first reading above 35 mV of the present run. -/
  highFrom : Option Time
  start : Nat
deriving DecidableEq, Repr

/-- The requested test that runs (14 R389): its kind and instance. -/
structure Test where
  kind : Nat
  inst : Nat
deriving DecidableEq, Repr

structure RepairSt where
  engines : Vector Eng 36
  /-- 14 R382: factory map and field map, oldest first. -/
  factory : List Repair
  field : List Repair
  tests : List Test
  testResult : Nat
  domains : Vector DomSt 3
  temp : Vector Int 2
  peak : Vector Int 2
  /-- 14 R393: used life in ns at 80 °C. -/
  life : Nat
  dramLanes : Vector Nat 4
  dramRows : Vector Nat 4
  /-- 14 R394 REPLACE_REASON. -/
  reason : BitVec 8
deriving DecidableEq, Repr

/-- The whole module. `now` is the clock, `fresh` the model's own counter of free values drawn, `out`
the model's own trace of what the block puts on its ports, and `pending` the waiting commands. -/
structure State where
  /-- What manufacture and the straps of the board fix; no command writes it. -/
  ident : Ident
  now : Time
  fresh : Nat
  out : List Emit
  mode : ModeSt
  mgmt : Mgmt
  /-- 15 R398, 16 R428: values of writable objects that differ from their defaults (keys
  (index × 256 + sub-index) × 4096 + record). -/
  dict : Tbl Val
  net : Net
  conns : Tbl Conn
  cmd : CmdSt
  pools : Vector PoolSt 16
  pot : Pot
  core : Core
  egress : Egress
  cipher : Cipher
  keys : Keys
  xlat : Xlat
  media : Media
  pair : Pair
  power : Power
  bays : Vector BaySt 24
  attach : Attach
  repair : RepairSt
  pending : List Instr
deriving DecidableEq, Repr

/-! ### Reset -/

def PortSt.reset : PortSt :=
  { up := false, recal := false, pauseUntil := none, pausedFrom := none, dual := 0, probeOk := 0,
    probeMiss := 0, probeSeq := 0, probeOut := false, confirmedAt := 0, echoFrom := 0,
    echoCount := 0, partnerUp := false }

def Ctr.reset : Ctr :=
  { value := 0, latch := 0, overflow := false, mixed := false }

def Car.reset : Car :=
  { state := .absent, serial := [], linkUp := false, width := 0, half := none, badLanes := [],
    marginLow := [], descr := none, sideband := none, ready := false, tagBound := false,
    eventWait := false, listsRead := false, inputs := 0, temp := 0, value := 0, asking := [], free := [],
    talon := [], slc := [], bad := [], wear := [], fracN := 0, fracS := 0, talonInit := 0,
    spent := 0, borrowed := 0, retiredAt := [], returns := [], lostAt := 0, sysEu := 0, sysPage := 0, sysFailed := false, replace := 0,
    absentBands := [], queue := [], out := [], nextCid := 0, deficit := [], recent := [],
    retryNative := [], retrySlc := [], moveOn := false, postponed := [], adminHeld := 0, adminAgain := [] }

def BaySt.reset : BaySt :=
  { state := .heldOff, aux := .off, seat1 := false, seat2 := false, prsnt := false, seated := false,
    retries := [], reseat := false, lastFault := 0, mA := 0, mv := 0, temp := 0,
    auxTrips := [], calibrating := false }

def Win.reset : Win :=
  { offset := 0, length := 0, enable := false, peerWrite := false, peerRead := false }

/-- Lanes 25 and 26 of each cluster start as its two spares (09 R239 gives the number only). -/
def laneReset (i : Nat) : ElemState := if i % 26 < 24 then .inService else .spare

/-- The default deal by engine number (14 R384). -/
def dealStage (i : Nat) : Nat :=
  let k := i % 18
  if k < 4 then 1 else if k < 8 then 2 else if k < 12 then 3 else if k < 14 then 4
  else if k = 14 then 5 else if k = 15 then 6 else 0

/-- The module right after power-on: RESET, RESET_CAUSE power on, nothing configured, no carrier
known, no partner known, the fault outputs low, every output of the bays off (12 R331). -/
def State.reset : State where
  ident := Config.ident
  now := 0
  fresh := 0
  out := []
  mode :=
    { mode := .reset, since := 0, quiesceBy := .none, handover := none, safeCause := 0,
      resetCause := 1, bootReq := 1, lastMode := .reset, bootSlot := 0, bootRetried := false,
      bootDuration := 0, secVersion := 0, imageVersion := 0, power := .none, loadUp := 0,
      loadDown := 0, gated := [], alwaysOn := true, resetN := true, testN := true,
      restarted := true, holdIsolated := false, healthLost := false }
  mgmt :=
    { log := [], pendingLog := [], eventNext := 0, eventLimit := 4096, raisedAt := [],
      sessions := [], configGen := 0, storeGen := 0, storeFlip := false, store := [], counts := [],
      ckpt := [], loadSlot := 0, loadOffset := 0, loadState := 0,
      slots := Vector.replicate 2 [], images := Vector.replicate 2 none,
      blocks := Vector.replicate 15
        { ctrs := Vector.replicate 8 Ctr.reset, cycles := 0, cyclesLatch := 0, latched := false },
      ctrGen := 0, owed := [], forwards := [], waiting := [] }
  dict := []
  net :=
    { appOk := Vector.replicate 8 false, groupRun := Vector.replicate 8 0,
      ports := Vector.replicate 32 PortSt.reset,
      svcs := Vector.replicate 64 { served := false, dad := false },
      neighbours := [], resolving := [], retention := [] }
  conns := []
  cmd :=
    { ctrls := [], cmds := [], nextCmd := 1, rrLast := 0, buckets := [], ns := [], solicitQ := [],
      nextTag := 1 }
  pools := Vector.replicate 16 { used := 0, peak := 0 }
  pot :=
    { bufs := [], nextBuf := 1, ring := [], hand := none, mark := none,
      handOn := false, revFrom := 0, revolution := 0, missQ := [], region := 40960 * 256, reserve := 9 * 262144 }
  core :=
    { voqs := [], sharedFree := 140928, offers := [], waiting := [], inBuf := [], taken := [], written := [], rr := [], credit := [], hist := [],
      rowErr := [], acks := [], rowSpares := Config.coreSpareRows, withdrawn := 0 }
  egress := { ports := Vector.replicate 32 { v := 0, ctrlQ := [], pipeline := 0 }, closing := [], buckets := [] }
  cipher :=
    { lanes := Vector.ofFn fun i => laneReset i.val, units := [], nextUnit := 1, rr := 0,
      sourceOk := Vector.replicate 2 true, maskSeeds := 0, resident := [], spilled := [] }
  keys := { arrayKey := none, pairKey := none, wrapKey := 0, kek := none, ns := [], psk := [] }
  xlat :=
    { geo := none, arrayId := 0, lbs := [], bands := [], runs := [], openseq := 0, slots := [],
      passAt := 0, placeSeq := 0, placeQ := [], journal := [], journalPrev := [], journalFlip := false, journalRemovals := [], journalCars := [],
      fills := [], logs := [], progs := [], nextProg := 1, jobs := [], nextJob := 1, mergeDue := [],
      releaseDue := [], sources := [], relocate := [], commits := 0, spareUsed := 0, lastCheckpoint := 0, ckpt := none, ckptRun := none, heads := [],
      refresh := [], overlayHigh := false, freeCritical := false, stageOver := false, lost := [],
      lostFull := false, narrowed := false, resyncKind := 0, formatting := false, formatBy := none, reclaiming := false,
      victims := [], mapSource := 0 }
  media :=
    { cars := Vector.replicate 24 Car.reset, recons := [], nextRecon := 1, floorRo := false,
      exhausted := false, scrubLast := 0 }
  pair :=
    { link := 0, partnerSerial := [], partnerMode := 255, partnerKind := 0, partnerGroups := [],
      protocol := 0, paired := false, cold := false, partnerJoining := false, pairing := false,
      cycle := 0, clockAhead := 0, committed := 0, lastSealed := 0, wasActive := false, entries := [],
      heldEntries := [], ring := [], waiting := [], lacks := [], ahead := [], sectorQ := [], planned := [], epoch := 0,
      lag := .normal, faultOut := 0, faultIn := 0, heartbeat := false,
      partnerDegraded := false, round := none, won := [], asked := [], expected := [],
      reserved := [], takeoverAt := 0, takeoverColdStart := false, afterHandover := false,
      rejoinPhase := 0, rejoinPercent := 0, rejoinFrom := 0, rejoinTries := [], handoverNext := 1,
      txSeq := 0, rxSeq := 0, unacked := [], ackOwed := false, partnerCredit := 0, lastSwap := 0,
      firstPass := [], firstPassAt := 0 }
  power :=
    { feeds := Vector.replicate 2 { state := .absent, mv := 0 }, nodeMv := 0, holdRunning := false,
      caddyOpen := false, lossAt := none, lastHoldup := 0, cap := 0, samples := [],
      measuring := false }
  bays := Vector.replicate 24 BaySt.reset
  attach :=
    { speed := 0, width := 0, perst := true, ccEn := false, cfs := false, sqs := [], cqs := [],
      bme := false, storeSize := 0, store := [], shadow := Vector.replicate 16 Win.reset,
      active := Vector.replicate 16 Win.reset, gen := 0, gens := [], genUsers := [],
      commitResult := 0, tags := [], mboxBusy := false, mboxReady := false, mboxLen := 0,
      optimized := false, features := 0, aers := [], changedNs := [],
      nsNotice := false, anaNotice := false, anaChanged := false, unitsRead := 0, unitsWritten := 0, errLog := [], errCount := 0, heldCqes := [], pba := [] }
  repair :=
    { engines := Vector.ofFn fun i =>
        { state := if dealStage i.val = 0 then .spare else .inService, stage := dealStage i.val },
      factory := [], field := [], tests := [], testResult := 0,
      domains := #v[{ supply := 6800, slack := 30, highFrom := none, start := 6800 },
        { supply := 6800, slack := 30, highFrom := none, start := 6800 },
        { supply := 7500, slack := 30, highFrom := none, start := 7500 }],
      temp := Vector.replicate 2 0, peak := Vector.replicate 2 0, life := 0,
      dramLanes := Vector.replicate 4 8, dramRows := Vector.replicate 4 256, reason := 0 }
  pending := []

end Sys2Proof.Machine
end

