-- ==== Sys2Proof/Machine/Dictionary.lean ====
section
/-! DEFINITION. The object dictionary (16 R428): one row per object with its sub-indices, type,
access, privilege, default and range, and the bounds its chapter gives. A value is looked up by
index; a reserved index has no row. -/

namespace Sys2Proof.Machine

/-- One object. `lo` and `hi` bound the sub-indices (0 and 0 for a scalar); `len` is the length of
STR, OCT and ADDR; `dflt` the default (0 where the table gives none); `sel` the selector whose value
names the record (0 for none, 03 R93). -/
structure Obj where
  idx : Nat
  lo : Nat
  hi : Nat
  ty : Ty
  len : Nat
  acc : Access
  priv : Priv
  dflt : Int
  min : Int
  max : Int
  sel : Nat
deriving DecidableEq, Repr

/-- Objects of 02 R61. -/
def objs_netR61 : List Obj := [
  ⟨0x3000, 1, 8, .u8, 0, .rws, .operator, 0, 0, 3, 0x0000⟩,
  ⟨0x3001, 1, 32, .u8, 0, .ro, .observer, 0, 0, 255, 0x0000⟩,
  ⟨0x3002, 1, 32, .bool, 0, .rw, .operator, 1, 0, 1, 0x0000⟩,
  ⟨0x3003, 1, 32, .u16, 0, .rw, .operator, 9216, 1518, 9216, 0x0000⟩,
  ⟨0x3004, 1, 32, .u32, 0, .rw, .maintainer, 0, 0, 4294967295, 0x0000⟩,
  ⟨0x3005, 1, 32, .bool, 0, .wo, .maintainer, 0, 0, 1, 0x0000⟩,
  ⟨0x3006, 1, 32, .u64, 0, .ro, .observer, 0, 0, 18446744073709551615, 0x0000⟩,
  ⟨0x3007, 1, 32, .u64, 0, .ro, .observer, 0, 0, 18446744073709551615, 0x0000⟩,
  ⟨0x3008, 1, 32, .u64, 0, .ro, .observer, 0, 0, 18446744073709551615, 0x0000⟩,
  ⟨0x3009, 1, 32, .u8, 0, .rw, .operator, 8, 0, 8, 0x0000⟩,
  ⟨0x3010, 1, 32, .oct, 6, .rws, .operator, 0, 0, 0, 0x0000⟩,
  ⟨0x3011, 1, 32, .u8, 0, .ro, .observer, 0, 0, 255, 0x0000⟩,
  ⟨0x3012, 0, 0, .dur, 0, .rw, .operator, 100000000, 0, 4294967295, 0x0000⟩,
  ⟨0x3020, 1, 64, .addr, 16, .rws, .operator, 0, 0, 0, 0x0000⟩,
  ⟨0x3021, 1, 64, .u8, 0, .rws, .operator, 0, 0, 255, 0x0000⟩,
  ⟨0x3022, 1, 64, .u8, 0, .rws, .operator, 0, 0, 32, 0x0000⟩,
  ⟨0x3023, 1, 64, .u16, 0, .rws, .operator, 0, 0, 4094, 0x0000⟩,
  ⟨0x3030, 1, 32, .addr, 16, .rw, .operator, 0, 0, 0, 0x0000⟩,
  ⟨0x3100, 0, 0, .u16, 0, .ro, .observer, 0, 0, 65535, 0x0000⟩,
  ⟨0x3101, 0, 0, .u16, 0, .rw, .operator, 64, 2, 8192, 0x0000⟩,
  ⟨0x3102, 0, 0, .u16, 0, .rws, .operator, 4420, 0, 65535, 0x0000⟩,
  ⟨0x3103, 0, 0, .u16, 0, .rws, .operator, 8009, 0, 65535, 0x0000⟩,
  ⟨0x3104, 0, 0, .dur, 0, .rw, .operator, 1000000, 0, 4294967295, 0x0000⟩,
  ⟨0x3105, 0, 0, .u32, 0, .rw, .operator, 524288, 0, 4294967295, 0x0000⟩,
  ⟨0x3106, 0, 0, .bool, 0, .rw, .operator, 1, 0, 1, 0x0000⟩,
  ⟨0x3110, 0, 0, .u8, 0, .rws, .operator, 1, 0, 1, 0x0000⟩,
  ⟨0x3111, 0, 0, .u32, 0, .rw, .operator, 8388608, 1024, 16777216, 0x0000⟩,
  ⟨0x3130, 0, 0, .u16, 0, .rws, .operator, 4096, 0, 65535, 0x0000⟩,
  ⟨0x3131, 0, 0, .u8, 0, .rw, .operator, 50, 0, 255, 0x0000⟩,
  ⟨0x3132, 0, 0, .u32, 0, .rw, .operator, 400, 0, 4294967295, 0x0000⟩,
  ⟨0x3133, 0, 0, .dur, 0, .rw, .operator, 50000, 0, 4294967295, 0x0000⟩]

/-- Objects of 03 R94. -/
def objs_commandR94 : List Obj := [
  ⟨0x3200, 0, 0, .u16, 0, .rw, .observer, 1, 1, 256, 0x0000⟩,
  ⟨0x3201, 0, 0, .str, 223, .rw, .operator, 0, 0, 0, 0x3200⟩,
  ⟨0x3202, 0, 0, .bool, 0, .rw, .operator, 0, 0, 1, 0x3200⟩,
  ⟨0x3203, 0, 0, .oct, 128, .rw, .operator, 0, 0, 0, 0x3200⟩,
  ⟨0x3204, 0, 0, .str, 20, .rw, .operator, 0, 0, 0, 0x3200⟩,
  ⟨0x3210, 0, 0, .u16, 0, .rw, .observer, 1, 1, 1024, 0x0000⟩,
  ⟨0x3211, 0, 0, .str, 223, .rw, .operator, 0, 0, 0, 0x3210⟩,
  ⟨0x3220, 0, 0, .u16, 0, .rw, .observer, 1, 1, 2048, 0x0000⟩,
  ⟨0x3221, 0, 0, .u16, 0, .rw, .operator, 0, 0, 256, 0x3220⟩,
  ⟨0x3222, 0, 0, .u32, 0, .rw, .operator, 0, 0, 2048, 0x3220⟩,
  ⟨0x3223, 0, 0, .u64, 0, .rw, .operator, 0, 0, 18446744073709551615, 0x3220⟩,
  ⟨0x3224, 0, 0, .oct, 16, .rw, .operator, 0, 0, 0, 0x3220⟩,
  ⟨0x3225, 0, 0, .bool, 0, .rw, .operator, 0, 0, 1, 0x3220⟩,
  ⟨0x3226, 0, 0, .u8, 0, .ro, .observer, 0, 0, 255, 0x3220⟩,
  ⟨0x3227, 0, 0, .bool, 0, .rw, .operator, 0, 0, 1, 0x3220⟩,
  ⟨0x3300, 0, 0, .u32, 0, .ro, .observer, 0, 0, 4294967295, 0x0000⟩,
  ⟨0x3301, 0, 0, .u32, 0, .rw, .operator, 196608, 0, 4294967295, 0x0000⟩,
  ⟨0x3310, 0, 0, .u32, 0, .rw, .operator, 0, 0, 4294967295, 0x3210⟩,
  ⟨0x3311, 0, 0, .u32, 0, .rw, .operator, 4096, 0, 4294967295, 0x3210⟩,
  ⟨0x3312, 0, 0, .u32, 0, .rw, .operator, 0, 0, 4294967295, 0x3210⟩,
  ⟨0x3313, 0, 0, .u32, 0, .rw, .operator, 8192, 0, 4294967295, 0x3210⟩,
  ⟨0x3314, 0, 0, .bool, 0, .rw, .operator, 0, 0, 1, 0x3210⟩,
  ⟨0x3320, 0, 0, .u32, 0, .rw, .operator, 0, 0, 4294967295, 0x3220⟩,
  ⟨0x3321, 0, 0, .u32, 0, .rw, .operator, 4096, 0, 4294967295, 0x3220⟩,
  ⟨0x3322, 0, 0, .u32, 0, .rw, .operator, 0, 0, 4294967295, 0x3220⟩,
  ⟨0x3323, 0, 0, .u32, 0, .rw, .operator, 8192, 0, 4294967295, 0x3220⟩,
  ⟨0x3324, 0, 0, .bool, 0, .rw, .operator, 0, 0, 1, 0x3220⟩,
  ⟨0x3330, 0, 0, .u32, 0, .ro, .observer, 0, 0, 4294967295, 0x0000⟩]

/-- Objects of 04 R116. -/
def objs_poolR116 : List Obj := [
  ⟨0x4000, 2, 16, .u32, 0, .rws, .operator, 0, 0, 4294967295, 0x0000⟩,
  ⟨0x4001, 2, 16, .u32, 0, .rws, .operator, 0, 0, 4294967295, 0x0000⟩,
  ⟨0x4002, 1, 16, .u32, 0, .ro, .observer, 0, 0, 4294967295, 0x0000⟩,
  ⟨0x4003, 1, 16, .u64, 0, .ro, .observer, 0, 0, 18446744073709551615, 0x0000⟩,
  ⟨0x4004, 1, 16, .u32, 0, .ro, .observer, 0, 0, 4294967295, 0x0000⟩,
  ⟨0x4005, 0, 0, .u32, 0, .ro, .observer, 0, 0, 4294967295, 0x0000⟩,
  ⟨0x4100, 0, 0, .u32, 0, .rw, .operator, 40960, 4096, 40960, 0x0000⟩,
  ⟨0x4101, 0, 0, .dur, 0, .rw, .operator, 250000, 0, 2000000, 0x0000⟩,
  ⟨0x4102, 0, 0, .oct, 256, .rw, .operator, 0, 0, 0, 0x0000⟩,
  ⟨0x4103, 0, 0, .u32, 0, .rw, .operator, 8388608, 4096, 8388608, 0x0000⟩,
  ⟨0x4104, 0, 0, .u32, 0, .rw, .operator, 262144, 0, 4294967295, 0x0000⟩,
  ⟨0x4105, 0, 0, .u32, 0, .rw, .operator, 524288, 0, 4294967295, 0x0000⟩,
  ⟨0x4110, 0, 0, .u64, 0, .ro, .observer, 0, 0, 18446744073709551615, 0x0000⟩,
  ⟨0x4111, 0, 0, .u64, 0, .ro, .observer, 0, 0, 18446744073709551615, 0x0000⟩,
  ⟨0x4112, 0, 0, .u64, 0, .ro, .observer, 0, 0, 18446744073709551615, 0x0000⟩,
  ⟨0x4113, 0, 0, .dur, 0, .ro, .observer, 0, 0, 4294967295, 0x0000⟩,
  ⟨0x4114, 0, 0, .u32, 0, .ro, .observer, 0, 0, 4294967295, 0x0000⟩,
  ⟨0x4115, 0, 0, .u64, 0, .ro, .observer, 0, 0, 18446744073709551615, 0x0000⟩,
  ⟨0x4116, 0, 0, .u64, 0, .ro, .observer, 0, 0, 18446744073709551615, 0x0000⟩]

/-- Objects of 05 R138. -/
def objs_schedR138 : List Obj := [
  ⟨0x4200, 2, 4, .u8, 0, .rw, .maintainer, 0, 1, 255, 0x0000⟩,
  ⟨0x4201, 0, 0, .u8, 0, .rw, .maintainer, 16, 1, 64, 0x0000⟩,
  ⟨0x4202, 0, 0, .i16, 0, .rw, .maintainer, 0, (-3), 3, 0x0000⟩,
  ⟨0x4203, 0, 0, .u32, 0, .ro, .observer, 0, 0, 4294967295, 0x0000⟩,
  ⟨0x4204, 1, 30, .u64, 0, .ro, .observer, 0, 0, 18446744073709551615, 0x0000⟩,
  ⟨0x4205, 1, 4, .u64, 0, .ro, .observer, 0, 0, 18446744073709551615, 0x0000⟩,
  ⟨0x4206, 0, 0, .u64, 0, .ro, .observer, 0, 0, 18446744073709551615, 0x0000⟩,
  ⟨0x4207, 1, 30, .u32, 0, .ro, .observer, 0, 0, 4294967295, 0x0000⟩]

/-- Objects of 05 R139. -/
def objs_schedR139 : List Obj := [
  ⟨0x4300, 0, 0, .oct, 64, .rw, .operator, 0, 0, 0, 0x0000⟩,
  ⟨0x4301, 1, 16, .u16, 0, .rw, .operator, 256, 1, 4096, 0x0000⟩,
  ⟨0x4302, 1, 16, .u32, 0, .rw, .operator, 0, 0, 400000, 0x0000⟩,
  ⟨0x4303, 1, 16, .u32, 0, .rw, .operator, 1048576, 16384, 16777216, 0x0000⟩,
  ⟨0x4304, 1, 16, .u32, 0, .rw, .operator, 0, 0, 400000, 0x0000⟩,
  ⟨0x4305, 1, 16, .u32, 0, .rw, .operator, 2097152, 16384, 16777216, 0x0000⟩,
  ⟨0x4309, 0, 0, .u16, 0, .rw, .observer, 1, 1, 1024, 0x0000⟩,
  ⟨0x4310, 0, 0, .u32, 0, .rw, .operator, 0, 0, 400000, 0x4309⟩,
  ⟨0x4311, 0, 0, .u32, 0, .rw, .operator, 1048576, 16384, 16777216, 0x4309⟩,
  ⟨0x4312, 0, 0, .u32, 0, .rw, .operator, 0, 0, 400000, 0x4309⟩,
  ⟨0x4313, 0, 0, .u32, 0, .rw, .operator, 2097152, 16384, 16777216, 0x4309⟩,
  ⟨0x4320, 0, 0, .u8, 0, .rw, .operator, 20, 0, 63, 0x0000⟩,
  ⟨0x4330, 1, 32, .u64, 0, .ro, .observer, 0, 0, 18446744073709551615, 0x0000⟩,
  ⟨0x4331, 1, 32, .u64, 0, .ro, .observer, 0, 0, 18446744073709551615, 0x0000⟩,
  ⟨0x4332, 1, 32, .u64, 0, .ro, .observer, 0, 0, 18446744073709551615, 0x0000⟩]

/-- Objects of 06 R177. -/
def objs_xlatR177 : List Obj := [
  ⟨0x5000, 0, 0, .u32, 0, .ro, .observer, 0, 0, 4294967295, 0x0000⟩,
  ⟨0x5001, 0, 0, .u8, 0, .ro, .observer, 0, 0, 255, 0x0000⟩,
  ⟨0x5002, 0, 0, .u8, 0, .rws, .operator, 22, 10, 24, 0x0000⟩,
  ⟨0x5003, 0, 0, .u32, 0, .ro, .observer, 0, 0, 4294967295, 0x0000⟩,
  ⟨0x5004, 0, 0, .u32, 0, .ro, .observer, 0, 0, 4294967295, 0x0000⟩,
  ⟨0x5005, 0, 0, .u32, 0, .wo, .maintainer, 0, 0, 4294967295, 0x0000⟩,
  ⟨0x5006, 0, 0, .u8, 0, .rws, .operator, 9, 5, 50, 0x0000⟩,
  ⟨0x5007, 0, 0, .u64, 0, .ro, .observer, 0, 0, 18446744073709551615, 0x0000⟩,
  ⟨0x5010, 0, 0, .dur, 0, .rw, .operator, 500000000, 1000000, 4000000000, 0x0000⟩,
  ⟨0x5011, 0, 0, .u16, 0, .rw, .operator, 1024, 16, 2048, 0x0000⟩,
  ⟨0x5012, 0, 0, .dur, 0, .rw, .operator, 2000000, 100000, 100000000, 0x0000⟩,
  ⟨0x5013, 0, 0, .u16, 0, .rw, .operator, 1024, 16, 1024, 0x0000⟩,
  ⟨0x5014, 0, 0, .u8, 0, .rw, .operator, 64, 4, 64, 0x0000⟩,
  ⟨0x5015, 0, 0, .dur, 0, .rw, .operator, 1000000000, 0, 4294967295, 0x0000⟩,
  ⟨0x5016, 0, 0, .u8, 0, .rw, .operator, 90, 50, 99, 0x0000⟩,
  ⟨0x5017, 0, 0, .u32, 0, .rw, .operator, 60, 10, 3600, 0x0000⟩,
  ⟨0x5020, 0, 0, .u32, 0, .ro, .observer, 0, 0, 4294967295, 0x0000⟩,
  ⟨0x5021, 0, 0, .u32, 0, .ro, .observer, 0, 0, 4294967295, 0x0000⟩,
  ⟨0x5022, 0, 0, .u8, 0, .rw, .operator, 50, 0, 255, 0x0000⟩,
  ⟨0x5023, 0, 0, .u16, 0, .ro, .observer, 5376, 0, 65535, 0x0000⟩,
  ⟨0x5030, 0, 0, .u16, 0, .ro, .observer, 0, 0, 65535, 0x0000⟩,
  ⟨0x5031, 0, 0, .u16, 0, .ro, .observer, 0, 0, 65535, 0x0000⟩,
  ⟨0x5032, 0, 0, .u32, 0, .ro, .observer, 0, 0, 4294967295, 0x0000⟩,
  ⟨0x5033, 1, 3, .u64, 0, .ro, .observer, 0, 0, 18446744073709551615, 0x0000⟩,
  ⟨0x5034, 0, 0, .u64, 0, .ro, .observer, 0, 0, 18446744073709551615, 0x0000⟩,
  ⟨0x5035, 0, 0, .u32, 0, .ro, .observer, 0, 0, 4294967295, 0x0000⟩,
  ⟨0x5036, 0, 0, .u16, 0, .ro, .observer, 0, 0, 65535, 0x0000⟩,
  ⟨0x5037, 0, 0, .u32, 0, .ro, .observer, 0, 0, 4294967295, 0x0000⟩,
  ⟨0x5038, 0, 0, .time, 0, .ro, .observer, 0, 0, 18446744073709551615, 0x0000⟩]

/-- Objects of 07 R208. -/
def objs_mediaR208 : List Obj := [
  ⟨0x5100, 0, 0, .u8, 0, .rw, .operator, 6, 0, 6, 0x0000⟩,
  ⟨0x5101, 0, 0, .u32, 0, .ro, .observer, 0, 0, 4294967295, 0x0000⟩,
  ⟨0x5102, 0, 0, .u32, 0, .ro, .observer, 0, 0, 4294967295, 0x0000⟩,
  ⟨0x5103, 0, 0, .u64, 0, .ro, .observer, 0, 0, 18446744073709551615, 0x0000⟩,
  ⟨0x5104, 0, 0, .u16, 0, .ro, .observer, 0, 0, 65535, 0x0000⟩,
  ⟨0x5105, 0, 0, .u64, 0, .ro, .observer, 0, 0, 18446744073709551615, 0x0000⟩,
  ⟨0x5110, 0, 0, .u32, 0, .ro, .observer, 0, 0, 4294967295, 0x0000⟩,
  ⟨0x5111, 0, 0, .u16, 0, .rw, .operator, 30, 10, 200, 0x0000⟩,
  ⟨0x5112, 0, 0, .u16, 0, .rw, .operator, 40, 0, 65535, 0x0000⟩,
  ⟨0x5113, 0, 0, .u16, 0, .rw, .operator, 15, 0, 65535, 0x0000⟩,
  ⟨0x5114, 0, 0, .u64, 0, .ro, .observer, 0, 0, 18446744073709551615, 0x0000⟩,
  ⟨0x5115, 0, 0, .u64, 0, .ro, .observer, 0, 0, 18446744073709551615, 0x0000⟩,
  ⟨0x5120, 0, 0, .u16, 0, .rw, .operator, 100, 20, 500, 0x0000⟩,
  ⟨0x5121, 0, 0, .u16, 0, .rw, .maintainer, 1000, 800, 1300, 0x0000⟩,
  ⟨0x5122, 1, 24, .u16, 0, .ro, .observer, 0, 0, 65535, 0x0000⟩,
  ⟨0x5123, 1, 24, .u16, 0, .ro, .observer, 0, 0, 65535, 0x0000⟩,
  ⟨0x5130, 0, 0, .u16, 0, .rws, .operator, 25, 25, 100, 0x0000⟩,
  ⟨0x5131, 1, 24, .u32, 0, .ro, .observer, 0, 0, 4294967295, 0x0000⟩,
  ⟨0x5132, 1, 24, .u32, 0, .ro, .observer, 0, 0, 4294967295, 0x0000⟩,
  ⟨0x5133, 1, 24, .u32, 0, .ro, .observer, 0, 0, 4294967295, 0x0000⟩,
  ⟨0x5140, 0, 0, .u8, 0, .rw, .operator, 2, 0, 16, 0x0000⟩,
  ⟨0x5141, 0, 0, .u8, 0, .rw, .operator, 60, 30, 95, 0x0000⟩,
  ⟨0x5142, 0, 0, .u8, 0, .rw, .operator, 50, 10, 90, 0x0000⟩,
  ⟨0x5143, 0, 0, .u32, 0, .rw, .operator, 2592000, 86400, 31536000, 0x0000⟩,
  ⟨0x5144, 0, 0, .u64, 0, .ro, .observer, 0, 0, 18446744073709551615, 0x0000⟩,
  ⟨0x5145, 0, 0, .u64, 0, .ro, .observer, 0, 0, 18446744073709551615, 0x0000⟩,
  ⟨0x5146, 0, 0, .u32, 0, .rw, .observer, 0, 0, 4294967295, 0x0000⟩,
  ⟨0x5147, 0, 0, .u32, 0, .ro, .observer, 0, 0, 4294967295, 0x0000⟩,
  ⟨0x5150, 1, 24, .u8, 0, .ro, .observer, 0, 0, 255, 0x0000⟩,
  ⟨0x5151, 0, 0, .u8, 0, .rw, .operator, 50, 0, 255, 0x0000⟩,
  ⟨0x5152, 0, 0, .u8, 0, .rw, .operator, 75, 0, 255, 0x0000⟩,
  ⟨0x5153, 0, 0, .u16, 0, .rw, .operator, 900, 0, 65535, 0x0000⟩,
  ⟨0x6040, 1, 9, .u8, 0, .rw, .maintainer, 0, 1, 255, 0x0000⟩,
  ⟨0x6041, 0, 0, .u8, 0, .rw, .maintainer, 80, 50, 95, 0x0000⟩,
  ⟨0x6042, 0, 0, .u8, 0, .rw, .operator, 5, 0, 50, 0x0000⟩,
  ⟨0x6043, 0, 0, .u16, 0, .rw, .maintainer, 256, 16, 1024, 0x0000⟩,
  ⟨0x6044, 0, 0, .u8, 0, .rw, .operator, 80, 51, 99, 0x0000⟩,
  ⟨0x6045, 1, 9, .u64, 0, .ro, .observer, 0, 0, 18446744073709551615, 0x0000⟩]

/-- Objects of 08 R237. -/
def objs_stripeR237 : List Obj := [
  ⟨0x5200, 0, 0, .u8, 0, .rw, .operator, 12, 10, 24, 0x0000⟩,
  ⟨0x5201, 0, 0, .u8, 0, .ro, .observer, 0, 0, 255, 0x0000⟩,
  ⟨0x5202, 1, 24, .u8, 0, .ro, .observer, 0, 0, 255, 0x0000⟩,
  ⟨0x5203, 0, 0, .u32, 0, .ro, .observer, 0, 0, 4294967295, 0x0000⟩,
  ⟨0x5204, 0, 0, .u32, 0, .ro, .observer, 0, 0, 4294967295, 0x0000⟩,
  ⟨0x5205, 0, 0, .u16, 0, .rw, .operator, 48, 1, 256, 0x0000⟩,
  ⟨0x5206, 0, 0, .u32, 0, .rw, .operator, 0, 0, 4294967295, 0x0000⟩,
  ⟨0x5207, 0, 0, .u32, 0, .rw, .maintainer, 64, 0, 65536, 0x0000⟩,
  ⟨0x5208, 0, 0, .u64, 0, .ro, .observer, 0, 0, 18446744073709551615, 0x0000⟩,
  ⟨0x5209, 0, 0, .u64, 0, .ro, .observer, 0, 0, 18446744073709551615, 0x0000⟩,
  ⟨0x520A, 0, 0, .u8, 0, .rw, .operator, 3, 1, 10, 0x0000⟩,
  ⟨0x520B, 1, 24, .bool, 0, .wo, .maintainer, 0, 0, 1, 0x0000⟩,
  ⟨0x5210, 0, 0, .u8, 0, .ro, .observer, 0, 0, 255, 0x0000⟩,
  ⟨0x5211, 0, 0, .u32, 0, .ro, .observer, 0, 0, 4294967295, 0x0000⟩,
  ⟨0x5212, 0, 0, .u64, 0, .ro, .observer, 0, 0, 18446744073709551615, 0x0000⟩,
  ⟨0x5213, 0, 0, .u64, 0, .ro, .observer, 0, 0, 18446744073709551615, 0x0000⟩,
  ⟨0x5240, 1, 254, .oct, 32, .ro, .observer, 0, 0, 0, 0x0000⟩,
  ⟨0x5241, 0, 0, .u32, 0, .rw, .observer, 1, 0, 4294967295, 0x0000⟩,
  ⟨0x5242, 0, 0, .u32, 0, .ro, .observer, 0, 0, 4294967295, 0x0000⟩,
  ⟨0x5243, 0, 0, .u32, 0, .wo, .operator, 0, 0, 4294967295, 0x0000⟩,
  ⟨0x5244, 0, 0, .u64, 0, .ro, .observer, 0, 0, 18446744073709551615, 0x0000⟩]

/-- Objects of 09 R265. -/
def objs_cipherR265 : List Obj := [
  ⟨0x5300, 1, 104, .u8, 0, .ro, .observer, 0, 0, 255, 0x0000⟩,
  ⟨0x5301, 1, 104, .u32, 0, .ro, .observer, 0, 0, 4294967295, 0x0000⟩,
  ⟨0x5302, 0, 0, .u8, 0, .ro, .observer, 96, 0, 255, 0x0000⟩,
  ⟨0x5303, 0, 0, .u8, 0, .ro, .observer, 0, 0, 255, 0x0000⟩,
  ⟨0x5304, 0, 0, .u64, 0, .ro, .observer, 0, 0, 18446744073709551615, 0x0000⟩,
  ⟨0x5305, 0, 0, .u8, 0, .ro, .observer, 0, 0, 255, 0x0000⟩,
  ⟨0x5306, 0, 0, .u16, 0, .ro, .observer, 0, 0, 65535, 0x0000⟩,
  ⟨0x5307, 0, 0, .u16, 0, .ro, .observer, 0, 0, 65535, 0x0000⟩,
  ⟨0x5308, 0, 0, .u64, 0, .ro, .observer, 0, 0, 18446744073709551615, 0x0000⟩,
  ⟨0x5309, 0, 0, .u64, 0, .ro, .observer, 0, 0, 18446744073709551615, 0x0000⟩,
  ⟨0x5310, 0, 0, .u16, 0, .rw, .observer, 1, 1, 2048, 0x0000⟩,
  ⟨0x5311, 0, 0, .u16, 0, .rw, .operator, 0, 0, 1024, 0x5310⟩,
  ⟨0x5312, 0, 0, .u16, 0, .rw, .operator, 0, 0, 256, 0x5310⟩,
  ⟨0x5313, 0, 0, .oct, 48, .wo, .operator, 0, 0, 0, 0x5310⟩,
  ⟨0x5314, 0, 0, .u8, 0, .ro, .observer, 0, 0, 255, 0x5310⟩,
  ⟨0x5320, 0, 0, .u8, 0, .ro, .observer, 0, 0, 255, 0x3220⟩,
  ⟨0x5321, 0, 0, .u32, 0, .wo, .operator, 0, 0, 4294967295, 0x3220⟩,
  ⟨0x5322, 0, 0, .u32, 0, .ro, .observer, 0, 0, 4294967295, 0x3220⟩,
  ⟨0x5330, 0, 0, .oct, 32, .wo, .maintainer, 0, 0, 0, 0x0000⟩,
  ⟨0x5331, 0, 0, .oct, 40, .ro, .maintainer, 0, 0, 0, 0x0000⟩,
  ⟨0x5332, 0, 0, .oct, 40, .wo, .maintainer, 0, 0, 0, 0x0000⟩,
  ⟨0x5333, 0, 0, .u8, 0, .ro, .observer, 0, 0, 255, 0x0000⟩]

/-- Objects of 10 R305. -/
def objs_pairR305 : List Obj := [
  ⟨0x2100, 0, 0, .u8, 0, .ro, .observer, 0, 0, 255, 0x0000⟩,
  ⟨0x2101, 0, 0, .str, 16, .ro, .observer, 0, 0, 0, 0x0000⟩,
  ⟨0x2102, 0, 0, .u8, 0, .ro, .observer, 255, 0, 255, 0x0000⟩,
  ⟨0x2103, 0, 0, .u8, 0, .ro, .observer, 0, 0, 255, 0x0000⟩,
  ⟨0x2104, 0, 0, .u8, 0, .ro, .observer, 0, 0, 255, 0x0000⟩,
  ⟨0x2105, 0, 0, .u8, 0, .ro, .observer, 0, 0, 255, 0x0000⟩,
  ⟨0x2106, 0, 0, .bool, 0, .rws, .operator, 1, 0, 1, 0x0000⟩,
  ⟨0x2107, 0, 0, .u16, 0, .rw, .operator, 10, 1, 600, 0x0000⟩,
  ⟨0x2110, 0, 0, .u64, 0, .ro, .observer, 0, 0, 18446744073709551615, 0x0000⟩,
  ⟨0x2111, 0, 0, .u64, 0, .ro, .observer, 0, 0, 18446744073709551615, 0x0000⟩,
  ⟨0x2112, 0, 0, .u32, 0, .ro, .observer, 0, 0, 4294967295, 0x0000⟩,
  ⟨0x2113, 0, 0, .u8, 0, .rw, .operator, 3, 1, 8, 0x0000⟩,
  ⟨0x2114, 0, 0, .u64, 0, .ro, .observer, 0, 0, 18446744073709551615, 0x0000⟩,
  ⟨0x2115, 0, 0, .u32, 0, .ro, .observer, 0, 0, 4294967295, 0x0000⟩,
  ⟨0x2120, 0, 0, .u64, 0, .ro, .observer, 0, 0, 18446744073709551615, 0x0000⟩,
  ⟨0x2121, 0, 0, .u64, 0, .ro, .observer, 0, 0, 18446744073709551615, 0x0000⟩,
  ⟨0x2122, 0, 0, .u64, 0, .ro, .observer, 0, 0, 18446744073709551615, 0x0000⟩,
  ⟨0x2123, 0, 0, .u64, 0, .ro, .observer, 0, 0, 18446744073709551615, 0x0000⟩,
  ⟨0x2130, 0, 0, .u8, 0, .ro, .observer, 0, 0, 255, 0x0000⟩,
  ⟨0x2131, 0, 0, .bool, 0, .rw, .operator, 1, 0, 1, 0x0000⟩,
  ⟨0x2132, 0, 0, .u32, 0, .ro, .observer, 0, 0, 4294967295, 0x0000⟩,
  ⟨0x2133, 0, 0, .time, 0, .ro, .observer, 0, 0, 18446744073709551615, 0x0000⟩,
  ⟨0x2134, 0, 0, .dur, 0, .ro, .observer, 0, 0, 4294967295, 0x0000⟩,
  ⟨0x2140, 0, 0, .u32, 0, .wo, .operator, 0, 0, 4294967295, 0x0000⟩,
  ⟨0x2141, 0, 0, .dur, 0, .rw, .operator, 20000000, 1000000, 1000000000, 0x0000⟩,
  ⟨0x2142, 0, 0, .time, 0, .ro, .observer, 0, 0, 18446744073709551615, 0x0000⟩,
  ⟨0x2143, 0, 0, .u16, 0, .rw, .operator, 30, 0, 365, 0x0000⟩,
  ⟨0x2150, 0, 0, .u8, 0, .ro, .observer, 0, 0, 255, 0x0000⟩,
  ⟨0x2151, 0, 0, .u8, 0, .ro, .observer, 0, 0, 255, 0x0000⟩,
  ⟨0x2152, 0, 0, .dur, 0, .ro, .observer, 0, 0, 4294967295, 0x0000⟩,
  ⟨0x2153, 0, 0, .u8, 0, .rw, .operator, 3, 0, 10, 0x0000⟩,
  ⟨0x2154, 0, 0, .bool, 0, .wo, .operator, 0, 0, 1, 0x0000⟩,
  ⟨0x2160, 0, 0, .u8, 0, .ro, .observer, 0, 0, 255, 0x0000⟩,
  ⟨0x2161, 1, 24, .u64, 0, .ro, .observer, 0, 0, 18446744073709551615, 0x0000⟩,
  ⟨0x2170, 0, 0, .u8, 0, .wo, .maintainer, 0, 1, 2, 0x0000⟩,
  ⟨0x2171, 0, 0, .u32, 0, .wo, .maintainer, 0, 0, 4294967295, 0x0000⟩]

/-- Objects of 11 R326. -/
def objs_carrierR326 : List Obj := [
  ⟨0x6000, 1, 24, .str, 16, .ro, .observer, 0, 0, 0, 0x0000⟩,
  ⟨0x6001, 1, 24, .str, 32, .ro, .observer, 0, 0, 0, 0x0000⟩,
  ⟨0x6002, 1, 24, .oct, 8, .ro, .observer, 0, 0, 0, 0x0000⟩,
  ⟨0x6003, 1, 24, .u16, 0, .ro, .observer, 0, 0, 65535, 0x0000⟩,
  ⟨0x6004, 1, 24, .u8, 0, .ro, .observer, 0, 0, 255, 0x0000⟩,
  ⟨0x6005, 1, 24, .u8, 0, .ro, .observer, 0, 0, 255, 0x0000⟩,
  ⟨0x6006, 1, 24, .i16, 0, .ro, .observer, 0, (-32768), 32767, 0x0000⟩,
  ⟨0x6007, 1, 24, .u64, 0, .ro, .observer, 0, 0, 18446744073709551615, 0x0000⟩,
  ⟨0x6008, 1, 24, .u32, 0, .ro, .observer, 0, 0, 4294967295, 0x0000⟩,
  ⟨0x6009, 1, 24, .u32, 0, .ro, .observer, 0, 0, 4294967295, 0x0000⟩,
  ⟨0x600A, 1, 24, .u32, 0, .ro, .observer, 0, 0, 4294967295, 0x0000⟩,
  ⟨0x600B, 1, 24, .oct, 256, .ro, .maintainer, 0, 0, 0, 0x0000⟩,
  ⟨0x600C, 1, 24, .oct, 256, .ro, .maintainer, 0, 0, 0, 0x0000⟩,
  ⟨0x6010, 0, 0, .dur, 0, .rw, .maintainer, 2000000000, 500000000, 4000000000, 0x0000⟩,
  ⟨0x6011, 0, 0, .dur, 0, .rw, .maintainer, 50000000, 10000000, 1000000000, 0x0000⟩,
  ⟨0x6012, 0, 0, .u8, 0, .rw, .maintainer, 16, 4, 64, 0x0000⟩,
  ⟨0x6013, 0, 0, .u32, 0, .rw, .operator, 1000, 100, 60000, 0x0000⟩]

/-- Objects of 12 R349. -/
def objs_powerR349 : List Obj := [
  ⟨0x6100, 1, 2, .u16, 0, .ro, .observer, 0, 0, 65535, 0x0000⟩,
  ⟨0x6101, 1, 2, .u16, 0, .ro, .observer, 0, 0, 65535, 0x0000⟩,
  ⟨0x6102, 1, 2, .u8, 0, .ro, .observer, 0, 0, 255, 0x0000⟩,
  ⟨0x6103, 0, 0, .u32, 0, .ro, .observer, 0, 0, 4294967295, 0x0000⟩,
  ⟨0x6104, 0, 0, .dur, 0, .ro, .observer, 0, 0, 4294967295, 0x0000⟩,
  ⟨0x6105, 0, 0, .bool, 0, .wo, .maintainer, 0, 0, 1, 0x0000⟩,
  ⟨0x6106, 0, 0, .u32, 0, .ro, .observer, 0, 0, 4294967295, 0x0000⟩,
  ⟨0x6107, 0, 0, .time, 0, .ro, .observer, 0, 0, 18446744073709551615, 0x0000⟩,
  ⟨0x6108, 0, 0, .u16, 0, .ro, .observer, 0, 0, 65535, 0x0000⟩,
  ⟨0x6110, 1, 24, .u8, 0, .ro, .observer, 0, 0, 255, 0x0000⟩,
  ⟨0x6111, 1, 24, .bool, 0, .rw, .operator, 0, 0, 1, 0x0000⟩,
  ⟨0x6112, 1, 24, .bool, 0, .wo, .operator, 0, 0, 1, 0x0000⟩,
  ⟨0x6113, 1, 24, .u16, 0, .ro, .observer, 0, 0, 65535, 0x0000⟩,
  ⟨0x6114, 1, 24, .u16, 0, .ro, .observer, 0, 0, 65535, 0x0000⟩,
  ⟨0x6115, 1, 24, .i16, 0, .ro, .observer, 0, (-32768), 32767, 0x0000⟩,
  ⟨0x6116, 1, 24, .u32, 0, .ro, .observer, 0, 0, 4294967295, 0x0000⟩,
  ⟨0x6117, 1, 24, .u8, 0, .ro, .observer, 0, 0, 255, 0x0000⟩,
  ⟨0x6118, 1, 24, .u8, 0, .ro, .observer, 0, 0, 255, 0x0000⟩,
  ⟨0x6119, 1, 24, .u8, 0, .ro, .observer, 0, 0, 255, 0x0000⟩]

/-- Objects of 13 R366. -/
def objs_attachR366 : List Obj := [
  ⟨0x6200, 0, 0, .bool, 0, .rws, .operator, 0, 0, 1, 0x0000⟩,
  ⟨0x6201, 0, 0, .u8, 0, .ro, .observer, 0, 0, 255, 0x0000⟩,
  ⟨0x6203, 0, 0, .u16, 0, .rws, .operator, 0, 0, 256, 0x0000⟩,
  ⟨0x6204, 0, 0, .u16, 0, .rw, .operator, 0, 0, 1024, 0x0000⟩,
  ⟨0x6205, 0, 0, .u32, 0, .rws, .operator, 131072, 0, 4294967295, 0x0000⟩,
  ⟨0x6206, 0, 0, .u8, 0, .rws, .maintainer, 0, 0, 2, 0x0000⟩,
  ⟨0x6207, 0, 0, .u16, 0, .ro, .observer, 0, 0, 65535, 0x0000⟩,
  ⟨0x6208, 0, 0, .u32, 0, .ro, .observer, 0, 0, 4294967295, 0x0000⟩,
  ⟨0x6209, 0, 0, .u64, 0, .ro, .observer, 0, 0, 18446744073709551615, 0x0000⟩,
  ⟨0x620A, 0, 0, .u64, 0, .ro, .observer, 0, 0, 18446744073709551615, 0x0000⟩,
  ⟨0x620B, 0, 0, .u8, 0, .ro, .observer, 3, 0, 255, 0x0000⟩]

/-- Objects of 14 R396. -/
def objs_modeR396 : List Obj := [
  ⟨0x1100, 0, 0, .u8, 0, .ro, .observer, 0, 0, 255, 0x0000⟩,
  ⟨0x1101, 0, 0, .u8, 0, .ro, .observer, 0, 0, 255, 0x0000⟩,
  ⟨0x2000, 0, 0, .u8, 0, .ro, .observer, 0, 0, 255, 0x0000⟩,
  ⟨0x2001, 0, 0, .bool, 0, .rw, .operator, 1, 0, 1, 0x0000⟩,
  ⟨0x2002, 0, 0, .u8, 0, .ro, .observer, 0, 0, 255, 0x0000⟩,
  ⟨0x2003, 0, 0, .u8, 0, .rw, .operator, 3, 0, 3, 0x0000⟩,
  ⟨0x2004, 0, 0, .u8, 0, .ro, .observer, 0, 0, 255, 0x0000⟩,
  ⟨0x2005, 0, 0, .u32, 0, .wo, .maintainer, 0, 0, 4294967295, 0x0000⟩,
  ⟨0x2006, 0, 0, .time, 0, .ro, .observer, 0, 0, 18446744073709551615, 0x0000⟩,
  ⟨0x2007, 0, 0, .u8, 0, .ro, .observer, 0, 0, 255, 0x0000⟩,
  ⟨0x2010, 0, 0, .u8, 0, .rw, .operator, 70, 0, 255, 0x0000⟩,
  ⟨0x2011, 0, 0, .u8, 0, .rw, .operator, 50, 0, 255, 0x0000⟩,
  ⟨0x2012, 0, 0, .u8, 0, .rw, .operator, 8, 0, 255, 0x0000⟩,
  ⟨0x2013, 0, 0, .u8, 0, .rw, .operator, 15, 0, 255, 0x0000⟩,
  ⟨0x2014, 0, 0, .dur, 0, .rw, .maintainer, 50000, 10000, 10000000, 0x0000⟩,
  ⟨0x7000, 0, 0, .u32, 0, .ro, .observer, 1500, 0, 4294967295, 0x0000⟩,
  ⟨0x7001, 0, 0, .u8, 0, .ro, .observer, 0, 0, 255, 0x0000⟩,
  ⟨0x7002, 0, 0, .dur, 0, .ro, .observer, 0, 0, 4294967295, 0x0000⟩,
  ⟨0x7003, 0, 0, .u16, 0, .ro, .observer, 0, 0, 65535, 0x0000⟩,
  ⟨0x7010, 1, 36, .u8, 0, .ro, .observer, 0, 0, 255, 0x0000⟩,
  ⟨0x7011, 1, 36, .u8, 0, .ro, .observer, 0, 0, 255, 0x0000⟩,
  ⟨0x7012, 1, 6, .u8, 0, .rws, .maintainer, 0, 0, 255, 0x0000⟩,
  ⟨0x7013, 0, 0, .u8, 0, .ro, .observer, 0, 0, 255, 0x0000⟩,
  ⟨0x7014, 1, 36, .u32, 0, .ro, .observer, 0, 0, 4294967295, 0x0000⟩,
  ⟨0x7020, 1, 3, .u16, 0, .ro, .observer, 0, 0, 65535, 0x0000⟩,
  ⟨0x7021, 1, 3, .u16, 0, .ro, .observer, 0, 0, 65535, 0x0000⟩,
  ⟨0x7022, 1, 3, .i16, 0, .ro, .observer, 0, (-32768), 32767, 0x0000⟩,
  ⟨0x7023, 0, 0, .u16, 0, .ro, .observer, 0, 0, 65535, 0x0000⟩,
  ⟨0x7024, 1, 2, .i16, 0, .ro, .observer, 0, (-32768), 32767, 0x0000⟩,
  ⟨0x7025, 1, 2, .i16, 0, .ro, .observer, 0, (-32768), 32767, 0x0000⟩,
  ⟨0x7030, 1, 4, .u8, 0, .ro, .observer, 8, 0, 255, 0x0000⟩,
  ⟨0x7031, 1, 4, .u16, 0, .ro, .observer, 256, 0, 65535, 0x0000⟩,
  ⟨0x7040, 0, 0, .u16, 0, .ro, .observer, 0, 0, 65535, 0x0000⟩,
  ⟨0x7041, 0, 0, .u16, 0, .rw, .observer, 1, 0, 65535, 0x0000⟩,
  ⟨0x7042, 1, 16, .oct, 16, .ro, .observer, 0, 0, 0, 0x0000⟩,
  ⟨0x7043, 0, 0, .u16, 0, .wo, .maintainer, 0, 0, 65535, 0x0000⟩,
  ⟨0x7100, 0, 0, .u32, 0, .wo, .maintainer, 0, 0, 4294967295, 0x0000⟩,
  ⟨0x7101, 0, 0, .u8, 0, .ro, .observer, 0, 0, 255, 0x0000⟩,
  ⟨0x7102, 0, 0, .u32, 0, .rw, .maintainer, 86400, 3600, 2592000, 0x0000⟩]

/-- Objects of 15 R426. -/
def objs_mgmtR426 : List Obj := [
  ⟨0x1000, 0, 0, .str, 16, .ro, .observer, 0, 0, 0, 0x0000⟩,
  ⟨0x1001, 0, 0, .str, 16, .ro, .observer, 0, 0, 0, 0x0000⟩,
  ⟨0x1002, 1, 2, .str, 32, .ro, .observer, 0, 0, 0, 0x0000⟩,
  ⟨0x1004, 0, 0, .oct, 1024, .ro, .observer, 0, 0, 0, 0x0000⟩,
  ⟨0x1005, 0, 0, .oct, 1024, .ro, .observer, 0, 0, 0, 0x0000⟩,
  ⟨0x1006, 0, 0, .oct, 48, .ro, .observer, 0, 0, 0, 0x0000⟩,
  ⟨0x1007, 0, 0, .oct, 32, .wo, .observer, 0, 0, 0, 0x0000⟩,
  ⟨0x1008, 0, 0, .oct, 352, .ro, .observer, 0, 0, 0, 0x0000⟩,
  ⟨0x1010, 0, 0, .addr, 16, .rw, .maintainer, 0, 0, 0, 0x0000⟩,
  ⟨0x1011, 0, 0, .u8, 0, .rw, .maintainer, 0, 0, 255, 0x0000⟩,
  ⟨0x1012, 0, 0, .addr, 16, .rw, .maintainer, 0, 0, 0, 0x0000⟩,
  ⟨0x1013, 0, 0, .u16, 0, .rw, .maintainer, 47110, 0, 65535, 0x0000⟩,
  ⟨0x1014, 0, 0, .oct, 6, .ro, .observer, 0, 0, 0, 0x0000⟩,
  ⟨0x1015, 0, 0, .addr, 16, .rw, .maintainer, 0, 0, 0, 0x0000⟩,
  ⟨0x1016, 0, 0, .u8, 0, .rw, .maintainer, 0, 0, 32, 0x0000⟩,
  ⟨0x1017, 0, 0, .u16, 0, .rw, .maintainer, 0, 0, 4094, 0x0000⟩,
  ⟨0x1018, 0, 0, .u8, 0, .ro, .observer, 0, 0, 255, 0x0000⟩,
  ⟨0x1020, 1, 4, .oct, 1024, .rw, .maintainer, 0, 0, 0, 0x0000⟩,
  ⟨0x1021, 1, 4, .u8, 0, .rw, .maintainer, 0, 0, 2, 0x0000⟩,
  ⟨0x1022, 0, 0, .bool, 0, .ro, .observer, 0, 0, 1, 0x0000⟩,
  ⟨0x1030, 0, 0, .u8, 0, .rw, .maintainer, 0, 1, 2, 0x0000⟩,
  ⟨0x1031, 0, 0, .u32, 0, .rw, .maintainer, 0, 0, 4294967295, 0x0000⟩,
  ⟨0x1032, 0, 0, .oct, 1024, .wo, .maintainer, 0, 0, 0, 0x0000⟩,
  ⟨0x1033, 0, 0, .u32, 0, .wo, .maintainer, 0, 0, 4294967295, 0x0000⟩,
  ⟨0x1034, 0, 0, .u8, 0, .ro, .observer, 0, 0, 255, 0x0000⟩,
  ⟨0x1110, 0, 0, .u32, 0, .rw, .observer, 0, 0, 4294967295, 0x0000⟩,
  ⟨0x1111, 1, 16, .oct, 32, .ro, .observer, 0, 0, 0, 0x0000⟩,
  ⟨0x1112, 0, 0, .u32, 0, .ro, .observer, 0, 0, 4294967295, 0x0000⟩,
  ⟨0x1113, 0, 0, .u32, 0, .ro, .observer, 0, 0, 4294967295, 0x0000⟩,
  ⟨0x1114, 0, 0, .u32, 0, .rw, .operator, 600, 60, 86400, 0x0000⟩,
  ⟨0x8000, 0, 0, .u8, 0, .rw, .maintainer, 1, 1, 15, 0x0000⟩,
  ⟨0x8001, 0, 0, .bool, 0, .wo, .maintainer, 0, 0, 1, 0x8000⟩,
  ⟨0x8002, 0, 0, .u64, 0, .ro, .maintainer, 0, 0, 18446744073709551615, 0x8000⟩,
  ⟨0x8003, 1, 8, .u64, 0, .rw, .maintainer, 0, 0, 18446744073709551615, 0x8000⟩,
  ⟨0x8004, 1, 8, .u64, 0, .rw, .maintainer, 0, 0, 18446744073709551615, 0x8000⟩,
  ⟨0x8005, 1, 8, .u64, 0, .rw, .maintainer, 0, 0, 18446744073709551615, 0x8000⟩,
  ⟨0x8006, 1, 8, .u64, 0, .rw, .maintainer, 0, 0, 18446744073709551615, 0x8000⟩,
  ⟨0x8007, 0, 0, .u16, 0, .ro, .maintainer, 0, 0, 65535, 0x8000⟩,
  ⟨0x8008, 0, 0, .u32, 0, .ro, .maintainer, 0, 0, 4294967295, 0x0000⟩,
  ⟨0xF000, 0, 0, .u32, 0, .ro, .observer, 1, 0, 4294967295, 0x0000⟩]

/-- Objects of 15 R426. -/
def objs_mgmtR426b : List Obj := [
  ⟨0xF001, 0, 0, .u32, 0, .ro, .observer, 0, 0, 4294967295, 0x0000⟩,
  ⟨0xF002, 0, 0, .u32, 0, .wo, .maintainer, 0, 0, 4294967295, 0x0000⟩,
  ⟨0xF003, 0, 0, .u16, 0, .rw, .observer, 4096, 0, 65535, 0x0000⟩,
  ⟨0xF004, 0, 0, .oct, 16, .ro, .observer, 0, 0, 0, 0x0000⟩]

/-- Every object of the dictionary. -/
def objects : List Obj :=
  objs_netR61 ++ objs_commandR94 ++ objs_poolR116 ++ objs_schedR138 ++
  objs_schedR139 ++ objs_xlatR177 ++ objs_mediaR208 ++ objs_stripeR237 ++
  objs_cipherR265 ++ objs_pairR305 ++ objs_carrierR326 ++ objs_powerR349 ++
  objs_attachR366 ++ objs_modeR396 ++ objs_mgmtR426 ++ objs_mgmtR426b

end Sys2Proof.Machine
end

