-- ==== Sys2Proof/Machine/Table.lean ====
section
/-! DEFINITION. Operations on the sparse tables of State, whose keys rise strictly, and on its
vectors. -/

namespace Sys2Proof.Machine

/-- The entry at a key. -/
def Tbl.get? {α : Type} : Tbl α → Nat → Option α
  | [], _ => none
  | (k', v) :: m, k => if k = k' then some v else Tbl.get? m k

/-- Put an entry at a key, replacing the one there and keeping the keys rising. -/
def Tbl.put {α : Type} : Tbl α → Nat → α → Tbl α
  | [], k, v => [(k, v)]
  | (k', v') :: m, k, v =>
    if k < k' then (k, v) :: (k', v') :: m
    else if k = k' then (k, v) :: m
    else (k', v') :: Tbl.put m k v

/-- Remove the entry at a key. -/
def Tbl.del {α : Type} (m : Tbl α) (k : Nat) : Tbl α := m.filter fun p => p.1 ≠ k

/-- Change the entry at a key, if there is one. -/
def Tbl.upd {α : Type} (m : Tbl α) (k : Nat) (f : α → α) : Tbl α :=
  m.map fun p => if p.1 = k then (p.1, f p.2) else p

/-- A count held in a table, 0 when absent. -/
def Tbl.count (m : Tbl Nat) (k : Nat) : Nat := (Tbl.get? m k).getD 0

/-- Add to a count. -/
def Tbl.add (m : Tbl Nat) (k n : Nat) : Tbl Nat := Tbl.put m k (Tbl.count m k + n)

/-- Does the table hold the key? -/
def Tbl.has {α : Type} (m : Tbl α) (k : Nat) : Bool := (Tbl.get? m k).isSome

/-- The entries. -/
def Tbl.vals {α : Type} (m : Tbl α) : List α := m.map Prod.snd

/-- The keys. -/
def Tbl.keys {α : Type} (m : Tbl α) : List Nat := m.map Prod.fst

/-- Keys rise strictly. -/
def Tbl.wf {α : Type} (m : Tbl α) : Bool := decide (m.Pairwise fun a b => a.1 < b.1)

/-- The lowest key from `lo` upward that the table does not hold. -/
def Tbl.freeFrom {α : Type} (m : Tbl α) : Nat → Nat → Nat
  | lo, 0 => lo
  | lo, fuel + 1 => if Tbl.has m lo then Tbl.freeFrom m (lo + 1) fuel else lo

/-- Change one element of a vector. -/
def updAt {α : Type} {n : Nat} (v : Vector α n) (i : Fin n) (f : α → α) : Vector α n :=
  v.set i.val (f v[i.val]) i.isLt

/-- The element at a natural number, if it is in range. -/
def atNat {α : Type} {n : Nat} (v : Vector α n) (i : Nat) : Option α :=
  if h : i < n then some v[i] else none

/-- Change the element at a natural number, if it is in range. -/
def updNat {α : Type} {n : Nat} (v : Vector α n) (i : Nat) (f : α → α) : Vector α n :=
  if h : i < n then updAt v ⟨i, h⟩ f else v

/-- Replace one element of a list. -/
def setAt {α : Type} (l : List α) (i : Nat) (a : α) : List α := l.set i a

/-- The indices 0 to n - 1 whose elements satisfy a test. -/
def indices {α : Type} {n : Nat} (v : Vector α n) (p : α → Bool) : List Nat :=
  (List.range n).filter fun i => match atNat v i with
    | some a => p a
    | none => false

/-- The instance at a 1-based sub-index. -/
def instOf {n : Nat} (sub : Nat) : Option (Fin n) :=
  if h : 1 ≤ sub ∧ sub ≤ n then some ⟨sub - 1, by omega⟩ else none

/-- Move a key to the front of a list, most recently used first. -/
def touch (l : List Nat) (k : Nat) : List Nat := k :: l.filter (· ≠ k)

end Sys2Proof.Machine
end

