-- ==== Sys2Proof/Machine/Ops.lean ====
section
/-! DEFINITION. The operations every family shares: time, outputs, dictionary values, counts, events,
modes and their outputs, the pair clock, cycle-record entries, granules, and frames of the mirror link. -/

namespace Sys2Proof

def Val.toNat : Val → Nat
  | .num n => n.toNat
  | .oct b => Machine.leNat b

def Val.toInt : Val → Int
  | .num n => n
  | .oct b => Machine.leNat b

def Val.octets : Val → Bytes
  | .num _ => []
  | .oct b => b

def EvFilter.accepts (f : EvFilter) (e : LogEntry) : Bool :=
  f.lo ≤ e.code && e.code ≤ f.hi && f.sev ≤ e.severity

/-- Mode codes (00 R6). -/
def Mode.code : Mode → Nat
  | .reset => 0 | .boot => 1 | .isolated => 2 | .solo => 3 | .active => 4 | .standby => 5
  | .coldStandby => 6 | .takeover => 7 | .rejoin => 8 | .quiesced => 9 | .holdup => 10 | .safe => 11

def Mode.ofCode (n : Nat) : Option Mode :=
  [Mode.reset, .boot, .isolated, .solo, .active, .standby, .coldStandby, .takeover, .rejoin, .quiesced,
    .holdup, .safe][n]?

def PowerState.code : PowerState → Nat
  | .full => 0 | .trimmed => 1 | .dormant => 2 | .none => 255

/-- Modes in which the fault pair is asserted (14 R368, 10 R282). -/
def Mode.faulted : Mode → Bool
  | .reset | .boot | .isolated | .holdup | .safe => true
  | _ => false

/-- Modes whose pot is empty or lost (14 R368, 04 R115). -/
def Mode.potEmpty : Mode → Bool
  | .solo | .active | .quiesced => false
  | _ => true

end Sys2Proof

namespace Sys2Proof.Machine

/-! ### Updates of one part of the state -/

def State.onMode (s : State) (f : ModeSt → ModeSt) : State := { s with mode := f s.mode }
def State.onMgmt (s : State) (f : Mgmt → Mgmt) : State := { s with mgmt := f s.mgmt }
def State.onNet (s : State) (f : Net → Net) : State := { s with net := f s.net }
def State.onCmd (s : State) (f : CmdSt → CmdSt) : State := { s with cmd := f s.cmd }
def State.onPot (s : State) (f : Pot → Pot) : State := { s with pot := f s.pot }
def State.onCore (s : State) (f : Core → Core) : State := { s with core := f s.core }
def State.onEgress (s : State) (f : Egress → Egress) : State := { s with egress := f s.egress }
def State.onCipher (s : State) (f : Cipher → Cipher) : State := { s with cipher := f s.cipher }
def State.onKeys (s : State) (f : Keys → Keys) : State := { s with keys := f s.keys }
def State.onXlat (s : State) (f : Xlat → Xlat) : State := { s with xlat := f s.xlat }
def State.onMedia (s : State) (f : Media → Media) : State := { s with media := f s.media }
def State.onPair (s : State) (f : Pair → Pair) : State := { s with pair := f s.pair }
def State.onPower (s : State) (f : Power → Power) : State := { s with power := f s.power }
def State.onAttach (s : State) (f : Attach → Attach) : State := { s with attach := f s.attach }
def State.onRepair (s : State) (f : RepairSt → RepairSt) : State := { s with repair := f s.repair }
def State.onConns (s : State) (f : Tbl Conn → Tbl Conn) : State := { s with conns := f s.conns }
def State.onPools (s : State) (f : Vector PoolSt 16 → Vector PoolSt 16) : State :=
  { s with pools := f s.pools }
def State.onBays (s : State) (f : Vector BaySt 24 → Vector BaySt 24) : State :=
  { s with bays := f s.bays }

/-- The clock never runs backwards: a command carries the time at which it reaches the block. -/
def advance (t : Time) (s : State) : State := { s with now := max s.now t }

/-- Put something on a port, a link or a pin. -/
def emit (e : Emit) (s : State) : State := { s with out := s.out ++ [e] }

/-- The index of the next free value, and the state that will draw the one after it. -/
def draw (s : State) : Nat × State := (s.fresh, { s with fresh := s.fresh + 1 })

/-- Change one entry of a connection, a command, a port, a carrier or a bay. -/
def onConn (c : Nat) (f : Conn → Conn) (s : State) : State := s.onConns fun m => Tbl.upd m c f
def onCommand (id : Nat) (f : Cmd → Cmd) (s : State) : State :=
  s.onCmd fun d => { d with cmds := Tbl.upd d.cmds id f }
def onCtrl (id : Nat) (f : Ctrl → Ctrl) (s : State) : State :=
  s.onCmd fun d => { d with ctrls := Tbl.upd d.ctrls id f }
def onPort (p : Nat) (f : PortSt → PortSt) (s : State) : State :=
  s.onNet fun n => { n with ports := updNat n.ports p f }
def onCar (b : Nat) (f : Car → Car) (s : State) : State :=
  s.onMedia fun m => { m with cars := updNat m.cars b f }
def onBay (b : Nat) (f : BaySt → BaySt) (s : State) : State := s.onBays fun v => updNat v b f

def connOf (s : State) (c : Nat) : Option Conn := Tbl.get? s.conns c
def cmdOf (s : State) (id : Nat) : Option Cmd := Tbl.get? s.cmd.cmds id
def carOf (s : State) (b : Nat) : Car := (atNat s.media.cars b).getD Car.reset
def bayOf (s : State) (b : Nat) : BaySt := (atNat s.bays b).getD BaySt.reset
def portOf (s : State) (p : Nat) : PortSt := (atNat s.net.ports p).getD PortSt.reset

/-- Apply a function to each element in turn. -/
def each {α : Type} (l : List α) (f : α → State → State) (s : State) : State :=
  l.foldl (fun s a => f a s) s

/-- Do something only when a condition holds. -/
def when (b : Bool) (f : State → State) (s : State) : State := if b then f s else s

/-! ### Dictionary values (15 R398, R399, 16 R428) -/

/-- The row of an index; none for a reserved index (16 R428). -/
def objOf (idx : Nat) : Option Obj := objects.find? fun o => o.idx == idx

/-- Kitty and cap of pools 2 to 16 (04 R96). -/
def kittyDefault (sub : Nat) : Nat :=
  [0, 131072, 65536, 262144, 65536, 262144, 32768, 131072, 131072, 65536, 16384, 8192, 65536, 4096,
    16384, 4096].getD (sub - 1) 0

def capDefault (sub : Nat) : Nat :=
  [0, 1048576, 524288, 1048576, 524288, 786432, 131072, 524288, 524288, 262144, 65536, 32768, 262144,
    16384, 262144, 65536].getD (sub - 1) 0

/-- Defaults that differ by sub-index (04 R96, 05 R138, 07 R204, 14 R384). -/
def dfltOfSub (idx sub : Nat) : Option Nat :=
  if idx = 0x4000 then some (kittyDefault sub)
  else if idx = 0x4001 then some (capDefault sub)
  else if idx = 0x4200 then some ([0, 12, 3, 1].getD (sub - 1) 0)
  else if idx = 0x6040 then some ([1, 12, 8, 8, 2, 2, 2, 2, 1].getD (sub - 1) 0)
  else if idx = 0x7012 then some ([8, 8, 8, 4, 2, 2].getD (sub - 1) 0)
  else none

/-- Octets of a STR default. -/
def strOctets (t : String) : Bytes := t.toList.map fun c => BitVec.ofNat 8 c.toNat

/-- Default of an object's sub-index. -/
def Obj.default (o : Obj) (sub : Nat) : Val :=
  match dfltOfSub o.idx sub with
  | some n => .num n
  | none =>
    if o.idx = 0x1001 then .oct (strOctets "AL2432")
    else if o.idx = 0x4102 then .oct (List.replicate 256 0xFF#8)
    else if o.idx = 0x4300 then .oct (List.replicate 64 0x01#8)
    else match o.ty with
      | .str => .oct []
      | .oct | .addr => .oct (List.replicate o.len 0)
      | _ => .num o.dflt

/-- Key of a value in `dict`. -/
def ckey (idx sub rec : Nat) : Nat := (idx * 256 + sub) * 4096 + rec

/-- The value held at an object. -/
def dval (idx sub rec : Nat) (s : State) : Val :=
  match Tbl.get? s.dict (ckey idx sub rec) with
  | some v => v
  | none => match objOf idx with
    | some o => o.default sub
    | none => .num 0

def dnat (idx sub rec : Nat) (s : State) : Nat := (dval idx sub rec s).toNat
def doct (idx sub rec : Nat) (s : State) : Bytes := (dval idx sub rec s).octets
def flag (idx sub rec : Nat) (s : State) : Bool := dnat idx sub rec s ≠ 0

/-- Value of a scalar setting. -/
def cfg (idx : Nat) (s : State) : Nat := dnat idx 0 0 s

/-- Hold a value; a value equal to the default is not listed. -/
def putDict (idx sub rec : Nat) (v : Val) (s : State) : State :=
  let isDefault : Bool := match objOf idx with
    | some o => decide (o.default sub = v)
    | none => false
  { s with dict := if isDefault then Tbl.del s.dict (ckey idx sub rec)
                   else Tbl.put s.dict (ckey idx sub rec) v }

/-- Is every octet zero? -/
def allZero (b : Bytes) : Bool := b.all (· == 0)

/-- Bit `k` of an OCT value (00 R452). -/
def octBit (b : Bytes) (k : Nat) : Bool := (b.getD (k / 8) 0).getLsbD (k % 8)

/-! ### Counts (15 R419) -/

/-- Add to an RO count. -/
def bump (idx sub n : Nat) (s : State) : State :=
  s.onMgmt fun m => { m with counts := Tbl.add m.counts (idx * 256 + sub) n }

def countOf (idx sub : Nat) (s : State) : Nat := Tbl.count s.mgmt.counts (idx * 256 + sub)

/-- Raise an RO high-water mark. -/
def peak (idx sub v : Nat) (s : State) : State :=
  if countOf idx sub s < v then
    s.onMgmt fun m => { m with counts := Tbl.put m.counts (idx * 256 + sub) v }
  else s

/-- Set an RO value that is held among the counts. -/
def setCount (idx sub v : Nat) (s : State) : State :=
  s.onMgmt fun m => { m with counts := Tbl.put m.counts (idx * 256 + sub) v }

/-! ### Events (15 R416 to R418, 16 R433, R434) -/

/-- Codes of severity 0, 1, 3 and 4; every other code is a warning (16 R433). -/
def sev0 : List Nat := [0x1004, 0x2002, 0x210B, 0x3002, 0x4102, 0x5107, 0x6001, 0x6102, 0x6110, 0x6201,
  0x7101, 0xF001]
def sev1 : List Nat := [0x1002, 0x1003, 0x2001, 0x2101, 0x210C, 0x210E, 0x210F, 0x3011, 0x3203, 0x4001,
  0x4101, 0x4201, 0x5002, 0x5004, 0x5101, 0x5106, 0x5108, 0x5204, 0x5207, 0x5208, 0x520A, 0x5308,
  0x530A, 0x6007, 0x600B, 0x6116, 0x6202, 0x6204, 0x6207, 0x7001, 0x7006, 0xF002]
def sev3 : List Nat := [0x1101, 0x2102, 0x2104, 0x2105, 0x2106, 0x210D, 0x2112, 0x2113, 0x3003, 0x3010,
  0x3020, 0x5005, 0x5007, 0x5008, 0x5103, 0x510A, 0x5201, 0x5209, 0x520B, 0x520C, 0x520E, 0x5302,
  0x5304, 0x5306, 0x5309, 0x530B, 0x6004, 0x6005, 0x6006, 0x6009, 0x6101, 0x6104, 0x6106, 0x6112,
  0x6113, 0x6120, 0x6205, 0x7002, 0x7005, 0x7007, 0x7008]
def sev4 : List Nat := [0x2003, 0x2109, 0x210A, 0x2115, 0x4002, 0x5105, 0x5202, 0x5203, 0x5206, 0x5305,
  0x6121]

/-- Severity of an event code (16 R433). -/
def severity (code : Nat) : Nat :=
  if sev0.contains code then 0 else if sev1.contains code then 1 else if sev3.contains code then 3
  else if sev4.contains code then 4 else 2

/-- Entries the log region holds (15 R414). -/
def logCapacity : Nat := 196608

/-- Write the pending entries to boot flash; the ring overwrites its oldest (15 R416). -/
def flushLog (s : State) : State :=
  s.onMgmt fun m =>
    let l := m.log ++ m.pendingLog
    { m with log := l.drop (l.length - logCapacity), pendingLog := [] }

/-- Queue an entry for a session whose filters match it; a queue of 1,024 drops its oldest
(15 R418). -/
def Session.offer (e : LogEntry) (x : Session) : Session :=
  match x.sub with
  | none => x
  | some sb =>
    if sb.filters.any (·.accepts e) then
      let q := x.notifyQ ++ [e]
      { x with notifyQ := q.drop (q.length - 1024), gap := x.gap || decide (1024 < q.length) }
    else x

/-- Log an event with a given time stamp: SEQ never at or above the limit held in flash, which rises
by 4,096 first; 64 pending entries are written (15 R416). -/
def raiseAt (time : Time) (rom : Bool) (code inst value idx sub : Nat) (s : State) : State :=
  let m := s.mgmt
  let e : LogEntry :=
    { time, seq := m.eventNext, code, severity := severity code, instNo := inst, value, rom
      object := if idx = 0 then 0 else idx * 256 + sub }
  let m : Mgmt := { m with
    pendingLog := m.pendingLog ++ [e], eventNext := m.eventNext + 1,
    eventLimit := if m.eventNext < m.eventLimit then m.eventLimit else m.eventLimit + 4096,
    sessions := m.sessions.map fun p => (p.1, p.2.offer e) }
  let s := { s with mgmt := m }
  if 64 ≤ m.pendingLog.length then flushLog s else s

/-- Log an event now: its code, instance, value and the object that reports the value. -/
def raise (code inst value idx sub : Nat) (s : State) : State :=
  raiseAt s.now false code inst value idx sub s

/-- Log an event at most once in a span of time for each instance. -/
def raiseWithin (span code inst value idx sub : Nat) (s : State) : State :=
  let k := code * 4096 + inst
  match Tbl.get? s.mgmt.raisedAt k with
  | some t =>
    if s.now < t + span then s
    else (raise code inst value idx sub s).onMgmt fun m => { m with raisedAt := Tbl.put m.raisedAt k s.now }
  | none =>
    (raise code inst value idx sub s).onMgmt fun m => { m with raisedAt := Tbl.put m.raisedAt k s.now }

def second : Nat := 1000000000
def milli : Nat := 1000000
def micro : Nat := 1000

/-- Log an event at most once a second. -/
def raiseLimited (code inst value idx sub : Nat) (s : State) : State :=
  raiseWithin second code inst value idx sub s

/-! ### Modes (00 R6, 14 R368, R369, R377) -/

/-- Is the module in one of the modes? -/
def inMode (l : List Mode) (s : State) : Bool := l.contains s.mode.mode

/-- Modes that transmit to hosts (14 R368); a module whose fault outputs have fallen does not (10 R282). -/
def transmits (s : State) : Bool := inMode [.solo, .active, .quiesced] s && !s.mode.healthLost

/-- Modes in which frames of hosts are taken for processing (14 R368, 02 R56). -/
def receives (s : State) : Bool :=
  inMode [.solo, .active, .quiesced, .standby, .rejoin, .takeover] s

/-- Modes that take the decisions named in the cycle record (10 R272). -/
def decides (s : State) : Bool := inMode [.solo, .active, .quiesced, .takeover] s

/-- Modes that issue media commands (14 R368; 10 R282). -/
def mediaAllowed (s : State) : Bool := inMode [.solo, .active, .quiesced, .takeover] s && !s.mode.healthLost

/-- Modes that issue administrative carrier commands (14 R368). -/
def adminAllowed (s : State) : Bool :=
  inMode [.isolated, .solo, .active, .quiesced, .takeover, .standby, .coldStandby, .rejoin] s

/-- Power state on entering a mode; the automatic policy keeps the state held (14 R377). -/
def powerOn (m : Mode) (policy : Nat) (p : PowerState) : PowerState :=
  match m with
  | .boot | .takeover | .rejoin => .full
  | .isolated | .safe => .dormant
  | .reset | .holdup => .none
  | _ => match policy with
    | 0 => .full
    | 1 => .trimmed
    | 2 => .dormant
    | _ => p

/-- The power state; a change raises event 0x2002, and in full no element is gated (14 R375, R377). -/
def setPower (p : PowerState) (s : State) : State :=
  if s.mode.power = p then s
  else
    raise 0x2002 0 p.code 0x2002 0
      (s.onMode fun x => { x with power := p, gated := if p = .full then [] else x.gated })

/-- Empty the pot: no buffer, no queue, no granule held (04 R115). -/
def emptyPot (s : State) : State :=
  (s.onPot fun p => { p with bufs := [], ring := [], hand := none, mark := none,
                             handOn := false, missQ := [] }).onPools
    fun v => updNat v 0 fun q => { q with used := 0 }

/-- What holds in every mode by the mode alone (14 R368): the fault outputs are low in the modes that
assert the fault pair or without the health signal (10 R281) and high in the others (10 R282), and the pot is empty in the modes in which it
holds nothing (04 R115). -/
def settle (s : State) : State :=
  let s := if s.mode.mode.potEmpty then emptyPot s else s
  { s with pair := { s.pair with faultOut := if s.mode.mode.faulted || s.mode.healthLost then 0 else 3 } }

/-- The end of a command at time `t` on `s` whose effect has led to `x`: the outputs and the pot follow the
mode. No command writes the queue of commands, the identity of the module or the clock. -/
def finish (t : Time) (s x : State) : State :=
  { settle x with
    pending := s.pending
    ident := s.ident
    now := max s.now t }

/-- A command at time `t`: the clock comes to `t`, the effect `f` takes place, and the outputs follow the
mode. -/
def act (t : Time) (f : State → State) (s : State) : Host.Outcome State Fault Refusal :=
  .next (finish t s (f (advance t s)))

/-- A mode counts events (false) or raw signals (true), or no counter runs in it (15 R422, R423). -/
def countsRaw : Mode → Option Bool
  | .isolated | .solo | .active | .standby | .coldStandby | .takeover | .quiesced => some false
  | .boot | .rejoin | .safe => some true
  | .reset | .holdup => none

/-- Is a counter enabled? `b` and `i` count from 0 (15 R421). -/
def ctrOn (b i : Nat) (s : State) : Bool := (BitVec.ofNat 64 (dnat 0x8004 (i + 1) (b + 1) s)).getLsbD 25

/-- A change between counting and raw counting sets the mixed bit of every enabled counter (15 R423). -/
def mixCounters (m : Mode) (s : State) : State :=
  let armed := s.dict.any fun p => p.1 / 1048576 = 0x8004
  match countsRaw s.mode.mode, countsRaw m with
  | some a, some b =>
    if a = b || !armed then s
    else
      let one : Fin 15 → Fin 8 → Ctr → Ctr := fun k i c => { c with mixed := c.mixed || ctrOn k.val i.val s }
      let all : Fin 15 → CtrBlock → CtrBlock := fun k b =>
        { b with ctrs := Vector.ofFn fun i => one k i b.ctrs[i.val] }
      s.onMgmt fun g => { g with blocks := Vector.ofFn fun k => all k g.blocks[k.val] }
  | _, _ => s

/-- Enter a mode: the mode and its time, the fault outputs, the power state, the pot, and event
0x2001 for a change (14 R368, R369, R377). -/
def enterMode (m : Mode) (s : State) : State :=
  let changed := s.mode.mode ≠ m
  let s := (mixCounters m s).onMode fun x => { x with mode := m, since := s.now, lastMode := m }
  setPower (powerOn m (cfg 0x2003 s) s.mode.power) (when changed (raise 0x2001 0 m.code 0x2000 0) s)

/-- Management sessions end, and with a session the image load it holds: a slot left partly written reads as
failed (15 R401, R415). -/
def endSome (gone : Nat → Session → Bool) (s : State) : State :=
  let cut := s.mgmt.loadState = 1 && (s.mgmt.sessions.any fun p => p.2.loading && gone p.1 p.2)
  s.onMgmt fun m => { m with
    sessions := m.sessions.filter fun p => !gone p.1 p.2,
    loadState := if cut then 3 else m.loadState }

/-- Every management session ends. -/
def endSessions (s : State) : State := endSome (fun _ _ => true) s

/-- The lower of two SAFE causes is kept when they meet; an earlier cause stays (14 R372, R395). -/
def enterSafe (cause : Nat) (s : State) : State :=
  if inMode [.reset, .boot, .holdup] s then s
  else if inMode [.safe] s then
    s.onMode fun x => { x with safeCause := if x.since = s.now then min x.safeCause cause else x.safeCause }
  else
    let s := s.onMode fun x => { x with safeCause := cause, quiesceBy := .none, handover := none }
    let s := enterMode .safe s
    let s := raise 0x2003 0 cause 0x2007 0 s
    if cause = 7 then endSessions s
    else endSome (fun _ x => decide (x.path = .inband)) s

/-! ### Cycle records (10 R271 to R273) -/

/-- Bytes of an entry: its 8-byte header and its body. The spec gives the body's contents, not its
length; these lengths are the widths of the fields (DESIGN CHOICE, log entry 12). -/
def entryLen : RecEntry → Nat
  | .rxPosition .. | .txPosition .. => 24
  | .connOpen .. => 96
  | .connEnd .. | .abort .. | .writeFailed .. => 16
  | .admitted .. | .dispatch .. => 16
  | .place .. => 40
  | .placeZero .. => 32
  | .plan .. => 48
  | .mapLb .. => 40
  | .mapBand .. => 264
  | .addRun .. => 40
  | .dropRuns .. | .discardLb .. => 32
  | .journalAdd .. => 264
  | .journalDel .. => 16
  | .slotState .. => 32
  | .carrierState .. | .talon .. | .retireEu .. | .readOnly .. | .wear .. => 24
  | .carrierAdmit .. => 264
  | .lostRange .. => 40
  | .neighbour .. => 40
  | .config _ _ _ v => 24 + (match v with | .num _ => 8 | .oct b => b.length)
  | .nsKey .. => 96
  | .psk .. => 72
  | .reserve .. => 24
  | .arrayGeo .. | .nsLbs .. | .logBand .. | .context .. => 48

/-- Bytes of a record: its 64-byte header and its entries (10 R271). -/
def recordLen (l : List RecEntry) : Nat := 64 + (l.map entryLen).sum

/-- Time of the pair clock (10 R270). -/
def pairTime (s : State) : Time := s.now + s.pair.clockAhead

/-- Number of the record that a decision taken now enters (10 R273). -/
def recCycle (s : State) : Nat :=
  if s.pair.heldEntries.isEmpty then s.pair.cycle else s.pair.cycle + 1

/-- A decision enters the record of the cycle in which it is taken; one that would take the record
past 65,536 bytes waits for the next (10 R272, R273). Only a module that decides records. -/
def record (e : RecEntry) (s : State) : State :=
  if decides s then
    if s.pair.heldEntries.isEmpty && decide (recordLen s.pair.entries + entryLen e ≤ 65536) then
      s.onPair fun p => { p with entries := p.entries ++ [e] }
    else
      raiseLimited 0x2103 0 (recordLen s.pair.entries) 0x2115 0
        (s.onPair fun p => { p with heldEntries := p.heldEntries ++ [e] })
  else s

/-! ### Granules (04 R96 to R98) -/

/-- Granules of the pool region (01 R22). -/
def poolRegion : Nat := 3145728

def poolUsed (s : State) (p : Nat) : Nat := ((atNat s.pools p).getD { used := 0, peak := 0 }).used
def kitty (s : State) (p : Nat) : Nat := dnat 0x4000 (p + 1) 0 s
def capOf (s : State) (p : Nat) : Nat := dnat 0x4001 (p + 1) 0 s

/-- Free granules of the pool region. -/
def poolFree (s : State) : Nat :=
  poolRegion - ((List.range 15).map fun i => poolUsed s (i + 1)).sum

/-- Granules the other pools' kitties still claim. -/
def reserveOther (s : State) (p : Nat) : Nat :=
  ((List.range 15).map fun i => if i + 1 = p then 0 else kitty s (i + 1) - poolUsed s (i + 1)).sum

/-- Granules of the pot region by POT_SIZE (04 R114). -/
def potTarget (s : State) : Nat := cfg 0x4100 s * 256

/-- The pot region takes a size; the rest of the pot's 40 GiB is reserve, beside the 9 GiB of firmware, spill and
reserve (01 R22; 04 R114). -/
def setRegion (n : Nat) (s : State) : State :=
  s.onPot fun p => { p with region := n, reserve := 9 * 262144 + (40960 * 256 - n) }

/-- Free granules of the pot region: those beyond a reduced size are not granted again. -/
def pourFree (s : State) : Nat := potTarget s - poolUsed s 0

/-- Does the manager grant n granules to pool index p (pool number less 1)? (04 R98) -/
def grants (s : State) (p n : Nat) : Bool :=
  if p = 0 then decide (n ≤ pourFree s)
  else decide (poolUsed s p + n ≤ capOf s p) && decide (n ≤ poolFree s - reserveOther s p)

/-- Take the granules of a request that is granted. -/
def takeGranules (p n : Nat) (s : State) : State :=
  s.onPools fun v => updNat v p fun q =>
    { q with used := q.used + n, peak := max q.peak (q.used + n) }

/-- A refusal is counted and event 0x4001 raised at most once a second for each pool (04 R98, R117). -/
def refuseGranules (p : Nat) (s : State) : State :=
  raiseLimited 0x4001 (p + 1) (poolUsed s p) 0x4002 (p + 1) (bump 0x4003 (p + 1) 1 s)

/-- A request for granules: granted whole, or refused (04 R98). -/
def request (p n : Nat) (s : State) : Bool × State :=
  if grants s p n then (true, takeGranules p n s) else (false, refuseGranules p s)

/-- Granules return to their pool. -/
def giveBack (p n : Nat) (s : State) : State :=
  s.onPools fun v => updNat v p fun q => { q with used := q.used - n }

/-- Pools by index: the pool's number less 1 (04 R96). -/
def poolPour : Nat := 0
def poolTcpRx : Nat := 1
def poolRoceRx : Nat := 2
def poolWriteIn : Nat := 3
def poolMirrorIn : Nat := 4
def poolStripe : Nat := 5
def poolParity : Nat := 6
def poolMerge : Nat := 7
def poolRebuild : Nat := 8
def poolRecon : Nat := 9
def poolControl : Nat := 10
def poolMgmt : Nat := 11
def poolAttach : Nat := 12
def poolCarAdmin : Nat := 13
def poolSnapshot : Nat := 14
def poolSelfTest : Nat := 15

/-! ### The repair map (14 R382, R383) -/

/-- A repair enters the field map; one that finds it full holds for the running session only, event 0x7005. -/
def addRepair (kind source inst detail : Nat) (s : State) : State :=
  if 1024 ≤ s.repair.field.length then raise 0x7005 inst 1024 0x7040 0 s
  else s.onRepair fun r =>
    { r with field := r.field ++ [{ time := s.now, kind, source, instNo := inst, detail }] }

/-- A module replacement trigger: the reason bit, and event 0x1101 for each new bit (14 R394). -/
def addReason (k : Nat) (s : State) : State :=
  if s.repair.reason.getLsbD k then s
  else
    let s := s.onRepair fun r => { r with reason := r.reason ||| (1#8 <<< k) }
    raise 0x1101 0 s.repair.reason.toNat 0x1101 0 s

/-! ### The mirror link (10 R268, R269) -/

/-- Granules that this module can take in MIRROR_IN (10 R268 CREDIT; 04 R100). -/
def mirrorCredit (s : State) : Nat :=
  min (capOf s poolMirrorIn - poolUsed s poolMirrorIn) (poolFree s - reserveOther s poolMirrorIn)

/-- Header of the next frame: ACK names the last frame accepted in order. -/
def mirrorHeader (s : State) : MirHdr :=
  { mode := s.mode.mode.code, cycle := s.pair.cycle, epoch := s.pair.epoch, seq := s.pair.txSeq
    credit := mirrorCredit s, ack := s.pair.rxSeq - 1, checkOk := true }

/-- Send a frame on the mirror link: it takes the next SEQ and is kept until an ACK covers it; every frame
carries the ACK that is owed. A link that is down carries nothing. -/
def mirSend (e : Emit) (s : State) : State :=
  if s.pair.link = 2 then
    emit (.mirror (mirrorHeader s) e) (s.onPair fun p => { p with
      txSeq := p.txSeq + 1, unacked := p.unacked ++ [(p.txSeq, 1)], ackOwed := false })
  else s

end Sys2Proof.Machine
end

