-- ==== Sys2Proof/Machine/Operands.lean ====
section
/-! DEFINITION. The operand of a management write: which object and record it names, and the checks
of 15 R405 before any rule of the object's own chapter; then how a value is stored by its scope. -/

namespace Sys2Proof.Machine

/-- Privileges rise (00). -/
def privRank : Priv → Nat
  | .observer => 0 | .operator => 1 | .maintainer => 2 | .factory => 3

/-- Privilege by the code of ANCHOR_PRIVILEGE and MAILBOX_PRIVILEGE. -/
def privOfCode : Nat → Priv
  | 0 => .observer | 1 => .operator | _ => .maintainer

/-- Session-scope objects (15 R398). -/
def sessionScope : List Nat :=
  [0x1007, 0x1110, 0x3200, 0x3210, 0x3220, 0x4309, 0x5146, 0x5241, 0x5310, 0x7041, 0x8000, 0xF003]

/-- Scope of an object (15 R398). -/
def scopeOf (o : Obj) : Scope :=
  let i := o.idx
  if sessionScope.contains i then .session
  else if o.acc = .ro then .module
  else if (0x1000 ≤ i && i ≤ 0x11FF) || (0x2001 ≤ i && i ≤ 0x2014) || i = 0x2106 || i = 0x2107
    || i = 0x2140 || i = 0x2154 || i = 0x2170 || i = 0x2171 || i = 0x3000 || i = 0x3004
    || i = 0x3005 || (0x5330 ≤ i && i ≤ 0x5332) || i = 0x6105 || i = 0x6112
    || (0x6200 ≤ i && i ≤ 0x6206) || i = 0x7012 || i = 0x7043 || i = 0x7100 || i = 0x7102
    || (0x8000 ≤ i && i ≤ 0x80FF) || (0xF000 ≤ i && i ≤ 0xF0FF) then .module
  else .pair

/-- Default of a session-scope object. -/
def selDefault (idx : Nat) : Nat := match objOf idx with
  | some o => o.dflt.toNat
  | none => 0

/-- Value a session holds for a selector or a window base (03 R93, 15 R398). -/
def selOf (x : Session) (idx : Nat) : Nat := (Tbl.get? x.sel idx).getD (selDefault idx)

/-- The record a session's selector names for an object (03 R93). -/
def recOf (x : Session) (o : Obj) : Nat := if o.sel = 0 then 0 else selOf x o.sel

/-- Is the sub-index defined? Blocks 14 and 15 have four counters (15 R420, 16 R430). -/
def subOk (o : Obj) (r sub : Nat) : Bool :=
  if o.hi = 0 then sub = 0
  else sub = 0 || (o.lo ≤ sub && sub ≤ o.hi &&
    !(0x8003 ≤ o.idx && o.idx ≤ 0x8006 && (r = 14 || r = 15) && 4 < sub))

/-- Sub-index 0 of an array is RO (16 R430). -/
def isCount (o : Obj) (sub : Nat) : Bool := o.hi ≠ 0 && sub = 0

/-- Do the type and the length of a value match the object? (15 R405) LOAD_DATA takes 1 to 1,024
octets (15 R426). -/
def typeOk (o : Obj) (ty : Ty) (v : Val) : Bool :=
  decide (ty = o.ty) && match v, o.ty with
    | .oct b, .str => b.length ≤ o.len
    | .oct b, .oct => if o.idx = 0x1032 then 1 ≤ b.length && b.length ≤ o.len else b.length = o.len
    | .oct b, .addr => b.length = 16
    | .oct _, _ => false
    | .num _, .str | .num _, .oct | .num _, .addr => false
    | .num _, _ => true

/-- Is the value in the object's range? A RoCE path MTU is one of three (02 R52). -/
def rangeOk (o : Obj) (v : Val) : Bool := match v with
  | .num n => decide (o.min ≤ n ∧ n ≤ o.max) && (o.idx ≠ 0x4103 || n % 4096 = 0) &&
      (o.idx ≠ 0x3130 || n = 1024 || n = 2048 || n = 4096)
  | .oct _ => true

/-- Objects the boot ROM serves in SAFE with code 8: identity, event log, image loading, RESTART
(14 R373). -/
def romObject (i : Nat) : Bool :=
  (0x1000 ≤ i && i ≤ 0x1006) || (0x1030 ≤ i && i ≤ 0x1034) || (0x1110 ≤ i && i ≤ 0x1113) || i = 0x2005

/-- No trust anchor is set (15 R411). -/
def claimed (s : State) : Bool :=
  [1, 2, 3, 4].any fun k => !allZero (doct 0x1020 k 0 s)

/-- Objects a claiming session may reach (15 R411). -/
def accessDenied (x : Session) (idx : Nat) (s : State) : Bool :=
  decide (x.path = .mgmtPort) && !claimed s && x.anchor ≠ 5 && !(0x1000 ≤ idx && idx ≤ 0x1022)

/-- What a write names, once checked. -/
structure WCtx where
  sess : Nat
  x : Session
  obj : Obj
  sub : Nat
  rcd : Nat
  val : Val
  trans : Nat
  req : Req
deriving DecidableEq, Repr

/-- The number written. -/
def WCtx.nat (c : WCtx) : Nat := c.val.toNat

/-- Does the object exist for this module? In SAFE with code 8 only the boot ROM's objects do. -/
def objFor (idx : Nat) (s : State) : Option Obj :=
  if inMode [.safe] s && s.mode.safeCause = 8 && !romObject idx then none else objOf idx

/-- The checks of a SET in the order of 15 R405, up to RANGE. A service address beyond 64 is RANGE (02 R55). The mailbox may not set its own privilege
(13 R362). -/
def checkSet (sess : Nat) (x : Session) (idx sub : Nat) (ty : Option Ty) (v : Val) (s : State) :
    EpStatus × Option WCtx :=
  match objFor idx s with
  | none => (.noObject, none)
  | some o =>
    let r := recOf x o
    if !subOk o r sub then (if idx = 0x3020 && 64 < sub then .range else .noSub, none)
    else if privRank x.priv < privRank o.priv || accessDenied x idx s
        || (decide (x.path = .mailbox) && idx = 0x6206) then (.denied, none)
    else if o.acc = .ro || isCount o sub then (.readOnly, none)
    else if !typeOk o (ty.getD o.ty) v then (.type, none)
    else if o.acc = .rws && !inMode [.isolated, .quiesced] s then (.mode, none)
    else if !rangeOk o v then (.range, none)
    else (.ok, some { sess, x, obj := o, sub, rcd := r, val := v, trans := 0,
                       req := .set 0 { index := idx, sub, ty := ty.getD o.ty, val := v } })

/-- The checks of a GET (15 R405; 16 R431 for META). -/
def checkGet (x : Session) (idx sub : Nat) (s : State) : EpStatus × Option Obj :=
  match objFor idx s with
  | none => (.noObject, none)
  | some o =>
    if idx = 0xF004 && (objOf (selOf x 0xF003)).isNone then (.noObject, none)
    else if !subOk o (recOf x o) sub then (.noSub, none)
    else if privRank x.priv < privRank o.priv || accessDenied x idx s then (.denied, none)
    else if o.acc = .wo && !isCount o sub then (.denied, none)
    else (.ok, some o)

/-! ### Storing a value by scope (15 R398 to R400) -/

/-- A session's own objects take the value for that session alone. -/
def putSel (sess idx v : Nat) (s : State) : State :=
  s.onMgmt fun m => { m with sessions := Tbl.upd m.sessions sess fun x =>
                               { x with sel := Tbl.put x.sel idx v } }

/-- Is a value of the object kept in the configuration store? (15 R399) -/
def storedObj (o : Obj) : Bool := scopeOf o ≠ .session && (o.acc = .rw || o.acc = .rws)

/-- Put a value: a session's own objects in the session, others in the dictionary; a pair-scope value
enters the cycle record (15 R398). -/
def putValue (c : WCtx) (s : State) : State :=
  if scopeOf c.obj = .session then putSel c.sess c.obj.idx c.nat s
  else if storedObj c.obj then
    let s := putDict c.obj.idx c.sub c.rcd c.val s
    if scopeOf c.obj = .pair then record (.config c.obj.idx c.sub c.rcd c.val) s else s
  else s

/-- One copy of the configuration store is written, with the cycle of the write as its generation
(15 R399). -/
def writeStore (s : State) : State :=
  s.onMgmt fun m => { m with store := s.dict, storeGen := s.pair.cycle, storeFlip := !m.storeFlip }

/-- A stored change is applied: CONFIG_GENERATION, the store and event 0xF001, whose DATA holds the
first object and the member count (15 R399, R400, R427). -/
def storedChange (idx sub count : Nat) (s : State) : State :=
  raise 0xF001 0 count idx sub
    (writeStore (s.onMgmt fun m => { m with configGen := m.configGen + 1 }))

/-- Store one written value and note the change. -/
def storeOne (c : WCtx) (s : State) : State :=
  let s := putValue c s
  if storedObj c.obj then storedChange c.obj.idx c.sub 1 s else s

/-! ### Sessions and replies (15 R404, R407) -/

/-- Is management served on a path in this mode? (15 R407) -/
def reachable (p : Path) (s : State) : Bool :=
  match s.mode.mode with
  | .reset | .boot | .holdup => false
  | .solo | .active | .quiesced | .takeover => true
  | .isolated | .standby | .coldStandby | .rejoin => p ≠ .inband
  | .safe =>
    if s.mode.safeCause = 7 then false
    else if s.mode.safeCause = 8 then p = .mgmtPort
    else p ≠ .inband

/-- The answer to one item. -/
def answer (idx sub pos : Nat) (st : EpStatus) (v : Option Val) : Resp :=
  { status := st, items := [{ index := idx, sub, pos, status := st, val := v }] }

/-- Natural width of an integer type (15 R402). -/
def tyWidth : Ty → Nat
  | .bool | .u8 => 1 | .u16 | .i16 => 2 | .u32 | .i32 | .dur => 4 | .u64 | .time => 8 | .str | .oct | .addr => 0

/-- Bytes of a value in a message: sub-index 0 of an array is U8 (16 R430). -/
def valLen (idx sub : Nat) : Val → Nat
  | .oct b => b.length
  | .num _ => match objOf idx with
    | some o => if isCount o sub then 1 else tyWidth o.ty
    | none => 0

/-- Bytes of a response: the header, and each item's head and value (15 R402, R403). -/
def respLen (r : Resp) : Nat :=
  16 + (r.items.map fun i => 8 + ((i.val.map (valLen i.index i.sub)).getD 0)).sum

/-- Session key of the attach mailbox, whose response goes to its buffer and vector 65 (13 R362). -/
def mailboxKey : Nat := 131072

/-- Session keys from here to the mailbox's are requests that came over the mirror link (15 R409). -/
def tunnelKey : Nat := 65536

/-- Send a response on its path. -/
def sendReply (sess trans : Nat) (r : Resp) (s : State) : State :=
  if sess = mailboxKey then
    let s := emit (.mailboxReply r) (s.onAttach fun a =>
      { a with mboxBusy := false, mboxReady := true, mboxLen := respLen r })
    if s.attach.bme then emit (.msix 65) s
    else s.onAttach fun a => { a with pba := if a.pba.contains 65 then a.pba else a.pba ++ [65] }
  else if tunnelKey ≤ sess then mirSend (.mirEpquin (.response (sess - tunnelKey) trans r)) s
  else emit (.reply sess trans r) s

/-- Send a response and keep it among the session's last 64 (15 R404). -/
def reply (sess trans : Nat) (req : Req) (r : Resp) (s : State) : State :=
  sendReply sess trans r
    (s.onMgmt fun m => { m with sessions := Tbl.upd m.sessions sess fun x =>
                                  { x with kept := ({ trans, req, resp := r } :: x.kept).take 64 } })

/-- A request reaches a session: the path serves management in this mode and the pool MGMT has a
granule, else the datagram is lost (04 R100, 15 R407). The session's idle time starts again. -/
def withSession (sess : Nat) (k : Session → State → State) (s : State) : State :=
  match Tbl.get? s.mgmt.sessions sess with
  | none => s
  | some x =>
    if !reachable x.path s then s
    else if !grants s poolMgmt 1 then refuseGranules poolMgmt s
    else k x (s.onMgmt fun m => { m with sessions := Tbl.upd m.sessions sess fun x =>
                                           { x with lastMsg := s.now } })

/-- A pair-scope write on a module that does not decide goes to the active (15 R409). -/
def forwards (o : Obj) (s : State) : Bool :=
  scopeOf o = .pair && inMode [.standby, .coldStandby, .rejoin] s

/-- A write to the object of an index goes to the active. -/
def forwardsTo (idx : Nat) (s : State) : Bool := ((objFor idx s).map fun o => forwards o s).getD false

/-- Send a request over the mirror link; the answer follows (15 R409). Without the link it is lost. -/
def forwardAs (sess trans : Nat) (x : Session) (held sent : Req) (s : State) : State :=
  if s.pair.link ≠ 2 then s
  else mirSend (.mirEpquin (.request x.priv sess trans sent))
    (s.onMgmt fun m => { m with forwards := m.forwards ++ [(sess, trans, held)] })

def forward (sess trans : Nat) (x : Session) (req : Req) (s : State) : State := forwardAs sess trans x req req s

/-- The item a named write stands for. -/
def itemOf (idx : Nat) (w : Write) : Item :=
  { index := idx, sub := w.sub, ty := ((objOf idx).map (·.ty)).getD .u8, val := w.val }

/-- A write to one object, sent by a session: the checks of R405, the object's own conditions, then
its effect. A write in TAKEOVER waits (15 R407). -/
def writeWhen (waits : Bool) (idx : Nat) (own : WCtx → State → EpStatus) (act : WCtx → State → State)
    (w : Write) (s : State) : State :=
  withSession w.sess (fun x s =>
    let it := itemOf idx w
    if waits && inMode [.takeover] s then
      s.onMgmt fun m => { m with waiting := m.waiting ++ [(w.sess, 0, .set 0 it)] }
    else if forwardsTo idx s then forward w.sess 0 x (.set 0 it) s
    else match checkSet w.sess x idx w.sub none w.val s with
      | (_, some c) =>
        let st := own c s
        let s := if st = .ok then act c s else s
        reply w.sess 0 (.set 0 it) (answer idx w.sub 1 st none) s
      | (st, none) => reply w.sess 0 (.set 0 it) (answer idx w.sub 1 st none) s) s

def writeObject (idx : Nat) (own : WCtx → State → EpStatus) (act : WCtx → State → State) (w : Write)
    (s : State) : State := writeWhen true idx own act w s

/-- A write whose answer comes later than its checks: its effect sends it (06 R142). -/
def writeLater (idx : Nat) (own : WCtx → State → EpStatus) (act : WCtx → State → State) (w : Write)
    (s : State) : State :=
  withSession w.sess (fun x s =>
    let it := itemOf idx w
    if inMode [.takeover] s then
      s.onMgmt fun m => { m with waiting := m.waiting ++ [(w.sess, 0, .set 0 it)] }
    else if forwardsTo idx s then forward w.sess 0 x (.set 0 it) s
    else match checkSet w.sess x idx w.sub none w.val s with
      | (_, some c) =>
        let st := own c s
        if st = .ok then act c s else reply w.sess 0 (.set 0 it) (answer idx w.sub 1 st none) s
      | (st, none) => reply w.sess 0 (.set 0 it) (answer idx w.sub 1 st none) s) s

/-- An object without conditions of its own. -/
def noCheck : WCtx → State → EpStatus := fun _ _ => .ok

/-- A condition that refuses with a status. -/
def refuseIf (b : Bool) (st : EpStatus) : EpStatus := if b then st else .ok

/-- The first status that is not OK. -/
def firstFailure : List EpStatus → EpStatus
  | [] => .ok
  | st :: l => if st = .ok then firstFailure l else st

end Sys2Proof.Machine
end

