-- ==== Sys2Proof/Machine/Maps.lean ====
section
/-! DEFINITION. The maps: array arithmetic (06 R143), block map, overlay, caddy slots, journal, the
placement of bands (08 R211, R212), erase units and talons (07), and the resolution of a sector
(06 R170). Each change is also an entry of the cycle record (06 R151). -/

namespace Sys2Proof.Machine

/-- The band number that means no band (06 R147). -/
def noBand : Nat := 0x1FFFFFF

/-- Write slots of the caddy (06 R153). -/
def caddySlots : Nat := 1835008

/-- Overlay slots (06 R146). -/
def overlaySlots : Nat := 79691776

/-! ### Geometry (06 R143, R145) -/

/-- Stripes per band, N. -/
def Geo.stripes (g : Geo) : Nat := g.eMiB * 1024 / g.pKiB
/-- Sectors per member page, k. -/
def Geo.k (g : Geo) : Nat := g.pKiB / 4
/-- Data width D0. -/
def Geo.d0 (g : Geo) : Nat := g.w0 - 2
/-- Sectors per logical block, L. -/
def Geo.lbSectors (g : Geo) : Nat := g.d0 * g.stripes * g.k
/-- LB_CAPACITY: two system EUs on each of 24 carriers are left out (06 R145). -/
def Geo.capacity (g : Geo) : Nat :=
  (g.euTotal - g.talonTotal - 48) * (100 - g.overprov) / 100 / g.w0
/-- Usable EUs U (07 R180). -/
def Geo.usable (g : Geo) : Nat := g.euTotal - g.talonTotal - 48

/-- Where a sector lies in a band set: band within the set, stripe, data position, sector of the page
and member position (06 R143). -/
structure Loc where
  i : Nat
  t : Nat
  d : Nat
  u : Nat
  m : Nat
deriving DecidableEq, Repr

/-- Member position of data position `d` in stripe `t` of a band of width `w`. -/
def memberOf (w t d : Nat) : Nat := (t + 2 + d) % w

/-- Offset `o` in band sets of width `w`. -/
def locate (g : Geo) (w o : Nat) : Loc :=
  let d' := w - 2
  let o2 := o % (d' * g.stripes * g.k)
  let t := o2 / (d' * g.k)
  let d := o2 % (d' * g.k) / g.k
  { i := o / (d' * g.stripes * g.k), t, d, u := o2 % g.k, m := memberOf w t d }

/-- Sectors of one data stripe of width `w`. -/
def stripeSectors (g : Geo) (w : Nat) : Nat := (w - 2) * g.k

/-- Bands of a set of width `w`: r = ⌈D0 / D'⌉ (06 R144). -/
def setSize (g : Geo) (w : Nat) : Nat := (g.d0 + (w - 2) - 1) / (w - 2)

def lbSectors (s : State) : Nat := (s.xlat.geo.map Geo.lbSectors).getD 0

/-- The global LB of sector `a` of a namespace and the offset in it (06 R143); none before the first
format or for a namespace without LBs. -/
def lbOf (ns a : Nat) (s : State) : Option (Nat × Nat) :=
  match s.xlat.geo, Tbl.get? s.cmd.ns ns with
  | some g, some n =>
    let l := g.lbSectors
    if l = 0 || n.count ≤ a / l then none else some (n.base + a / l, a % l)
  | _, _ => none

/-- The namespace that owns a global LB, and the LB's first sector in it. -/
def nsOfLb (lb : Nat) (s : State) : Option (Nat × Nat) :=
  (s.cmd.ns.find? fun p => p.2.base ≤ lb && lb < p.2.base + p.2.count).map fun p =>
    (p.1, (lb - p.2.base) * lbSectors s)

/-! ### Block map and overlay -/

def lbNew : LbEntry :=
  { bands := [], set := 0, state := .unmapped, fill := 0, epoch := 0, hasRuns := false, fillClosed := false }

def lbAt (s : State) (lb : Nat) : LbEntry := (Tbl.get? s.xlat.lbs lb).getD lbNew
def bandAt (s : State) (b : Nat) : Option Band := Tbl.get? s.xlat.bands b

end Sys2Proof.Machine

namespace Sys2Proof
open Machine

/-- Width of a band. -/
def Band.width (b : Band) : Nat := b.members.length

end Sys2Proof

namespace Sys2Proof.Machine

/-- 16-byte units a band of width `w` takes in the band table (06 R146, R148). -/
def bandUnits (w : Nat) : Nat := 1 + (w + 3) / 4

/-- The first gap of `n` units in the band table. -/
def bandGap (n : Nat) : Tbl Band → Nat → Nat
  | [], c => c
  | (k, b) :: l, c => if c + n ≤ k then c else bandGap n l (k + bandUnits b.width)

/-- Units of the band table: the 512 MiB of the block map less 16 bytes per LB (06 R146). -/
def bandTableUnits (s : State) : Nat :=
  512 * 1024 * 1024 / 16 - (s.xlat.geo.map Geo.capacity).getD 0

def putLb (lb : Nat) (e : LbEntry) (s : State) : State :=
  s.onXlat fun x => { x with lbs := Tbl.put x.lbs lb e }

def putBand (b : Nat) (e : Option Band) (s : State) : State :=
  s.onXlat fun x => { x with bands := match e with
                        | some v => Tbl.put x.bands b v
                        | none => Tbl.del x.bands b }

/-- SET of an entry: r - 1, by the width of the first band (06 R144, R147). -/
def setField (bands : List Nat) (s : State) : Nat := match s.xlat.geo, bands.head?.bind (bandAt s) with
  | some g, some b => setSize g b.width - 1
  | _, _ => 0

/-- Change an LB map entry and record it (06 R151). -/
def setLb (lb : Nat) (e : LbEntry) (s : State) : State :=
  let e := { e with set := setField e.bands s }
  record (.mapLb lb e) (putLb lb e s)

/-- Change a band-table entry and record it. -/
def setBand (b : Nat) (e : Option Band) (s : State) : State := record (.mapBand b e) (putBand b e s)

def onBand (b : Nat) (f : Band → Band) (s : State) : State :=
  match bandAt s b with
  | some e => setBand b (some (f e)) s
  | none => s

/-- Change fields of a band that the partner does not hold alike: reader and read counts. -/
def onBandLocal (b : Nat) (f : Band → Band) (s : State) : State :=
  s.onXlat fun x => { x with bands := Tbl.upd x.bands b f }

end Sys2Proof.Machine

namespace Sys2Proof
open Machine

/-- Does a run cover an offset of an LB? -/
def Run.covers (r : Run) (lb o : Nat) : Bool := r.lb = lb && r.start ≤ o && o < r.start + r.len

/-- What is left of an old run outside the sectors [a, a + n) of its LB. A zero run keeps the place of its summary. -/
def Run.cut (r : Run) (lb a n : Nat) : List Run :=
  if r.lb ≠ lb || r.start + r.len ≤ a || a + n ≤ r.start then [r]
  else
    let left := if r.start < a then [{ r with len := a - r.start }] else []
    let e := a + n
    let right := if e < r.start + r.len then
        [{ r with start := e, len := r.start + r.len - e,
                  slot := if r.kind = .zero then r.slot else r.slot + (e - r.start) }] else []
    left ++ right

end Sys2Proof

namespace Sys2Proof.Machine

/-- Runs of an LB exist? The flag HAS_RUNS follows (06 R147). -/
def syncRuns (lb : Nat) (s : State) : State :=
  let has := s.xlat.runs.any fun r => r.lb = lb
  let e := lbAt s lb
  if e.hasRuns = has then s else putLb lb { e with hasRuns := has } s

/-- Overlay slots in use: a run entry and an index node for every eight entries (06 R146 gives the total, which holds
at least 70,000,000 runs so; the share of index nodes is a DESIGN CHOICE, log entry 14). -/
def overlayUsed (s : State) : Nat := s.xlat.runs.length + (s.xlat.runs.length + 7) / 8

/-- Add a run: it trims or splits the older runs it overlaps in the same step (06 R149). -/
def putRun (r : Run) (s : State) : State :=
  syncRuns r.lb (s.onXlat fun x =>
    { x with runs := (x.runs.flatMap fun o => o.cut r.lb r.start r.len) ++ [r] })

def addRun (r : Run) (s : State) : State := record (.addRun r) (putRun r s)

/-- Drop the runs of an LB that do not carry the epoch, and give its lost runs that epoch (06 R167, 08
R226). -/
def putDropRuns (lb : Nat) (e : BitVec 24) (s : State) : State :=
  syncRuns lb (s.onXlat fun x =>
    let l := x.runs.map fun r =>
      if r.lb = lb && decide (r.kind = .lost) then { r with epoch := e } else r
    { x with runs := l.filter fun r => r.lb ≠ lb || r.epoch = e })

def dropRuns (lb : Nat) (e : BitVec 24) (s : State) : State := record (.dropRuns lb e) (putDropRuns lb e s)

/-- Live runs of a log or staging band: a zero run lives in the band whose summary holds it (06 R150, R163). -/
def runsIn (b : Nat) (s : State) : List Run :=
  s.xlat.runs.filter fun r => r.band = b && decide (r.kind ≠ .lost)

/-- Live sectors of a log or staging band, which a zero run has none of, and the LBs with live runs in it (07 R186). -/
def liveIn (b : Nat) (s : State) : Nat := (((runsIn b s).filter fun r => decide (r.kind ≠ .zero)).map (·.len)).sum

def lbsIn (b : Nat) (s : State) : List Nat := ((runsIn b s).map (·.lb)).eraseDups

/-! ### Lost ranges (08 R226 to R228) -/

/-- What is left of a lost-range entry outside [a, a + n) of a namespace. -/
def Lost.cut (e : Lost) (ns a n : Nat) : List Lost :=
  if e.ns ≠ ns || e.lba + e.count ≤ a || a + n ≤ e.lba then [e]
  else
    let left := if e.lba < a then [{ e with count := a - e.lba }] else []
    let h := a + n
    let right := if h < e.lba + e.count then [{ e with lba := h, count := e.lba + e.count - h }] else []
    left ++ right

/-- Sectors [a, a + n) of a namespace are no longer lost (08 R226, R228). -/
def coverLost (ns a n : Nat) (s : State) : State :=
  let s := s.onXlat fun x => { x with lost := x.lost.flatMap fun e => e.cut ns a n }
  let s := when (s.xlat.lost.length < 65536) (fun s => s.onXlat fun x => { x with lostFull := false }) s
  match lbOf ns a s with
  | none => s
  | some _ =>
    let f : Run → List Run := fun r =>
      if r.kind = .lost then
        match nsOfLb r.lb s with
        | some (m, first) =>
          if m = ns && first ≤ a + n && a < first + lbSectors s then
            (if first ≤ a then r.cut r.lb (a - first) n else r.cut r.lb 0 (a + n - first))
          else [r]
        | none => [r]
      else [r]
    s.onXlat fun x => { x with runs := x.runs.flatMap f }

/-! ### Caddy slots (06 R153 to R157) -/

end Sys2Proof.Machine

namespace Sys2Proof
open Machine

/-- A slot that the caddy index holds. -/
def Slot.live (x : Slot) : Bool := match x.state with
  | .placed | .gathered | .programmed | .zeroRun => true
  | _ => false

/-- Does a live slot cover a sector? -/
def Slot.covers (x : Slot) (ns a : Nat) : Bool :=
  x.live && x.ns = ns &&
    (if x.zlen = 0 then x.lba = a else x.lba ≤ a && a < x.lba + x.zlen && !x.gone.contains a)

end Sys2Proof

namespace Sys2Proof.Machine

/-- The live slot of a sector: at most one, since each placement supersedes the older. -/
def slotOf (ns a : Nat) (s : State) : Option (Nat × Slot) :=
  s.xlat.slots.find? fun p => p.2.covers ns a

/-- Slots not free, and free slots. -/
def caddyUsed (s : State) : Nat := s.xlat.slots.length
def caddyFree (s : State) : Nat := caddySlots - s.xlat.slots.length

end Sys2Proof.Machine

namespace Sys2Proof
open Machine

/-- A slot that was never gathered carries no destination. -/
def Slot.ungathered (x : Slot) : Bool := x.dest = noBand

end Sys2Proof

namespace Sys2Proof.Machine

/-- Free the superseded slots that were never gathered and that no read holds (06 R157), once the supersession is in
a committed record: a slot of an acknowledged write outlives an overwrite that is not (01 R17). -/
def reapSlots (s : State) : State :=
  let keep := fun (x : Slot) => { x with late := x.late.filter fun l => s.pair.committed < l.2 }
  s.onXlat fun x => { x with slots := (x.slots.map fun p => (p.1, keep p.2)).filter fun p =>
    !(decide (p.2.state = .superseded) && p.2.ungathered && p.2.readers = 0 && p.2.late.isEmpty) }

/-- What is left of a slot when sectors [a, a + n) of its namespace are superseded in cycle `cy` (06 R155). -/
def slotSuperseded (cy a n : Nat) (y : Slot) : Slot :=
  if y.zlen = 0 then
    if a ≤ y.lba && y.lba < a + n then { y with state := .superseded, was := y.state, late := [(y.lba, cy)] } else y
  else
    let lost := (List.range y.zlen).filterMap fun i =>
      let q := y.lba + i
      if a ≤ q && q < a + n && !y.gone.contains q then some q else none
    let gone := y.gone ++ lost
    { y with gone, late := y.late ++ lost.map fun q => (q, cy),
             state := if gone.length = y.zlen then .superseded else y.state }

/-- Supersede what covers sectors [a, a + n) of a namespace, sector by sector, in cycle `cy` (06 R155). -/
def supersede (cy ns a n : Nat) (s : State) : State :=
  reapSlots (s.onXlat fun x => { x with slots := x.slots.map fun p =>
    if p.2.live && p.2.ns = ns then (p.1, slotSuperseded cy a n p.2) else p })

/-- A slot after a loss of power: sectors whose supersession no committed record carries are its own again, unless a
slot that is kept covers them (01 R17). -/
def slotRestored (committed : Nat) (kept : Tbl Slot) (x : Slot) : Slot :=
  let back := (x.late.filter fun l => committed < l.2 && !(kept.any fun p => p.2.covers x.ns l.1)).map Prod.fst
  if back.isEmpty then { x with late := [] }
  else if x.zlen = 0 then { x with state := x.was, late := [] }
  else { x with gone := x.gone.filter fun a => !back.contains a, state := .zeroRun, late := [] }

/-- The low 32 bits of a cycle number, which a slot descriptor holds (06 R154). -/
def low32 (n : Nat) : Nat := n % 4294967296

/-- Does a cycle stand before another, both by their low 32 bits? -/
def cycleBefore (a b : Nat) : Bool :=
  let d := (b + 4294967296 - a) % 4294967296
  0 < d && d < 2147483648

/-- The latest cycle up to `now` that has the low 32 bits. -/
def fullCycle (now low : Nat) : Nat := now - (now + 4294967296 - low) % 4294967296

/-- The lowest free slot of the current allocation pass; a pass that reaches the end starts again at
slot 0. -/
def nextSlot (s : State) : Nat × State :=
  let fuel := s.xlat.slots.length + 1
  let k := Tbl.freeFrom s.xlat.slots s.xlat.passAt fuel
  if k < caddySlots then (k, s.onXlat fun x => { x with passAt := k + 1 })
  else
    let k := Tbl.freeFrom s.xlat.slots 0 fuel
    (k, s.onXlat fun x => { x with passAt := k + 1 })

/-- A slot as it is placed, or received on a partner. -/
def slotNew (ns lba cycle : Nat) (state : SlotState) (data : Bytes) (zlen conn cid : Nat) : Slot :=
  { ns, lba, cycle := low32 cycle, seq := 0, state, was := state, late := [], dest := noBand, data, zlen, gone := [],
    zdone := 0, readers := 0, conn, cid }

/-- Put a slot, next in the order of placement, and keep the caddy's high-water mark. -/
def putSlot (k : Nat) (x : Slot) (s : State) : State :=
  peak 0x5021 0 (caddyUsed s + 1) (s.onXlat fun m => { m with
    slots := Tbl.put m.slots k { x with seq := m.placeSeq }, placeSeq := m.placeSeq + 1 })

/-! ### Pot invalidation (04 R111) -/

/-- Does a buffer share a sector with the range? -/
def Buf.overlaps (b : Buf) (ns a n : Nat) : Bool := b.ns = ns && b.lba < a + n && a < b.lba + b.len

/-- Drop one reference; at zero the granules return (04 R102). A decrement that meets zero is refused,
raises event 0x4002 and requests SAFE. -/
def dropRef (id : Nat) (s : State) : State :=
  match Tbl.get? s.pot.bufs id with
  | none => enterSafe 1 (raise 0x4002 0 id 0x4002 1 s)
  | some b =>
    if b.count = 0 then enterSafe 1 (raise 0x4002 0 id 0x4002 1 s)
    else if b.count = 1 then
      giveBack poolPour b.len (s.onPot fun p => { p with bufs := Tbl.del p.bufs id })
    else
      s.onPot fun p => { p with bufs := Tbl.upd p.bufs id fun b =>
        let c := b.count - 1
        { b with count := c,
                 state := if c = 1 && b.potRef && decide (b.state = .pouring) then .cached else b.state } }

/-- The hand comes to a buffer; at its mark a revolution ends (04 R112). -/
def handTo (now : Time) (next : Option Nat) (p : Pot) : Pot :=
  let turn := next = p.mark
  { p with
    hand := next
    revolution := if turn then min (now - p.revFrom) 4294967295 else p.revolution
    revFrom := if turn then now else p.revFrom }

/-- Take a buffer out of the ring; the hand and its mark pass to the next in admission order. A hand that passes so
to its mark ends a revolution; hand and mark that leave the ring together end none (04 R112). -/
def ringDrop (now : Time) (id : Nat) (p : Pot) : Pot :=
  let after := (p.ring.dropWhile (· ≠ id)).drop 1
  let next := match after with
    | x :: _ => some x
    | [] => (p.ring.filter (· ≠ id)).head?
  let q := { p with ring := p.ring.filter (· ≠ id) }
  if p.mark = some id then { q with mark := next, hand := if p.hand = some id then next else p.hand }
  else if p.hand = some id then handTo now next q
  else q

/-- Remove a buffer from the pot index and drop the pot's reference. -/
def unindex (id : Nat) (s : State) : State :=
  dropRef id (s.onPot fun p =>
    { ringDrop s.now id p with bufs := Tbl.upd p.bufs id fun b => { b with potRef := false } })

/-- Close overlapping entries, mark overlapping buffers not admissible and remove them from the index
(04 R111). -/
def invalidate (ns a n : Nat) (s : State) : State :=
  let hit := s.pot.bufs.filter fun p => p.2.overlaps ns a n
  let f : Nat × Buf → Nat × Buf := fun q =>
    if q.2.overlaps ns a n then (q.1, { q.2 with open_ := false, admissible := false }) else q
  let s := s.onPot fun p => { p with bufs := p.bufs.map f }
  each (hit.filter fun p => p.2.potRef) (fun p s => unindex p.1 (bump 0x4116 0 1 s)) s

/-! ### Placing (06 R155, R157) -/

/-- Place one sector: lowest free slot, index, pot invalidation, supersession, lost runs trimmed. -/
def placeSector (ns a cycle conn cid : Nat) (data : Bytes) (s : State) : Nat × State :=
  let s := supersede cycle ns a 1 (invalidate ns a 1 s)
  let r := nextSlot s
  (r.1, coverLost ns a 1 (putSlot r.1 (slotNew ns a cycle .placed data 0 conn cid) r.2))

/-- Place a zero run within one LB (06 R173): the slot carries the run length. -/
def placeZeros (ns a n cycle conn cid : Nat) (s : State) : State :=
  let s := supersede cycle ns a n (invalidate ns a n s)
  let r := nextSlot s
  coverLost ns a n (putSlot r.1 (slotNew ns a cycle .zeroRun (leBytes 4 n) n conn cid) r.2)

/-! ### Erase units and talons (07 R190, R195, R196, R207) -/

def wearOf (c : Car) (eu : Nat) : Nat := Tbl.count c.wear eu

/-- The element with the least value, the first of equals. -/
def leastBy (f : Nat → Nat) : List Nat → Option Nat
  | [] => none
  | a :: l => match leastBy f l with
    | some b => if f a ≤ f b then some a else some b
    | none => some a

/-- The element with the greatest value, the first of equals. -/
def mostBy (f : Nat → Nat) : List Nat → Option Nat
  | [] => none
  | a :: l => match mostBy f l with
    | some b => if f b ≤ f a then some a else some b
    | none => some a

def talonLeft (c : Car) : Nat := c.talonInit - c.spent - c.borrowed

/-- Record a carrier's talon figures. -/
def recordTalon (c : Nat) (s : State) : State :=
  let x := carOf s c
  record (.talon c x.talonInit x.spent x.borrowed) s

/-- Set a replacement reason bit of a carrier; event 0x510A for a new bit (07 R207). -/
def replaceBit (c k : Nat) (s : State) : State :=
  if (carOf s c).replace.getLsbD k then s
  else
    raise 0x510A (c + 1) k 0x5150 (c + 1)
      (onCar c (fun x => { x with replace := x.replace ||| (1#8 <<< k) }) s)

/-- Another carrier is seated in a bay: its replacement bits clear, and so do the failed lanes and the kind 7
entry of the repair map (07 R207; 11 R310; 14 R383). -/
def otherCarrier (c : Nat) (s : State) : State :=
  (onCar c (fun x => { x with replace := 0, badLanes := [], half := none }) s).onRepair fun r =>
    { r with field := r.field.filter fun e => !(e.kind = 7 && e.instNo = c + 1) }

/-- Mean wear of a carrier's EUs outside the talon in units of 0.1%, and its highest (07 R193, R208). -/
def wearMean (c : Car) : Nat :=
  let n := ((c.descr.map (·.euCount)).getD 0) - c.talon.length
  let t := (c.wear.filter fun p => !c.talon.contains p.1).map Prod.snd
  t.sum / n / 10
def wearMax (c : Car) : Nat := (c.wear.map Prod.snd).foldl max 0 / 10

/-- The media triggers that follow a retirement, a borrowing or an erase (07 R207). -/
def carrierTriggers (c : Nat) (s : State) : State :=
  let x := carOf s c
  let s := when (0 < x.talonInit && x.talonInit * cfg 0x5151 s ≤ x.spent * 100)
    (raiseWithin (1000000 * second) 0x5109 (c + 1) x.spent 0x5133 (c + 1)) s
  let s := when (0 < x.talonInit && x.talonInit * cfg 0x5152 s ≤ x.spent * 100) (replaceBit c 0) s
  let s := when (0 < x.borrowed) (replaceBit c 1) s
  let s := when (cfg 0x5153 s ≤ wearMean x) (replaceBit c 2) s
  let good := ((x.descr.map (·.euCount)).getD 0) - x.bad.length
  let recent := (x.retiredAt.filter fun t => s.now < t + 30 * 86400 * second).length
  when (good < recent * 200) (replaceBit c 4) s

/-! ### Free bands (07 R180, R185) -/

def freeCount (s : State) (c : Nat) : Nat := (carOf s c).free.length

def freeEus (s : State) : Nat := ((List.range 24).map (freeCount s)).sum

/-- F. -/
def freeBands (s : State) : Nat := match s.xlat.geo with
  | some g => freeEus s / g.w0
  | none => 0

/-- Is F below a threshold, which is in units of 0.1% of U / W0? (07 R185) -/
def freeBelow (idx : Nat) (s : State) : Bool := match s.xlat.geo with
  | some g => decide (freeBands s * 1000 * g.w0 < g.usable * cfg idx s)
  | none => false

/-- The free bands against FREE_CRIT: event 0x5103 once for each crossing (07 R185). -/
def checkFree (s : State) : State :=
  let crit := freeBelow 0x5113 s
  let s := when (crit && !s.xlat.freeCritical) (raise 0x5103 0 (freeBands s) 0x5110 0) s
  s.onXlat fun x => { x with freeCritical := crit }

/-- Change a carrier's free EUs, with the check of F that follows (07 R185). -/
def onFree (c : Nat) (f : Car → Car) (s : State) : State := checkFree (onCar c f s)

/-- The books of a retirement: bad list, one talon EU spent. The EU that takes its place is a talon EU: where a free
one did, or the EU itself was free, one talon EU moves to the free pool (07 R195, R196). -/
def retireBook (c eu : Nat) (s : State) : State :=
  onFree c (fun x =>
    let talon := x.talon.filter (· ≠ eu)
    let left := x.talonInit - (x.spent + 1) - x.borrowed
    let give := if left < talon.length then leastBy (wearOf x) talon else none
    { x with
      bad := if x.bad.contains eu then x.bad else x.bad ++ [eu]
      free := (x.free.filter (· ≠ eu)) ++ give.toList
      talon := talon.filter fun e => some e ≠ give
      spent := x.spent + 1
      retiredAt := x.retiredAt ++ [s.now] }) s

/-- Retire an EU; the carrier adds it to its own list, event at most once a second for each carrier (07
R196). -/
def retireEu (c eu : Nat) (s : State) : State :=
  let s := retireBook c eu s
  let s := recordTalon c (record (.retireEu c eu) (bump 0x5133 (c + 1) 1 s))
  let m : MediaCmd := { op := .markBad, eu, page := 0, sector := 0, count := 0, level := 0, data := [], queue := 9,
                        purpose := .markBad, band := noBand, header := [], tries := 0, reissued := false, issuedAt := 0 }
  let s := onCar c (fun x => { x with queue := x.queue ++ [m] }) s
  carrierTriggers c (raiseWithin second 0x5107 (c + 1) eu 0x5133 (c + 1) s)

/-- An EU returns to the free pool: retired when worn out, to the talon while the carrier has borrowed
(07 R195, R196). -/
def freeEu (c eu : Nat) (s : State) : State :=
  let x := carOf s c
  if x.bad.contains eu || x.free.contains eu then s
  else if cfg 0x5121 s * 10 ≤ wearOf x eu then
    retireEu c eu (onCar c (fun x => { x with free := x.free ++ [eu] }) s)
  else if 0 < x.borrowed then
    recordTalon c (onCar c (fun x => { x with talon := x.talon ++ [eu], borrowed := x.borrowed - 1 }) s)
  else onFree c (fun x => { x with free := x.free ++ [eu] }) s

/-- Take an EU of a carrier for a new member: the free EU with the least wear, else one of the talon,
which is borrowed (07 R180, R191, R195). -/
def takeEu (c : Nat) (s : State) : Option (Nat × State) :=
  let x := carOf s c
  match leastBy (wearOf x) x.free with
  | some e => some (e, onFree c (fun x => { x with free := x.free.filter (· ≠ e) }) s)
  | none => match leastBy (wearOf x) x.talon with
    | some e =>
      let s := onCar c (fun x => { x with talon := x.talon.filter (· ≠ e), borrowed := x.borrowed + 1 }) s
      some (e, carrierTriggers c (raise 0x5104 (c + 1) e 0x5132 (c + 1) (recordTalon c s)))
    | none => none

/-- The EU that takes the place of one that is about to be retired: the least worn of the carrier's talon; with
TALON_LEFT at 0 a free EU (07 R196, R197). -/
def takeTalon (c : Nat) (s : State) : Option (Nat × State) :=
  let x := carOf s c
  match (if 0 < talonLeft x then leastBy (wearOf x) x.talon else none) with
  | some e => some (e, onCar c (fun x => { x with talon := x.talon.filter (· ≠ e) }) s)
  | none => match leastBy (wearOf x) x.free with
    | some e => some (e, onFree c (fun x => { x with free := x.free.filter (· ≠ e) }) s)
    | none => none

/-- Add the wear of one erase: 10,000 / C in units of 0.01%, fractions kept in one accumulator for each
carrier and mode; the count saturates at 65,535 (07 R190). -/
def addWear (c eu : Nat) (s : State) : State :=
  let s := onCar c (fun x =>
    let slc := x.slc.contains eu
    let cyc := match x.descr with
      | some d => if slc then d.cyclesSlc else d.cyclesNative
      | none => 0
    if cyc = 0 then x
    else
      let t := (if slc then x.fracS else x.fracN) + 10000
      let w := min 65535 (wearOf x eu + t / cyc)
      { x with
        wear := Tbl.put x.wear eu w
        fracS := if slc then t % cyc else x.fracS
        fracN := if slc then x.fracN else t % cyc }) s
  let x := carOf s c
  carrierTriggers c (record (.wear c eu (wearOf x eu) x.fracN x.fracS (x.slc.contains eu)) s)

/-! ### Placement of bands (08 R211, R212) -/

/-- The steps coprime to 24. -/
def seqSteps : List Nat := [1, 5, 7, 11, 13, 17, 19, 23]

/-- Carrier at position i of the nominal sequence of a band. -/
def seqAt (openseq i : Nat) : Nat :=
  let g := openseq % 192
  (g % 24 + i * seqSteps.getD (g / 24) 1) % 24

/-- In service, and with a free or a talon EU. -/
def eligible (s : State) (c : Nat) : Bool :=
  let x := carOf s c
  decide (x.state = .inService) && (!x.free.isEmpty || !x.talon.isEmpty)

/-- Put one carrier in the place of another in the spare list. -/
def swapSpare (old new : Nat) (l : List Nat) : List Nat := l.map fun x => if x = old then new else x

/-- Settle one member position: the carrier taken and the spare list left. -/
def settleOne (s : State) (c : Nat) (spares : List Nat) : Nat × List Nat :=
  if eligible s c then
    match mostBy (freeCount s) (spares.filter (eligible s)) with
    | some best =>
      if freeCount s c + cfg 0x5207 s < freeCount s best then (best, swapSpare best c spares)
      else (c, spares)
    | none => (c, spares)
  else match spares.find? (eligible s) with
    | some x => (x, swapSpare x c spares)
    | none => (c, spares)

/-- Settle every position in order. -/
def settleAll (s : State) : List Nat → List Nat → List Nat × List Nat
  | [], spares => ([], spares)
  | c :: l, spares =>
    let r := settleOne s c spares
    let q := settleAll s l r.2
    (r.1 :: q.1, q.2)

/-- Carriers of a new band of width `w`, and its spare list. -/
def placement (s : State) (openseq w : Nat) : List Nat × List Nat :=
  settleAll s ((List.range w).map (seqAt openseq)) (((List.range (24 - w)).map fun i => seqAt openseq (w + i)))

/-- Width of the next band: min(W0, eligible carriers), 0 below NARROW_FLOOR (08 R229). -/
def widthNow (s : State) : Nat :=
  match s.xlat.geo with
  | none => 0
  | some g =>
    let w := min g.w0 ((List.range 24).filter (eligible s)).length
    if w < cfg 0x5200 s then 0 else w

/-- EUs taken on each carrier of a list, in order. -/
def takeEus : List Nat → State → List Member × State
  | [], s => ([], s)
  | c :: l, s =>
    match takeEu c s with
    | some (e, s) =>
      let r := takeEus l s
      ({ carrier := c, eu := e, mstate := .good } :: r.1, r.2)
    | none =>
      let r := takeEus l s
      ({ carrier := 31, eu := 0, mstate := .lost } :: r.1, r.2)

/-! ### Free space, fill and staging (07 R180, R181, R185, R201) -/

/-- EUs of the bands that count as filled. -/
def filledEus (s : State) : Nat := (s.xlat.bands.map fun p => match p.2.kind with
  | .data | .sharedLog | .seqLog | .mergeTarget => p.2.width
  | _ => 0).sum

/-- φ in units of 0.01%. -/
def shelfFill (s : State) : Nat := match s.xlat.geo with
  | some g => filledEus s * 10000 / g.usable
  | none => 0

/-- S, by the exact fill. -/
def stageLimit (s : State) : Nat := match s.xlat.geo with
  | some g =>
    let held := filledEus s * 100
    let m := cfg 0x5100 s
    if held ≤ 50 * g.usable then g.euTotal * m / (100 * g.w0)
    else g.euTotal * m * (92 * g.usable - held) / (4200 * g.usable * g.w0)
  | none => 0

def bandsOf (k : BandKind) (s : State) : Nat := (s.xlat.bands.filter fun p => p.2.kind = k).length
def stageBands (s : State) : Nat := bandsOf .staging s
def logBands (s : State) : Nat := bandsOf .sharedLog s + bandsOf .seqLog s
def logBandsNs (ns : Nat) (s : State) : Nat :=
  (s.xlat.bands.filter fun p => p.2.ns = ns && (decide (p.2.kind = .sharedLog) || decide (p.2.kind = .seqLog))).length

/-- The staging bands against S: event 0x5101 when their count first exceeds it (07 R209). -/
def checkStage (s : State) : State :=
  let exceeds := decide (stageLimit s < stageBands s)
  let s := when (exceeds && !s.xlat.stageOver) (raise 0x5101 0 (stageBands s) 0x5102 0) s
  s.onXlat fun x => { x with stageOver := exceeds }

/-- Sectors of the landing: slots in states 1 and 2. -/
def landing (s : State) : Nat :=
  (s.xlat.slots.filter fun p => decide (p.2.state = .placed) || decide (p.2.state = .gathered)).length

/-- The landing reserve in bands. -/
def landingReserve (s : State) : Nat := match s.xlat.geo with
  | some g =>
    let per := g.stripes * (g.d0 * g.k - 1)
    (landing s + per - 1) / per + 2
  | none => 0

/-- Bands of a carrier's talon count as free where they could be borrowed. -/
def freeWithTalons (s : State) : Nat := match s.xlat.geo with
  | some g => (freeEus s + ((List.range 24).map fun c => (carOf s c).talon.length).sum) / g.w0
  | none => 0

/-- Candidates for reclamation: log and staging bands that are not open (07 R186). -/
def reclaimCandidates (s : State) : List (Nat × Band) :=
  s.xlat.bands.filter fun p => !p.2.isOpen &&
    (decide (p.2.kind = .sharedLog) || decide (p.2.kind = .seqLog) || decide (p.2.kind = .staging))

/-- May another log band of a namespace be opened? (06 R163) -/
def logBandFits (ns : Nat) (s : State) : Bool :=
  logBands s < cfg 0x5013 s && logBandsNs ns s < cfg 0x5014 s

/-- LBs with slots placed and not gathered, or with stripes gathered and not programmed (06 R164). -/
def mergeDeferred (lb : Nat) (s : State) : Bool :=
  match nsOfLb lb s with
  | none => true
  | some (ns, first) =>
    let n := lbSectors s
    let under := fun (x : Slot) => s.xlat.progs.any fun p =>
      !p.2.done && (p.2.slots.contains (x.ns, x.lba, x.cycle) || p.2.parts.contains (x.ns, x.lba, x.cycle))
    s.xlat.slots.any fun p => p.2.ns = ns && p.2.live && first ≤ p.2.lba && p.2.lba < first + n &&
      (p.2.ungathered || decide (p.2.state = .gathered) || (decide (p.2.state = .zeroRun) && under p.2))

/-- A merge of an LB that is deferred and not under way holds its victim back (07 R186). -/
def heldBack (b : Nat) (s : State) : Bool :=
  (lbsIn b s).any fun lb => (lbAt s lb).state ≠ .merging && mergeDeferred lb s

/-- Can the merge or the compaction of a victim proceed? (07 R186) -/
def victimProceeds (s : State) (p : Nat × Band) : Bool :=
  (decide (p.2.kind = .sharedLog) && logBandFits p.2.ns s) || !heldBack p.1 s

/-- Array exhausted (07 R201). -/
def exhaustedNow (s : State) : Bool :=
  s.xlat.geo.isSome && freeWithTalons s ≤ landingReserve s &&
    (stageLimit s = 0 || widthNow s = 0) &&
    ((List.range 24).all fun c => (carOf s c).talon.isEmpty) && !((reclaimCandidates s).any (victimProceeds s))

/-- Write slots in use reach a share of the caddy. -/
def caddyAbove (pct : Nat) (s : State) : Bool := caddySlots * pct < caddyUsed s * 100

/-! ### The open-band journal (06 R174) -/

/-- The journal changes: the caddy copy that is not the last is written, and becomes it (06 R153, R174). -/
def putJournal (l : Tbl Band) (s : State) : State :=
  s.onXlat fun x => { x with journal := l, journalPrev := x.journal, journalFlip := !x.journalFlip }

/-- A band's journal entry is written; a carrier that is away misses it (08 R225). -/
def journalEntered (b : Nat) (e : Band) (s : State) : State :=
  let s := s.onMedia fun m => { m with cars := m.cars.map fun c =>
    if c.state = .lost || c.state = .heldOut then { c with absentBands := c.absentBands ++ [b] } else c }
  putJournal (Tbl.put s.xlat.journal b e) s

/-- A band enters the journal. -/
def journalAdd (b : Nat) (e : Band) (s : State) : State := record (.journalAdd b e) (journalEntered b e s)

def journalDel (b : Nat) (s : State) : State :=
  if Tbl.has s.xlat.journal b then
    record (.journalDel b) ((putJournal (Tbl.del s.xlat.journal b) s).onXlat fun x =>
      { x with journalRemovals := x.journalRemovals ++ [b] })
  else s

/-- EUs not on the bad-EU list, in order. -/
def goodEus (x : Car) : List Nat :=
  (List.range ((x.descr.map (·.euCount)).getD 0)).filter fun e => !x.bad.contains e

/-- The system EUs: the two lowest-numbered good EUs (06 R175). -/
def systemEus (x : Car) : List Nat := (goodEus x).take 2

/-- Carriers that hold the journal: the three in service with the lowest bay numbers whose system EUs take a write (06
R175). -/
def journalHolders (s : State) : List Nat :=
  ((List.range 24).filter fun c => (carOf s c).state = .inService && !(carOf s c).sysFailed).take 3

/-- Is the band's journal entry not yet durable in every place of 06 R174? It waits for the partner's
confirmation of its record and for the carrier copies; a staging band enters once its EUs are erased (07 R182). -/
def journalWaits (b : Nat) (s : State) : Bool :=
  let isAdd : RecEntry → Bool := fun e => match e with
    | .journalAdd k _ => k = b
    | _ => false
  ((bandAt s b).any fun e => decide (e.kind = .staging) && e.isOpen && !Tbl.has s.xlat.journal b) ||
  (s.pair.paired && (s.pair.entries.any isAdd || s.pair.heldEntries.any isAdd ||
    s.pair.ring.any fun p => s.pair.committed < p.1 && p.2.entries.any isAdd)) ||
  (indices s.media.cars fun c =>
    c.queue.any (fun m => decide (m.purpose = .system) && m.band = b) ||
    c.out.any (fun p => decide (p.2.purpose = .system) && p.2.band = b)) ≠ []

/-! ### Resolution (06 R170) -/

/-- Where a sector's content is. -/
inductive Source where
  | slot (k : Nat)
  | band (b t d u : Nat)
  | zero
  | lost
deriving DecidableEq, Repr

/-- Place in a log or staging band by its position in data-sector order (06 R149). -/
def slotLoc (g : Geo) (w p : Nat) : Nat × Nat × Nat :=
  let n := stripeSectors g w
  (p / n, p % n / g.k, p % g.k)

/-- The source of one sector: caddy index, overlay, band set, else zeros. -/
def resolve (ns a : Nat) (s : State) : Source :=
  match slotOf ns a s with
  | some (k, x) => if x.zlen = 0 then .slot k else .zero
  | none =>
    match s.xlat.geo, lbOf ns a s with
    | some g, some (lb, o) =>
      match s.xlat.runs.find? (fun r => r.covers lb o) with
      | some r => match r.kind with
        | .zero => .zero
        | .lost => .lost
        | _ => match bandAt s r.band with
          | some b =>
            let l := slotLoc g b.width (r.slot + (o - r.start))
            .band r.band l.1 l.2.1 l.2.2
          | none => .zero
      | none =>
        let e := lbAt s lb
        if e.fill ≤ o then .zero
        else match e.bands.head?.bind (bandAt s) with
          | some b0 =>
            let l := locate g b0.width o
            match e.bands[l.i]? with
            | some b => .band b l.t l.d l.u
            | none => .zero
          | none => .zero
    | _, _ => .zero

/-- The member word at a position. -/
def memberAt (b : Band) (m : Nat) : Option Member := b.members[m]?

/-- Degraded positions of a band. -/
def degraded (b : Band) : Nat := (b.members.filter fun m => m.mstate ≠ .good).length

/-- Any band has lost two members? -/
def doublyDegraded (s : State) : Bool := s.xlat.bands.any fun p => 2 ≤ degraded p.2

/-- No member is LOST or REBUILDING any more: event 0x5204 (08 R238). -/
def rebuildComplete (s : State) : State :=
  when (!(s.xlat.bands.any fun p => 0 < degraded p.2)) (raise 0x5204 0 0 0x5203 0) s

/-- No band awaits resynchronisation any more: event 0x5208 (08 R238). -/
def resyncComplete (s : State) : State :=
  if s.xlat.bands.any fun p => p.2.awaitResync then s
  else raise 0x5208 0 0 0x5211 0 (s.onXlat fun x => { x with resyncKind := 0 })

/-! ### Releasing -/

/-- Pool that a job's granules come from. -/
def jobPool : JobKind → Nat
  | .rebuild .. | .resync _ | .scrub _ => poolRebuild
  | _ => poolMerge

/-- A job ends: its granules return. -/
def endJob (id : Nat) (s : State) : State :=
  match Tbl.get? s.xlat.jobs id with
  | none => s
  | some j => giveBack (jobPool j.kind) j.granules (s.onXlat fun x => { x with jobs := Tbl.del x.jobs id })

/-- Work on the members of a band ends with it; targets that are not switched in are free (08 R236). -/
def dropBandJobs (b : Nat) (s : State) : State :=
  let mine := s.xlat.jobs.filter fun p => match p.2.kind with
    | .move x _ | .rebuild x _ | .resync x | .scrub x => x = b
    | _ => false
  each mine (fun p s =>
    let s := endJob p.1 s
    match p.2.kind with
    | .move .. | .rebuild .. => freeEu p.2.car p.2.eu s
    | _ => s) s

/-- Release a band: its EUs are free and it leaves the journal, the log table and the waiting lists; a victim
of reclamation is counted (07 R208). -/
def releaseBand (b : Nat) (s : State) : State :=
  match bandAt s b with
  | none => s
  | some e =>
    let s := dropBandJobs b (journalDel b (setBand b none s))
    let s := when (s.xlat.victims.contains b) (bump 0x5114 0 1) s
    let refreshed := decide (e.kind ≠ .data) && s.xlat.refresh.any fun r => r / 32 = b
    let s := when refreshed (bump 0x5144 0 1) s
    let s := s.onXlat fun x => { x with
      logs := Tbl.del x.logs b, heads := Tbl.del x.heads b, victims := x.victims.filter (· ≠ b)
      releaseDue := x.releaseDue.filter (· ≠ b)
      relocate := x.relocate.filter (· ≠ b), refresh := x.refresh.filter fun r => r / 32 ≠ b }
    let s := each e.members (fun m s => when (m.carrier < 24 && decide (m.mstate = .good))
      (freeEu m.carrier m.eu) s) s
    checkStage (when (0 < degraded e) rebuildComplete (when e.awaitResync resyncComplete s))

/-- A band is to be released: it takes no further stripe and its retiring flag is recorded (06 R148,
R167). -/
def markRelease (b : Nat) (s : State) : State :=
  match bandAt s b with
  | none => s
  | some e =>
    if e.retiring then s
    else
      let s := setBand b (some { e with retiring := true, isOpen := false }) s
      s.onXlat fun x => { x with releaseDue := x.releaseDue ++ [b] }

/-- Is a change of the band still in a record that the partner has not confirmed? (06 R151) -/
def bandUnconfirmed (b : Nat) (s : State) : Bool :=
  let names : RecEntry → Bool := fun e => match e with
    | .mapBand k _ => k = b
    | _ => false
  s.pair.paired && (s.pair.entries.any names || s.pair.heldEntries.any names ||
    s.pair.ring.any fun p => s.pair.committed < p.1 && p.2.entries.any names)

/-- Release a band that is due, once no read holds it, no run refers to it and the change is confirmed
(06 R167). -/
def releaseWhenFree (b : Nat) (s : State) : State :=
  match bandAt s b with
  | none => s
  | some e =>
    let busy := s.xlat.progs.any fun p => p.2.band = b && !p.2.done
    if e.retiring && e.readers = 0 && !busy && (runsIn b s).isEmpty && !bandUnconfirmed b s then releaseBand b s else s

/-- EUs left by a switch are freed or retired once every read resolved before it has finished, and no command
for them is left (07 R194; 08 R221). -/
def releaseSources (s : State) : State :=
  let quiet := fun (q : Nat × Nat × Nat × Bool) =>
    let c := carOf s q.2.1
    ((bandAt s q.1).map (·.readers)).getD 0 = 0 && !(c.queue.any fun m => m.eu = q.2.2.1 && decide (m.op = .read))
      && !(c.out.any fun m => m.2.eu = q.2.2.1 && decide (m.2.op = .read))
  let go := s.xlat.sources.filter quiet
  let s := s.onXlat fun x => { x with sources := x.sources.filter fun q => !quiet q }
  each go (fun q s => if q.2.2.2 then retireEu q.2.1 q.2.2.1 s else freeEu q.2.1 q.2.2.1 s) s

/-! ### Discard (06 R172) -/

/-- A merge of a discarded LB is abandoned at once: the bands it opened are released and its granules return
(06 R168). -/
def abandonMerge (lb : Nat) (own : List Nat) (s : State) : State :=
  let mine := s.xlat.jobs.filter fun p => match p.2.kind with
    | .merge l _ _ => l = lb
    | _ => false
  each mine (fun p s =>
    let s := endJob p.1 s
    each (p.2.targets.filter fun b => !own.contains b) markRelease s) s

/-- Release a whole LB: UNMAPPED, runs gone, epoch up, slots superseded, bands released, pot
invalidated, lost runs gone. -/
def discardLb (lb : Nat) (s : State) : State :=
  match nsOfLb lb s with
  | none => s
  | some (ns, first) =>
    let n := lbSectors s
    let e := lbAt s lb
    let s := setLb lb { lbNew with epoch := e.epoch + 1 } s
    let s := s.onXlat fun x => { x with runs := x.runs.filter fun r => r.lb ≠ lb }
    let s := record (.discardLb ns first n) s
    let s := coverLost ns first n (supersede (recCycle s) ns first n (invalidate ns first n s))
    let s := s.onXlat fun x => { x with
      fills := Tbl.del x.fills lb, mergeDue := x.mergeDue.filter (· ≠ lb) }
    let seqs := (s.xlat.bands.filter fun p => decide (p.2.kind = .seqLog) && p.2.owner = lb).map Prod.fst
    each (e.bands ++ seqs) markRelease (abandonMerge lb (e.bands ++ seqs) s)

/-- Every LB of a namespace that owns LBs. -/
def nsLbs (ns : Nat) (s : State) : List Nat := match Tbl.get? s.cmd.ns ns with
  | some n => (List.range n.count).map fun i => n.base + i
  | none => []

/-- LBs that a range covers whole. -/
def wholeLbs (ns a n : Nat) (s : State) : List Nat :=
  let l := lbSectors s
  if l = 0 then []
  else match Tbl.get? s.cmd.ns ns with
    | some x =>
      let lo := (a + l - 1) / l
      let hi := (a + n) / l
      (List.range (hi - lo)).filterMap fun i => if lo + i < x.count then some (x.base + lo + i) else none
    | none => []

/-- The parts of a range that lie in LBs it does not cover whole, one for each LB (06 R173). -/
def partLbs (a n : Nat) (s : State) : List (Nat × Nat) :=
  let l := lbSectors s
  if l = 0 then []
  else
    let first := a / l
    let last := (a + n - 1) / l
    (List.range (last + 1 - first)).filterMap fun i =>
      let b := (first + i) * l
      let lo := max a b
      let hi := min (a + n) (b + l)
      if hi - lo = l || hi ≤ lo then none else some (lo, hi - lo)

/-- Lists of `k` elements. -/
def chunks {α : Type} (k : Nat) (l : List α) : List (List α) :=
  (List.range ((l.length + k - 1) / k)).map fun i => (l.drop (i * k)).take k

/-! ### Byte images (00 R452; 06 R147, R148, R153, R154) -/

def LbState.code : LbState → Nat
  | .unmapped => 0 | .filling => 1 | .mapped => 2 | .merging => 3

def BandKind.code : BandKind → Nat
  | .free => 0 | .data => 1 | .sharedLog => 2 | .seqLog => 3 | .staging => 4 | .mergeTarget => 5 | .system => 6

def MState.code : MState → Nat
  | .good => 0 | .lost => 1 | .rebuilding => 2

def SlotState.code : SlotState → Nat
  | .free => 0 | .placed => 1 | .gathered => 2 | .programmed => 3 | .superseded => 4 | .zeroRun => 5 | .received => 6

def flagBit (b : Bool) (k : Nat) : Nat := if b then 2 ^ k else 0

/-- LB map entry (06 R147). -/
def lbBytes (e : LbEntry) : Bytes :=
  let band := fun (i : Nat) => e.bands.getD i noBand
  leBytes 16 (band 0 * 2 ^ 103 + band 1 * 2 ^ 78 + band 2 * 2 ^ 53 + LbState.code e.state * 2 ^ 50 + e.set * 2 ^ 48 +
    e.fill * 2 ^ 28 + e.epoch.toNat * 2 ^ 4 + flagBit e.hasRuns 3 + flagBit e.fillClosed 2)

/-- Member word (06 R148). -/
def memberBytes (m : Member) : Bytes := leBytes 4 (m.carrier * 2 ^ 27 + m.eu * 2 ^ 5 + MState.code m.mstate)

/-- Band-table entry: header and member words, in whole units of 16 bytes (06 R146, R148). -/
def bandBytes (b : Band) : Bytes :=
  let flags := flagBit b.isOpen 3 + flagBit b.awaitResync 2 + flagBit b.verify 1 + flagBit b.retiring 0
  let head := leBytes 16 (b.width * 2 ^ 120 + BandKind.code b.kind * 2 ^ 116 + flags * 2 ^ 112 + b.ns * 2 ^ 100 +
    b.owner * 2 ^ 77 + b.program * 2 ^ 63 + b.readers * 2 ^ 47 + b.openseq % 2 ^ 47)
  let l := head ++ b.members.flatMap memberBytes
  l ++ List.replicate (16 * bandUnits b.width - l.length) 0

/-- Caddy slot descriptor (06 R154). -/
def descriptorBytes (x : Slot) : Bytes :=
  leBytes 16 (x.ns * 2 ^ 116 + x.lba * 2 ^ 76 + x.cycle * 2 ^ 44 + SlotState.code x.state * 2 ^ 40 + x.dest * 2 ^ 15)

/-- Sizes in MiB of the caddy's regions, in the order of 06 R153. -/
def caddyRegions : List Nat := [4, 16, 128, 512, 336, 28, 7168]

/-- The caddy header: region table, format identity and last sealed cycle (06 R153; the spec gives no places for them:
DESIGN CHOICE, log entry 93). -/
def caddyHeader (s : State) : Bytes :=
  caddyRegions.flatMap (leBytes 4) ++ leBytes 8 s.xlat.arrayId.toNat ++ leBytes 8 s.pair.lastSealed

/-- Octets as sectors, the last filled with zeros. -/
def asSectors (b : Bytes) : List Bytes := (chunks 4096 b).map fun x => x ++ List.replicate (4096 - x.length) 0

/-- Sectors as pages of `k` sectors, the last filled with zero sectors. -/
def asPages (k : Nat) (l : List Bytes) : List (List Bytes) :=
  (chunks k l).map fun x => x ++ List.replicate (k - x.length) (List.replicate 4096 0)

/-- The EU header of a band's members: its number and its table entry (06 R151; 11 R315; the places in the header are a
DESIGN CHOICE, log entry 93). -/
def euHeader (b : Nat) (e : Band) : Bytes :=
  let l := leBytes 4 b ++ bandBytes e
  l ++ List.replicate (4096 - l.length) 0

/-- Journal entries as a carrier copy holds them: band number and table entry (06 R174; DESIGN CHOICE, log entry 93). -/
def journalBytes (l : Tbl Band) : Bytes := l.flatMap fun p => leBytes 4 p.1 ++ bandBytes p.2

end Sys2Proof.Machine
end

