-- ==== Sys2Proof/Machine/CipherUnits.lean ====
section
/-! DEFINITION. Cipher units: clusters, lanes and keys (09 R242, R243, R248, R254), and the residence
of chaining contexts (09 R259). -/

namespace Sys2Proof.Machine

/-- In-service lanes of a cluster, by lane index. -/
def clusterLanes (s : State) (c : Nat) : List Nat :=
  (indices s.cipher.lanes fun st => st = .inService).filter fun l => l / 26 = c

/-- Clusters with two lanes in service take units (09 R241). -/
def clusterTakes (s : State) (c : Nat) : Bool := 2 ≤ (clusterLanes s c).length

/-- The cluster an XTS unit goes to, round-robin over those that take units. -/
def xtsCluster (s : State) : Option Nat :=
  ((List.range 4).map fun i => (s.cipher.rr + i) % 4).find? (clusterTakes s)

/-- Cluster of a TLS connection as it opens (09 R242), and the next that takes units. -/
def connCluster (conn : Nat) : Nat := (conn - 1) % 4

/-- The cluster a connection is bound to: that of its context (09 R242, R259). -/
def tlsCluster (conn : Nat) (x : Conn) : Nat := if x.tls.cluster = 0 then connCluster conn else x.tls.cluster - 1

def clusterFrom (s : State) (c : Nat) : Option Nat :=
  ((List.range 4).map fun i => (c + i) % 4).find? (clusterTakes s)

/-- Units on a lane. -/
def laneLoad (s : State) (l : Nat) : Nat :=
  (s.cipher.units.filter fun p => p.2.laneA = l || p.2.laneB = l).length

/-- Two different lanes, those with the least work (DESIGN CHOICE, log entry 15: the spec says
"whichever are free"). -/
def pickLanes (s : State) (c : Nat) : Option (Nat × Nat) :=
  match leastBy (laneLoad s) (clusterLanes s c) with
  | some a => match leastBy (laneLoad s) ((clusterLanes s c).filter (· ≠ a)) with
    | some b => some (a, b)
    | none => none
  | none => none

/-- Start a unit on a cluster. -/
def startUnitOn (cluster : Nat) (op : UnitOp) (ns lba : Nat) (input : Bytes) (oldKey : Bool) (s : State) :
    State :=
  match pickLanes s cluster with
  | none => s
  | some (a, b) =>
    let u : CUnit := { op, ns, lba, input, cluster, laneA := a, laneB := b, sumA := 0, sumB := 0,
                       held := false, oldKey }
    s.onCipher fun c => { c with units := Tbl.put c.units c.nextUnit u, nextUnit := c.nextUnit + 1 }

/-- Start an XTS unit on the next cluster in turn. -/
def startXts (op : UnitOp) (ns lba : Nat) (input : Bytes) (oldKey : Bool) (s : State) : State :=
  match xtsCluster s with
  | none => s
  | some c => startUnitOn c op ns lba input oldKey (s.onCipher fun x => { x with rr := (c + 1) % 4 })

/-- The tweak of a host sector (09 R254). -/
def tweak (ns lba : Nat) : BitVec 128 := BitVec.ofNat 128 (lba % 2 ^ 64 + (ns % 4096) * 2 ^ 64)

/-- The tweak of a metadata sector (09 R255). -/
def metaTweak (band idx : Nat) : BitVec 128 :=
  BitVec.ofNat 128 (2 ^ 127 + (band % 2 ^ 25) * 2 ^ 64 + idx % 2 ^ 32)

/-- The key of a namespace record, new or old (09 R253). -/
def nsKeyOf (ns : Nat) (old : Bool) (s : State) : Key :=
  match Tbl.get? s.keys.ns ns with
  | some k => ((if old then k.old else k.key)).getD default
  | none => default

/-- A sector of zeros. -/
def zeroSector : Bytes := List.replicate 4096 0

/-- Ciphertext of a sector under the namespace key. -/
def encryptSector (ns lba : Nat) (b : Bytes) (s : State) : Bytes :=
  Config.xtsEncrypt (nsKeyOf ns false s) (tweak ns lba) b

/-- A metadata sector under the key derived from the array key. -/
def metaSector (band idx : Nat) (b : Bytes) (s : State) : Bytes :=
  Config.metaEncrypt (s.keys.arrayKey.getD 0) (metaTweak band idx) b

/-- Index of a sector in its band: stripe × W' × k + member position × k + sector of the page, for sector `p` of the
data of stripe `t` (09 R255). -/
def metaIndex (g : Geo) (w t p : Nat) : Nat := t * w * g.k + memberOf w t (p / g.k) * g.k + p % g.k

/-- Metadata sectors at their places in a stripe, from sector `p` of its data. -/
def metaSectors (g : Geo) (band w t p : Nat) (l : List Bytes) (s : State) : List Bytes :=
  l.zipIdx.map fun x => metaSector band (metaIndex g w t (p + x.2)) x.1 s

/-- Padding of a stripe whose first `used` data sectors are taken: zeros under the metadata key (06 R160; 09 R255). -/
def padding (g : Geo) (band w t used : Nat) (s : State) : List Bytes :=
  metaSectors g band w t used (List.replicate (stripeSectors g w - used) zeroSector) s

/-- The EU header as it is stored, under the metadata key. It is no sector of the band's stripes: its index has bit 31
set (DESIGN CHOICE, log entry 93). -/
def headerSector (b : Nat) (e : Band) (s : State) : Bytes := metaSector b (2 ^ 31) (euHeader b e) s

/-- Pages of the journal as a system EU holds them from page `first` on, under the metadata key; a system EU belongs to
no band, and the index counts its own sectors (DESIGN CHOICE, log entry 93). -/
def systemPages (k first : Nat) (l : Tbl Band) (s : State) : List (List Bytes) :=
  (asPages k (asSectors (journalBytes l))).zipIdx.map fun p =>
    p.1.zipIdx.map fun x => metaSector noBand ((first + p.2) * k + x.2) x.1 s

/-- Namespaces whose erase waits make new encryptions wait (09 R253). -/
def eraseRuns (ns : Nat) (s : State) : Bool := match Tbl.get? s.keys.ns ns with
  | some k => k.erasing
  | none => false

/-- A chaining context is allocated or used: resident, most recently used first. With 3,072 resident the
least recently used one is saved (09 R259, R260). -/
def touchContext (conn : Nat) (s : State) : State :=
  let inUse := s.cipher.units.filterMap fun p => match p.2.op with
    | .egress _ c _ _ _ _ _ _ | .ingress c _ _ _ => some c
    | _ => none
  let r := touch s.cipher.resident conn
  let s := s.onCipher fun c => { c with resident := r, spilled := c.spilled.filter (· ≠ conn) }
  if r.length ≤ 3072 then s
  else match (r.reverse.find? fun c => !inUse.contains c && c ≠ conn) with
    | some v => bump 0x5308 0 1 (s.onCipher fun c =>
        { c with resident := c.resident.filter (· ≠ v), spilled := c.spilled ++ [v] })
    | none => s

/-- A connection's context ends with it. -/
def dropContext (conn : Nat) (s : State) : State :=
  s.onCipher fun c => { c with
    resident := c.resident.filter (· ≠ conn), spilled := c.spilled.filter (· ≠ conn) }

end Sys2Proof.Machine
end

