-- ==== Sys2Proof/Machine/MediaQueue.lean ====
section
/-! DEFINITION. The media queue of a carrier port (07 R204, R205; 11 R317): queuing a media command,
the tiers, the choice of the next command, and administrative commands. -/

namespace Sys2Proof.Machine

/-- Queue numbers of 07 R204. -/
def qHostC : Nat := 2
def qHostX : Nat := 3
def qIngest : Nat := 4
def qFold : Nat := 5
def qMerge : Nat := 6
def qReclaim : Nat := 7
def qRebuild : Nat := 8
def qUpkeep : Nat := 9

/-- Bytes charged for a command: page bytes of a read or program, 1 MiB for an erase (07 R205). -/
def mediaBytes (m : MediaCmd) (s : State) : Nat := match m.op with
  | .erase => 1048576
  | .read | .program => ((s.xlat.geo.map (·.pKiB)).getD 32) * 1024
  | _ => 0

/-- A media command before it is queued. -/
def mediaCmd (op : CarOp) (eu page sector count : Nat) (data : List Bytes) (queue : Nat) (purpose : Purpose)
    (band : Nat) : MediaCmd :=
  { op, eu, page, sector, count, level := 0, data, queue, purpose, band, header := [], tries := 0, reissued := false,
    issuedAt := 0 }

/-- Put a media command in its carrier's queue. A program of page 0 of a band's member carries the EU header with the
band's table entry (06 R151; 11 R315). -/
def queueMedia (c : Nat) (m : MediaCmd) (s : State) : State :=
  let first := decide (m.op = .program) && m.page = 0 && decide (m.purpose ≠ .system)
  match (if first then bandAt s m.band else none) with
  | some e =>
    onCar c (fun x => { x with queue := x.queue ++ [{ m with header := headerSector m.band e s }] })
      (s.onXlat fun x => { x with heads := Tbl.put x.heads m.band e })
  | none => onCar c (fun x => { x with queue := x.queue ++ [m] }) s

/-- Administrative commands that bring a data page: identify, bad-EU list and retry levels (04 R96). -/
def adminData : CarOp → Bool
  | .identify | .badEuList | .retryLevels => true
  | _ => false

/-- Put an administrative command on a carrier's admin ring. -/
def adminEmit (c : Nat) (op : CarOp) (level : Nat) (expected new : BitVec 64) (s : State) : State :=
  emit (.carrier c op 0 0 0 0 0 level [] [] expected new)
    (onCar c (fun x => { x with asking := if op = .reserve then x.asking ++ [new] else x.asking }) s)

/-- An administrative command that brings a data page takes a granule of CARRIER_ADMIN until its completion; a
refusal postpones it, and those behind it (04 R100). -/
def adminRequest (c : Nat) (q : CarOp × Nat × BitVec 64 × BitVec 64) (s : State) : Bool × State :=
  let r := request poolCarAdmin 1 s
  if r.1 then
    (true, adminEmit c q.1 q.2.1 q.2.2.1 q.2.2.2 (onCar c (fun x => { x with adminHeld := x.adminHeld + 1 }) r.2))
  else (false, r.2)

/-- Send an administrative command to a carrier whose link is up, or postpone it. -/
def adminCmd (c : Nat) (op : CarOp) (level : Nat) (expected new : BitVec 64) (s : State) : State :=
  if adminAllowed s && (carOf s c).linkUp then
    if !adminData op then adminEmit c op level expected new s
    else
      let q := (op, level, expected, new)
      let r := if (carOf s c).postponed.isEmpty then adminRequest c q s else (false, s)
      when (!r.1) (onCar c fun x => { x with postponed := x.postponed ++ [q] }) r.2
  else s

/-- Ask again for the postponed commands of a carrier, until one is refused (04 R101). -/
def adminRetry (c : Nat) : Nat → State → State
  | 0, s => s
  | n + 1, s => match (carOf s c).postponed with
    | [] => s
    | q :: _ =>
      if !adminAllowed s || !(carOf s c).linkUp then s
      else
        let r := adminRequest c q s
        if r.1 then adminRetry c n (onCar c (fun x => { x with postponed := x.postponed.drop 1 }) r.2) else r.2

def adminRetryAll (s : State) : State :=
  each (List.range 24) (fun c s => adminRetry c ((carOf s c).postponed.length + 1) s) s

/-- A command with a data page has completed: its granule returns, and a postponed one is asked for again. -/
def adminDone (c : Nat) (s : State) : State :=
  if (carOf s c).adminHeld = 0 then s
  else adminRetryAll (giveBack poolCarAdmin 1 (onCar c (fun x => { x with adminHeld := x.adminHeld - 1 }) s))

/-- A carrier's link is down: what was sent and what was postponed is gone, and the granules return. -/
def adminDrop (c : Nat) (s : State) : State :=
  giveBack poolCarAdmin (carOf s c).adminHeld (onCar c (fun x => { x with adminHeld := 0, adminAgain := [], postponed := [] }) s)

/-- Is a queue promoted to tier A? (07 R204) -/
def promoted (s : State) (q : Nat) : Bool :=
  if q = qIngest then caddySlots * cfg 0x6044 s ≤ caddyUsed s * 100
  else if q = qFold then stageLimit s < stageBands s
  else if q = qMerge then
    s.xlat.overlayHigh || cfg 0x5013 s ≤ logBands s || (Tbl.keys s.cmd.ns).any fun n => cfg 0x5014 s ≤ logBandsNs n s
  else if q = qReclaim then freeBelow 0x5113 s
  else if q = qRebuild then doublyDegraded s
  else false

/-- Tier of a queue: 0 for A, 1 for B, 2 for C (07 R204). -/
def tierOf (s : State) (q : Nat) : Nat :=
  if q = qHostC then 0
  else if q = qUpkeep then
    (if s.xlat.jobs.any fun p => p.2.urgent && (match p.2.kind with
      | .move _ _ => true
      | _ => false) then 1 else 2)
  else if promoted s q then 0 else 1

/-- Commands outstanding on the die of an EU (11 R317). -/
def onDie (c : Car) (eu : Nat) : Nat :=
  match c.descr with
  | some d => (c.out.filter fun p => p.2.eu % d.dies = eu % d.dies).length
  | none => 0

/-- Bytes charged in a span of time, for queues of a kind. -/
def recentBytes (s : State) (c : Car) (span : Nat) (p : Nat → Bool) : Nat :=
  ((c.recent.filter fun r => s.now < r.1 + span && p r.2.1).map fun r => r.2.2).sum

/-- Queue number under which programs of rebuild targets are charged once more, for their rate. -/
def qTarget : Nat := 100

/-- Does REBUILD_RATE hold a program of a rebuild target back? The rate is taken over 10 ms (08 R223; the span is
a DESIGN CHOICE, log entry 22). -/
def rebuildPaced (s : State) (c : Car) (m : MediaCmd) : Bool :=
  decide (m.op = .program) && m.queue = qRebuild && cfg 0x5206 s ≠ 0 && !doublyDegraded s &&
    cfg 0x5206 s * 10000 ≤ recentBytes s c (10 * milli) (· = qTarget)

/-- May a queued command be issued now? -/
def issuable (s : State) (c : Car) (m : MediaCmd) : Bool :=
  onDie c m.eu < cfg 0x6012 s && !rebuildPaced s c m &&
    !((decide (m.op = .program)) && decide (m.purpose ≠ .system) && journalWaits m.band s)

/-- The first command of a queue that may be issued, with its place. -/
def headOf (s : State) (c : Car) (q : Nat) : Option (Nat × MediaCmd) :=
  ((List.range c.queue.length).filterMap fun i => (c.queue[i]?).map fun m => (i, m)).find? fun p =>
    p.2.queue = q && issuable s c p.2

/-- The next ready queue after `q`, round again. -/
def nextReady (ready : List Nat) (q : Nat) : Nat :=
  ((ready.find? fun r => q < r).orElse fun _ => ready.head?).getD 0

/-- Deficit round-robin with a quantum of weight × 64 KiB: the queue served and the deficits left. A queue that has run
empty keeps its deficit (07 R205 does not say; DESIGN CHOICE, log entry 92). -/
def drr (s : State) (cost : Nat → Nat) (ready : List Nat) : Nat → Nat → Tbl Nat → Nat × Tbl Nat
  | 0, q, d => (q, d)
  | n + 1, q, d =>
    if ready.contains q && cost q ≤ Tbl.count d q then (q, Tbl.put d q (Tbl.count d q - cost q))
    else
      let q := nextReady ready q
      drr s cost ready n q (Tbl.add d q (dnat 0x6040 q 0 s * 65536))

/-- Key under which the deficits hold the queue a tier served last. -/
def tierPtr (tier : Nat) : Nat := 100 + tier

/-- Issue one command of a queue. -/
def issueMedia (b : Nat) (i : Nat) (m : MediaCmd) (s : State) : State :=
  let c := carOf s b
  let n := mediaBytes m s
  let cid := Tbl.freeFrom c.out c.nextCid (c.out.length + 1)
  let s := onCar b (fun x => { x with
    queue := x.queue.eraseIdx i
    out := Tbl.put x.out cid { m with issuedAt := s.now }
    nextCid := (cid + 1) % 65536
    recent := (x.recent.filter fun r => s.now < r.1 + 10 * milli) ++ [(s.now, m.queue, n)] ++
      (if m.op = .program && m.queue = qRebuild then [(s.now, qTarget, n)] else []) }) s
  let s := bump 0x6045 m.queue n s
  emit (.carrier b m.op cid m.eu m.page m.sector m.count m.level m.data m.header 0 0) s

/-- Serve one of the ready queues of a tier by weighted round-robin. -/
def serveTier (b tier : Nat) (ready : List Nat) (s : State) : State :=
  let c := carOf s b
  let cost := fun q => match headOf s c q with
    | some p => mediaBytes p.2 s
    | none => 0
  let r := drr s cost ready 200 (Tbl.count c.deficit (tierPtr tier)) c.deficit
  match headOf s c r.1 with
  | some p =>
    issueMedia b p.1 p.2 (onCar b (fun x => { x with deficit := Tbl.put r.2 (tierPtr tier) r.1 }) s)
  | none => s

/-- The choice of 07 R205. -/
def selectMedia (b : Nat) (s : State) : State :=
  let c := carOf s b
  if !mediaAllowed s || c.state ≠ .inService || !c.linkUp || !c.ready || !c.tagBound
    || cfg 0x6043 s ≤ c.out.length then s
  else
    let ready := ([2, 3, 4, 5, 6, 7, 8, 9].filter fun q => (headOf s c q).isSome)
    let tier := fun k => ready.filter fun q => tierOf s q = k
    let a := tier 0
    let bq := (tier 1).filter fun q => !(q = qHostX && ready.contains qHostC)
    let cq := tier 2
    let all10 := recentBytes s c (10 * milli) fun q => q < qTarget
    let all1 := recentBytes s c milli fun q => q < qTarget
    let a1 := recentBytes s c milli fun q => tierOf s q = 0
    if ready.contains qRebuild && recentBytes s c (10 * milli) (· = qRebuild) * 100 < cfg 0x6042 s * all10 then
      match headOf s c qRebuild with
      | some p => issueMedia b p.1 p.2 s
      | none => s
    else if !a.isEmpty && (a1 * 100 < cfg 0x6041 s * all1 || (bq.isEmpty && cq.isEmpty)) then
      serveTier b 0 a s
    else if !bq.isEmpty then serveTier b 1 bq s
    else if !cq.isEmpty then serveTier b 2 cq s
    else if !a.isEmpty then serveTier b 0 a s
    else s

/-- Erase an EU that is taken for use, after setting its cell mode where that changes (07 R182,
R189). -/
def prepareEu (c eu : Nat) (slc : Bool) (queue band : Nat) (s : State) : State :=
  let isSlc := (carOf s c).slc.contains eu
  let s := when (isSlc ≠ slc)
    (queueMedia c { mediaCmd .setCellMode eu 0 0 0 [] queue .setMode band with level := if slc then 1 else 0 }) s
  queueMedia c (mediaCmd .erase eu 0 0 0 [] queue .eraseEu band) s

/-- Program pages into a carrier's system EUs: after what is there, or, where they do not fit or the whole journal is
due, the whole journal into the other EU, erased before (06 R175; that the two EUs alternate is a DESIGN CHOICE, log
entry 94). -/
def writeSystem (c band : Nat) (add : Tbl Band) (all : Bool) (s : State) : State :=
  match s.xlat.geo with
  | none => s
  | some g =>
    let x := carOf s c
    let more := systemPages g.k x.sysPage add s
    let fits := !all && x.sysPage + more.length ≤ g.stripes
    let pages := if fits then more else systemPages g.k 0 s.xlat.journal s
    let which := if fits then x.sysEu else 1 - x.sysEu
    let first := if fits then x.sysPage else 0
    let eu := (systemEus x).getD which 0
    let s := when (!fits) (queueMedia c (mediaCmd .erase eu 0 0 0 [] qIngest .system band)) s
    let s := each pages.zipIdx (fun p s =>
      queueMedia c (mediaCmd .program eu (first + p.2) 0 0 p.1 qIngest .system band) s) s
    onCar c (fun x => { x with sysEu := which, sysPage := first + pages.length }) s

/-- The copies go to the healthy carriers with the lowest bay numbers; one that takes the place of another receives the
whole journal, event 0x5004 (06 R175). -/
def moveCopies (band : Nat) (s : State) : State :=
  let new := journalHolders s
  let old := s.xlat.journalCars
  let s := s.onXlat fun x => { x with journalCars := new }
  each (new.filter fun c => !old.contains c) (fun c s =>
    writeSystem c band [] true (when (!old.isEmpty) (raise 0x5004 (c + 1) (c + 1) 0 0) s)) s

/-- A band's journal entry is written to the carriers that hold the journal (06 R174, R175). -/
def writeJournalCopies (band : Nat) (s : State) : State :=
  let held := s.xlat.journalCars
  let s := moveCopies band s
  let add := match Tbl.get? s.xlat.journal band with
    | some e => [(band, e)]
    | none => []
  each (s.xlat.journalCars.filter held.contains) (fun c s => writeSystem c band add false s) s

/-- Removals are written to the carrier copies: the journal as it stands (06 R175). -/
def writeRemovals (s : State) : State :=
  let held := s.xlat.journalCars
  let s := moveCopies noBand (s.onXlat fun x => { x with journalRemovals := [] })
  each (s.xlat.journalCars.filter held.contains) (fun c s => writeSystem c noBand [] true s) s

/-- A band enters the journal: the caddy copy, the record, the carrier copies (06 R174). -/
def enterJournal (b : Nat) (s : State) : State := match bandAt s b with
  | some e => writeJournalCopies b (journalAdd b e s)
  | none => s

/-- Is a cell mode or an erase of a band's EUs still to be completed? -/
def beingErased (b : Nat) (s : State) : Bool :=
  (indices s.media.cars fun c =>
    c.queue.any (fun m => m.band = b && (decide (m.op = .erase) || decide (m.op = .setCellMode))) ||
    c.out.any fun p => p.2.band = b && (decide (p.2.op = .erase) || decide (p.2.op = .setCellMode))) ≠ []

/-- Staging bands that are not in the journal yet. -/
def stagingNew (s : State) : List Nat :=
  (s.xlat.bands.filter fun p => decide (p.2.kind = .staging) && p.2.isOpen && !Tbl.has s.xlat.journal p.1).map Prod.fst

/-- A staging band whose EUs are all erased enters the journal (07 R182 step 4). -/
def journalStaging (s : State) : State :=
  each ((stagingNew s).filter fun b => !beingErased b s) enterJournal s

/-- Open a band: width, members, journal; none when no band can be formed (06 R146, R174; 08 R212,
R229). -/
def openBand (kind : BandKind) (ns owner w queue : Nat) (s : State) : Option Nat × State :=
  let elig := ((List.range 24).filter (eligible s)).length
  if w = 0 || elig < w || w < cfg 0x5200 s || 4096 ≤ s.xlat.journal.length + (stagingNew s).length then (none, s)
  else
    let b := bandGap (bandUnits w) s.xlat.bands 0
    if bandTableUnits s < b + bandUnits w then (none, raiseLimited 0x5007 0 b 0x5037 0 s)
    else
      let seq := s.xlat.openseq
      let pl := placement s seq w
      let r := takeEus pl.1 s
      let e : Band :=
        { kind, isOpen := true, awaitResync := false, verify := false, retiring := false, ns, owner,
          program := 0, readers := 0, openseq := seq, members := r.1, retryPos := 0, readCount := 0,
          spares := pl.2 }
      let s := r.2.onXlat fun x => { x with openseq := x.openseq + 1 }
      let s := setBand b (some e) s
      let s := each r.1 (fun m s => when (m.carrier < 24)
        (prepareEu m.carrier m.eu (decide (kind = .staging)) queue b) s) s
      let s := when (kind ≠ .staging) (enterJournal b) s
      let w0 := (s.xlat.geo.map (·.w0)).getD 0
      let s := when (w < w0 && !s.xlat.narrowed)
        (fun s => raise 0x5205 0 w 0x5201 0 (s.onXlat fun x => { x with narrowed := true })) s
      let s := when (w = w0) (fun s => s.onXlat fun x => { x with narrowed := false }) s
      (some b, checkStage s)

end Sys2Proof.Machine
end

