-- ==== Sys2Proof/Machine/Flags.lean ====
section
/-! DEFINITION. The statuses and status bits the spec derives from the rest of the state: the status of
a command by the order of 03 R92, namespace states, and the states reported by the dictionary. -/

namespace Sys2Proof.Machine

/-! ### Namespaces (03 R63, R67; 07 R202; 08 R230) -/

/-- Namespaces are found among the records that hold LBs (06 R145). -/
def nsEnabled (ns : Nat) (s : State) : Bool := Tbl.has s.cmd.ns ns

/-- READ_ONLY by exhaustion, at the narrowing floor, or administratively. -/
def nsReadOnly (ns : Nat) (s : State) : Bool :=
  flag 0x3227 0 ns s || match Tbl.get? s.cmd.ns ns with
    | some n => n.roExhaust || n.roFloor
    | none => false

/-- The namespace record an NSID names in a subsystem. -/
def nsOf (subsys nsid : Nat) (s : State) : Option Nat :=
  (s.cmd.ns.find? fun p => dnat 0x3221 0 p.1 s = subsys && dnat 0x3222 0 p.1 s = nsid).map Prod.fst

/-- Size of a namespace in sectors. -/
def nsSize (ns : Nat) (s : State) : Nat := dnat 0x3223 0 ns s

/-! ### Status of an I/O command (03 R92) -/

/-- Largest transfer: 8 MiB (03 R68). -/
def maxSectors : Nat := 2048

/-- Does the opcode move data? -/
def Opc.moves : Opc → Bool
  | .read | .write => true
  | _ => false

/-- Commands refused on a READ_ONLY namespace. -/
def writes (o : Opc) (dealloc : Bool) : Bool := match o with
  | .write | .writeZeroes => true
  | .dsm => dealloc
  | _ => false

/-- The first condition met decides: FUSE, NSID, fields and MDTS, SGL type, SGL length, LBA range, write
protection. The opcode is one of the module's own, since each has its row. An attach command carries
PRPs and skips the SGL checks (13 R356). -/
def statusOf (o : Opc) (c : IoCmd) (subsys : Nat) (dealloc : Bool) (ranges : List (Nat × Nat)) (s : State) :
    Status × Nat :=
  let attach := match c.src with
    | .attach _ => true
    | .fabric _ => false
  if c.fuse ≠ 0 then (.invalidField, 0)
  else match (if c.nsid = 0xFFFFFFFF then none else nsOf subsys c.nsid s) with
    | none => (.invalidNs, 0)
    | some ns =>
      let size := nsSize ns s
      let far : Bool := match o with
        | .flush => false
        | .dsm => ranges.any fun r => size < r.1 + r.2
        | _ => decide (size < c.slba + c.nlb)
      if c.prot || (o.moves && maxSectors < c.nlb) || (decide (o = .writeZeroes) && 65536 < c.nlb)
          || (attach && !c.sgl.typeOk) then (.invalidField, ns)
      else if (o.moves || decide (o = .dsm)) && !attach && !c.sgl.typeOk then (.sglType, ns)
      else if o.moves && !attach && c.sgl.len ≠ c.nlb * 4096 then (.sglLength, ns)
      else if far then (.lbaRange, ns)
      else if writes o dealloc && nsReadOnly ns s then (.writeProtected, ns)
      else (.success, ns)

/-- Admission units of a command (03 R83). -/
def cost (o : Opc) (nlb : Nat) : Nat := if o.moves then nlb else 1

/-! ### Token buckets (03 R84, 05 R135) -/

/-- Level of a bucket refilled to now, in 10⁻⁹ tokens; a bucket not listed is full. -/
def bucketLevel (t : Tbl Bucket) (k rate depth now : Nat) : Nat := match Tbl.get? t k with
  | some b => min (depth * 1000000000) (b.level + rate * (now - b.stamp))
  | none => depth * 1000000000

/-- Charge a bucket; a rate of 0 never limits and is never charged. -/
def bucketCharge (t : Tbl Bucket) (k rate depth now n : Nat) : Tbl Bucket :=
  if rate = 0 then t
  else Tbl.put t k { level := bucketLevel t k rate depth now - n * 1000000000, stamp := now }

/-- Holds the bucket at least n tokens? -/
def bucketHas (t : Tbl Bucket) (k rate depth now n : Nat) : Bool :=
  rate = 0 || n * 1000000000 ≤ bucketLevel t k rate depth now

/-! ### States reported by the dictionary -/

/-- PORT_STATE (02 R26, R61): absent in the group's configuration, disabled, up or down. -/
def portPresent (p : Nat) (s : State) : Bool :=
  match (atNat s.net.groupRun (p / 4)).getD 0 with
  | 0 => p % 4 = 0
  | 1 => p % 2 = 0
  | 2 => true
  | _ => false

def portStateCode (p : Nat) (s : State) : Nat :=
  if !portPresent p s then 0
  else if !flag 0x3002 (p + 1) 0 s then 3
  else if (portOf s p).up then 2 else 1

/-- Port speed in Mbit/s (02 R26). -/
def portRate (p : Nat) (s : State) : Nat :=
  match (atNat s.net.groupRun (p / 4)).getD 0 with
  | 0 => 400000 | 1 => 200000 | 2 => 100000 | _ => 0

/-- Service addresses of a port, and ports that carry one (02 R33). -/
def svcsOf (p : Nat) (s : State) : List Nat :=
  (List.range 64).filter fun k => dnat 0x3022 (k + 1) 0 s = p + 1
def servicePorts (s : State) : List Nat := (List.range 32).filter fun p => !(svcsOf p s).isEmpty

/-- Is a group MAC set? (02 R34) -/
def groupMacSet (p : Nat) (s : State) : Bool := !allZero (doct 0x3010 (p + 1) 0 s)

/-- Every port that carries a service address is confirmed (02 R44). -/
def allConfirmed (s : State) : Bool := (servicePorts s).all fun p => (portOf s p).dual = 1

/-- An IPv4 address is held in an ADDR as an IPv4-mapped value (00 "Dictionary types"). -/
def isV4 (a : Bytes) : Bool := a.take 12 = [0, 0, 0, 0, 0, 0, 0, 0, 0, 0, 0xFF#8, 0xFF#8]

/-- PAIR_STATE (10 R305). -/
def pairState (s : State) : Nat :=
  if s.pair.lag = .fencing then 6
  else if s.pair.lag = .late then 5
  else if s.pair.partnerJoining then 4
  else if s.pair.paired then (if s.pair.cold then 3 else 2)
  else if s.pair.pairing then 1
  else 0

/-- ENTROPY_STATE (09 R262). -/
def entropyState (s : State) : Nat := 2 - ((s.cipher.sourceOk.toList).filter id).length

/-- Carriers whose last value read names this module with the pair epoch (10 R285). -/
def ownValue (s : State) : BitVec 64 := s.pair.epoch ++ s.ident.tag
def ownsCarrier (s : State) (c : Nat) : Bool := (carOf s c).value = ownValue s
def carriersHeld (s : State) : Nat := ((List.range 24).filter (ownsCarrier s)).length

/-- Seated carriers: both seating pins confirm (10 R285). -/
def seatedBays (s : State) : List Nat := (List.range 24).filter fun b => (bayOf s b).seated

/-- A strict majority of the seated carriers. -/
def strictMajority (won seated : Nat) : Bool := seated < 2 * won

/-- Any hold-up, life or part reason sets DEGRADED (14 R394). -/
def degradedModule (s : State) : Bool := s.repair.reason ≠ 0

/-- Lowest serving condition of an attach group: Optimized in SOLO and ACTIVE (13 R363). -/
def attachOptimized (s : State) : Bool := inMode [.solo, .active] s

end Sys2Proof.Machine
end

