-- ==== Sys2Proof/Machine/Sending.lean ====
section
/-! DEFINITION. Sending to hosts: the lengths of messages and frames, their headers, the queues of connections
and ports, and the plan (02 R32, R38, R39, R45, R48, R58, R59; 05 R130, R137). -/

namespace Sys2Proof.Machine

/-! ### Lengths (02 R45, R49; 05 R137) -/

/-- Payload bytes of a message: an NVMe/TCP PDU with its 24 bytes of header or capsule; on RDMA a Write holds the
data alone, a Send 16 bytes of response, and a message of connection management 256 (the lengths without a rule
are PRESUMED from the published formats, log entry 13). SYN and FIN have none. -/
def pduLen (k : Transport) : HostMsg → Nat
  | .data _ _ l => (if k = .tcp then 24 else 0) + 4096 * l.length
  | .adminData _ _ _ b => (if k = .tcp then 24 else 0) + b.length
  | .rdmaRead .. => 0
  | .serverHello .. => 122
  | .synAck .. | .fin => 0
  | .keyUpdate => 5
  | .alert _ | .closeNotify => 2
  | .rep _ | .rej _ | .dreq => 256
  | _ => if k = .tcp then 24 else 16

/-- TLS records that carry a message: plaintext of 16,384 bytes or fewer each (02 R49). -/
def recordsOf (x : Conn) (m : HostMsg) : Nat := if x.tls.active then (pduLen x.info.kind m + 16383) / 16384 else 0

/-- Bytes sent for a message: with TLS each record adds 22 bytes of header, type and tag (PRESUMED from RFC
8446, log entry 13). -/
def bytesOf (x : Conn) (m : HostMsg) : Nat := pduLen x.info.kind m + 22 * recordsOf x m

/-- Positions a message occupies: bytes on TCP, and one for SYN and FIN; on RoCE packets of the path MTU, those of
the response for an RDMA Read, and none for connection management on QP1 (02 R58). -/
def spanOf (x : Conn) (m : HostMsg) (s : State) : Nat :=
  let packets := fun (n : Nat) => max 1 ((n + cfg 0x3130 s - 1) / cfg 0x3130 s)
  match m with
  | .synAck .. | .fin => 1
  | .rep _ | .rej _ | .dreq => 0
  | .rdmaRead _ _ _ _ n => packets n
  | _ => if x.info.kind = .tcp then bytesOf x m else packets (pduLen .rdma m)

/-- VLAN of a service address (02 R32). -/
def svcVlan (svc : Nat) (s : State) : Nat := dnat 0x3023 (svc + 1) 0 s

/-- Bytes of a tag. -/
def tagBytes (svc : Nat) (s : State) : Nat := if svcVlan svc s = 0 then 0 else 4

/-- Is a service address IPv4? -/
def svcV4 (svc : Nat) (s : State) : Bool := isV4 (doct 0x3020 (svc + 1) 0 s)

/-- Bytes of the IP and TCP headers without options. -/
def ipTcp (svc : Nat) (s : State) : Nat := if svcV4 svc s then 40 else 60

/-- MSS that the module advertises (02 R45). -/
def mssOffered (info : ConnInfo) (s : State) : Nat :=
  dnat 0x3003 (info.port + 1) 0 s - 18 - tagBytes info.svc s - ipTcp info.svc s

/-- Payload bytes of one frame of a connection (02 R45). -/
def segMax (x : Conn) (s : State) : Nat :=
  if x.info.kind = .tcp then
    max 1 (min x.info.mss (x.pmtu - ipTcp x.info.svc s) - (if x.info.tstamps then 12 else 0))
  else max 1 (cfg 0x3130 s)

/-- Bytes of a frame's headers from destination address through FCS (the RoCE headers are PRESUMED from RoCEv2,
log entry 13). -/
def headerBytes (x : Conn) (s : State) : Nat :=
  18 + tagBytes x.info.svc s +
    (if x.info.kind = .tcp then ipTcp x.info.svc s + (if x.info.tstamps then 12 else 0)
     else (if svcV4 x.info.svc s then 20 else 40) + 24)

/-- Header bytes that only the first frame of a message carries: the options of a SYN-ACK, the address of an RDMA
Write or Read, the key of a Send with Invalidate (PRESUMED, log entry 13). -/
def firstBytes : HostMsg → Nat
  | .synAck _ shift sack _ _ => 4 + (if shift.isSome then 4 else 0) + (if sack then 4 else 0)
  | .data _ (some _) _ | .adminData _ (some _) _ _ | .rdmaRead .. => 16
  | .completion _ _ _ _ (some _) => 4
  | .rep _ | .rej _ | .dreq => 8
  | _ => 0

/-- Payload bytes of the next frame of a queue's head. -/
def nextBytes (x : Conn) (f : TxFrame) (s : State) : Nat := min (segMax x s) (f.len - f.sent)

/-- Accounted length of the next frame: the whole frame, at least 64 bytes, and the overhead of a 200G or 100G
port (05 R137). -/
def accounted (x : Conn) (f : TxFrame) (s : State) : Nat :=
  let code := (atNat s.net.groupRun (x.info.port / 4)).getD 0
  max 64 (headerBytes x s + (if f.sent = 0 then firstBytes f.msg else 0) + nextBytes x f s) +
    (if code = 1 || code = 2 then cfg 0x4320 s else 0)

/-- A retransmission timeout within RTO_MIN and 200 ms (02 R45). -/
def rtoClamp (n : Nat) (s : State) : Nat := min (200 * milli) (max (cfg 0x3104 s) n)

/-- Congestion control as a connection opens, or as a module that takes it over starts it: a window of 10 segments
of `seg` bytes, no sample, the first timeout of RFC 6298 within the limits (02 R45). -/
def tcpNew (pos wnd seg : Nat) (s : State) : TcpTx :=
  { sent := pos, wnd, cwnd := 10 * seg, ssthresh := 2 ^ 32, sacked := [], dups := 0, recover := none, rexmit := pos,
    rtt := none, rto := rtoClamp second s, timer := none, timed := none }

/-! ### Headers (02 R32, R38, R39, R48) -/

/-- The station MAC of a port: the module's base and the port (PRESUMED, log entry 17). -/
def stationMac (p : Nat) (s : State) : BitVec 48 := s.ident.macBase + BitVec.ofNat 48 p

/-- TSval: the pair clock in ticks of 1 ms (02 R45, R48). -/
def tsNow (s : State) : Nat := pairTime s / milli % 2 ^ 32

/-- Header of a frame of a connection with what its opening fixed. -/
def connHdr (i : ConnInfo) (s : State) : FrameHdr :=
  let vlan := svcVlan i.svc s
  { src := stationMac i.port s, vlan, pcp := if vlan = 0 then 0 else i.pcp, dscp := i.dscp
    ect := decide (i.kind = .rdma) || i.ecn, df := svcV4 i.svc s
    tsval := if decide (i.kind = .tcp) && i.tstamps then some (tsNow s) else none }

/-- Address that a frame of no connection speaks for. -/
def msgAddr : HostMsg → Bytes
  | .arpReply a _ | .neighborAdvert a _ _ _ _ | .neighborSolicit a | .gratuitousArp a _ | .echoReply a => a
  | _ => []

/-- Header of a frame of no connection: the VLAN of the service address it speaks for. -/
def portHdr (p : Nat) (m : HostMsg) (s : State) : FrameHdr :=
  let vlan := (((svcsOf p s).find? fun k => decide (doct 0x3020 (k + 1) 0 s = msgAddr m)).map
    fun k => svcVlan k s).getD 0
  let echo : Bool := match m with
    | .echoReply a => isV4 a
    | _ => false
  { src := stationMac p s, vlan, pcp := 0, dscp := 0, ect := false, df := echo, tsval := none }

/-! ### Queues (05 R130) -/

/-- Numbers of ended connections that still send start here. -/
def closingBase : Nat := 65536

/-- A connection, or what is left to send of an ended one. -/
def flowOf (s : State) (k : Nat) : Option Conn :=
  if k < closingBase then connOf s k else (Tbl.get? s.egress.closing k).map (·.x)

def onFlow (k : Nat) (f : Conn → Conn) (s : State) : State :=
  if k < closingBase then onConn k f s
  else s.onEgress fun e => { e with closing := Tbl.upd e.closing k fun c => { c with x := f c.x } }

/-- Frames of the control queue: no payload and no SYN or FIN, and what speaks for no connection. -/
def isControl : HostMsg → Bool
  | .ack .. | .rst | .rnrNak _ | .remoteAccessNak | .cnp => true
  | .arpReply .. | .arpRequest _ | .neighborAdvert .. | .neighborSolicit .. | .gratuitousArp .. | .echoReply _
  | .probe .. => true
  | _ => false

/-- Has the message a payload or SYN or FIN, and so a place in the plan? (02 R58) Connection management runs on
QP1, outside the positions of the connection; a REP is planned all the same (02 R57). -/
def isPlanned (m : HostMsg) : Bool := !isControl m && match m with
  | .rej _ | .dreq => false
  | _ => true

/-- Put a frame at the end of its connection's queue. -/
def enqueue (c : Nat) (f : TxFrame) (s : State) : State := onFlow c (fun x => { x with sendQ := x.sendQ ++ [f] }) s

/-- Put a message with its header at the end of a port's control queue. -/
def ctrlPut (port c : Nat) (h : FrameHdr) (m : HostMsg) (s : State) : State :=
  s.onEgress fun e => { e with ports := updNat e.ports port fun q => { q with ctrlQ := q.ctrlQ ++ [(c, h, m)] } }

/-- Header of a control frame: the connection's where it names one, else the port's. -/
def ctrlHdr (port c : Nat) (m : HostMsg) (s : State) : FrameHdr := match connOf s c with
  | some x => connHdr x.info s
  | none => portHdr port m s

/-- Put a message of a port, or of a connection, in the control queue. -/
def ctrlSend (port c : Nat) (m : HostMsg) (s : State) : State := ctrlPut port c (ctrlHdr port c m s) m s

/-! ### The plan (02 R58, R59) -/

/-- Protection of the next message of a connection. -/
def protOf (x : Conn) : Option TlsProt :=
  if x.tls.active then some { key := x.tls.chain.txKey, iv := x.tls.chain.txIv, seq := x.tls.txSeq } else none

/-- Check values of a message: one for each TLS record, or one for the unprotected PDU. -/
def checksOf (x : Conn) (m : HostMsg) : List (BitVec 32) :=
  (List.range (max 1 (recordsOf x m))).map (Config.check32 m)

/-- A message at the connection's next stream position. -/
def frameOf (x : Conn) (m : HostMsg) (cmd : Nat) : TxFrame :=
  { msg := m, len := bytesOf x m, sent := 0, plan := none, cmd, pos := x.txNext, checks := [], prot := protOf x }

/-- The connection's next position after a message. -/
def pastMsg (m : HostMsg) (s : State) (x : Conn) : Conn :=
  let r := recordsOf x m
  { x with
    txNext := x.txNext + spanOf x m s
    tls := { x.tls with txSeq := x.tls.txSeq + r, txRecords := x.tls.txRecords + r } }

/-- Send a message of connection `x`, numbered `k` in the record and `n` in the queues: with a partner it enters
the PLAN of the record of this cycle and waits for it, alone it joins the queue, and a joiner is told of it (10
R292). -/
def planOrQueue (k n : Nat) (x : Conn) (m : HostMsg) (cmd : Nat) (s : State) : State :=
  let f := frameOf x m cmd
  if !isPlanned m then enqueue n f s
  else
    let v := checksOf x m
    let e : RecEntry := .plan k x.txNext x.tls.txSeq v m
    if s.pair.paired then
      let c := recCycle s
      (record e s).onPair fun p =>
        { p with planned := p.planned ++ [{ cycle := c, conn := n, frame := { f with plan := some c, checks := v } }] }
    else enqueue n f (when s.pair.partnerJoining (record e) s)

/-- Send on a connection; only a module that decides sends. A control message goes to the port's control queue at
once. -/
def sendHost (c : Nat) (m : HostMsg) (cmd : Nat) (s : State) : State :=
  match connOf s c with
  | none => s
  | some x =>
    if !decides s then s
    else if isControl m then ctrlSend (x.info.port) c m s
    else planOrQueue c c x m cmd (onConn c (pastMsg m s) s)

/-! ### Ended connections (02 R47, R58; 03 R69) -/

/-- The last messages of an ended connection, each at its own position. -/
def lastMessages (k n : Nat) : List HostMsg → State → State
  | [], s => s
  | m :: l, s => match flowOf s n with
    | none => s
    | some x => lastMessages k n l (planOrQueue k n x m 0 (onFlow n (pastMsg m s) s))

/-- When the queue of an ended connection is empty its control frames follow, and nothing of it is left. -/
def closingDone (n : Nat) (s : State) : State := match Tbl.get? s.egress.closing n with
  | none => s
  | some c =>
    let busy := !c.x.sendQ.isEmpty || (s.pair.planned.any fun q => q.conn = n) ||
      s.cipher.units.any fun p => match p.2.op with
        | .egress _ k _ _ _ _ _ _ => k = n
        | _ => false
    if busy then s
    else each c.after (fun m s => ctrlPut c.x.info.port n (connHdr c.x.info s) m s)
      (s.onEgress fun e => { e with closing := Tbl.del e.closing n })

/-- What is left to send of connection `x`, numbered `k`, when it ends: with no last message its control frames
leave at once; else what is queued and planned stays, the last messages follow it, and the control frames come
after them. A module that does not transmit sends nothing. -/
def finalSend (k : Nat) (x : Conn) (plans : List Planned) (l after : List HostMsg) (s : State) : State :=
  if !transmits s then s
  else if l.isEmpty then each after (fun m s => ctrlPut x.info.port k (connHdr x.info s) m s) s
  else
    let n := Tbl.freeFrom s.egress.closing closingBase (s.egress.closing.length + 1)
    let s := s.onEgress fun e => { e with closing := Tbl.put e.closing n { x, after } }
    let s := s.onPair fun p => { p with planned := p.planned ++ plans.map fun q => { q with conn := n } }
    let s := s.onCipher fun c => { c with units := c.units.map fun p => match p.2.op with
      | .egress a j off len last m h pr =>
        (p.1, if j = k then { p.2 with op := .egress a n off len last m h pr } else p.2)
      | _ => p }
    lastMessages k n l s

/-! ### Ports without frames (05 R134) -/

/-- Connections of a port with a queued frame, ended ones among them, by number. -/
def queuedOn (p : Nat) (s : State) : List (Nat × Conn) :=
  (s.conns ++ s.egress.closing.map fun q => (q.1, q.2.x)).filter fun q =>
    q.2.info.port = p && !q.2.sendQ.isEmpty

/-- A port with nothing queued starts its virtual time afresh. -/
def portIdle (p : Nat) (s : State) : State :=
  let q := ((atNat s.egress.ports p).map (·.ctrlQ)).getD []
  if (queuedOn p s).isEmpty && q.isEmpty then
    let fresh := fun (x : Conn) => if x.info.port = p then { x with finish := 0 } else x
    let s := s.onEgress fun e => { e with
      ports := updNat e.ports p fun x => { x with v := 0 }
      closing := e.closing.map fun c => (c.1, { c.2 with x := fresh c.2.x }) }
    s.onConns fun m => m.map fun c => (c.1, fresh c.2)
  else s

end Sys2Proof.Machine
end

