-- ==== Sys2Proof/Machine/Flow.lean ====
section
/-! DEFINITION. The path of a command through the module: notices to controllers, completion and its
release (01 R16, R20; 10 R275), the end of a connection (03 R82), pot lookup and pouring (04), the
start of media reads (06 R170), data solicitation, placement and dispatch (03 R76). -/

namespace Sys2Proof.Machine

/-! ### Where a command comes from -/

end Sys2Proof.Machine

namespace Sys2Proof
open Machine

/-- The queue key of a source, for the rows that name a queue: connection, or 65,536 and the SQID. -/
def Src.conn : Src → Nat
  | .fabric c => c
  | .attach _ => 0
def Src.sqid : Src → Nat
  | .fabric _ => 0
  | .attach q => q

end Sys2Proof

namespace Sys2Proof.Machine

/-- Queue number of a source. -/
def srcQid (src : Src) (s : State) : Nat := match src with
  | .attach q => q
  | .fabric c => ((connOf s c).map (·.qid)).getD 0

/-- Pool that holds what a connection receives (04 R96). -/
def rxPool (x : Conn) : Nat := if x.info.kind = .tcp then poolTcpRx else poolRoceRx

/-- Number of an attach submission queue's host record: ATTACH_HOST (13 R356). -/
def attachHost (s : State) : Nat := cfg 0x6204 s

/-- Subsystem and host record of a source. -/
def subsysOf (src : Src) (s : State) : Nat := match src with
  | .attach _ => cfg 0x6203 s
  | .fabric c => match (connOf s c).bind (·.ctrl) with
    | some k => match Tbl.get? s.cmd.ctrls k with
      | some x => x.subsys
      | none => 0
    | none => 0

def hostOf (src : Src) (s : State) : Nat := match src with
  | .attach _ => attachHost s
  | .fabric c => match (connOf s c).bind (·.ctrl) with
    | some k => match Tbl.get? s.cmd.ctrls k with
      | some x => x.host
      | none => 0
    | none => 0

/-! ### Notices to controllers (03 R66, R67; 13 R363) -/

/-- Dword 0 of the notices: type Notice, the information and the log page (PRESUMED from NVMe, log entry
13). -/
def nsNoticeDw : Nat := 0x00040002
def anaNoticeDw : Nat := 0x000C0302
def discNoticeDw : Nat := 0x0070F002

/-- Number the message carries as SQHD: the queue's head after this command (03 R69). -/
def bumpSqhd (conn : Nat) (s : State) : State :=
  onConn conn (fun x => { x with sqhd := if x.sqsize ≤ x.sqhd then 0 else x.sqhd + 1 }) s

/-- The head moves when the deciding module completes a command; a partner's moves with the plan (02 R58). -/
def takeHead (conn : Nat) (s : State) : State := when (decides s) (bumpSqhd conn) s

/-- The queue head a completion of a connection carries, unless the host disabled SQ flow control (03 R69). -/
def sqhdOf (conn : Nat) (s : State) : Option Nat := match connOf s conn with
  | some x => if x.sqFlow then some x.sqhd else none
  | none => none

/-- The key that a response invalidates: on RDMA, when the command's keyed SGL asks for it (02 R52). -/
def invalOf (conn : Nat) (g : Sgl) (s : State) : Option (BitVec 32) := match connOf s conn with
  | some x => if x.info.kind = .rdma && g.inval then some g.key else none
  | none => none

/-- Where the data of a command goes: on RDMA the address and key of its SGL (04 R109). -/
def destOf (conn : Nat) (g : Sgl) (s : State) : Option (Nat × BitVec 32) := match connOf s conn with
  | some x => if x.info.kind = .rdma then some (g.addr, g.key) else none
  | none => none

/-- Send a completion on a connection: the queue's head moves, and the completion carries it. `cmd` is the command
it releases. -/
def sendCpl (conn cid : Nat) (st : Status) (dw0 : Nat) (inval : Option (BitVec 32)) (cmd : Nat) (s : State) :
    State :=
  let s := takeHead conn s
  sendHost conn (.completion cid st dw0 (sqhdOf conn s) inval) cmd s

/-- Complete one outstanding event request of a fabric controller. -/
def notice (k dw : Nat) (s : State) : State :=
  match Tbl.get? s.cmd.ctrls k with
  | none => s
  | some x => match x.aers with
    | [] => s
    | cid :: rest => sendCpl x.admin cid .success dw none 0 (onCtrl k (fun x => { x with aers := rest }) s)

/-- Completion queue of a submission queue. -/
def cqOf (q : Nat) (s : State) : Nat := ((Tbl.get? s.attach.sqs q).map (·.cq)).getD q

/-- Has a completion queue room for an entry? -/
def cqRoom (cq : Nat) (s : State) : Bool := match Tbl.get? s.attach.cqs cq with
  | some x => decide (1 ≤ x.size) && (x.tail + 1) % x.size ≠ x.head
  | none => false

/-- Signal an MSI-X vector; without Bus Master Enable it stays pending (13 R361). -/
def msixSend (v : Nat) (s : State) : State :=
  if s.attach.bme then emit (.msix v) s
  else s.onAttach fun a => { a with pba := if a.pba.contains v then a.pba else a.pba ++ [v] }

/-- Write one completion entry and signal its queue's vector (13 R352). -/
def writeCqe (e : Nat × Nat × Status × Nat) (s : State) : State :=
  let cq := cqOf e.1 s
  let s := s.onAttach fun a => { a with cqs := Tbl.upd a.cqs cq fun x => { x with tail := (x.tail + 1) % x.size } }
  msixSend cq (emit (.attachCqe e.1 e.2.1 e.2.2.1 e.2.2.2) s)

/-- Write the held completion entries in order: each when Bus Master Enable is set, its queue has room and no
earlier entry of its queue is held. -/
def drainCqes (s : State) : State :=
  let l := s.attach.heldCqes
  each l (fun e s =>
    let cq := cqOf e.1 s
    if s.attach.bme && cqRoom cq s && !(s.attach.heldCqes.any fun h => cqOf h.1 s = cq) then writeCqe e s
    else s.onAttach fun a => { a with heldCqes := a.heldCqes ++ [e] })
    (s.onAttach fun a => { a with heldCqes := [] })

/-- Complete an entry of an attach submission queue. -/
def postCqe (q cid : Nat) (st : Status) (dw0 : Nat) (s : State) : State :=
  if s.attach.ccEn then
    drainCqes (s.onAttach fun a => { a with heldCqes := a.heldCqes ++ [(q, cid, st, dw0)] })
  else s

/-- Bit of the event configuration (feature 0Bh) that enables the notices of namespaces, of ANA and of the
discovery log (PRESUMED from NVMe, log entry 13). -/
def noticeOn (config bit : Nat) : Bool := (BitVec.ofNat 32 config).getLsbD bit

/-- Complete one outstanding event request of the attach controller. -/
def attachNotice (dw : Nat) (s : State) : State :=
  match s.attach.aers with
  | [] => s
  | cid :: rest => postCqe 0 cid .success dw (s.onAttach fun a => { a with aers := rest })

/-- The attach controller lists a changed namespace, and is told unless disabled or masked by an unread notice (03
R67). -/
def attachNsChanged (nsid : Nat) (s : State) : State :=
  let a := s.attach
  let send := !a.nsNotice && noticeOn a.features 8 && !a.aers.isEmpty
  let s := s.onAttach fun a => { a with
    changedNs := if a.changedNs.contains nsid then a.changedNs else a.changedNs ++ [nsid]
    nsNotice := a.nsNotice || send }
  when send (attachNotice nsNoticeDw) s

/-- The ANA group of the attach controller changes: the controller is told under the same conditions (13 R363). -/
def attachAnaChanged (s : State) : State :=
  let a := s.attach
  if !a.anaNotice && noticeOn a.features 11 && !a.aers.isEmpty then
    attachNotice anaNoticeDw (s.onAttach fun a => { a with anaNotice := true, anaChanged := false })
  else s.onAttach fun a => { a with anaChanged := !a.anaNotice }

/-- A namespace is enabled, disabled or changes READ_ONLY state: every controller of its subsystem lists
it, and a request completes unless disabled or masked by an unread notice (03 R67). -/
def namespaceChanged (ns : Nat) (s : State) : State :=
  let sub := dnat 0x3221 0 ns s
  let nsid := dnat 0x3222 0 ns s
  let s := raise 0x3203 ns nsid 0x3226 0 s
  let s := each s.cmd.ctrls (fun p s =>
    if p.2.subsys = sub && !p.2.discovery then
      let send := decides s && !p.2.nsNotice && noticeOn p.2.aenConfig 8 && !p.2.aers.isEmpty
      let s := onCtrl p.1 (fun x => { x with
        changedNs := if x.changedNs.contains nsid then x.changedNs else x.changedNs ++ [nsid]
        nsNotice := x.nsNotice || send }) s
      when send (notice p.1 nsNoticeDw) s
    else s) s
  when (cfg 0x6203 s = sub && s.attach.ccEn) (attachNsChanged nsid) s

/-- The discovery log changes: discovery controllers that enabled the notice are told, now or with their next
request (03 R66). -/
def discoveryChanged (s : State) : State :=
  each s.cmd.ctrls (fun p s =>
    if decides s && p.2.discovery && !p.2.logNotice then
      if noticeOn p.2.aenConfig 31 && !p.2.aers.isEmpty then
        notice p.1 discNoticeDw (onCtrl p.1 (fun x => { x with logNotice := true }) s)
      else onCtrl p.1 (fun x => { x with logChanged := true }) s
    else s) s

/-- Set READ_ONLY of a namespace on one account, with the notices when its state changes (07 R202, 08
R230). `cause` 1 is exhaustion, 2 the narrowing floor, 3 the administrative flag. -/
def setReadOnly (ns cause : Nat) (on : Bool) (s : State) : State :=
  let before := nsReadOnly ns s
  let s := s.onCmd fun c => { c with ns := Tbl.upd c.ns ns fun n =>
    match cause with
    | 1 => { n with roExhaust := on }
    | 2 => { n with roFloor := on }
    | _ => n }
  let s := record (.readOnly ns cause on) s
  when (before ≠ nsReadOnly ns s) (namespaceChanged ns) s

/-- Modes whose own observations decide carrier states (08 R216). -/
def serving (s : State) : Bool := inMode [.solo, .active, .quiesced] s

/-- Can no band be formed? (08 R229, R230) -/
def noBand8 (s : State) : Bool := s.xlat.geo.isSome && widthNow s = 0

/-- No band can be formed: every namespace is READ_ONLY, event 0x5206 (08 R230). -/
def floorCheck (s : State) : State :=
  if serving s && noBand8 s && !s.media.floorRo then
    let s := s.onMedia fun m => { m with floorRo := true }
    raise 0x5206 0 0 0x5201 0 (each s.cmd.ns (fun p s => setReadOnly p.1 2 true s) s)
  else s

/-! ### Completion -/

/-- A generation with no user left is released (13 R360). -/
def dropGen (g : Nat) (s : State) : State :=
  let n := Tbl.count s.attach.genUsers g - 1
  s.onAttach fun a =>
    if n = 0 then { a with genUsers := Tbl.del a.genUsers g,
                           gens := if g = a.gen then a.gens else Tbl.del a.gens g }
    else { a with genUsers := Tbl.put a.genUsers g n }

/-- A command leaves the table: its context is free and its granules return (03 R69, R70). -/
def releaseCmd (id : Nat) (s : State) : State :=
  match cmdOf s id with
  | none => s
  | some c =>
    let s := s.onCmd fun d => { d with cmds := Tbl.del d.cmds id, solicitQ := d.solicitQ.filter (· ≠ id) }
    let s := giveBack c.pool c.granules s
    match c.src with
    | .attach _ => dropGen c.gen s
    | .fabric _ => s

/-- Does the completion wait for a record of a cycle? A write that was placed, a Write Zeroes or a
deallocation does (01 R16). -/
def durable (c : Cmd) : Bool := match c.opc with
  | .write | .writeZeroes | .dsm => decide (c.status = .success)
  | _ => false

/-- Errors of a list of 64, newest first (03 R90). -/
def pushError (n qid cid : Nat) (st : Status) (nsid : Nat) (l : List ErrEntry) : List ErrEntry :=
  ({ number := n + 1, qid, cid, status := st, nsid } :: l).take 64

/-- A command that completes with an error enters its controller's Error Information log. -/
def logError (src : Src) (cid : Nat) (st : Status) (nsid : Nat) (s : State) : State :=
  if st = .success then s
  else match src with
    | .attach q => s.onAttach fun a => { a with
        errLog := pushError a.errCount q cid st nsid a.errLog, errCount := a.errCount + 1 }
    | .fabric k => match connOf s k with
      | some x => match x.ctrl with
        | some i => onCtrl i (fun c => { c with
            errLog := pushError c.errCount x.qid cid st nsid c.errLog, errCount := c.errCount + 1 }) s
        | none => s
      | none => s

/-- A command performed counts in the Data Units of its controller (03 R90). -/
def countUnits (c : Cmd) (st : Status) (s : State) : State :=
  let r := if st = .success && c.opc = .read then c.nlb else 0
  let w := if st = .success && c.opc = .write then c.nlb else 0
  match c.src with
  | .attach _ => s.onAttach fun a => { a with unitsRead := a.unitsRead + r, unitsWritten := a.unitsWritten + w }
  | .fabric k => match (connOf s k).bind (·.ctrl) with
    | some i => onCtrl i (fun x => { x with unitsRead := x.unitsRead + r, unitsWritten := x.unitsWritten + w }) s
    | none => s

/-- Put a command's completion out: on its connection or in its completion queue. -/
def sendCompletion (id : Nat) (c : Cmd) (s : State) : State := match c.src with
  | .fabric k => sendCpl k c.cid c.status 0 (invalOf k c.sgl s) id s
  | .attach q =>
    postCqe q c.cid c.status 0 s

/-- A command ends with a status. Alone the module releases at once, but the completion of a durable
write waits for the end of the cycle; with a partner the completion is planned in the record of this
cycle, and a durable attach write waits for its commitment (01 R16; 02 R58; 10 R275). An attach command
held at a clear of Bus Master Enable keeps the status it was given then (13 R361). -/
def complete (id : Nat) (st : Status) (s : State) : State :=
  match cmdOf s id with
  | none => s
  | some c => if c.bmeHeld then s else
    let c := { c with status := st, phase := .completing, cycle := recCycle s }
    let s := onCommand id (fun _ => c) s
    let s := if c.orphan then s else logError c.src c.cid st c.nsid (countUnits c st s)
    if c.orphan then releaseCmd id s
    else match c.src with
      | .fabric _ =>
        if s.pair.paired then sendCompletion id c s
        else if durable c then s
        else releaseCmd id (sendCompletion id c s)
      | .attach _ =>
        if !s.attach.bme then onCommand id (fun c => { c with bmeHeld := true }) s
        else if durable c then s
        else releaseCmd id (sendCompletion id c s)

/-! ### Fill references (04 R103, 06 R170) -/

/-- A read resolved to a slot is finished (06 R162 step 4, R170). -/
def dropSlotRef (k : Nat) (s : State) : State :=
  reapSlots (s.onXlat fun x => { x with slots := Tbl.upd x.slots k fun y => { y with readers := y.readers - 1 } })

/-- A read resolved to a band is finished. -/
def dropBandRef (b : Nat) (s : State) : State :=
  releaseSources (onBandLocal b (fun e => { e with readers := e.readers - 1 }) s)

/-- Readers that a fill holds are let go. -/
def dropReaders (id : Nat) (s : State) : State :=
  match Tbl.get? s.pot.bufs id with
  | none => s
  | some b =>
    let s := s.onPot fun p => { p with bufs := Tbl.upd p.bufs id fun b => { b with slotRefs := [], bandRefs := [] } }
    each b.bandRefs dropBandRef (each b.slotRefs dropSlotRef s)

/-! ### Pouring (04 R104, R109) -/

/-- Write a command's sectors into the window store at its BAR2 offset (13 R360). -/
def storeBytes (off : Nat) (b : Bytes) (m : List Host.Cell) : List Host.Cell :=
  (b.zipIdx).foldl (fun m p => if p.1 = 0 then Tbl.del m (off + p.2) else Tbl.put m (off + p.2) p.1) m

/-- Is it a data PDU of a command, or its completion? -/
def isDataOf (cid : Nat) (m : HostMsg) : Bool := match m with
  | .data c _ _ => c = cid
  | _ => false
def isEndOf (cid : Nat) (m : HostMsg) : Bool := match m with
  | .completion c _ _ _ _ => c = cid
  | _ => false

/-- Send what a plan taken over already names: the regenerated data at its planned positions with the
plan's check values, then the planned completion (02 R59, 10 R289). -/
def pourPlanned (k cmd : Nat) (c : Cmd) (old : List Planned) (data : List Bytes) (s : State) : State :=
  let fin := s.pair.planned.filter fun q => q.conn = k && isEndOf c.cid q.frame.msg
  let s := s.onPair fun p => { p with planned := p.planned.filter fun q =>
    !(q.conn = k && (isDataOf c.cid q.frame.msg || isEndOf c.cid q.frame.msg)) }
  let s := each old (fun q s => enqueue k { q.frame with msg := .data c.cid (destOf k c.sgl s) data } s) s
  if fin.isEmpty then complete cmd .success (onCommand cmd (fun c => { c with buf := none }) s)
  else releaseCmd cmd (each fin (fun q s => enqueue k q.frame s) s)

/-- Position after the last of a command's data: its planned end when a plan names it, else where the connection
now stands (04 R104). -/
def dataEnd (k : Nat) (old : List Planned) (s : State) : Nat := match connOf s k with
  | none => 0
  | some x =>
    if old.isEmpty then x.txNext
    else (old.map fun q => q.frame.pos + spanOf x q.frame.msg s).foldl max 0

/-- Pour one buffer to one attached command: data, addressed by its SGL on RDMA, then its completion; the
sender's reference stays until the host acknowledges the last of the data (04 R104, R109). On the attach port it ends with the last write. -/
def pourTo (id : Nat) (data : List Bytes) (cmd : Nat) (s : State) : State :=
  match cmdOf s cmd with
  | none => dropRef id s
  | some c =>
    if c.orphan then releaseCmd cmd (dropRef id s)
    else match c.src with
      | .fabric k =>
        let old := s.pair.planned.filter fun q => q.conn = k && isDataOf c.cid q.frame.msg
        let s := if old.isEmpty then sendHost k (.data c.cid (destOf k c.sgl s) data) cmd s else s
        let pos := dataEnd k old s
        let s := onConn k (fun x => { x with refs := x.refs ++ [(pos, id)] }) s
        if old.isEmpty then complete cmd .success (onCommand cmd (fun c => { c with buf := none }) s)
        else pourPlanned k cmd c old data s
      | .attach _ =>
        if c.bmeHeld then dropRef id s
        else
          let s := match c.bar2 with
            | some off => s.onAttach fun a => { a with store := storeBytes off data.flatten a.store }
            | none => emit (.attachData c.src.sqid c.cid data) s
          complete cmd .success (dropRef id (onCommand cmd (fun c => { c with buf := none }) s))

/-- Is a buffer admitted to the pot? (04 R110) -/
def admits (b : Buf) (s : State) : Bool :=
  octBit (doct 0x4102 0 0 s) (b.ns - 1) && b.len * 4096 ≤ cfg 0x4103 s && b.admissible

/-- A buffer whose every sector is released: the pot takes it or not, the fill reference is dropped and
every attached command is poured (04 R103, R109, R110). The hand and its mark stand at the first buffer of an
empty ring, and the revolution's time starts with it (DESIGN CHOICE, log entry 77). -/
def fillDone (id : Nat) (s : State) : State :=
  match Tbl.get? s.pot.bufs id with
  | none => s
  | some b =>
    let data := b.data.map (·.getD zeroSector)
    let s := dropReaders id s
    let full := 4194304 ≤ s.pot.ring.length
    let take := admits b s && !full
    let s := when (admits b s && full) (raise 0x4101 0 s.pot.ring.length 0x4114 0) s
    let s := s.onPot fun p => { p with
      ring := if take then p.ring ++ [id] else p.ring
      hand := if take && p.hand.isNone then some id else p.hand
      mark := if take && p.mark.isNone then some id else p.mark
      revFrom := if take && p.mark.isNone then s.now else p.revFrom
      bufs := Tbl.upd p.bufs id fun b => { b with
        state := .pouring, attached := [], potRef := take
        count := if take then b.count + 1 else b.count
        f := if take then min 7 b.attached.length else b.f } }
    each b.attached (pourTo id data) (dropRef id s)

/-- A buffer that meets an unreadable sector or a failed unit: every attached command completes with the
status and every reference is dropped (04 R108). -/
def fillFailed (id : Nat) (st : Status) (s : State) : State :=
  match Tbl.get? s.pot.bufs id with
  | none => s
  | some b =>
    let s := dropReaders id s
    let s := s.onPot fun p => { p with
      bufs := Tbl.upd p.bufs id fun b => { b with attached := [], open_ := false, admissible := false, failed := some st } }
    let s := each b.attached (fun c s => complete c st (dropRef id s)) s
    dropRef id s

/-- One sector of a fill is released by the cipher engine, or is zeros (09 R255). -/
def fillSector (id i : Nat) (data : Bytes) (s : State) : State :=
  match Tbl.get? s.pot.bufs id with
  | none => s
  | some b =>
    if b.state = .filling then
      let l := b.data.set i (some data)
      let s := s.onPot fun p => { p with bufs := Tbl.upd p.bufs id fun b => { b with data := l } }
      if l.all (·.isSome) then fillDone id s else s
    else s

/-! ### Reading (06 R170, 07 R204, 08 R218) -/

/-- Class queue of a host read (07 R204). -/
def readQueue (c : Cmd) : Nat := if c.cls = some .excess then qHostX else qHostC

/-- Is the member at a position readable? -/
def memberReadable (b : Band) (m : Nat) : Bool := match memberAt b m with
  | some x => decide (x.mstate = .good) && x.carrier < 24
  | none => false

/-- Queue a page read of a member. -/
def readMember (band : Nat) (b : Band) (m t sector count queue : Nat) (p : Purpose) (s : State) : State :=
  match memberAt b m with
  | some x =>
    let s := onBandLocal band (fun e => { e with readCount := (e.readCount + 1) % 2 ^ 32 }) s
    queueMedia x.carrier (mediaCmd .read x.eu t sector count [] queue p band) s
  | none => s

/-- Members to read for the page of member `m` in stripe `t`: the D' that R214 needs where one page is missing, every
surviving one where two are (08 R218, R221). -/
def survivors (b : Band) (t m : Nat) : List Nat :=
  let alive := (List.range b.width).filter fun x => memberReadable b x && x ≠ m
  let q := (t + 1) % b.width
  if 2 ≤ degraded b || alive.length ≤ b.width - 2 then alive
  else if m = q then alive.filter (· ≠ t % b.width)
  else alive.filter (· ≠ q)

/-- Start a reconstruction of one member page (08 R218), or a check of the whole stripe (08 R235): the
survivors' pages are read, with granules of RECONSTRUCT for host reads and REBUILD for others; a refusal
makes it wait (04 R100). -/
def startRecon (band t m sector count queue : Nat) (p : Purpose) (check : Bool) (s : State) : State :=
  match s.xlat.geo, bandAt s band with
  | some g, some b =>
    let check := check || b.verify
    let want := if check then (List.range b.width).filter (memberReadable b) else survivors b t m
    let pool := if queue = qHostC || queue = qHostX then poolRecon else poolRebuild
    let n := want.length * g.k
    let r := request pool n s
    let s := r.2
    let id := s.media.nextRecon
    let e : Recon := { band, stripe := t, pos := m, sector, count, purpose := p, queue, got := [], want,
                       granules := if r.1 then n else 0, waiting := !r.1 }
    let s := s.onMedia fun x => { x with recons := Tbl.put x.recons id e, nextRecon := id + 1 }
    if r.1 then each want (fun x s => readMember band b x t 0 g.k queue (.recon id x) s) s else s
  | _, _ => s

/-- Read `count` sectors of one page of a band for a purpose: directly, by reconstruction when the member
is missing, or with its whole stripe when the band is flagged verify on read. -/
def readPage (band t d u count queue : Nat) (p : Purpose) (s : State) : State :=
  match bandAt s band with
  | none => s
  | some b =>
    let m := memberOf b.width t d
    if b.verify then startRecon band t m u count queue p true (bump 0x5213 0 1 s)
    else if memberReadable b m then readMember band b m t u count queue p s
    else startRecon band t m u count queue p false s

/-- Resolve one sector of a fill and start reading it (06 R170). Sectors of one page are read one by one;
each is its own media read. -/
def fillResolve (id queue ns lba i : Nat) (s : State) : State :=
  match resolve ns (lba + i) s with
  | .zero => fillSector id i zeroSector s
  | .lost => fillFailed id .unrecovered s
  | .slot k =>
    match Tbl.get? s.xlat.slots k with
    | some x =>
      let s := s.onXlat fun y => { y with slots := Tbl.upd y.slots k fun z => { z with readers := z.readers + 1 } }
      let s := s.onPot fun p => { p with bufs := Tbl.upd p.bufs id fun b => { b with slotRefs := b.slotRefs ++ [k] } }
      startXts (.hostRead id i) ns (lba + i) x.data false s
    | none => s
  | .band b t d u =>
    let s := onBandLocal b (fun e => { e with readers := e.readers + 1 }) s
    let s := s.onPot fun p => { p with bufs := Tbl.upd p.bufs id fun x => { x with bandRefs := x.bandRefs ++ [b] } }
    readPage b t d u 1 queue (.hostRead id i) s

/-- Open a buffer for a miss whose granules are granted: fill reference and the first command's, a
coalescing entry, and every sector resolved (04 R103, R106). -/
def openFill (id : Nat) (c : Cmd) (s : State) : State :=
  let k := s.pot.nextBuf
  let b : Buf := { ns := c.ns, lba := c.slba, len := c.nlb, state := .filling, count := 2, f := 0, open_ := true,
                   openedAt := s.now, admissible := true, potRef := false, data := List.replicate c.nlb none,
                   attached := [id], failed := none, slotRefs := [], bandRefs := [] }
  let s := s.onPot fun p => { p with bufs := Tbl.put p.bufs k b, nextBuf := k + 1,
                                     handOn := p.handOn || decide (pourFree s < cfg 0x4104 s) }
  let s := onCommand id (fun c => { c with phase := .media, buf := some k }) s
  each (List.range c.nlb) (fun i s => fillResolve k (readQueue c) c.ns c.slba i s) s

/-- Sender references of a buffer: all but the fill's and the pot's (04 R103, R107). -/
def senders (b : Buf) : Nat :=
  b.count - (if b.state = .filling then 1 else 0) - (if b.potRef then 1 else 0)

/-- A buffer a read may attach to: in the pot, or an open entry in its window (04 R105 to R107). The window in
force now applies to entries already open (DESIGN CHOICE, log entry 77). -/
def matching (c : Cmd) (s : State) : Option (Nat × Buf) :=
  s.pot.bufs.find? fun p =>
    let b := p.2
    b.ns = c.ns && b.lba = c.slba && b.len = c.nlb && b.failed.isNone && senders b < 65534 &&
      (b.potRef || (b.open_ && s.now ≤ b.openedAt + cfg 0x4101 s && 0 < cfg 0x4101 s))

/-- Look a read up: a hit, an attachment or a miss (04 R105); `again` for a lookup repeated from the miss
queue (04 R101). -/
def potLookup (id : Nat) (again : Bool) (s : State) : State :=
  match cmdOf s id with
  | none => s
  | some c =>
    let s := if again then s else bump 0x4110 0 1 s
    match matching c s with
    | some (k, b) =>
      let s := bump (if b.potRef then 0x4111 else 0x4112) 0 1 s
      let s := s.onPot fun p => { p with
        missQ := p.missQ.filter (· ≠ id)
        bufs := Tbl.upd p.bufs k fun b => { b with
          count := b.count + 1
          f := if b.potRef then min 7 (b.f + 1) else b.f
          state := if b.state = .cached then .pouring else b.state
          attached := if b.state = .filling then b.attached ++ [id] else b.attached } }
      let s := onCommand id (fun c => { c with phase := .media, buf := some k }) s
      if b.state = .filling then s else pourTo k (b.data.map (·.getD zeroSector)) id s
    | none =>
      if !again && !s.pot.missQ.isEmpty then
        onCommand id (fun c => { c with phase := .missQ }) (s.onPot fun p => { p with missQ := p.missQ ++ [id] })
      else
        let r := request poolPour c.nlb s
        if r.1 then openFill id c (r.2.onPot fun p => { p with missQ := p.missQ.filter (· ≠ id) })
        else
          onCommand id (fun c => { c with phase := .missQ })
            (r.2.onPot fun p => { p with missQ := if p.missQ.contains id then p.missQ else p.missQ ++ [id] })

/-! ### Writing (06 R155, R156; 04 R100, R101) -/

/-- Slots a command needs: one for each sector, or one for each LB with a zero run. -/
def slotsNeeded (c : Cmd) : Nat := match c.opc with
  | .write => c.nlb
  | _ => c.ranges.length

/-- Slots promised to commands in the cipher engine. -/
def slotsPromised (s : State) : Nat :=
  (s.cmd.cmds.map fun p => if p.2.phase = .encrypting then slotsNeeded p.2 else 0).sum

/-- Start the encryption of every sector of a write whose slots are reserved; encryptions wait while the
namespace's erase runs (09 R253). -/
def startEncrypt (id : Nat) (s : State) : State :=
  match cmdOf s id with
  | none => s
  | some c =>
    if eraseRuns c.ns s then onCommand id (fun c => { c with phase := .encrypting, waitsKey := true }) s
    else
      let s := onCommand id (fun c => { c with phase := .encrypting, waitsKey := false, enc := List.replicate c.nlb none }) s
      each c.data.zipIdx (fun p s => startXts (.write id p.2) c.ns (c.slba + p.2) (p.1.getD zeroSector) false s) s

/-- Data of a write is complete: on a module that decides it joins the placement queue, in the order of
completion (06 R156); a partner encrypts its own copy at once (06 R157; 10 R274). -/
def joinPlacement (id : Nat) (s : State) : State :=
  if decides s then
    onCommand id (fun c => { c with phase := .placing }) (s.onXlat fun x => { x with placeQ := x.placeQ ++ [id] })
  else startEncrypt id s

/-- Take received sectors into a command; when none is missing the write goes on to placement. -/
def takeData (id off : Nat) (l : List Bytes) (s : State) : State :=
  match cmdOf s id with
  | none => s
  | some c =>
    let data := c.data.zipIdx.map fun p =>
      if off ≤ p.2 && p.2 < off + l.length then l[p.2 - off]? else p.1
    let s := onCommand id (fun c => { c with data }) s
    if data.all (·.isSome) && c.phase = .receiving then joinPlacement id s else s

/-- CRC-64 of ciphertext in LBA order (10 R272). -/
def ctCrc (l : List Bytes) : BitVec 64 := crc64 l.flatten

/-- Every sector of a write is compared: place it whole, name it in the record and complete it (06 R155;
10 R272). -/
def placeWrite (id : Nat) (s : State) : State :=
  match cmdOf s id with
  | none => s
  | some c =>
    let ct := c.enc.map (·.getD zeroSector)
    let cy := recCycle s
    let r := ct.zipIdx.foldl (fun (a : Option Nat × State) p =>
      let q := placeSector c.ns (c.slba + p.2) cy c.src.conn c.cid p.1 a.2
      (some (a.1.getD q.1), q.2)) (none, s)
    let s := record (.place c.src.conn c.cid c.ns c.slba c.nlb (r.1.getD 0) (low32 cy) (ctCrc ct)) r.2
    let s := onCommand id (fun c => { c with phase := .placed }) s
    complete id .success s

/-- Reserve slots for the head of the placement queue while enough are free; a full caddy raises event
0x5001, and 0x5102 when staging exceeds its limit (06 R156; 07 R184). -/
def placementReserve (s : State) : State :=
  match s.xlat.placeQ with
  | [] => s
  | id :: rest => match cmdOf s id with
    | none => s.onXlat fun x => { x with placeQ := rest }
    | some c =>
      if slotsNeeded c + slotsPromised s ≤ caddyFree s then
        let s := s.onXlat fun x => { x with placeQ := rest }
        if c.opc = .write then startEncrypt id s
        else
          let cy := recCycle s
          let s := each c.ranges (fun r s =>
            record (.placeZero c.src.conn c.cid c.ns r.1 r.2 (low32 cy)) (placeZeros c.ns r.1 r.2 cy c.src.conn c.cid s)) s
          complete id .success s
      else
        let s := raiseLimited 0x5001 0 (caddyUsed s) 0x5020 0 s
        when (stageLimit s < stageBands s) (raiseLimited 0x5102 0 (stageBands s) 0x5102 0) s

/-- Plan the solicitation of one write: an R2T or an RDMA Read, or reads of host memory on the attach
port (01 R14, R18; 13 R353). -/
def attachFetch (id : Nat) (s : State) : State :=
  match cmdOf s id with
  | none => s
  | some c =>
    each (List.range c.nlb) (fun i s =>
      let key := id * 65536 + i
      let have_ := (c.data[i]?.getD none).isSome || s.attach.tags.any fun p => p.2 = key
      if have_ || 512 ≤ s.attach.tags.length || !s.attach.bme then s
      else
        let tag := Tbl.freeFrom s.attach.tags 0 513
        let s := s.onAttach fun a => { a with tags := Tbl.put a.tags tag key }
        emit (.attachRead tag) (peak 0x6207 0 s.attach.tags.length s)) s

/-- The bytes of a store range, by sector. -/
def storeRead (m : List Host.Cell) (off n : Nat) : Bytes :=
  (List.range n).map fun i => (Tbl.get? m (off + i)).getD 0

/-- RDMA Reads outstanding on a connection, and the most it may have (02 R52). -/
def readsOpen (k : Nat) (s : State) : Nat :=
  (s.cmd.cmds.filter fun p => decide (p.2.src = .fabric k) && decide (p.2.phase = .receiving) &&
    !p.2.inCapsule).length

/-- May data of a command be solicited now? An RDMA Read waits for one of the lower of 16 and the host's responder
resources. -/
def maySolicit (c : Cmd) (s : State) : Bool := match c.src with
  | .attach _ => true
  | .fabric k => match connOf s k with
    | some x => decide (x.info.kind ≠ .rdma) || readsOpen k s < min 16 x.info.respRes
    | none => true

def solicit (id : Nat) (s : State) : State :=
  match cmdOf s id with
  | none => s
  | some c =>
    let pool := match c.src with
      | .attach _ => poolAttach
      | .fabric _ => poolWriteIn
    let r := if maySolicit c s then request pool c.nlb s else (false, s)
    if !r.1 then r.2
    else
      let s := r.2.onCmd fun d => { d with solicitQ := d.solicitQ.filter (· ≠ id) }
      let s := onCommand id (fun c => { c with granules := c.nlb, pool, phase := .receiving }) s
      match c.src with
      | .attach _ => match c.bar2 with
        | some off =>
          takeData id 0 ((List.range c.nlb).map fun i => storeRead s.attach.store (off + i * 4096) 4096) s
        | none => attachFetch id s
      | .fabric k =>
        let tag := s.cmd.nextTag
        let s := s.onCmd fun d => { d with nextTag := tag + 1 }
        let s := onCommand id (fun c => { c with ttag := tag }) s
        match (connOf s k).map fun x => x.info.kind with
        | some Transport.rdma => sendHost k (.rdmaRead c.cid tag c.sgl.addr c.sgl.key (c.nlb * 4096)) id s
        | _ => sendHost k (.r2t c.cid tag 0 (c.nlb * 4096)) id s

/-- Port whose solicitation queue a command is in: the connection's port, or 32 for the attach port
(04 R101). -/
def solicitPort (id : Nat) (s : State) : Nat := match (cmdOf s id).map (·.src) with
  | some (Src.fabric k) => ((connOf s k).map fun x => x.info.port).getD 0
  | _ => 32

/-- Waiting solicitations of a port, oldest first; those that wait for an RDMA Read of their connection hold back
no other. -/
def solicitOf (p : Nat) (s : State) : List Nat := s.cmd.solicitQ.filter fun id =>
  solicitPort id s = p && ((cmdOf s id).map (maySolicit · s)).getD true

/-- Re-request the head of a port's solicitation queue until one is refused (04 R101). QUIESCED solicits no
new data (10 R297). -/
def solicitHeads (p : Nat) : Nat → State → State
  | 0, s => s
  | n + 1, s =>
    if inMode [.quiesced] s || !decides s then s
    else match solicitOf p s with
      | [] => s
      | id :: _ =>
        let s' := solicit id s
        if s'.cmd.solicitQ.contains id then s' else solicitHeads p n s'

/-- Re-request the heads of every port's queue. -/
def solicitAll (s : State) : State :=
  each (List.range 33) (fun p s => solicitHeads p (s.cmd.solicitQ.length + 1) s) s

/-! ### Dispatch (03 R72, R76; 07 R202; 08 R230) -/

/-- A write at the dispatch point while the array is exhausted or no band can form: 20h, and the
namespace is READ_ONLY (07 R202; 08 R230). -/
def exhaustedAt (id ns : Nat) (s : State) : State :=
  if exhaustedNow s then
    let s := raise 0x5105 ns ns 0x3226 0 (setReadOnly ns 1 true s)
    let s := s.onMedia fun m => { m with exhausted := true }
    let s := each ((List.range 24).filter fun c =>
      decide ((carOf s c).state = .inService) && (carOf s c).talon.isEmpty) (fun c s => replaceBit c 3 s) s
    complete id .writeProtected s
  else complete id .writeProtected (floorCheck s)

/-- Hand a command on (03 R76). -/
def dispatch (id : Nat) (s : State) : State :=
  match cmdOf s id with
  | none => s
  | some c =>
    let attach := match c.src with
      | .attach _ => true
      | .fabric _ => false
    if attach && !attachOptimized s then complete id .anaInaccessible s
    else if c.status = .dataTransfer then complete id .dataTransfer s
    else match c.opc with
      | .flush => complete id .success s
      | .read =>
        potLookup id false (record (.dispatch c.src.conn (srcQid c.src s) c.cid) s)
      | .write =>
        if exhaustedNow s || s.media.floorRo || noBand8 s then exhaustedAt id c.ns s
        else
          let s := record (.dispatch c.src.conn (srcQid c.src s) c.cid) s
          if c.inCapsule then joinPlacement id s
          else
            let idle := (solicitOf (solicitPort id s) s).isEmpty
            let s := onCommand id (fun c => { c with phase := .solicit })
              (s.onCmd fun d => { d with solicitQ := d.solicitQ ++ [id] })
            when (idle && !inMode [.quiesced] s) (solicit id) s
      | .writeZeroes =>
        if exhaustedNow s || s.media.floorRo || noBand8 s then exhaustedAt id c.ns s
        else
          let parts := partLbs c.slba c.nlb s
          let s := record (.dispatch c.src.conn (srcQid c.src s) c.cid) s
          let s := each (wholeLbs c.ns c.slba c.nlb s) discardLb s
          if parts.isEmpty then complete id .success s
          else joinPlacement id (onCommand id (fun c => { c with ranges := parts }) s)
      | .dsm =>
        let s := record (.dispatch c.src.conn (srcQid c.src s) c.cid) s
        let s := each c.ranges (fun r s => each (wholeLbs c.ns r.1 r.2 s) discardLb s) s
        complete id .success s

/-- Commands of the same queue received earlier; those of an ended connection are none of them. -/
def earlier (id : Nat) (c : Cmd) (s : State) : List Cmd :=
  (s.cmd.cmds.filter fun p => p.1 < id && p.2.src = c.src && !p.2.orphan).map Prod.snd

/-- May a command start? An ordered command waits for every earlier one, and every command for an earlier
ordered one (03 R72). QUIESCED starts none (10 R297). -/
def startable (id : Nat) (c : Cmd) (s : State) : Bool :=
  !inMode [.quiesced] s && decides s &&
    (if c.trump then (earlier id c s).isEmpty else !(earlier id c s).any (·.trump))

/-- Start a command or leave it waiting. -/
def tryStart (id : Nat) (s : State) : State :=
  match cmdOf s id with
  | none => s
  | some c => if startable id c s then dispatch id s else onCommand id (fun c => { c with phase := .waiting }) s

/-! ### Admission (03 R83 to R86) -/

/-- The rule of 03 R84: the class, or none to hold. The outstanding count does not include the command under test
(DESIGN CHOICE, log entry 78). -/
def admission (c : Cmd) (s : State) : Option AdmClass :=
  let n := cost c.opc c.nlb
  let has := fun (kind idx : Nat) (r : Nat) =>
    r = 0 || bucketHas s.cmd.buckets (kind * 4096 + r) (dnat idx 0 r s) (dnat (idx + 1) 0 r s) s.now n
  let peakOk := has 1 0x3312 c.host && has 3 0x3322 c.ns
  let commOk := has 0 0x3310 c.host && has 2 0x3320 c.ns
  let only := flag 0x3324 0 c.ns s || (c.host ≠ 0 && flag 0x3314 0 c.host s)
  if peakOk then
    if commOk && !only then some .committed
    else if s.cmd.cmds.length - 1 < cfg 0x3301 s then some .excess
    else none
  else none

/-- Charge the buckets of an admitted command. -/
def chargeAdmission (c : Cmd) (cls : AdmClass) (s : State) : State :=
  let n := cost c.opc c.nlb
  let one := fun (kind idx r : Nat) (s : State) =>
    if r = 0 then s
    else
      let b := bucketCharge s.cmd.buckets (kind * 4096 + r) (dnat idx 0 r s) (dnat (idx + 1) 0 r s) s.now n
      s.onCmd fun d => { d with buckets := b }
  let s := one 3 0x3322 c.ns (one 1 0x3312 c.host s)
  if cls = .committed then one 2 0x3320 c.ns (one 0 0x3310 c.host s) else s

/-- Admit or hold a command, and start it when it is admitted (03 R84, R85). -/
def admitCmd (id : Nat) (s : State) : State :=
  match cmdOf s id with
  | none => s
  | some c =>
    let ahead := s.cmd.cmds.any fun p =>
      p.1 < id && p.2.phase = .held && p.2.host = c.host && p.2.ns = c.ns
    match (if ahead || inMode [.quiesced] s then none else admission c s) with
    | some cls =>
      let s := chargeAdmission c cls s
      let s := record (.admitted c.src.conn (srcQid c.src s) c.cid (some cls)) s
      tryStart id (onCommand id (fun c => { c with cls := some cls, phase := .waiting }) s)
    | none =>
      record (.admitted c.src.conn (srcQid c.src s) c.cid none) (onCommand id (fun c => { c with phase := .held }) s)

/-! ### The end of a connection (03 R82) -/

/-- Was the command dispatched? -/
def dispatched (p : Phase) : Bool := match p with
  | .held | .waiting | .startQ => false
  | _ => true

/-- Handle the commands of a queue whose connection has ended. -/
def orphanCmd (id : Nat) (c : Cmd) (s : State) : State :=
  if !dispatched c.phase || c.phase = .completing then releaseCmd id s
  else if c.phase = .missQ then
    releaseCmd id (s.onPot fun p => { p with missQ := p.missQ.filter (· ≠ id) })
  else if c.phase = .solicit || c.phase = .receiving then releaseCmd id s
  else onCommand id (fun c => { c with orphan := true }) s

/-- A state-6 slot of a connection that ends before its command is placed is freed (06 R157). -/
def freeReceived (conn : Nat) (s : State) : State :=
  s.onXlat fun x => { x with slots := x.slots.filter fun p => !(decide (p.2.state = .received) && p.2.conn = conn) }

/-- One connection ends: its commands, sender references, context and table entry. -/
def endOne (k reason : Nat) (s : State) : State :=
  match connOf s k with
  | none => s
  | some x =>
    let s := record (.connEnd k reason) s
    let s := giveBack (rxPool x) x.capsules.sum s
    let s := each (s.cmd.cmds.filter fun p => p.2.src = .fabric k) (fun p s => orphanCmd p.1 p.2 s) s
    let s := freeReceived k s
    let s := each x.refs (fun r s => dropRef r.2 s) s
    let s := dropContext k s
    let s := s.onPair fun p => { p with planned := p.planned.filter fun q => q.conn ≠ k,
                                        firstPass := p.firstPass.filter (· ≠ k) }
    let s := s.onCmd fun d => { d with ctrls := d.ctrls.map fun p =>
      (p.1, { p.2 with ioq := p.2.ioq.filter fun q => q.2 ≠ k }) }
    portIdle x.info.port (s.onConns fun m => Tbl.del m k)

/-- One connection ends, with its last messages and the control frames after them. -/
def endWith (k reason : Nat) (l after : List HostMsg) (s : State) : State :=
  match connOf s k with
  | none => s
  | some x => finalSend k x (s.pair.planned.filter fun q => q.conn = k) l after (endOne k reason s)

/-- How this side ends a connection: an RST behind its last messages, or a DREQ on RDMA (02 R47). -/
def hardEnd (k reason : Nat) (l : List HostMsg) (s : State) : State :=
  match connOf s k with
  | none => s
  | some x => if x.info.kind = .tcp then endWith k reason l [.rst] s else endWith k reason (l ++ [.dreq]) [] s

/-- The end of an admin queue's connection deletes the controller and ends its I/O connections with an RST (03
R82). -/
def endQueues (k : Nat) (x : Conn) (reason : Nat) (s : State) : State := match x.ctrl with
  | some c => match Tbl.get? s.cmd.ctrls c with
    | some y =>
      if y.admin = k then
        (each y.ioq (fun q s => hardEnd q.2 reason [] s) s).onCmd fun d => { d with ctrls := Tbl.del d.ctrls c }
      else s
    | none => s
  | none => s

/-- End a connection with last messages, and with it what depends on it. -/
def endConn (k reason : Nat) (l after : List HostMsg) (s : State) : State :=
  match connOf s k with
  | none => s
  | some x => endQueues k x reason (endWith k reason l after s)

/-- End a connection from this side (02 R47). A module that does not transmit sends nothing. -/
def closeConn (k reason : Nat) (l : List HostMsg) (s : State) : State :=
  match connOf s k with
  | none => s
  | some x => endQueues k x reason (hardEnd k reason l s)

def resetConn (k reason : Nat) (s : State) : State := closeConn k reason [] s

/-- A fatal transport error (03 R69): C2HTermReq or DREQ, the connection ends, event 0x3301. -/
def fatalTransport (k status : Nat) (s : State) : State :=
  match connOf s k with
  | none => s
  | some x =>
    let f : TermField := if status = 1 then .ttag else .none
    closeConn k 2 (if x.info.kind = .tcp then [.c2hTermReq status f] else []) (raise 0x3301 k status 0x3300 0 s)

/-- The NVMe/TCP fatal error statuses of 03 R69 (PRESUMED codes, log entry 13). -/
def fesInvalidHeader : Nat := 1
def fesSequence : Nat := 2
def fesOutOfRange : Nat := 4
def fesLimit : Nat := 5

/-- Delete a controller: its admin connection ends, and so do the others (03 R81). -/
def deleteCtrl (c : Nat) (s : State) : State :=
  match Tbl.get? s.cmd.ctrls c with
  | some x =>
    let s := resetConn x.admin 3 s
    s.onCmd fun d => { d with ctrls := Tbl.del d.ctrls c }
  | none => s

end Sys2Proof.Machine
end

