-- ==== Sys2Proof/Machine/Transitions.lean ====
section
/-! DEFINITION. The operations behind the mode changes of 14 R369: the attach group, dropping what a
mode does not hold, rounds of compare-and-set (10 R285), fencing (10 R279), release of planned sends. -/

namespace Sys2Proof.Machine

/-! ### The attach group (13 R363, R365) -/

/-- Drop every attach command without completion; dispatched ones run on as orphans (13 R361). -/
def dropAttachCmds (s : State) : State :=
  each (s.cmd.cmds.filter fun p => match p.2.src with
    | .attach _ => true
    | .fabric _ => false) (fun p s => orphanCmd p.1 p.2 s) s

/-- The group follows the mode: event 0x6207 and a notice on each change; on leaving SOLO and ACTIVE each
attach command not completed completes with Asymmetric Access Inaccessible. -/
def anaSync (s : State) : State :=
  let now_ := attachOptimized s
  if s.attach.optimized = now_ then s
  else
    let s := s.onAttach fun a => { a with optimized := now_ }
    let s := raise 0x6207 0 (if now_ then 1 else 3) 0x620B 0 s
    let s := when s.attach.ccEn attachAnaChanged s
    if now_ || s.attach.speed = 0 then s
    else
      each (s.cmd.cmds.filter fun p => match p.2.src with
        | .attach _ => !p.2.orphan
        | .fabric _ => false) (fun p s =>
          let live := dispatched p.2.phase
          let q := p.2.src.sqid
          let s := postCqe q p.2.cid .anaInaccessible 0 s
          if live then onCommand p.1 (fun c => { c with orphan := true }) s else releaseCmd p.1 s) s

/-- Change mode, with the attach group that follows it. -/
def goMode (m : Mode) (s : State) : State := anaSync (enterMode m s)

/-- Drop connections and their commands: a mode that takes no host frames holds none (10 R299; 14
R368). -/
def dropConnections (s : State) : State :=
  let s := each s.conns (fun p s => endOne p.1 4 s) s
  let s := s.onCmd fun c => { c with ctrls := [], solicitQ := [] }
  s.onNet fun n => { n with neighbours := [], resolving := [], retention := [],
                            svcs := n.svcs.map fun v => { v with served := false, dad := false } }

/-- What a slot is once no program is under way: one that was gathered returns to placed and is gathered again
(08 R232 step 4); one already programmed into its band, or superseded for good, is free (06 R157, R162; 01 R17). -/
def slotSettled (x : Slot) : Option Slot := match x.state with
  | .gathered => some { x with state := if x.zlen = 0 then .placed else .zeroRun, dest := noBand, readers := 0 }
  | .zeroRun => some { x with dest := noBand, zdone := 0, readers := 0 }
  | .programmed => none
  | .superseded =>
    if x.late.isEmpty || decide (x.was = .programmed) then none
    else some { x with was := if x.zlen = 0 then .placed else .zeroRun, dest := noBand, zdone := 0, readers := 0 }
  | _ => some { x with readers := 0 }

/-- Every program under way is abandoned, and no read holds a slot or a band. -/
def abandonProgs (s : State) : State :=
  s.onXlat fun x => { x with
    progs := []
    slots := x.slots.filterMap fun p => (slotSettled p.2).map fun y => (p.1, y)
    bands := x.bands.map fun p => (p.1, { p.2 with readers := 0 }) }

/-- No granule of a pool is held. -/
def emptyPool (p : Nat) (s : State) : State := s.onPools fun v => updNat v p fun q => { q with used := 0 }

/-- Stop media work: queued commands of the carriers are dropped, jobs end and sources stay (06 R168), programs
under way are abandoned, and no read holds a slot or a band. -/
def dropMediaWork (s : State) : State :=
  let s := s.onMedia fun m => { m with
    recons := [], cars := m.cars.map fun c => { c with queue := [] } }
  let s := abandonProgs (s.onXlat fun x => { x with jobs := [], ckptRun := none })
  each [poolStripe, poolParity, poolMerge, poolRebuild, poolRecon] emptyPool s

/-- Nothing is lacking any more: the granules of the fills return (04 R100). -/
def clearLacks (s : State) : State :=
  emptyPool poolMirrorIn (s.onPair fun p => { p with waiting := [], lacks := [], ahead := [], sectorQ := [] })

/-- No port of a service address is confirmed any more (02 R43). -/
def unconfirmAll (s : State) : State :=
  each (servicePorts s) (fun p => onPort p fun x => { x with dual := 2, probeOk := 0, probeMiss := 0, probeOut := false }) s

/-- The partner is no partner any more (10 R279, R303), and what it confirmed of dual delivery is not confirmed
(02 R43). -/
def losePartner (s : State) : State :=
  (unconfirmAll (clearLacks s)).onPair fun p => { p with
    paired := false, cold := false, partnerJoining := false, pairing := false, rejoinPhase := 0, lag := .normal }

/-- Enter ISOLATED: nothing is transmitted, no media command issued, the fault pair asserted (10
R282). -/
def enterIsolated (s : State) : State :=
  let s := dropMediaWork (dropConnections s)
  let s := losePartner s
  let s := s.onPair fun p => { p with round := none, planned := [], entries := [], heldEntries := [] }
  goMode .isolated (s.onMode fun m => { m with quiesceBy := .none, handover := none })

/-! ### Rounds of compare-and-set (10 R284, R285) -/

/-- The value this module writes: (EPOCH + 1, own tag). -/
def nextValue (s : State) : BitVec 64 := (s.pair.epoch + 1) ++ s.ident.tag

/-- Ask every seated carrier in parallel. A carrier that a committed RESERVE entry names is asked with
that value expected; another is read immediately before. -/
def startRound (r : Round) (s : State) : State :=
  let seated := seatedBays s
  let s := s.onPair fun p => { p with round := some r, won := [], asked := seated, expected := p.reserved }
  each seated (fun c s =>
    match (if r = .format || r = .force then none else Tbl.get? s.pair.reserved c) with
    | some v => adminCmd c .reserve 0 v (nextValue s) s
    | none => adminCmd c .reserveRead 0 0 0 s) s

/-- Has the round a strict majority of the seated carriers? -/
def roundWon (s : State) : Bool := strictMajority s.pair.won.length (seatedBays s).length

/-- The round is won: the epoch rises and every carrier's value is recorded. -/
def acceptRound (s : State) : State :=
  let v := nextValue s
  let won := s.pair.won
  let s := s.onPair fun p => { p with
    epoch := p.epoch + 1, round := none, asked := [],
    reserved := won.foldl (fun t c => Tbl.put t c v) p.reserved }
  each won (fun c s => record (.reserve c v) s) s

/-- The round is lost: the carriers won are written back to the value expected or read (06 R142; 10
R287). -/
def releaseWon (s : State) : State :=
  let v := nextValue s
  let s := each s.pair.won (fun c s =>
    adminCmd c .reserve 0 v ((Tbl.get? s.pair.expected c).getD 0) s) s
  s.onPair fun p => { p with round := none, won := [], asked := [] }

/-- Start fencing (10 R279): EVICT where the link allows, and the compare-and-set. -/
def startFencing (reason : Nat) (s : State) : State :=
  if s.pair.lag = .fencing then s
  else
    let s := mirSend (.mirEvict reason) s
    startRound .fencing (s.onPair fun p => { p with lag := .fencing })

/-! ### Planned sends (02 R58; 10 R275) -/

/-- A planned completion of an Abort names its controller from this number on (03 R68). -/
def abortMark : Nat := 2 ^ 40

/-- Send one planned frame: it joins its connection's queue, and a completion's command is released. -/
def sendPlanned (q : Planned) (s : State) : State :=
  let s := enqueue q.conn q.frame s
  match q.frame.msg with
  | .completion .. =>
    if abortMark ≤ q.frame.cmd then
      onCtrl (q.frame.cmd - abortMark) (fun c => { c with aborts := c.aborts - 1 }) s
    else releaseCmd q.frame.cmd s
  | _ => s

/-- Send every planned frame that a test selects, in order. -/
def sendPlans (p : Planned → Bool) (s : State) : State :=
  let out := s.pair.planned.filter p
  each out sendPlanned (s.onPair fun x => { x with planned := x.planned.filter fun q => !p q })

/-- Commands that wait for the commitment of a cycle's record without a planned frame: attach writes,
and in SOLO every durable write. -/
def releaseDurable (upTo : Nat) (s : State) : State :=
  each (s.cmd.cmds.filter fun p =>
    decide (p.2.phase = .completing) && durable p.2 && p.2.cycle ≤ upTo && !p.2.bmeHeld &&
      (match p.2.src with
       | .attach _ => true
       | .fabric _ => !s.pair.paired))
    (fun p s => releaseCmd p.1 (sendCompletion p.1 p.2 s)) s

/-- The SOLO rule: everything planned is sent (10 R279). -/
def releaseSolo (s : State) : State := sendPlans (fun _ => true) s

/-! ### Admin completions and Aborts (03 R68, R77, R79) -/

/-- Complete an admin command, with its data before it. -/
def adminReply (src : Src) (cid : Nat) (st : Status) (dw0 : Nat) (data : Option (Sgl × Nat × Bytes)) (s : State) :
    State :=
  match src with
  | .fabric k =>
    let s := match data with
      | some d => sendHost k (.adminData cid (destOf k d.1 s) d.2.1 d.2.2) 0 s
      | none => s
    logError src cid st 0 (sendCpl k cid st dw0 (data.bind fun d => invalOf k d.1 s) 0 s)
  | .attach _ =>
    let s := match data with
      | some d => emit (.attachAdmin cid d.2.1 d.2.2) s
      | none => s
    logError src cid st 0 (postCqe 0 cid st dw0 s)

/-- Apply an Abort at the dispatch point (03 R76, R77): an I/O command not yet dispatched completes with 07h
and Dword 0 bit 0 is clear, else the bit is set. The outcome enters the record. -/
def applyAbort (src : Src) (cid : Nat) (k : Option Nat) (sqid target : Nat) (s : State) : State :=
  let queue : Option Src := match k with
    | none => some (.attach sqid)
    | some i => ((Tbl.get? s.cmd.ctrls i).bind fun c => c.ioq.find? fun q => q.1 = sqid).map fun q => .fabric q.2
  let hit := queue.bind fun q => s.cmd.cmds.find? fun p =>
    sqid ≠ 0 && decide (p.2.src = q) && p.2.cid = target && !dispatched p.2.phase
  let mark := match k with
    | some i => abortMark + i
    | none => 0
  let reply := fun (dw0 : Nat) (s : State) => match src with
    | .fabric c => sendCpl c cid .success dw0 none mark s
    | .attach _ => adminReply src cid .success dw0 none s
  match hit with
  | some (id, c) =>
    let s := record (.abort c.src.conn sqid c.cid true) s
    reply 0 (complete id .aborted s)
  | none =>
    let conn := match queue with
      | some (.fabric c) => c
      | _ => 0
    reply 1 (record (.abort conn sqid target false) s)

/-! ### Ciphertext for the partner (10 R269, R278) -/

/-- Send waiting ciphertext, four sectors a frame, as far as the partner's credit goes. -/
def drainSectors : Nat → State → State
  | 0, s => s
  | n + 1, s =>
    let l := s.pair.sectorQ.take 4
    if l.isEmpty || s.pair.link ≠ 2 || s.pair.partnerCredit < l.length then s
    else
      let s := s.onPair fun p => { p with sectorQ := p.sectorQ.drop 4, partnerCredit := p.partnerCredit - l.length }
      drainSectors n (mirSend (.mirSectors l) s)

def sendWaiting (s : State) : State := drainSectors (s.pair.sectorQ.length + 1) s

/-- Send ciphertext to the partner. -/
def sendSectors (l : List MirSector) (s : State) : State :=
  sendWaiting (s.onPair fun p => { p with sectorQ := p.sectorQ ++ l })

/-- EVICT reasons (10 R277, R279): unfillable, lag, and 0 for every other (DESIGN CHOICE, log entry 25). -/
def evictUnfillable : Nat := 1
def evictLag : Nat := 2
def evictOther : Nat := 0

/-- A fill that cannot be served: counted, event 0x2110, and the partner is fenced (10 R277). -/
def fillFails (len : Nat) (s : State) : State :=
  startFencing evictUnfillable (raise 0x2110 0 len 0x2123 0 (bump 0x2123 0 1 s))

/-- One sector of a fill. -/
def fillSent (ns lba : Nat) (data : Bytes) (s : State) : State :=
  sendSectors [{ ns, lba, cycle := 0, data }] (bump 0x2122 0 data.length (bump 0x2121 0 1 s))

/-! ### Service addresses (02 R35, R36) -/

/-- Every service address is served at once, without a frame (02 R36, from TAKEOVER). -/
def serveAll (s : State) : State :=
  s.onNet fun n => { n with svcs := Vector.ofFn fun k =>
    let port := dnat 0x3022 (k.val + 1) 0 s
    { served := port ≠ 0 && port ≤ 32 && groupMacSet (port - 1) s, dad := false } }

/-- MAC of a port's group. -/
def groupMac (p : Nat) (s : State) : BitVec 48 :=
  (doct 0x3010 (p + 1) 0 s).foldl (fun a b => (a <<< 8) ||| b.setWidth 48) 0

/-- On entering SOLO from ISOLATED: one gratuitous ARP for each IPv4 service address, which is served at
once, and one solicitation for each IPv6 address, which waits for detection (02 R36). -/
def announce (s : State) : State :=
  each (List.range 64) (fun k s =>
    let port := dnat 0x3022 (k + 1) 0 s
    if port = 0 || 32 < port || !groupMacSet (port - 1) s then s
    else
      let a := doct 0x3020 (k + 1) 0 s
      let v4 := isV4 a
      let s := s.onNet fun n => { n with svcs := updNat n.svcs k fun _ => { served := v4, dad := !v4 } }
      let m : HostMsg := if v4 then .gratuitousArp a (groupMac (port - 1) s) else .neighborSolicit a
      ctrlSend (port - 1) 0 m s) s

/-- Schedulers start full and fresh at a takeover (05 R136), and so do the admission buckets. -/
def freshSchedulers (s : State) : State :=
  let s := s.onCmd fun c => { c with buckets := [] }
  let s := s.onEgress fun e => { e with
    buckets := [], ports := e.ports.map fun p => { p with v := 0, pipeline := 0 }, closing := [] }
  s.onConns fun m => m.map fun p => (p.1, { p.2 with finish := 0, headed := false })

/-- Start a cipher engine short of lanes: with no cluster that takes units the module enters SAFE with
code 9 (09 R241). -/
def clusterCheck (s : State) : State :=
  if (List.range 4).any (clusterTakes s) then s else anaSync (enterSafe 9 s)

end Sys2Proof.Machine
end

