-- ==== Sys2Proof/Machine/Programs.lean ====
section
/-! DEFINITION. Stripes: summaries (06 R150, 07 R187), the programming of a stripe with its P and Q (06
R162, 08 R213), gathering into direct fills, log bands and staging bands (06 R158 to R161), closing a
fill, and the replacement of a member that failed (07 R197, R198). -/

namespace Sys2Proof.Machine

/-- Sort by a key, keeping the order of equals. -/
def insertBy {α : Type} (f : α → Nat) (a : α) : List α → List α
  | [] => [a]
  | b :: l => if f a ≤ f b then a :: b :: l else b :: insertBy f a l
def sortBy {α : Type} (f : α → Nat) : List α → List α
  | [] => []
  | a :: l => insertBy f a (sortBy f l)

/-! ### Summaries -/

/-- A run entry as 16 octets (06 R149). -/
def runBytes (r : Run) : Bytes :=
  let k := match r.kind with
    | .log => 0 | .zero => 1 | .staging => 2 | .lost => 3
  leBytes 16 (r.lb * 2 ^ 105 + r.start * 2 ^ 85 + (r.len - 1) * 2 ^ 76 + k * 2 ^ 74 + r.epoch.toNat * 2 ^ 50
    + r.band * 2 ^ 25 + r.slot * 2 ^ 5)

/-- The summary sector of a stripe: header and entries, filled with zeros (06 R150, 07 R187). -/
def summaryBytes (band t : Nat) (runs : List Run) (origin : Option Nat) : Bytes :=
  let reloc := match origin with
    | some o => 2 ^ 81 + o * 2 ^ 34
    | none => 0
  let b := leBytes 16 (band * 2 ^ 103 + t * 2 ^ 90 + runs.length * 2 ^ 82 + reloc) ++ runs.flatMap runBytes
  b ++ List.replicate (4096 - b.length) 0

/-! ### Programming a stripe -/

/-- Pages of a stripe by member position: data where 08 R213 puts it, P and Q from the data. -/
def stripePages (w t k : Nat) (sectors : List Bytes) : List (List Bytes) :=
  let data := chunks k sectors
  let flat := data.map List.flatten
  let p := chunks 4096 (parityP flat)
  let q := chunks 4096 (parityQ 0 flat)
  (List.range w).map fun m =>
    if m = t % w then p
    else if m = (t + 1) % w then q
    else data.getD ((m + w - (t % w) + w - 2) % w) []

/-- Issue the pages of a stripe to the members that are GOOD (08 R217). -/
def issueProg (id : Nat) (p : Prog) (queue : Nat) (s : State) : State :=
  match bandAt s p.band with
  | none => s
  | some b =>
    let good := (List.range b.width).filter fun m => memberReadable b m
    let s := s.onXlat fun x => { x with progs := Tbl.put x.progs id { p with waiting := good } }
    each good (fun m s => match memberAt b m with
      | some x => queueMedia x.carrier
          (mediaCmd .program x.eu p.stripe 0 0 ((p.pages[m]?.getD none).getD []) queue (.stripe id m) p.band) s
      | none => s) s

/-- Is the LB's set narrower than W0 while new bands have that width? (08 R231) -/
def lbWidens (lb : Nat) (s : State) : Bool :=
  let w0 := (s.xlat.geo.map (·.w0)).getD 0
  widthNow s = w0 && (lbAt s lb).bands.any fun b => (bandAt s b).any fun e => e.width < w0

/-- Log and staging bands with live runs of an LB. -/
def lbLogs (lb : Nat) (s : State) : List Nat := ((s.xlat.runs.filter fun r => r.lb = lb).map (·.band)).eraseDups

/-- Queue of a stripe's programs by its destination and the work it belongs to (07 R204). -/
def jobQueue (j : Job) (s : State) : Nat := match j.kind with
  | .merge lb _ fold =>
    if ((lbAt s lb).bands ++ lbLogs lb s).any fun b => s.xlat.relocate.contains b then qRebuild
    else if fold then qFold
    else if s.xlat.victims.any fun b => (lbsIn b s).contains lb then qReclaim
    else if lbWidens lb s then qUpkeep else qMerge
  | .compact v => if s.xlat.relocate.contains v then qRebuild else qReclaim
  | .move _ _ => qUpkeep
  | .rebuild _ _ => qRebuild
  | .resync _ => qRebuild
  | .scrub _ => qUpkeep

def destQueue (d : Dest) (s : State) : Nat := match d with
  | .job j => match Tbl.get? s.xlat.jobs j with
    | some x => jobQueue x s
    | none => qMerge
  | _ => qIngest

/-- A stripe before it is programmed. -/
def progNew (band t : Nat) (dest : Dest) (lb : Nat) : Prog :=
  { band, stripe := t, dest, lb, pages := [], waiting := [], slots := [], parts := [], build := 0, parity := 0,
    runs := [], done := false, cycle := 0 }

/-- Issue a stripe once PARITY grants the pages of P and Q (04 R100). -/
def issueGranted (id : Nat) (p : Prog) (s : State) : State :=
  let n := 2 * (s.xlat.geo.map Geo.k).getD 0
  let r := request poolParity n s
  if r.1 then issueProg id { p with parity := n } (destQueue p.dest s) r.2 else r.2

/-- Program a stripe of sectors, or hold it. -/
def programStripe (p : Prog) (sectors : List Bytes) (s : State) : State :=
  match s.xlat.geo, bandAt s p.band with
  | some g, some b =>
    let id := s.xlat.nextProg
    let p := { p with pages := (stripePages b.width p.stripe g.k sectors).map some }
    issueGranted id p (s.onXlat fun x => { x with progs := Tbl.put x.progs id p, nextProg := id + 1 })
  | _, _ => s

/-- Stripes held unprogrammed for want of PARITY granules. -/
def heldProgs (s : State) : List (Nat × Prog) :=
  s.xlat.progs.filter fun p => !p.2.done && p.2.parity = 0

/-- The granules of a stripe return. -/
def progGiveBack (id : Nat) (p : Prog) (s : State) : State :=
  giveBack poolStripe p.build (giveBack poolParity p.parity (s.onXlat fun x =>
    { x with progs := Tbl.upd x.progs id fun q => { q with build := 0, parity := 0 } }))

/-! ### Waiting sectors -/

/-- Placed slots of a namespace that wait to be gathered, in the order of placement, with LB and offset (06 R160). -/
def waitingSlots (ns : Nat) (s : State) : List (Nat × Slot × Nat × Nat) :=
  sortBy (fun e => e.2.1.seq) (s.xlat.slots.filterMap fun p =>
    let x := p.2
    if x.ns = ns && x.live && x.ungathered then
      (lbOf ns x.lba s).map fun l => (p.1, x, l.1, l.2)
    else none)

/-- Does an overlay run lie in the sectors [a, a + n) of an LB? -/
def runWithin (lb a n : Nat) (s : State) : Bool :=
  s.xlat.runs.any fun r => r.lb = lb && r.start < a + n && a < r.start + r.len

/-- Width of an LB's band set: that of its first band, else of the next band (06 R144). -/
def setWidth (lb : Nat) (s : State) : Nat :=
  match (lbAt s lb).bands.head?.bind (bandAt s) with
  | some b => b.width
  | none => widthNow s

/-- First offset and length of the data stripe of the set that holds an offset. -/
def stripeOf (g : Geo) (w o : Nat) : Nat × Nat :=
  let n := stripeSectors g w
  (o / n * n, min n (g.lbSectors - o / n * n))

/-- Slot number of every sector of a stripe of an LB, if each is placed (06 R159). -/
def stripeSlots (ns first a n : Nat) (s : State) : Option (List (Nat × Slot)) :=
  (List.range n).mapM fun i => match slotOf ns (first + a + i) s with
    | some (k, x) => if x.zlen = 0 && x.ungathered then some (k, x) else none
    | none => none

/-- Is a waiting sector bound for a log band? (06 R158) One that would open a fill above OPEN_FILLS_MAX is (06 R159). -/
def logBound (e : Nat × Slot × Nat × Nat) (s : State) : Bool :=
  let lb := lbAt s e.2.2.1
  if e.2.1.zlen ≠ 0 then true
  else if lb.state = .merging then true
  else if e.2.2.2 < lb.fill || lb.fillClosed then true
  else match s.xlat.geo with
    | some g =>
      let st := stripeOf g (setWidth e.2.2.1 s) e.2.2.2
      runWithin e.2.2.1 st.1 st.2 s ||
        (!Tbl.has s.xlat.fills e.2.2.1 && cfg 0x5011 s ≤ s.xlat.fills.length)
    | none => false

/-- Mark slots gathered into a band and record it (06 R157, R162). -/
def gatherSlots (l : List (Nat × Slot)) (band : Nat) (s : State) : State :=
  each l (fun p s =>
    record (.slotState p.2.ns p.2.lba p.2.cycle .gathered band)
      (s.onXlat fun x => { x with slots := Tbl.put x.slots p.1
                                    { p.2 with state := if p.2.zlen = 0 then .gathered else .zeroRun, dest := band } })) s

def slotNames (l : List (Nat × Slot)) : List (Nat × Nat × Nat) := l.map fun p => (p.2.ns, p.2.lba, p.2.cycle)

/-! ### Direct fills (06 R159) -/

/-- Close a fill: FILL_CLOSED, MAPPED, waiting sectors go to a log band. -/
def closeFill (lb : Nat) (s : State) : State :=
  let e := lbAt s lb
  let s := setLb lb { e with fillClosed := true, state := if e.state = .merging then .merging else .mapped } s
  s.onXlat fun x => { x with fills := Tbl.del x.fills lb }

/-- The band of an LB's set at position `i`, opened when it is the next of the set; none when it cannot
be formed, and then a set that cannot be continued closes its fill (06 R144). -/
def setBandAt (ns lb i : Nat) (s : State) : Option Nat × State :=
  let e := lbAt s lb
  match e.bands[i]? with
  | some b => (some b, s)
  | none =>
    if i ≠ e.bands.length then (none, s)
    else
      let w := setWidth lb s
      let r := openBand .data ns lb w qIngest s
      match r.1 with
      | some b => (some b, setLb lb { lbAt r.2 lb with bands := e.bands ++ [b] } r.2)
      | none => (none, if e.bands.isEmpty then r.2 else closeFill lb r.2)

/-- Does a band of the LB's set await resynchronisation? It takes no stripe until that ends (08 R236). -/
def resyncing (lb : Nat) (s : State) : Bool := (lbAt s lb).bands.any fun b => (bandAt s b).any (·.awaitResync)

/-- Program the stripe at FILL of an LB when it is complete; a closed fill reopens when no run lies in
that stripe. Answers whether a stripe was gathered. -/
def gatherDirect (lb : Nat) (s : State) : Bool × State :=
  match s.xlat.geo, nsOfLb lb s with
  | some g, some (ns, first) =>
    let e := lbAt s lb
    let w := setWidth lb s
    if e.state = .merging || w = 0 then (false, s)
    else
      let ready := e.fill < g.lbSectors
      let st := stripeOf g w e.fill
      let isNew := !Tbl.has s.xlat.fills lb
      if !ready || runWithin lb st.1 st.2 s || (isNew && cfg 0x5011 s ≤ s.xlat.fills.length)
        || (s.xlat.progs.any fun p => p.2.lb = lb && !p.2.done && decide (p.2.dest = .direct))
        || resyncing lb s then (false, s)
      else match stripeSlots ns first st.1 st.2 s with
        | none => (false, s)
        | some sl =>
          let l := locate g w e.fill
          let r := setBandAt ns lb l.i s
          match r.1 with
          | none => (false, r.2)
          | some b =>
            match bandAt r.2 b with
            | none => (false, r.2)
            | some bd =>
              if 2 ≤ degraded bd || !bd.isOpen then (false, closeFill lb r.2)
              else
                let q := request poolStripe (stripeSectors g w) r.2
                if !q.1 then (false, q.2)
                else
                  let s := setLb lb { lbAt q.2 lb with state := .filling, fillClosed := false } q.2
                  let s := s.onXlat fun x => { x with fills := Tbl.put x.fills lb { since := s.now } }
                  let s := gatherSlots sl b s
                  let pad := padding g b w l.t sl.length s
                  (true, programStripe { progNew b l.t .direct lb with slots := slotNames sl, build := stripeSectors g w }
                    ((sl.map fun p => p.2.data) ++ pad) s)
  | _, _ => (false, s)

/-! ### Log and staging bands (06 R158, R160, R161, R163) -/

/-- Stripes of a band: N, or N_s of its carriers in SLC mode (07 R182). -/
def bandStripes (b : Band) (s : State) : Nat :=
  let n := (s.xlat.geo.map Geo.stripes).getD 0
  if b.kind = .staging then
    b.members.foldl (fun a m => match (carOf s m.carrier).descr with
      | some d => min a d.pagesSlc
      | none => a) n
  else n

/-- Stripes of a band already given out. -/
def bandNext (b : Nat) (e : Band) (s : State) : Nat :=
  max e.program (((s.xlat.progs.filter fun p => p.2.band = b && !p.2.done).map fun p => p.2.stripe + 1).foldl max 0)

/-- An open band of a kind that takes another stripe. -/
def openOf (kind : BandKind) (ns owner : Nat) (s : State) : Option Nat :=
  (s.xlat.bands.find? fun p => decide (p.2.kind = kind) && p.2.isOpen && p.2.ns = ns && p.2.owner = owner &&
    degraded p.2 < 2 && !p.2.awaitResync && bandNext p.1 p.2 s < bandStripes p.2 s).map Prod.fst

/-- Highest current offset of an LB, rounded up to a stripe (06 R165). A sequential log holds no sector in place, since each of its stripes
begins with a summary (06 R150), so its prefix is 0. -/
def mergeHi (g : Geo) (lb : Nat) (s : State) : Nat :=
  let e := lbAt s lb
  let top := (s.xlat.runs.filter fun r => r.lb = lb && decide (r.kind ≠ .zero)).foldl
    (fun a r => max a (r.start + r.len)) e.fill
  let n := stripeSectors g (setWidth lb s)
  min ((top + n - 1) / n * n) ((g.lbSectors + n - 1) / n * n)

def seqLogOf (lb : Nat) (s : State) : Option Nat :=
  (s.xlat.bands.find? fun p => decide (p.2.kind = .seqLog) && p.2.owner = lb && !p.2.retiring).map Prod.fst

/-- Can a partial merge go on in an LB's band set? Every sector below FILL is current there, no stripe at or above FILL
is programmed, and the band that holds FILL is open (06 R165; 07 R198). -/
def mergeCan (g : Geo) (lb : Nat) (s : State) : Bool :=
  let e := lbAt s lb
  let w := setWidth lb s
  let n := stripeSectors g w
  let done := (e.bands.map fun b => ((bandAt s b).map (·.program)).getD 0).sum
  let next := e.bands[(locate g w e.fill).i]?
  0 < e.fill && done = (e.fill + n - 1) / n && !(s.xlat.runs.any fun r => r.lb = lb && r.start < e.fill) &&
    (match next.bind (bandAt s) with
     | some b => b.isOpen
     | none => next.isNone)

/-- The merge of an LB and its copy cost in sectors (06 R165). -/
def mergeChoice (lb : Nat) (s : State) : MergeKind × Nat :=
  match s.xlat.geo with
  | none => (.full, 0)
  | some g =>
    let hi := mergeHi g lb s
    let e := lbAt s lb
    let more := locate g (setWidth lb s) (hi - 1)
    let fits := more.i < e.bands.length || setWidth lb s ≤ ((List.range 24).filter (eligible s)).length
    if (seqLogOf lb s).isSome && hi = 0 then (.switch, 0)
    else if mergeCan g lb s && hi - e.fill < hi && fits then (.partial_, hi - e.fill)
    else (.full, hi)

/-- A log band is needed at a limit: the band whose LBs cost least is merged out, event 0x5002, unless its merges are
due already (06 R164). -/
def forceLogMerge (ns : Option Nat) (s : State) : State :=
  let logs := s.xlat.bands.filter fun p =>
    (decide (p.2.kind = .sharedLog) || decide (p.2.kind = .seqLog)) && (match ns with
      | some n => p.2.ns = n
      | none => true)
  match leastBy (fun b => ((lbsIn b s).map fun lb => (mergeChoice lb s).2).sum) (logs.map Prod.fst) with
  | some b =>
    let l := (lbsIn b s).filter fun lb => !s.xlat.mergeDue.contains lb && (lbAt s lb).state ≠ .merging
    if l.isEmpty then s else
    let s := raise 0x5002 0 b 0x5031 0 s
    s.onXlat fun x => { x with mergeDue := (x.mergeDue ++ l).eraseDups }
  | none => s

/-- Change the record of a log band; it enters the cycle record, so that a joiner or a new active goes on with it
(06 R150, R169; 07 R187). -/
def setLog (b : Nat) (r : LogRec) (s : State) : State :=
  record (.logBand b r s.xlat.commits) (s.onXlat fun x => { x with logs := Tbl.put x.logs b r })

/-- Open a log or staging band, within the limits of 06 R163 and 07 R182. -/
def newLogBand (kind : BandKind) (ns owner : Nat) (s : State) : Option Nat × State :=
  if kind = .staging then
    if stageLimit s ≤ stageBands s then (none, s) else openBand .staging ns owner (widthNow s) qIngest s
  else if cfg 0x5013 s ≤ logBands s then (none, forceLogMerge none s)
  else if cfg 0x5014 s ≤ logBandsNs ns s then (none, forceLogMerge (some ns) s)
  else
    let r := openBand kind ns owner (widthNow s) qIngest s
    match r.1 with
    | some b => (some b, setLog b { kind, ns, owner, stripes := 0, writePtr := 0, origins := [],
                                    openedAt := r.2.xlat.commits } r.2)
    | none => r

/-- Which band the next log-bound stripe goes to: staging while the caddy is above its mark, the LB's
sequential log where the update continues or begins one, else a shared log. A stripe bound for staging stays in the
caddy while the staging bands are at S (07 R184); with S = 0, where there is no staging, it goes to a log band (DEDUCED,
log entry 95). -/
def logTarget (ns : Nat) (e : Nat × Slot × Nat × Nat) (s : State) : BandKind × Nat × Option Nat × State :=
  if caddyAbove (cfg 0x5022 s) s && 0 < stageLimit s then
    if stageLimit s ≤ stageBands s then (.staging, 0, none, s)
    else match openOf .staging ns 0 s with
    | some b => (.staging, 0, some b, s)
    | none =>
      let r := newLogBand .staging ns 0 s
      (.staging, 0, r.1, r.2)
  else
    let lb := e.2.2.1
    let cont := (openOf .seqLog ns lb s).filter fun b =>
      e.2.1.zlen = 0 && (Tbl.get? s.xlat.logs b).any fun r => r.writePtr = e.2.2.2
    match cont with
    | some b => (.seqLog, lb, some b, s)
    | none =>
      if (lbAt s lb).state = .mapped && e.2.2.2 = 0 && e.2.1.zlen = 0 && (seqLogOf lb s).isNone then
        let r := newLogBand .seqLog ns lb s
        (.seqLog, lb, r.1, r.2)
      else match openOf .sharedLog ns 0 s with
        | some b => (.sharedLog, 0, some b, s)
        | none =>
          let r := newLogBand .sharedLog ns 0 s
          (.sharedLog, 0, r.1, r.2)

/-- The waiting entries a sequential log takes: the sectors that continue its LB one by one, and every zero run, which
enters the next log stripe of its namespace (06 R163, R173). -/
def seqPrefix (lb : Nat) : Nat → List (Nat × Slot × Nat × Nat) → List (Nat × Slot × Nat × Nat)
  | _, [] => []
  | o, e :: l =>
    if e.2.1.zlen ≠ 0 then e :: seqPrefix lb o l
    else if e.2.2.1 ≠ lb then seqPrefix lb o l
    else if e.2.2.2 = o then e :: seqPrefix lb (o + 1) l
    else []

/-- Runs of consecutive offsets, each sector at the next slot position; at most 512 sectors a run (06
R149). -/
def joinRun (l : List Run) (r : Run) : List Run := match l.getLast? with
  | some p =>
    if p.lb = r.lb && p.kind = r.kind && p.epoch = r.epoch && p.start + p.len = r.start
        && (decide (r.kind = .zero) || p.slot + p.len = r.slot) && p.len + r.len ≤ 512 then
      l.dropLast ++ [{ p with len := p.len + r.len }]
    else l ++ [r]
  | none => l ++ [r]

/-- What a log stripe takes: slots it carries whole, slots of zero runs it carries in part with the sectors carried so
far, its runs, its data sectors, and whether the next entry did not fit. -/
structure Packed where
  whole : List (Nat × Slot)
  parts : List (Nat × Slot × Nat)
  runs : List Run
  data : Nat
  full : Bool
deriving DecidableEq, Repr

/-- The sectors of a zero run that are not superseded enter as zero runs, as far as the 255 entries of a summary go
(06 R150, R155, R173). `left` sectors are left; the answer is the runs and the sectors left. -/
def packZeros (r : Run) (gone : Nat → Bool) : Nat → List Run → List Run × Nat
  | 0, l => (l, 0)
  | left + 1, l =>
    let next := if gone r.start then l else joinRun l r
    if 255 < next.length then (l, left + 1)
    else packZeros { r with start := r.start + 1 } gone left next

/-- One waiting entry joins a stripe of `cap` data sectors, while it fits. -/
def packEntry (cap band base : Nat) (kind : RKind) (s : State) (a : Packed) (e : Nat × Slot × Nat × Nat) : Packed :=
  let x := e.2.1
  let r : Run := { lb := e.2.2.1, start := e.2.2.2, len := 1, kind, epoch := (lbAt s e.2.2.1).epoch, band, slot := base }
  if a.full then a
  else if x.zlen = 0 then
    let runs := joinRun a.runs { r with slot := base + 1 + a.data }
    if a.data < cap && runs.length ≤ 255 then { a with whole := a.whole ++ [(e.1, x)], runs, data := a.data + 1 }
    else { a with full := true }
  else
    let first := { r with start := e.2.2.2 + x.zdone, kind := .zero }
    let z := packZeros first (fun o => x.gone.contains (x.lba + (o - e.2.2.2))) (x.zlen - x.zdone) a.runs
    if z.2 = 0 then { a with whole := a.whole ++ [(e.1, x)], runs := z.1 }
    else { a with parts := a.parts ++ [(e.1, x, x.zlen - z.2)], runs := z.1, full := true }

/-- Zero runs carried in part wait on for the stripe that carries the rest (06 R173). -/
def carryParts (l : List (Nat × Slot × Nat)) (s : State) : State :=
  s.onXlat fun x => { x with
    slots := l.foldl (fun t p => Tbl.upd t p.1 fun y => { y with zdone := p.2.2 }) x.slots }

/-- Program a gathered stripe of a log or staging band, with its summary (06 R150, R160). -/
def programLog (g : Geo) (b : Nat) (bd : Band) (k : Packed) (s : State) : State :=
  let n := stripeSectors g bd.width
  let t := bandNext b bd s
  let data := k.whole.filter fun e => e.2.zlen = 0
  let sum := metaSectors g b bd.width t 0 [summaryBytes b t k.runs none] s
  let pad := padding g b bd.width t (1 + k.data) s
  let dest : Dest := if bd.kind = .staging then .staging else .log
  let s := carryParts k.parts (gatherSlots k.whole b s)
  let s := match Tbl.get? s.xlat.logs b with
    | some r => setLog b { r with stripes := t + 1, writePtr := r.writePtr + k.data } s
    | none => s
  programStripe { progNew b t dest 0 with
      slots := slotNames k.whole, parts := slotNames (k.parts.map fun e => (e.1, e.2.1)), runs := k.runs, build := n }
    (sum ++ data.map (fun e => e.2.data) ++ pad) s

/-- Gather a log or staging stripe of a namespace: full, or partial when the wait has expired. -/
def gatherLog (ns : Nat) (partly : Bool) (s : State) : State :=
  match s.xlat.geo, (waitingSlots ns s).filter fun e => logBound e s with
  | some g, e0 :: wait =>
    let tg := logTarget ns e0 s
    let s := tg.2.2.2
    match tg.2.2.1, tg.2.2.1.bind (bandAt s) with
    | some b, some bd =>
      let n := stripeSectors g bd.width
      let list := if tg.1 = .seqLog then seqPrefix tg.2.1 e0.2.2.2 (e0 :: wait) else e0 :: wait
      let kind : RKind := if tg.1 = .staging then .staging else .log
      let k := list.foldl (packEntry (n - 1) b (bandNext b bd s * n) kind s)
        { whole := [], parts := [], runs := [], data := 0, full := false }
      if k.data < n - 1 && !k.full && !partly then s
      else
        let q := request poolStripe n s
        if q.1 then programLog g b bd k q.2 else q.2
    | _, _ => s
  | _, _ => s

/-! ### A stripe is programmed (06 R162) -/

/-- The slot that a name by namespace, LBA and cycle designates (06 R157). -/
def slotNamed (n : Nat × Nat × Nat) (s : State) : Option (Nat × Slot) :=
  s.xlat.slots.find? fun p => p.2.ns = n.1 && p.2.lba = n.2.1 && p.2.cycle = n.2.2 && p.2.dest ≠ noBand

/-- Does a stripe gathered later carry a name too? Then the name is that of the later placement of the cycle (06
R157). -/
def namedLater (id : Nat) (n : Nat × Nat × Nat) (s : State) : Bool :=
  s.xlat.progs.any fun q => id < q.1 && q.2.slots.contains n

/-- The sectors of a run whose slots still hold the newest placement: the live slot of the sector is one that the
stripe carries, by its own namespace, LBA and cycle (01 R15; 06 R162 step 2). -/
def keepSectors (r : Run) (id : Nat) (p : Prog) (s : State) : List Run :=
  match nsOfLb r.lb s with
  | none => []
  | some (ns, first) =>
    (List.range r.len).foldl (fun l i =>
      let live := match slotOf ns (first + r.start + i) s with
        | some (_, x) =>
          let n := (ns, x.lba, x.cycle)
          p.parts.contains n || (x.dest ≠ noBand && p.slots.contains n && !namedLater id n s)
        | none => false
      if live then joinRun l { r with start := r.start + i, len := 1, slot := if r.kind = .zero then r.slot else r.slot + i }
      else l) []

/-- Slots of a stripe are programmed, or stay superseded. -/
def slotsProgrammed (l : List (Nat × Nat × Nat)) (s : State) : State :=
  each l (fun n s => match slotNamed n s with
    | some (k, x) =>
      if x.state = .gathered then
        record (.slotState x.ns x.lba x.cycle .programmed x.dest)
          (s.onXlat fun y => { y with slots := Tbl.put y.slots k { x with state := .programmed } })
      else s
    | none => s) s

/-- A band whose last stripe is programmed takes no more and leaves the journal. -/
def bandFull (b : Nat) (s : State) : State :=
  match bandAt s b with
  | some e =>
    if bandStripes e s ≤ e.program then journalDel b (setBand b (some { e with isOpen := false }) s) else s
  | none => s

/-- Overlay use crosses OVERLAY_HIGH: event 0x5003 once a crossing, and the LB with the most runs is due
for a merge (06 R164). -/
def overlayCheck (s : State) : State :=
  let high := overlaySlots * cfg 0x5016 s < overlayUsed s * 100
  if high then
    let s := when (!s.xlat.overlayHigh) (raise 0x5003 0 (s.xlat.runs.length) 0x5032 0) s
    let lbs := (s.xlat.runs.map (·.lb)).eraseDups
    match mostBy (fun lb => (s.xlat.runs.filter fun r => r.lb = lb).length) lbs with
    | some lb => s.onXlat fun x => { x with overlayHigh := true, mergeDue := (x.mergeDue ++ [lb]).eraseDups }
    | none => s
  else s.onXlat fun x => { x with overlayHigh := false }

/-- FILL of an LB after a direct stripe of one of its bands; an LB that was discarded meanwhile, or that merges, keeps
its own (06 R162, R172). -/
def fillAdvance (g : Geo) (p : Prog) (s : State) : State :=
  let e := lbAt s p.lb
  if e.state = .merging || !e.bands.contains p.band then s
  else
    let i := e.bands.findIdx fun b => b = p.band
    let fill := min g.lbSectors ((i * g.stripes + p.stripe + 1) * stripeSectors g (setWidth p.lb s))
    setLb p.lb { e with fill := max e.fill fill } s

/-- Every page issued for a host stripe has reported success: FILL advances or runs are added, in one
step; the slots wait for their release. -/
def stripeProgrammed (id : Nat) (p : Prog) (s : State) : State :=
  match s.xlat.geo with
  | none => s
  | some g =>
    let s := onBand p.band (fun e => { e with program := max e.program (p.stripe + 1) }) (progGiveBack id p s)
    let s := match p.dest with
      | .direct => fillAdvance g p s
      | _ => each p.runs (fun r s => each (keepSectors r id p s) addRun s) s
    let s := slotsProgrammed p.slots s
    let s := s.onXlat fun x => { x with progs := Tbl.upd x.progs id fun q => { q with done := true, cycle := recCycle s } }
    overlayCheck (bandFull p.band s)

/-- Is a failed member of the band being replaced and not yet verified? (07 R197 step 5) -/
def replacing (b : Nat) (s : State) : Bool :=
  s.xlat.jobs.any fun p => p.2.urgent && (match p.2.kind with
    | .rebuild x _ => x = b
    | _ => false)

/-- The slot of a stripe's name: where a later stripe carries the name too, the superseded one. -/
def slotOfProg (id : Nat) (n : Nat × Nat × Nat) (s : State) : Option (Nat × Slot) :=
  if namedLater id n s then
    s.xlat.slots.find? fun p =>
      p.2.ns = n.1 && p.2.lba = n.2.1 && p.2.cycle = n.2.2 && p.2.dest ≠ noBand && decide (p.2.state = .superseded)
  else slotNamed n s

/-- Release the slots of a stripe: the change is confirmed, no read holds them (06 R162 steps 3 to 5). -/
def releaseSlots (id : Nat) (s : State) : State :=
  match Tbl.get? s.xlat.progs id with
  | none => s
  | some p =>
    let named := p.slots.filterMap fun n => (slotOfProg id n s).map fun k => (k, n)
    if p.done && (!s.pair.paired || p.cycle ≤ s.pair.committed) && !replacing p.band s
        && named.all fun k => k.1.2.readers = 0 then
      let s := each named (fun k s =>
        let s := s.onXlat fun x => { x with slots := Tbl.del x.slots k.1.1 }
        if namedLater id k.2 s then s else record (.slotState k.2.1 k.2.2.1 k.2.2.2 .free noBand) s) s
      s.onXlat fun x => { x with progs := Tbl.del x.progs id }
    else s

/-! ### Failed members (07 R197, R198) -/

/-- What a slot is when its stripe is abandoned: it waits to be gathered again (06 R162). -/
def slotAbandoned (x : Slot) : Slot :=
  let back := fun (y : SlotState) => if y = .gathered then .placed else y
  { x with state := back x.state, was := back x.was, dest := noBand, zdone := 0 }

/-- The slots of an abandoned stripe return to placed, and are gathered again. -/
def slotsAbandoned (l : List (Nat × Nat × Nat)) (s : State) : State :=
  each l (fun n s => match slotNamed n s with
    | some (i, x) =>
      let y := slotAbandoned x
      record (.slotState x.ns x.lba x.cycle y.state noBand) (s.onXlat fun m => { m with slots := Tbl.put m.slots i y })
    | none => s) s

/-- Zero runs of which an abandoned stripe carried a part are gathered again from their beginning, by themselves. -/
def partsAbandoned (l : List (Nat × Nat × Nat)) (s : State) : State :=
  let mine := fun (x : Slot) => l.contains (x.ns, x.lba, x.cycle) && x.zlen ≠ 0
  s.onXlat fun x => { x with
    slots := x.slots.map fun p => (p.1, if mine p.2 then slotAbandoned p.2 else p.2)
    progs := x.progs.map fun p => (p.1, { p.2 with slots := p.2.slots.filter fun n => !l.contains n }) }

/-- A stripe is abandoned: its slots return to placed and its granules to their pools. -/
def abandonProg (id : Nat) (s : State) : State :=
  match Tbl.get? s.xlat.progs id with
  | none => s
  | some p =>
    let s := progGiveBack id p s
    let s := s.onXlat fun x => { x with progs := Tbl.del x.progs id }
    slotsAbandoned p.slots (partsAbandoned p.parts s)

/-- A copy loses its target: the target bands are released and the copy starts again later (07 R198). -/
def restartCopy (id : Nat) (s : State) : State :=
  match Tbl.get? s.xlat.jobs id with
  | none => s
  | some j =>
    let s := endJob id s
    match j.kind with
    | .merge lb k _ =>
      let s := if k = .full then each j.targets markRelease s else s
      s.onXlat fun x => { x with mergeDue := (x.mergeDue ++ [lb]).eraseDups }
    | .compact _ => each j.targets (fun b s => if (runsIn b s).isEmpty then markRelease b s else s) s
    | .rebuild b pos =>
      let back := fun (m : Member) => if m.mstate = .rebuilding then { m with mstate := .lost } else m
      freeEu j.car j.eu (onBand b (fun e => { e with
        members := e.members.mapIdx fun i m => if i = pos then back m else m }) s)
    | _ => freeEu j.car j.eu s

/-- The bands of a checkpoint that cannot be completed are released; the last one stays (06 R151). -/
def checkpointFails (s : State) : State := match s.xlat.ckptRun with
  | some k => each k.bands markRelease (s.onXlat fun x => { x with ckptRun := none })
  | none => s

/-- Every stripe of a checkpoint is programmed: it is the last one, and every other system band is released. -/
def checkpointDone (s : State) : State := match s.xlat.ckptRun with
  | some k =>
    if s.xlat.progs.any fun p => p.2.dest = .system then s
    else
      let s := s.onXlat fun x => { x with ckpt := some k, ckptRun := none, lastCheckpoint := s.now }
      let s := each k.bands (fun b s => journalDel b (onBand b (fun e => { e with isOpen := false }) s)) s
      let old := s.xlat.bands.filter fun p => p.2.kind = .system && !k.bands.contains p.1
      each old (fun p s => markRelease p.1 s) s
  | none => s

/-- A band takes no further stripe: its stripes under way go elsewhere, a direct fill in it closes, a copy
with it as target starts again (07 R198; 08 R217). -/
def bandStops (b : Nat) (s : State) : State :=
  let s := each (s.xlat.progs.filter fun p => p.2.band = b && !p.2.done) (fun p s =>
    let s := abandonProg p.1 s
    match p.2.dest with
    | .direct => closeFill p.2.lb s
    | .system => checkpointFails s
    | _ => s) s
  let s := each (s.xlat.jobs.filter fun p => p.2.targets.contains b) (fun p s => restartCopy p.1 s) s
  let s := onBand b (fun e => { e with isOpen := false }) s
  each (s.xlat.fills.filter fun p => (lbAt s p.1).bands.contains b) (fun p s => closeFill p.1 s) s

/-- One page of a stripe is no longer waited for; a stripe without pages waited for is programmed. The
answer names a job whose stripe ended. -/
def pageDone (id pos : Nat) (s : State) : Option Nat × State :=
  match Tbl.get? s.xlat.progs id with
  | none => (none, s)
  | some p =>
    let w := p.waiting.filter (· ≠ pos)
    let p := { p with waiting := w }
    let s := s.onXlat fun x => { x with progs := Tbl.put x.progs id p }
    if w.isEmpty && !p.done then match p.dest with
      | .job j =>
        let s := progGiveBack id p s
        let s := onBand p.band (fun e => { e with program := max e.program (p.stripe + 1) }) s
        (some j, s.onXlat fun x => { x with progs := Tbl.del x.progs id })
      | .system =>
        let s := onBand p.band (fun e => { e with program := max e.program (p.stripe + 1) }) (progGiveBack id p s)
        (none, checkpointDone (s.onXlat fun x => { x with progs := Tbl.del x.progs id }))
      | _ => (none, stripeProgrammed id p s)
    else (none, s)

end Sys2Proof.Machine
end

