-- ==== Sys2Proof/Machine/Jobs.lean ====
section
/-! DEFINITION. Background copies stripe by stripe: merges and folds (06 R165 to R167, 07 R183),
compaction (07 R187), member moves (07 R194), rebuild (08 R221), resynchronisation (08 R233) and scrub
(07 R200); lost sectors (08 R226); refreshes; and what follows a page that has been read or
reconstructed. -/

namespace Sys2Proof.Machine

def onJob (id : Nat) (f : Job → Job) (s : State) : State :=
  s.onXlat fun x => { x with jobs := Tbl.upd x.jobs id f }

def jobNew (k : JobKind) : Job :=
  { kind := k, targets := [], car := 0, eu := 0, hi := 0, next := 0, total := 0, got := [], want := [],
    granules := 0, programming := false, verified := 0, ready := false, paused := false, epoch := 0, src := [],
    urgent := false, static := false }

def addJob (j : Job) (s : State) : State :=
  s.onXlat fun x => { x with jobs := Tbl.put x.jobs x.nextJob j, nextJob := x.nextJob + 1 }

/-- Is a job of a kind under way? -/
def jobRuns (k : JobKind → Bool) (s : State) : Bool := s.xlat.jobs.any fun p => k p.2.kind

/-! ### Lost sectors (08 R226, R227) -/

/-- LBs and offsets of the namespace sectors whose current source is data position `d` of a stripe. -/
def sectorsOfPage (band t d : Nat) (s : State) : List (Nat × Nat) :=
  match s.xlat.geo, bandAt s band with
  | some g, some b =>
    let n := stripeSectors g b.width
    let inCaddy := fun (p : Nat × Nat) => (nsOfLb p.1 s).any fun x => (slotOf x.1 (x.2 + p.2) s).isSome
    let direct := (s.xlat.lbs.filter fun p => p.2.bands.contains band).flatMap fun p =>
      let i := p.2.bands.findIdx fun x => x = band
      (List.range g.k).filterMap fun u =>
        let o := (i * g.stripes + t) * n + d * g.k + u
        if o < p.2.fill && o < g.lbSectors && !runWithin p.1 o 1 s then some (p.1, o) else none
    let logged := ((runsIn band s).filter fun r => decide (r.kind ≠ .zero)).flatMap fun r =>
      (List.range r.len).filterMap fun i =>
        let p := r.slot + i
        if p / n = t && p % n / g.k = d then some (r.lb, r.start + i) else none
    (direct ++ logged).filter fun p => !inCaddy p
  | _, _ => []

/-- Add a lost run and a lost-range entry for one data page; a sector that is already lost adds nothing.
While the list is full the sectors are counted unlisted, event 0x520E once a filling (08 R228). -/
def losePage (band t d missing cause : Nat) (s : State) : State :=
  let l := (sectorsOfPage band t d s).filter fun p =>
    !(s.xlat.runs.any fun r => decide (r.kind = .lost) && r.covers p.1 p.2)
  let s := each l (fun p s =>
    addRun { lb := p.1, start := p.2, len := 1, kind := .lost, epoch := (lbAt s p.1).epoch, band := noBand, slot := 0 } s) s
  let lbas := l.filterMap fun p => (nsOfLb p.1 s).map fun n => (n.1, n.2 + p.2)
  each lbas (fun a s =>
    let grow := match s.xlat.lost.getLast? with
      | some e => e.ns = a.1 && e.lba + e.count = a.2 && e.band = band && e.stripe = t
      | none => false
    if grow then match s.xlat.lost.getLast? with
      | some e =>
        let e := { e with count := e.count + 1 }
        record (.lostRange e.ns e.lba e.count e.cause e.missing e.band e.stripe e.detected)
          (s.onXlat fun x => { x with lost := x.lost.dropLast ++ [e] })
      | none => s
    else if s.xlat.lost.length < 65536 then
      record (.lostRange a.1 a.2 1 cause missing band t s.now)
        (s.onXlat fun x => { x with
          lost := x.lost ++ [{ detected := s.now, lba := a.2, count := 1, ns := a.1, cause, missing, band, stripe := t }] })
    else
      let s := bump 0x5244 0 1 s
      let s := when (!s.xlat.lostFull) (raise 0x520E 0 65536 0x5242 0) s
      s.onXlat fun x => { x with lostFull := true }) s

/-- Queue a band for relocation, event 0x520C (08 R224). -/
def relocateBand (b : Nat) (s : State) : State :=
  if s.xlat.relocate.contains b then s
  else
    let s := raise 0x520C 0 b 0x5204 0 (s.onXlat fun x => { x with relocate := x.relocate ++ [b] })
    match bandAt s b with
    | some e =>
      if e.kind = .data then s.onXlat fun x => { x with mergeDue := (x.mergeDue ++ [e.owner]).eraseDups } else s
    | none => s

/-- A third missing page (08 R226): the data positions are lost, event 0x5203, the band is relocated. -/
def loseData (band t : Nat) (ds : List Nat) (missing cause : Nat) (s : State) : State :=
  let before := s.xlat.runs.length
  let s := each ds (fun d s => losePage band t d missing cause s) s
  let s := when (before ≠ s.xlat.runs.length) (raise 0x5203 0 band 0x5242 0) s
  relocateBand band s

/-! ### Refresh (07 R200) -/

/-- Members of a band that wait for a refresh. -/
def refreshOf (b : Nat) (s : State) : List Nat := (s.xlat.refresh.filter fun r => r / 32 = b).map (· % 32)

/-- A page is unreadable at every retry level: the move of its member is urgent, and its EU is retired after it
(07 R196, R204). -/
def moveUrgent (b pos : Nat) (s : State) : State :=
  s.onXlat fun x => { x with jobs := x.jobs.map fun p => (p.1, match p.2.kind with
    | .move k i => if k = b && i = pos then { p.2 with urgent := true } else p.2
    | _ => p.2) }

/-- Has a band been read as often as its carriers bear? (07 R200) Where its members lie on carriers of different
read-disturb limits, the least of them applies (DESIGN CHOICE, log entry 96). -/
def readsOver (e : Band) (s : State) : Bool :=
  let limit := e.members.foldl (fun a m => match (carOf s m.carrier).descr with
    | some d => if a = 0 then d.readDisturb else min a d.readDisturb
    | none => a) 0
  0 < limit && cfg 0x5142 s * limit * e.width ≤ e.readCount * 100

/-- The band's read counter reaches its limit: a full merge of the owning LB. -/
def readDisturb (b : Nat) (s : State) : State :=
  match bandAt s b with
  | none => s
  | some e =>
    if readsOver e s && decide (e.kind = .data) then
      s.onXlat fun x => { x with mergeDue := if x.mergeDue.contains e.owner then x.mergeDue else x.mergeDue ++ [e.owner] }
    else s

/-! ### Reading for a job -/

/-- Where a merge reads an offset from: a run of the earlier epoch, the old band set, or zeros (06
R166). -/
def mergeSource (lb o : Nat) (s : State) : Source :=
  match s.xlat.geo with
  | none => .zero
  | some g =>
    let e := lbAt s lb
    match s.xlat.runs.find? (fun r => r.covers lb o && r.epoch ≠ e.epoch) with
    | some r => match r.kind with
      | .zero | .lost => .zero
      | _ => match bandAt s r.band with
        | some b =>
          let l := slotLoc g b.width (r.slot + (o - r.start))
          .band r.band l.1 l.2.1 l.2.2
        | none => .zero
    | none =>
      if e.fill ≤ o then .zero
      else match e.bands.head?.bind (bandAt s) with
        | some b0 =>
          let l := locate g b0.width o
          match e.bands[l.i]? with
          | some b => .band b l.t l.d l.u
          | none => .zero
        | none => .zero

/-- Width of the band that a job writes. -/
def targetWidth (j : Job) (s : State) : Nat := match j.targets.head?.bind (bandAt s) with
  | some b => b.width
  | none => 0

/-- Granules a job takes for a stripe. -/
def jobGranules (g : Geo) (j : Job) (s : State) : Nat := match j.kind with
  | .merge .. | .compact _ => stripeSectors g (targetWidth j s)
  | .move .. => g.k
  | .rebuild b _ | .resync b | .scrub b => ((bandAt s b).map fun e => e.width * g.k).getD 0

/-- Queue the reads of a job's next stripe: each page that the copy, the rebuild or the check needs. -/
def readStripe (id : Nat) (g : Geo) (j : Job) (s : State) : State :=
  let q := jobQueue j s
  match j.kind with
  | .merge lb _ _ =>
    let w := targetWidth j s
    let base := j.next * stripeSectors g w
    let src := (List.range (stripeSectors g w)).map fun i => (i, mergeSource lb (base + i) s)
    let reads := src.filter fun p => match p.2 with
      | .band .. => base + p.1 < g.lbSectors
      | _ => false
    let s := onJob id (fun j => { j with want := reads.map Prod.fst }) s
    each reads (fun p s => match p.2 with
      | .band b t d u => readPage b t d u 1 q (.jobRead id p.1) s
      | _ => s) s
  | .compact v =>
    match bandAt s v with
    | none => s
    | some b =>
      let l := (j.src.filter fun r => decide (r.kind ≠ .zero)).flatMap fun r => (List.range r.len).map fun i => r.slot + i
      let s := onJob id (fun j => { j with want := List.range l.length }) s
      each l.zipIdx (fun p s =>
        let x := slotLoc g b.width p.1
        readPage v x.1 x.2.1 x.2.2 1 q (.jobRead id p.2) s) s
  | .move b pos =>
    match bandAt s b with
    | none => s
    | some e =>
      let s := onJob id (fun j => { j with want := [pos] }) s
      if memberReadable e pos then readMember b e pos j.next 0 g.k q (.jobRead id pos) s
      else startRecon b j.next pos 0 g.k q (.jobRead id pos) false s
  | .rebuild b pos =>
    match bandAt s b with
    | none => s
    | some e =>
      let l := survivors e j.next pos
      let s := onJob id (fun j => { j with want := l }) s
      each l (fun m s => readMember b e m j.next 0 g.k q (.jobRead id m) s) s
  | .resync b | .scrub b =>
    match bandAt s b with
    | none => s
    | some e =>
      let l := (List.range e.width).filter fun m => memberReadable e m
      let s := onJob id (fun j => { j with want := l }) s
      each l (fun m s => readMember b e m j.next 0 g.k q (.jobRead id m) s) s

/-- Read the sources of the stripe a job is at; the pool grants or the job pauses (04 R100). -/
def jobReads (id : Nat) (s : State) : State :=
  match s.xlat.geo, Tbl.get? s.xlat.jobs id with
  | some g, some j =>
    if j.ready || j.programming || !j.want.isEmpty || j.total ≤ j.next then s
    else
      let pool := match j.kind with
        | .rebuild .. | .resync _ | .scrub _ => poolRebuild
        | _ => poolMerge
      let n := jobGranules g j s
      let r := if j.granules = 0 then request pool n s else (true, s)
      if !r.1 then onJob id (fun j => { j with paused := true }) r.2
      else
        readStripe id g j (onJob id (fun j => { j with paused := false, granules := n, got := [] }) r.2)
  | _, _ => s

/-- Start a member move to an EU of the same carrier (07 R194). -/
def startMove (b pos eu : Nat) (urgent static : Bool) (s : State) : State :=
  match bandAt s b with
  | none => s
  | some e => match memberAt e pos with
    | none => s
    | some m =>
      let s := prepareEu m.carrier eu (decide (e.kind = .staging)) qUpkeep b s
      let id := s.xlat.nextJob
      jobReads id (addJob { jobNew (.move b pos) with
        car := m.carrier, eu, total := e.program, urgent, static, ready := e.program = 0 } s)

/-- A read needs the member refreshed: a member move, a full merge when three or more members of a data
band are affected, or reclamation of a log or staging band (07 R200). Of two affected members each has a move of its own
(DESIGN CHOICE, log entry 97). The target of a move off an unreadable page takes the place of an EU that is retired (07
R196). -/
def scheduleRefresh (b pos : Nat) (urgent : Bool) (s : State) : State :=
  match bandAt s b with
  | none => s
  | some e =>
    let key := b * 32 + pos
    if s.xlat.refresh.contains key then s
    else
      let s := s.onXlat fun x => { x with refresh := x.refresh ++ [key] }
      if e.kind = .data then
        if 3 ≤ (refreshOf b s).length then
          s.onXlat fun x => { x with mergeDue := (x.mergeDue ++ [e.owner]).eraseDups }
        else match memberAt e pos with
          | some m => match (if urgent then takeTalon m.carrier s else takeEu m.carrier s) with
            | some (eu, s) => startMove b pos eu urgent false s
            | none => s
          | none => s
      else s

/-! ### A stripe of a job is read -/

/-- Pages of a stripe by data position, P and Q, from pages by member position. -/
def splitPages (w t : Nat) (got : Tbl (Option (List Bytes))) : List (Option Bytes) × Option Bytes × Option Bytes :=
  let page := fun m => ((Tbl.get? got m).getD none).map List.flatten
  ((List.range (w - 2)).map fun d => page (memberOf w t d), page (t % w), page ((t + 1) % w))

/-- The page of a member position from whole stripe data. -/
def pageOf (w t m : Nat) (data : List Bytes) : Bytes :=
  if m = t % w then parityP data
  else if m = (t + 1) % w then parityQ 0 data
  else data.getD ((m + w - (t % w) + w - 2) % w) []

/-- Data positions whose pages are missing. -/
def missingData (l : List (Option Bytes)) : List Nat := (List.range l.length).filter fun d => (l[d]?.getD none).isNone

/-- Pages missing in a stripe. -/
def pagesGone (pg : List (Option Bytes) × Option Bytes × Option Bytes) : Nat :=
  (missingData pg.1).length + (if pg.2.1.isNone then 1 else 0) + (if pg.2.2.isNone then 1 else 0)

/-- A resynchronisation of a band ends: stripes at or above PROGRAM are abandoned, both flags clear, the
band leaves the journal (08 R232 steps 4 and 5). A band without a programmed page there stays open, and is in the
journal. -/
def endResync (id b : Nat) (untouched : Bool) (s : State) : State :=
  let stays := untouched && (bandAt s b).any (·.isOpen)
  let s := endJob id s
  let s := if stays then s else bandStops b s
  let s := onBand b (fun e => { e with awaitResync := false, verify := false, isOpen := stays }) s
  let s := if !stays then journalDel b s else if Tbl.has s.xlat.journal b then s else enterJournal b s
  resyncComplete s

/-- Program one page of a single target EU for a move or a rebuild. -/
def programTarget (id : Nat) (j : Job) (data : List Bytes) (band : Nat) (s : State) : State :=
  queueMedia j.car (mediaCmd .program j.eu j.next 0 0 data (jobQueue j s) (.jobProg id) band)
    (onJob id (fun j => { j with programming := true }) s)

/-- Effective origin of the stripe that a run of a log band lies in, or whose summary holds it (07 R187). -/
def originOf (g : Geo) (b : Nat) (e : Band) (r : Run) (s : State) : Nat :=
  ((Tbl.get? s.xlat.logs b).bind fun l => Tbl.get? l.origins (r.slot / stripeSectors g e.width)).getD e.openseq

/-- Source runs at their places in a compaction stripe of band `b`, whose summary is at `base`; `used` data sectors are
taken (07 R187). -/
def runsPlaced (b base : Nat) : List Run → Nat → List Run
  | [], _ => []
  | r :: l, used =>
    if r.kind = .zero then { r with band := b, slot := base } :: runsPlaced b base l used
    else { r with band := b, slot := base + 1 + used } :: runsPlaced b base l (used + r.len)

/-- What a job does with the pages of its stripe, once all are there. -/
def jobStripe (id : Nat) (s : State) : State :=
  match s.xlat.geo, Tbl.get? s.xlat.jobs id with
  | some g, some j =>
    match j.kind with
    | .merge lb _ _ =>
      match nsOfLb lb s with
      | none => s
      | some (ns, first) =>
        let w := targetWidth j s
        let n := stripeSectors g w
        let base := j.next * n
        match j.targets[j.next / g.stripes]? with
        | some b =>
          let data := (List.range (min n (g.lbSectors - base))).map fun i =>
            match (Tbl.get? j.got i).getD none with
            | some (x :: _) => x
            | _ => encryptSector ns (first + base + i) zeroSector s
          let data := data ++ padding g b w (j.next % g.stripes) data.length s
          programStripe (progNew b (j.next % g.stripes) (.job id) lb) data
            (onJob id (fun j => { j with programming := true }) s)
        | none => s
    | .compact v =>
      match j.targets.head? with
      | none => s
      | some b => match bandAt s b, bandAt s v with
        | some e, some ve =>
          let t := bandNext b e s
          let n := stripeSectors g e.width
          let origin := (j.src.head?.map fun r => originOf g v ve r s).getD ve.openseq
          let total := ((j.src.filter fun r => decide (r.kind ≠ .zero)).map (·.len)).sum
          let body := (List.range total).map fun i => match (Tbl.get? j.got i).getD none with
            | some (x :: _) => x
            | _ => zeroSector
          let runs := runsPlaced b (t * n) j.src 0
          let sum := metaSectors g b e.width t 0 [summaryBytes b t runs (some origin)] s
          let pad := padding g b e.width t (1 + total) s
          let s := match Tbl.get? s.xlat.logs b with
            | some l => setLog b { l with stripes := t + 1, origins := Tbl.put l.origins t origin } s
            | none => s
          programStripe { progNew b t (.job id) 0 with runs } (sum ++ body ++ pad)
            (onJob id (fun j => { j with programming := true, next := t, hi := t * n }) s)
        | _, _ => s
    | .move b pos =>
      match (Tbl.get? j.got pos).getD none with
      | some l => programTarget id j l b s
      | none => restartCopy id s
    | .rebuild b pos =>
      match bandAt s b with
      | none => endJob id s
      | some e =>
        let w := e.width
        let t := j.next
        let pg := splitPages w t j.got
        match recoverStripe pg.1 pg.2.1 pg.2.2 with
        | some data => programTarget id j (chunks 4096 (pageOf w t pos data)) b s
        | none =>
          let miss := missingData pg.1
          let known := pg.1.map (·.getD (List.replicate (g.k * 4096) 0))
          let s := loseData b t miss (pagesGone pg) 1 s
          programTarget id j (chunks 4096 (pageOf w t pos known)) b s
    | .resync b =>
      match bandAt s b with
      | none => endJob id s
      | some e =>
        let w := e.width
        let t := j.next
        let pg := splitPages w t j.got
        if e.program ≤ t then endResync id b (j.got.all fun p => decide (p.2 = some [])) s
        else
        let s := match checkStripe pg.1 pg.2.1 pg.2.2 with
          | .good [] => s
          | .good l => each l (fun d s =>
              let m := if d < w - 2 then memberOf w t d else if d = w - 2 then t % w else (t + 1) % w
              if memberReadable e m then scheduleRefresh b m true s else s) s
          | .wrongP => raise 0x520D 0 b 0x5212 0 (bump 0x5212 0 1 (scheduleRefresh b (t % w) false s))
          | .wrongQ => raise 0x520D 0 b 0x5212 0 (bump 0x5212 0 1 (scheduleRefresh b ((t + 1) % w) false s))
          | .wrongData x => raise 0x520D 0 b 0x5212 0 (bump 0x5212 0 1 (scheduleRefresh b (memberOf w t x) false s))
          | .lost => loseData b t (List.range (w - 2)) (pagesGone pg) 2 s
        let s := onJob id (fun j => { j with next := t + 1, want := [] }) s
        if j.total ≤ t + 1 then endResync id b false s else jobReads id s
    | .scrub _ =>
      let s := onJob id (fun j => { j with next := j.next + 1, want := [] }) s
      if j.total ≤ j.next + 1 then endJob id s else jobReads id s
  | _, _ => s

/-- Read the stripe a job is at; one that needs no read goes on at once. -/
def jobRead (id : Nat) (s : State) : State :=
  let s := jobReads id s
  match Tbl.get? s.xlat.jobs id with
  | some j => if j.want.isEmpty && !j.ready && !j.programming && !j.paused && j.next < j.total then jobStripe id s else s
  | none => s

/-- Survivors that a rebuild reads beside those it asked for, once one of them is missing (08 R219). -/
def rebuildExtra (j : Job) (pos : Nat) (d : Option (List Bytes)) (s : State) : List (Nat × Band × Nat) := match j.kind, d with
  | .rebuild b lost, none => match bandAt s b with
    | some e => ((List.range e.width).filter fun m =>
        memberReadable e m && m ≠ lost && m ≠ pos && !j.want.contains m && !Tbl.has j.got m).map fun m => (b, e, m)
    | none => []
  | _, _ => []

/-- A page or sector that a job waits for has arrived, or is missing for good. -/
def jobGot (id pos : Nat) (d : Option (List Bytes)) (s : State) : State :=
  match Tbl.get? s.xlat.jobs id with
  | none => s
  | some j =>
    let extra := rebuildExtra j pos d s
    let want := j.want.filter (· ≠ pos) ++ extra.map fun x => x.2.2
    let s := onJob id (fun j => { j with want, got := Tbl.put j.got pos d }) s
    let k := (s.xlat.geo.map Geo.k).getD 0
    let s := each extra (fun x s => readMember x.1 x.2.1 x.2.2 j.next 0 k (jobQueue j s) (.jobRead id x.2.2) s) s
    if want.isEmpty && !j.programming then jobStripe id s else s

/-- All stripes of a job are programmed: a move, a rebuild or a target with a replaced member is verified
by reading it back (07 R194 step 2); others are ready for their commit. -/
def jobProgrammed (id : Nat) (s : State) : State :=
  match s.xlat.geo, Tbl.get? s.xlat.jobs id with
  | some g, some j => match j.kind with
    | .move b _ | .rebuild b _ =>
      if j.total = 0 then onJob id (fun j => { j with ready := true }) s
      else
        each (List.range j.total) (fun t s =>
          queueMedia j.car (mediaCmd .read j.eu t 0 g.k [] (jobQueue j s) (.jobVerify id) b) s) s
    | _ => onJob id (fun j => { j with ready := true }) s
  | _, _ => s

/-- The stripe a job is at has been programmed. -/
def jobStripeDone (id : Nat) (s : State) : State :=
  match Tbl.get? s.xlat.jobs id with
  | none => s
  | some j =>
    let compact : Bool := match j.kind with
      | .compact _ => true
      | _ => false
    if compact then onJob id (fun j => { j with programming := false, ready := true }) s
    else
      let total := match j.kind with
        | .rebuild b _ | .move b _ => ((bandAt s b).map (·.program)).getD j.total
        | _ => j.total
      let s := onJob id (fun j => { j with programming := false, next := j.next + 1, total, want := [] }) s
      if total ≤ j.next + 1 then jobProgrammed id s else jobRead id s

/-! ### Resynchronisation (08 R232, R234) -/

/-- Flag a band and check its stripes. One more is read where nothing else says whether a page at or above PROGRAM is
programmed: stripe 0 of a band with PROGRAM 0, and the stripe at PROGRAM when the whole array is resynchronised. -/
def resyncBand (b : Nat) (s : State) : State :=
  match bandAt s b with
  | none => s
  | some e =>
    let s := setBand b (some { e with awaitResync := true, verify := true }) s
    let looks := e.program = 0 || (decide (s.xlat.resyncKind = 2) && e.program < bandStripes e s)
    let id := s.xlat.nextJob
    jobRead id (addJob { jobNew (.resync b) with total := if looks then e.program + 1 else e.program } s)

/-- Resynchronise the bands of the restored journal, or the whole array in descending OPENSEQ when no
copy is intact. -/
def startResync (s : State) : State :=
  if s.xlat.resyncKind = 2 then
    let l := (s.xlat.bands.filter fun p => p.2.kind ≠ .free).mergeSort fun a b => b.2.openseq ≤ a.2.openseq
    each l (fun p s => resyncBand p.1 s) s
  else
    let l := Tbl.keys s.xlat.journal
    let s := s.onXlat fun x => { x with resyncKind := if l.isEmpty then 0 else 1 }
    each l resyncBand s

/-- An ERASED page tells a resynchronisation, at or above PROGRAM, that the member holds no programmed page there: it is
not read again (08 R232 step 2, R234). -/
def blankPage (m : MediaCmd) (s : State) : Bool := match m.purpose with
  | .jobRead j _ => match (Tbl.get? s.xlat.jobs j).map Job.kind with
    | some (.resync b) => (bandAt s b).any fun e => e.program ≤ m.page
    | _ => false
  | _ => false

/-! ### Starting copies -/

/-- Must an LB be merged in full? A band of its set waits for relocation or a refresh, or its set is narrower
than the width bands now take (07 R200; 08 R224, R231). -/
def needsFull (lb : Nat) (s : State) : Bool :=
  let w0 := (s.xlat.geo.map (·.w0)).getD 0
  (lbAt s lb).bands.any fun b =>
    s.xlat.relocate.contains b || 3 ≤ (refreshOf b s).length ||
      (match bandAt s b with
       | some e => (e.width < w0 && widthNow s = w0 && !(lbAt s lb).hasRuns) || readsOver e s
       | none => false)

/-- Targets of a partial merge: the set's own bands, and new ones for the positions it lacks (06 R165). -/
def partialTargets (ns lb w need queue : Nat) (own : List Nat) (s : State) : List Nat × State :=
  (List.range need).foldl (fun (a : List Nat × State) i =>
    match own[i]? with
    | some b => (a.1 ++ [b], a.2)
    | none =>
      let r := openBand .data ns lb w queue a.2
      (a.1 ++ r.1.toList, r.2)) ([], s)

/-- Targets of a full merge: new bands (06 R165). -/
def fullTargets (ns lb w need queue : Nat) (s : State) : List Nat × State :=
  (List.range need).foldl (fun (a : List Nat × State) _ =>
    let r := openBand .mergeTarget ns lb w queue a.2
    (a.1 ++ r.1.toList, r.2)) ([], s)

/-- The LB enters MERGING; a merge that starts again keeps its epoch (06 R164, R166). -/
def beginMerge (lb : Nat) (e : LbEntry) (s : State) : State :=
  let epoch := if e.state = .merging then e.epoch else e.epoch + 1
  let s := setLb lb { lbAt s lb with state := .merging, epoch } s
  s.onXlat fun x => { x with mergeDue := x.mergeDue.filter (· ≠ lb), fills := Tbl.del x.fills lb }

/-- A merge that copies begins with its targets, once MERGE has granted the granules of its first stripe. -/
def mergeBegins (lb : Nat) (e : LbEntry) (j : Job) (s : State) : State :=
  let id := s.xlat.nextJob
  jobRead id (addJob { j with epoch := e.epoch, ready := j.total ≤ j.next } (beginMerge lb e s))

/-- A partial merge: into the LB's own band set from FILL upwards, with new bands where the set lacks them. -/
def startPartial (g : Geo) (ns lb hi queue : Nat) (fold : Bool) (s : State) : State :=
  let e := lbAt s lb
  let w := setWidth lb s
  let n := stripeSectors g w
  let need := (hi + n * g.stripes - 1) / (n * g.stripes)
  let q := request poolMerge n s
  if !q.1 then q.2
  else
    let r := partialTargets ns lb w need queue e.bands q.2
    if r.1.length < need then giveBack poolMerge n (each (r.1.drop e.bands.length) markRelease r.2)
    else
      mergeBegins lb e { jobNew (.merge lb .partial_ fold) with
        targets := r.1, hi, next := e.fill / n, total := hi / n, granules := n } r.2

/-- A full merge into a new band set of the current width. -/
def startFull (g : Geo) (ns lb hi queue : Nat) (fold : Bool) (s : State) : State :=
  let w := widthNow s
  let n := stripeSectors g w
  let need := (hi + n * g.stripes - 1) / (n * g.stripes)
  let total := (hi + n - 1) / n
  if w = 0 then s
  else
    let q := request poolMerge n s
    if !q.1 then q.2
    else
      let r := fullTargets ns lb w need queue q.2
      if r.1.length < need then giveBack poolMerge n (each r.1 markRelease r.2)
      else
        mergeBegins lb (lbAt s lb) { jobNew (.merge lb .full fold) with
          targets := r.1, hi := min (total * n) g.lbSectors, total, granules := n } r.2

/-- Begin a merge (06 R166): STATE MERGING and EPOCH up, the target formed, the first stripe read. It is deferred while
sectors of the LB are not yet in its runs, and while MERGE refuses granules (06 R164). A merge
started again finds the LB in MERGING and keeps its EPOCH (06 R168). -/
def startMerge (lb : Nat) (s : State) : State :=
  match s.xlat.geo, nsOfLb lb s with
  | some g, some (ns, _) =>
    let e := lbAt s lb
    let runs := jobRuns (fun k => match k with
        | .merge l _ _ => l = lb
        | _ => false) s
    if mergeDeferred lb s || runs || resyncing lb s then s
    else
      let hi := mergeHi g lb s
      let ch := if needsFull lb s then (MergeKind.full, hi) else mergeChoice lb s
      let fold := s.xlat.runs.any fun r => r.lb = lb && decide (r.kind = .staging)
      let queue := jobQueue (jobNew (.merge lb ch.1 fold)) s
      match ch.1 with
      | .switch => match seqLogOf lb s with
        | some b =>
          addJob { jobNew (.merge lb .switch fold) with targets := [b], ready := true, epoch := e.epoch } (beginMerge lb e s)
        | none => s
      | .partial_ => startPartial g ns lb hi queue fold s
      | .full => startFull g ns lb hi queue fold s
  | _, _ => s

/-- The runs of one effective origin that a compaction stripe of `cap` data sectors takes: up to 255 entries, the last
cut where it does not fit whole (06 R150; 07 R187). -/
def takeRuns (cap : Nat) : List Run → List Run → List Run
  | [], a => a
  | r :: l, a =>
    let used := ((a.filter fun x => decide (x.kind ≠ .zero)).map (·.len)).sum
    if 255 ≤ a.length then a
    else if r.kind = .zero || used + r.len ≤ cap then takeRuns cap l (a ++ [r])
    else if used < cap then a ++ [{ r with len := cap - used }]
    else a

/-- Compact a shared-log victim (07 R187): the next stripe takes live runs of one effective origin. -/
def startCompact (v : Nat) (s : State) : State :=
  match s.xlat.geo, bandAt s v with
  | some g, some b =>
    if jobRuns (fun k => match k with
        | .compact x => x = v
        | _ => false) s then s
    else
      let runs := sortBy (·.slot) (runsIn v s)
      match runs with
      | [] => s
      | r0 :: _ =>
        let tgt : Option Nat × State := match (openOf .sharedLog b.ns 0 s).filter (· ≠ v) with
          | some t => (some t, s)
          | none => newLogBand .sharedLog b.ns 0 s
        match tgt.1 with
        | none => tgt.2
        | some t =>
          let cap := ((bandAt tgt.2 t).map fun e => stripeSectors g e.width - 1).getD 0
          let take := takeRuns cap (runs.filter fun r => originOf g v b r s = originOf g v b r0 s) []
          let id := tgt.2.xlat.nextJob
          jobRead id (addJob { jobNew (.compact v) with targets := [t], total := 1, src := take } tgt.2)
  | _, _ => s

/-- Is the carrier of a lost member in service? Its target is an EU of the same carrier then, chosen when there is one,
and until then the member waits: no other carrier is taken and the band is not relocated (08 R220, which lets "otherwise"
be read in another way too: DEDUCED, log entry 101). -/
def ownTarget (m : Member) (s : State) : Bool := m.carrier < 24 && decide ((carOf s m.carrier).state = .inService)

/-- A rebuild target for a lost member: an EU of its own carrier in service, else the first eligible carrier of the
spare list that holds no member of the band (08 R220). -/
def rebuildTarget (b : Band) (m : Member) (s : State) : Option (Nat × Nat × State) :=
  let used := b.members.map (·.carrier)
  let c := if ownTarget m s then some m.carrier else b.spares.find? fun c => eligible s c && !used.contains c
  c.bind fun c => (takeEu c s).map fun r => (c, r.1, r.2)

/-- Start the rebuild of a lost member, or relocate the band (08 R221, R224). -/
def startRebuild (b pos : Nat) (s : State) : State :=
  match bandAt s b, (bandAt s b).bind fun e => memberAt e pos with
  | some e, some m => match rebuildTarget e m s with
    | none => if ownTarget m s then s else relocateBand b s
    | some (c, eu, s) =>
      let s := onBand b (fun e => { e with
        members := e.members.mapIdx fun i m => if i = pos then { m with mstate := .rebuilding } else m
        spares := e.spares.filter (· ≠ c) }) s
      let s := prepareEu c eu (decide (e.kind = .staging)) qRebuild b s
      let id := s.xlat.nextJob
      let s := addJob { jobNew (.rebuild b pos) with car := c, eu, total := e.program } s
      if e.program = 0 then onJob id (fun j => { j with ready := true }) s else jobRead id s
  | _, _ => s

/-- A member whose EU failed is replaced from the talon: the failed EU is retired, the new one is
programmed from the start from the rest of the stripe, event 0x5108. With no EU the member stays lost (07 R197,
R198). -/
def replaceMember (b pos : Nat) (s : State) : State :=
  match bandAt s b with
  | none => s
  | some e => match memberAt e pos with
    | none => s
    | some m =>
      match takeTalon m.carrier s with
      | none =>
        let before := doublyDegraded s
        let s := onBand b (fun e => { e with members := e.members.set pos { m with mstate := .lost } })
          (retireEu m.carrier m.eu s)
        bandStops b (when (!before && doublyDegraded s) (raise 0x5202 0 1 0x5204 0) s)
      | some (eu, s) =>
        let s := retireEu m.carrier m.eu s
        let s := onBand b (fun e => { e with members := e.members.set pos { m with mstate := .rebuilding } }) s
        let s := prepareEu m.carrier eu (decide (e.kind = .staging)) qIngest b s
        let id := s.xlat.nextJob
        let s := addJob { jobNew (.rebuild b pos) with
          car := m.carrier, eu, total := e.program, urgent := true, ready := e.program = 0 } s
        raise 0x5108 (m.carrier + 1) eu 0x5131 (m.carrier + 1) (jobRead id s)

/-! ### What follows a page (08 R218; 07 R199) -/

/-- Give the sectors of a page to what asked for them; none when they are lost. -/
def deliver (p : Purpose) (d : Option (List Bytes)) (band t pos missing : Nat) (s : State) : State :=
  match p with
  | .hostRead buf idx =>
    match d with
    | some (x :: _) =>
      match Tbl.get? s.pot.bufs buf with
      | some b => startXts (.hostRead buf idx) b.ns (b.lba + idx) x (b.ns ≠ 0 && (match Tbl.get? s.keys.ns b.ns with
          | some k => k.old.isSome && !b.admissible
          | none => false)) s
      | none => s
    | _ =>
      match (bandAt s band).map Band.width with
      | some w => fillFailed buf .unrecovered (loseData band t [(pos + w - t % w + w - 2) % w] missing 1 s)
      | none => fillFailed buf .unrecovered s
  | .jobRead j i => jobGot j i d s
  | .fill ns lba =>
    let s := dropBandRef band s
    match d with
    | some (x :: _) => fillSent ns lba x s
    | _ => fillFails 4096 s
  | _ => s

/-- All survivors of a reconstruction, or all pages of a checked stripe, are there (08 R214, R233, R235). -/
def reconDone (id : Nat) (e : Recon) (s : State) : State :=
  match s.xlat.geo, bandAt s e.band with
  | some g, some b =>
    let w := b.width
    let pool := if e.queue = qHostC || e.queue = qHostX then poolRecon else poolRebuild
    let s := giveBack pool e.granules (s.onMedia fun m => { m with recons := Tbl.del m.recons id })
    let pg := splitPages w e.stripe e.got
    let cut := fun (data : List Bytes) =>
      ((chunks 4096 (pageOf w e.stripe e.pos data)).drop e.sector).take e.count
    let miss := missingData pg.1
    let gone := pagesGone pg
    if b.verify then
      match checkStripe pg.1 pg.2.1 pg.2.2 with
      | .lost =>
        let s := loseData e.band e.stripe (List.range (w - 2)) gone 3 s
        deliver e.purpose none e.band e.stripe e.pos gone s
      | .wrongData x =>
        let known := pg.1.map (·.getD [])
        let sp := xorBytes (pg.2.1.getD []) (parityP known)
        let data := known.set x (xorBytes (known.getD x []) sp)
        let s := raise 0x520D 0 e.band 0x5212 0 (bump 0x5212 0 1 (scheduleRefresh e.band (memberOf w e.stripe x) false s))
        deliver e.purpose (some (cut data)) e.band e.stripe e.pos gone s
      | v =>
        let s := match v with
          | .wrongP => raise 0x520D 0 e.band 0x5212 0 (bump 0x5212 0 1 (scheduleRefresh e.band (e.stripe % w) false s))
          | .wrongQ => raise 0x520D 0 e.band 0x5212 0 (bump 0x5212 0 1 (scheduleRefresh e.band ((e.stripe + 1) % w) false s))
          | _ => s
        match recoverStripe pg.1 pg.2.1 pg.2.2 with
        | some data => deliver e.purpose (some (cut data)) e.band e.stripe e.pos gone s
        | none => deliver e.purpose none e.band e.stripe e.pos gone s
    else match recoverStripe pg.1 pg.2.1 pg.2.2 with
      | some data => deliver e.purpose (some (cut data)) e.band e.stripe e.pos gone (bump 0x5209 0 1 s)
      | none =>
        let s := loseData e.band e.stripe miss gone 1 s
        let _ := g
        deliver e.purpose none e.band e.stripe e.pos gone s
  | _, _ => s

/-- A survivor of a reconstruction has been read, or is missing. A missing page that the remaining pages
can stand in for is read around (08 R219). -/
def reconGot (id pos : Nat) (d : Option (List Bytes)) (s : State) : State :=
  match s.xlat.geo, Tbl.get? s.media.recons id with
  | some g, some e =>
    let e := { e with got := Tbl.put e.got pos d }
    let s := s.onMedia fun m => { m with recons := Tbl.put m.recons id e }
    let extra := match d, bandAt s e.band with
      | none, some b => (List.range b.width).filter fun m =>
          memberReadable b m && !e.want.contains m && m ≠ e.pos
      | _, _ => []
    let e := { e with want := e.want ++ extra }
    let s := s.onMedia fun m => { m with recons := Tbl.put m.recons id e }
    let s := match bandAt s e.band with
      | some b => each extra (fun m s => readMember e.band b m e.stripe 0 g.k e.queue (.recon id m) s) s
      | none => s
    if e.want.all fun m => Tbl.has e.got m then reconDone id e s else s
  | _, _ => s

/-- Give the outcome of a page read to its purpose. -/
def pageRead (m : MediaCmd) (pos : Nat) (d : Option (List Bytes)) (s : State) : State :=
  match m.purpose with
  | .recon id p => reconGot id p d s
  | .jobVerify j =>
    match d with
    | some _ =>
      let s := onJob j (fun x => { x with verified := x.verified + 1 }) s
      match Tbl.get? s.xlat.jobs j with
      | some x => if x.total ≤ x.verified then onJob j (fun x => { x with ready := true }) s else s
      | none => s
    | none => restartCopy j s
  | p => deliver p d m.band m.page pos 1 s

/-- A member position by carrier and EU of a band. -/
def posOf (b : Nat) (c eu : Nat) (s : State) : Nat :=
  ((bandAt s b).map fun e => e.members.findIdx fun m => m.carrier = c && m.eu = eu).getD 0

/-- Retry levels of a carrier for an EU's cell mode (07 R199). -/
def retryOrder (c : Car) (eu : Nat) : List Nat :=
  let slc := c.slc.contains eu
  let l := if slc then c.retrySlc else c.retryNative
  if l.isEmpty then
    match c.descr with
    | some d => (List.range (if slc then d.levelsSlc else d.levelsNative)).map (· + 1)
    | none => []
  else l

/-- Position in the order of the try that follows `tries` failed retries (07 R199). -/
def retryAt (order : List Nat) (start tries : Nat) : Nat :=
  let n := order.length
  let s0 := if start = 0 || n < start then 1 else start
  (s0 - 1 + tries) % n + 1

/-- A page is not programmed: a finding of a resynchronisation at or above PROGRAM. -/
def readBlank (m : MediaCmd) (s : State) : State := match m.purpose with
  | .jobRead j i => jobGot j i (some []) s
  | _ => s

/-- A page was uncorrectable: the next level of the ladder, or reconstruction after RETRY_BEFORE_RECON
failed retries of a host read, and after every level of other reads. A page already being read for a
reconstruction, and one of a checked stripe, is then missing (07 R199; 08 R218, R219). -/
def readFailed (c : Nat) (m : MediaCmd) (s : State) : State :=
  let x := carOf s c
  let order := retryOrder x m.eu
  let b := bandAt s m.band
  let pos := posOf m.band c m.eu s
  let host : Bool := match m.purpose with
    | .hostRead .. | .fill .. => true
    | _ => false
  let failed := if m.level = 0 then 0 else m.tries
  let limit := if host then min (cfg 0x5140 s) order.length else order.length
  let s := when (m.level = 0) (bump 0x5145 0 1) s
  if failed < limit then
    let p := retryAt order ((b.map (·.retryPos)).getD 0) failed
    let s := onBandLocal m.band (fun e => { e with readCount := (e.readCount + 1) % 2 ^ 32 }) s
    queueMedia c { m with level := order.getD (p - 1) 0, tries := failed + 1, reissued := false } s
  else
    let all := order.length ≤ failed
    let s := when all (moveUrgent m.band pos) (scheduleRefresh m.band pos all s)
    match m.purpose with
    | .recon id p => reconGot id p none s
    | .jobRead j i =>
      match (Tbl.get? s.xlat.jobs j).map Job.kind with
      | some (JobKind.rebuild ..) | some (JobKind.resync _) | some (JobKind.scrub _) => jobGot j i none s
      | _ => startRecon m.band m.page pos m.sector m.count m.queue m.purpose false s
    | .jobVerify j => restartCopy j s
    | _ => startRecon m.band m.page pos m.sector m.count m.queue m.purpose false s

end Sys2Proof.Machine
end

