-- ==== Sys2Proof/Machine/CarrierOps.lean ====
section
/-! DEFINITION. Carriers as array members: the checks of admission (11 R324, 06 R141), talons (07 R195), loss
and return (08 R216, R217, R225), the narrowing floor (08 R230). -/

namespace Sys2Proof.Machine

/-! ### Checks -/

/-- SIGNATURE of a carrier descriptor. -/
def carrierSignature : BitVec 32 := 0x5241434B

/-- SIGNATURE, CHECK and PROTOCOL hold. -/
def descrSound (d : Descr) : Bool := decide (d.signature = carrierSignature) && d.checkOk && d.protocol = 1

/-- A descriptor SERIAL that differs from a readable sideband SERIAL keeps the carrier out (11 R321). -/
def serialAgrees (x : Car) : Bool := match x.descr, x.sideband with
  | some d, some i => !i.ok || decide (i.serial = d.serial)
  | _, _ => true

def descrPasses (x : Car) : Bool := match x.descr with
  | some d => descrSound d && serialAgrees x
  | none => false

/-- The geometry of the array fits a carrier (06 R141). -/
def geometryFits (g : Geo) (d : Descr) : Bool := d.pageSize = g.pKiB && g.eMiB ≤ d.euSize

/-! ### Erase units of an admitted carrier -/

/-- Size of a talon: ⌈TALON_INIT × good EUs⌉ (07 R195). -/
def talonSize (x : Car) (s : State) : Nat := ((goodEus x).length * cfg 0x5130 s + 999) / 1000

/-- The books of an admission: the carrier is in service with all its EUs free but the talon, which takes the
highest-numbered (DESIGN CHOICE, log entry 20: the spec gives its size only). Wear follows the flash, not the
array, and so do the fractions of it (07 R190). -/
def admitBook (c : Nat) (s : State) : State :=
  let x := carOf s c
  let rest := (goodEus x).drop 2
  let n := talonSize x s
  let serial := (x.descr.map (·.serial)).getD []
  let same := decide (serial = x.serial)
  onFree c (fun x => { x with
    state := .inService, serial
    free := rest.take (rest.length - n)
    talon := rest.drop (rest.length - n)
    slc := if same then x.slc else []
    wear := if same then x.wear else []
    fracN := if same then x.fracN else 0
    fracS := if same then x.fracS else 0
    sysFailed := false
    talonInit := n, spent := 0, borrowed := 0, retiredAt := [], returns := []
    replace := if same then x.replace else 0
    absentBands := [] }) s

/-- A carrier enters service. -/
def admitCarrier (c : Nat) (s : State) : State :=
  let s := admitBook c s
  let x := carOf s c
  let s := match x.descr with
    | some d => record (.carrierAdmit c d x.bad) s
    | none => s
  recordTalon c (record (.carrierState c .inService) (setCount 0x5133 (c + 1) 0 s))

/-- A carrier whose geometry does not fit the array stays out, event 0x5008 (06 R141); the answer says whether it
does. -/
def misfitOut (c : Nat) (s : State) : Bool × State :=
  let x := carOf s c
  let misfit := match s.xlat.geo, x.descr with
    | some g, some d => descrPasses x && !geometryFits g d
    | _, _ => false
  if misfit && serving s && (decide (x.state = .absent) || decide (x.state = .notAdmitted)) then
    (true, raise 0x5008 (c + 1) ((x.descr.map (·.pageSize)).getD 0) 0x5001 0
      (record (.carrierState c .notAdmitted) (onCar c (fun x => { x with state := .notAdmitted }) s)))
  else (false, s)

/-- A carrier is admitted to the array once its link is up and checked, its tag bound, its lists read and the
reservation held (08 R216; 11 R324). A carrier of the array that is away comes back by another way. -/
def tryAdmit (c : Nat) (s : State) : State :=
  let x := carOf s c
  let serial := (x.descr.map (·.serial)).getD []
  let mine := decide (x.serial = serial) && (decide (x.state = .lost) || decide (x.state = .heldOut))
  match s.xlat.geo, x.descr with
  | some g, some d =>
    if serving s && x.linkUp && x.ready && x.tagBound && x.listsRead && descrPasses x && geometryFits g d
        && x.state ≠ .inService && !mine && ownsCarrier s c then admitCarrier c s
    else s
  | _, _ => s

/-! ### Loss (08 R216, R217) -/

/-- What becomes of a media command whose carrier is lost: a read goes on without the member, a page of a
stripe counts as not issued, a copy onto the carrier ends. -/
def lostCmd (c : Nat) (m : MediaCmd) (s : State) : State :=
  match m.op with
  | .read =>
    let pos := posOf m.band c m.eu s
    match m.purpose with
    | .recon id p => reconGot id p none s
    | .jobRead j i => match (Tbl.get? s.xlat.jobs j).map Job.kind with
      | some (JobKind.rebuild ..) | some (JobKind.resync _) | some (JobKind.scrub _) => jobGot j i none s
      | some _ => startRecon m.band m.page pos m.sector m.count m.queue m.purpose false s
      | none => s
    | .hostRead .. | .fill .. => startRecon m.band m.page pos m.sector m.count m.queue m.purpose false s
    | _ => s
  | .program => match m.purpose with
    | .stripe id pos =>
      let r := pageDone id pos s
      match r.1 with
      | some j => jobStripeDone j r.2
      | none => r.2
    | _ => s
  | _ => s

/-- Set every member on a carrier LOST. -/
def loseMembers (c : Nat) (s : State) : State :=
  each (s.xlat.bands.filter fun p => p.2.members.any fun m => m.carrier = c && decide (m.mstate = .good))
    (fun p s => setBand p.1 (some { p.2 with members := p.2.members.map fun m =>
      if m.carrier = c && m.mstate = .good then { m with mstate := .lost } else m }) s) s

/-- A carrier in service is lost: every member on it in one step, event 0x5201, and the work on it is
reissued. -/
def carrierLost (c : Nat) (s : State) : State :=
  let x := carOf s c
  if !serving s || x.state ≠ .inService then s
  else
    let before := doublyDegraded s
    let n := (s.xlat.bands.filter fun p => p.2.members.any fun m => m.carrier = c).length
    let work := (Tbl.vals x.out) ++ x.queue
    let s := onCar c (fun x => { x with
      state := .lost, lostAt := s.now, out := [], queue := [], absentBands := Tbl.keys s.xlat.journal }) s
    let s := raise 0x5201 (c + 1) n 0x5202 (c + 1) (record (.carrierState c .lost) s)
    let s := loseMembers c s
    let s := when (!before && doublyDegraded s) (raise 0x5202 0 1 0x5204 0) s
    let s := each (s.xlat.jobs.filter fun p => p.2.car = c && (match p.2.kind with
      | .move .. | .rebuild .. => true
      | _ => false)) (fun p s => restartCopy p.1 s) s
    let s := each work (lostCmd c) s
    let s := each (s.xlat.bands.filter fun p => p.2.isOpen && 2 ≤ degraded p.2) (fun p s => bandStops p.1 s) s
    let s := when (s.xlat.journalCars.contains c) (moveCopies noBand) s
    floorCheck (journalStaging s)

/-! ### Return (08 R225) -/

/-- EUs of a carrier that belong to no band, no talon, no copy and no system area: free (07 R189). -/
def strayEus (c : Nat) (s : State) : List Nat :=
  let x := carOf s c
  let used := s.xlat.bands.flatMap fun p => (p.2.members.filter fun m =>
    m.carrier = c && decide (m.mstate = .good)).map (·.eu)
  let jobs := (s.xlat.jobs.filter fun p => p.2.car = c).map fun p => p.2.eu
  (goodEus x).filter fun e =>
    !x.free.contains e && !x.talon.contains e && !(systemEus x).contains e && !used.contains e && !jobs.contains e

/-- A carrier returns to service. -/
def carrierReturn (c : Nat) (s : State) : State :=
  let x := carOf s c
  let away := x.absentBands ++ Tbl.keys s.xlat.journal
  let back := s.xlat.bands.filter fun p =>
    !away.contains p.1 && p.2.members.any fun m => m.carrier = c && decide (m.mstate ≠ .good)
  let s := onCar c (fun x => { x with
    state := .inService, absentBands := []
    returns := (x.returns.filter fun t => s.now < t + 86400 * second) ++ [s.now] }) s
  let s := record (.carrierState c .inService) s
  let s := each back (fun p s =>
    let s := each (s.xlat.jobs.filter fun q => match q.2.kind with
      | .rebuild b pos => b = p.1 && (p.2.members[pos]?.map (·.carrier)) = some c
      | _ => false) (fun q s => restartCopy q.1 s) s
    onBand p.1 (fun e => { e with members := e.members.map fun m =>
      if m.carrier = c then { m with mstate := .good } else m }) s) s
  let s := each (strayEus c s) (fun eu s => freeEu c eu s) s
  let s := raise 0x520A (c + 1) back.length 0x5202 (c + 1) s
  when (!back.isEmpty) rebuildComplete s

/-- The link of a carrier of the array comes back: it returns, or is held out when it has returned too often
in a day. -/
def carrierBack (c : Nat) (s : State) : State :=
  let x := carOf s c
  let recent := x.returns.filter fun t => s.now < t + 86400 * second
  if !serving s || x.state ≠ .lost then s
  else if recent.length < cfg 0x520A s then carrierReturn c s
  else
    let s := onCar c (fun x => { x with state := .heldOut }) s
    replaceBit c 5 (raise 0x520B (c + 1) recent.length 0x5202 (c + 1) (record (.carrierState c .heldOut) s))

/-- Is the carrier on a link the array member of its bay, and does it pass its checks? -/
def sameCarrier (x : Car) : Bool := x.linkUp && descrPasses x && (x.descr.map (·.serial)) = some x.serial

/-- The commands that follow READY (11 R319, R320, R322, R324): the tag, the event wait, the status page and the
reservation value; a module that is no standby reads the bad-EU list and the retry orders too. -/
def carrierSetup (c : Nat) (s : State) : State :=
  let x := carOf s c
  let s := when (!x.tagBound) (adminCmd c .setLinkTag 0 (s.ident.tag.setWidth 64) 0) s
  let s := when (!x.eventWait) (fun s => onCar c (fun x => { x with eventWait := adminAllowed s })
    (adminCmd c .eventWait 0 0 0 s)) s
  let s := adminCmd c .reserveRead 0 0 0 (adminCmd c .identify 0 0 0 s)
  let lists := !x.listsRead && !inMode [.standby, .coldStandby, .rejoin] s
  when lists (fun s =>
    adminCmd c .retryLevels 1 0 0 (adminCmd c .retryLevels 0 0 0 (adminCmd c .badEuList 0 0 0 s))) s

/-- A module that enters SOLO or leaves TAKEOVER evaluates every carrier from its own link (08 R216). -/
def evaluateCarriers (s : State) : State :=
  each (List.range 24) (fun c s =>
    let x := carOf s c
    if x.state = .inService && !sameCarrier x then carrierLost c s
    else
      let s := when (x.ready && !(x.tagBound && x.listsRead)) (carrierSetup c) s
      if x.state = .lost && sameCarrier x then carrierBack c s
      else
        let r := if x.ready then misfitOut c s else (false, s)
        if r.1 then r.2 else tryAdmit c r.2) s

end Sys2Proof.Machine
end

