-- ==== Sys2Proof/Machine/PairOps.lean ====
section
/-! DEFINITION. What the rows of the pair share: accepting a mirror frame (10 R268, R269), the outcomes of
a round of compare-and-set (10 R279, R285 to R287), and a takeover (10 R287 to R290). -/

namespace Sys2Proof.Machine

/-- SAFE, with what every mode change brings (14 R372). -/
def goSafe (cause : Nat) (s : State) : State := anaSync (enterSafe cause s)

/-! ### Frames -/

/-- Does ACK `a` cover the frame numbered `q`? -/
def acked (a q : BitVec 32) : Bool := (a - q).toNat < 2 ^ 31

/-- Modes that take mirror frames: the link is off or ignored in the others (14 R368). -/
def linkMode (s : State) : Bool := !inMode [.reset, .boot, .holdup, .takeover] s

/-- Does a mode, by its code, assert the fault pair? 255 is unknown. -/
def codeFaulted (n : Nat) : Bool := match Mode.ofCode n with
  | some m => m.faulted
  | none => true

/-- Accept a frame: its CHECK holds and its SEQ is the next one, else it is discarded. Its header gives the
partner's mode, credit and acknowledgement; the fault inputs are high once the partner is in a mode that drives
them high (DEDUCED from 14 R368, log entry 24: no command of the table says that they rise). A partner in cold
standby is sent the ciphertext it does not receive itself (10 R299). -/
def acceptFrame (h : MirHdr) (s : State) : Option State :=
  if s.pair.link ≠ 2 || !linkMode s || !h.checkOk || h.seq ≠ s.pair.rxSeq then none
  else
    let rises := codeFaulted s.pair.partnerMode && !codeFaulted h.mode
    let cold := inMode [.active, .quiesced] s && s.pair.paired && h.mode = 6
    some (sendWaiting (s.onPair fun p => { p with
      rxSeq := p.rxSeq + 1
      partnerMode := h.mode
      partnerCredit := h.credit
      unacked := p.unacked.filter fun u => !acked h.ack u.1
      ackOwed := true
      heartbeat := true
      faultIn := if rises then 3 else p.faultIn
      cold := p.cold || cold }))

/-- Do something with a frame that is accepted. -/
def whenFrame (h : MirHdr) (k : State → State) (s : State) : State := match acceptFrame h s with
  | some s => k s
  | none => s

/-- Modes that take every kind of frame: ISOLATED takes pairing and management frames only, and SAFE management
frames only (14 R368). -/
def pairedModes (s : State) : Bool := !inMode [.isolated, .safe] s

/-! ### Commands by their names -/

/-- A command by connection, or attach queue, and CID. -/
def cmdBy (conn sqid cid : Nat) (s : State) : Option (Nat × Cmd) :=
  s.cmd.cmds.find? fun p => p.2.cid = cid && !p.2.orphan &&
    (if conn = 0 then p.2.src = .attach sqid else p.2.src = .fabric conn)

/-- The partner holds its own ciphertext of a write in slots of state 6; with no slot it keeps none, and the
write's sectors are filled (06 R156, R157). -/
def partnerReceived (id : Nat) (s : State) : State :=
  match cmdOf s id with
  | none => s
  | some c =>
    let s := onCommand id (fun c => { c with phase := .placed }) s
    if caddyFree s < c.nlb then onCommand id (fun c => { c with enc := [] }) s
    else
      each c.enc.zipIdx (fun p s =>
        let r := nextSlot s
        putSlot r.1 (slotNew c.ns (c.slba + p.2) 0 .received (p.1.getD zeroSector) 0 c.src.conn c.cid) r.2) s

/-- A command is admitted or held as the active says (03 R79). -/
def followAdmit (id : Nat) (cls : Option AdmClass) (s : State) : State :=
  onCommand id (fun c => if dispatched c.phase then c
    else { c with cls := cls.or c.cls, phase := if cls.isSome then .waiting else .held }) s

/-- A command passes its dispatch point: its data is awaited, or encrypted; a read issues no media work here. -/
def followDispatch (id : Nat) (s : State) : State := match cmdOf s id with
  | none => s
  | some c =>
    if dispatched c.phase then s
    else match c.opc with
      | .read => onCommand id (fun c => { c with phase := .media, buf := none }) s
      | .write => if c.inCapsule then joinPlacement id s else onCommand id (fun c => { c with phase := .solicit }) s
      | .writeZeroes => onCommand id (fun c => { c with phase := .placing, ranges := partLbs c.slba c.nlb s }) s
      | .flush | .dsm => onCommand id (fun c => { c with phase := .completing }) s

/-- An Abort is applied to a command. -/
def followAbort (id : Nat) (s : State) : State :=
  onCommand id (fun c => if dispatched c.phase then c else { c with phase := .completing, status := .aborted }) s

/-- A decision on one command. -/
def followOne (id : Nat) (e : RecEntry) (s : State) : State := match e with
  | .admitted _ _ _ cls => followAdmit id cls s
  | .dispatch .. => followDispatch id s
  | .abort _ _ _ true => followAbort id s
  | _ => s

/-- The command, by connection and CID, that an admission, dispatch or abort entry decides. -/
def decidesOn : RecEntry → Option (Nat × Nat)
  | .admitted conn _ cid _ => some (conn, cid)
  | .dispatch conn _ cid => some (conn, cid)
  | .abort conn _ cid _ => some (conn, cid)
  | _ => none

/-- A decision of the active on a command: of one that has not arrived here it waits for the arrival. A command
of the active's attach port is unknown here. -/
def followEntry (e : RecEntry) (s : State) : State := match decidesOn e with
  | none => s
  | some (conn, cid) =>
    if (connOf s conn).isNone then s
    else match cmdBy conn 0 cid s with
      | some p => followOne p.1 e s
      | none => s.onPair fun p => { p with ahead := p.ahead ++ [e] }

/-- A command arrives on a partner: the decisions that came before it are applied. -/
def takeAhead (id : Nat) (s : State) : State := match cmdOf s id with
  | none => s
  | some c =>
    let mine := fun (e : RecEntry) => c.src.conn ≠ 0 && decidesOn e = some (c.src.conn, c.cid)
    let l := s.pair.ahead.filter mine
    each l (followOne id) (s.onPair fun p => { p with ahead := p.ahead.filter fun e => !mine e })

/-- The host has acknowledged what the active sent: the plans it covers are no longer needed, and the commands
they complete are released. -/
def followAck (k : Nat) (s : State) : State := match connOf s k with
  | none => s
  | some x =>
    let past := fun (q : Planned) => q.conn = k && q.frame.pos + spanOf x q.frame.msg s ≤ x.txUna
    let l := s.pair.planned.filter past
    let s := s.onPair fun p => { p with planned := p.planned.filter fun q => !past q }
    each l (fun q s => match q.frame.msg with
      | .completion cid _ _ _ _ => match cmdBy k 0 cid s with
        | some p => releaseCmd p.1 s
        | none => s
      | _ => s) s

/-- Free the slots of state 6 of one command. -/
def dropReceived (conn cid : Nat) (s : State) : State :=
  s.onXlat fun x => { x with slots := x.slots.filter fun p =>
    !(decide (p.2.state = .received) && p.2.conn = conn && p.2.cid = cid) }

/-! ### Pairing frames (10 R292 step 1; 06 R142) -/

/-- Protocol versions of this module: version 2, and 1 with an AL1216 (10 R301). -/
def versionLo : Nat := 1
def versionHi : Nat := 2

/-- What this module says in its pairing frames; the array key goes with them only when the partner needs
it, and a module without an array key names no array. -/
def pairInfo (key : Option (BitVec 256)) (s : State) : PairInfo × State :=
  let d := draw s
  ({ serial := s.ident.serial, pairIdHigh := s.ident.pairIdHigh, kind := 1, certOk := true,
     verLo := versionLo, verHi := versionHi
     groups := (List.range 8).map fun k => dnat 0x3000 (k + 1) 0 s
     mode := s.mode.mode.code, epoch := s.pair.epoch
     arrayId := if s.keys.arrayKey.isSome then s.xlat.arrayId else 0, arrayKey := key
     committed := s.pair.committed, wasActive := s.pair.wasActive, share := Config.ownShare d.1 }, d.2)

/-- Send a pairing frame. -/
def sendPairing (key : Option (BitVec 256)) (s : State) : State :=
  let p := pairInfo key s
  mirSend (.mirPairing p.1) p.2

/-! ### The snapshot (10 R292 step 4) -/

/-- Format identity of the array. -/
def geoEntry (s : State) : List RecEntry := match s.xlat.geo with
  | some g => [.arrayGeo s.xlat.arrayId g.eMiB g.pKiB g.w0 g.euTotal g.talonTotal g.overprov]
  | none => []

/-- One carrier's books. -/
def carrierEntries (c : Nat) (s : State) : List RecEntry :=
  let x := carOf s c
  (match x.descr with
    | some d => if x.serial.isEmpty then [] else [.carrierAdmit c { d with serial := x.serial } x.bad]
    | none => []) ++
  [.carrierState c x.state, .talon c x.talonInit x.spent x.borrowed] ++
  x.wear.map fun p => .wear c p.1 p.2 x.fracN x.fracS (x.slc.contains p.1)

/-- READ_ONLY state of a namespace. -/
def readOnlyEntries (p : Nat × NsSt) : List RecEntry :=
  [.nsLbs p.1 p.2.base p.2.count, .readOnly p.1 1 p.2.roExhaust, .readOnly p.1 2 p.2.roFloor]

/-- Pair-scope values of the dictionary. -/
def configEntries (s : State) : List RecEntry := s.dict.filterMap fun p =>
  let idx := p.1 / 4096 / 256
  let sub := p.1 / 4096 % 256
  let rcd := p.1 % 4096
  (objOf idx).bind fun o => if scopeOf o = .pair then some (.config idx sub rcd p.2) else none

/-- Opcode of a command, as its context names it (03 R88). -/
def opcCode : Opc → Nat
  | .flush => 0 | .write => 1 | .read => 2 | .writeZeroes => 8 | .dsm => 9

/-- Contexts in use of commands that came over the network. -/
def contextEntries (s : State) : List RecEntry := s.cmd.cmds.filterMap fun p =>
  let c := p.2
  if c.src.conn = 0 || c.orphan then none
  else some (.context c.src.conn c.cid (opcCode c.opc) c.ns c.nsid c.slba c.nlb c.host c.cls (dispatched c.phase) c.trump
    c.ttag c.status c.sgl)

/-- Bands that have left the journal while a carrier was away: in and out again, after the states of the carriers (08
R225). -/
def absentEntries (s : State) : List RecEntry :=
  let l := (s.media.cars.toList.flatMap (·.absentBands)).eraseDups.filter fun b => !Tbl.has s.xlat.journal b
  l.flatMap fun b => match bandAt s b with
    | some e => [.journalAdd b e, .journalDel b]
    | none => []

/-- Maps, configuration, keys and contexts. -/
def snapshotMaps (s : State) : List RecEntry :=
  geoEntry s ++ configEntries s ++
  (s.keys.ns.map fun p => .nsKey p.1 p.2.gen p.2.key) ++ (s.keys.psk.map fun p => .psk p.1 p.2) ++
  (s.cmd.ns.flatMap readOnlyEntries) ++
  ((List.range 24).flatMap fun c => carrierEntries c s) ++
  (s.xlat.bands.map fun p => .mapBand p.1 (some p.2)) ++ (s.xlat.lbs.map fun p => .mapLb p.1 p.2) ++
  (s.xlat.logs.map fun p => .logBand p.1 p.2 s.xlat.commits) ++ (s.xlat.runs.map .addRun) ++ (s.xlat.journal.map fun p => .journalAdd p.1 p.2) ++
  absentEntries s ++
  (s.xlat.lost.map fun e => .lostRange e.ns e.lba e.count e.cause e.missing e.band e.stripe e.detected) ++
  (s.net.neighbours.reverse.map fun n => .neighbour n.port n.addr n.mac) ++
  (s.pair.reserved.map fun p => .reserve p.1 p.2) ++ contextEntries s

/-- Ciphertext of the slots that are placed and not freed. -/
def snapshotSectors (s : State) : List MirSector := s.xlat.slots.filterMap fun p =>
  if p.2.live && p.2.zlen = 0 then some { ns := p.2.ns, lba := p.2.lba, cycle := p.2.cycle, data := p.2.data }
  else none

/-- Zero runs, and the states of the slots. -/
def snapshotSlots (s : State) : List RecEntry := s.xlat.slots.flatMap fun p =>
  let x := p.2
  let zero : List RecEntry := if x.live && x.zlen ≠ 0 then [.placeZero 0 0 x.ns x.lba x.zlen x.cycle] else []
  let st : List RecEntry := if x.live && x.dest ≠ noBand then [.slotState x.ns x.lba x.cycle x.state x.dest] else []
  zero ++ st

/-! ### Free EUs of a carrier as the maps give them -/

/-- EUs of a carrier that belong to no band and no system area: the highest-numbered are its talon, the rest its
free pool (06 R175; 07 R180, R195; which EUs the talon holds is a DESIGN CHOICE, log entry 20). -/
def rebook (c : Nat) (s : State) : State :=
  let x := carOf s c
  let used := s.xlat.bands.flatMap fun p => (p.2.members.filter fun m =>
    m.carrier = c && decide (m.mstate = .good)).map (·.eu)
  let l := (goodEus x).filter fun e => !(systemEus x).contains e && !used.contains e
  let n := talonLeft x
  onCar c (fun x => { x with free := l.take (l.length - n), talon := l.drop (l.length - n) }) s

def rebookAll (s : State) : State :=
  checkFree (each ((List.range 24).filter fun c => !(carOf s c).serial.isEmpty) rebook s)

/-- The targets of merges that a stop has cut short are released: the merges start again from their beginning (06
R168). -/
def releaseTargets (s : State) : State :=
  let cut := s.xlat.bands.filter fun p =>
    decide (p.2.kind = .mergeTarget) || (decide (p.2.kind = .data) && !(lbAt s p.2.owner).bands.contains p.1)
  each cut (fun p s => markRelease p.1 s) s

/-! ### Takeover (10 R287 to R290) -/

/-- Items that a request writes. -/
def reqItems : Req → List Item
  | .set _ it => [it]
  | .setGroup _ l => l
  | _ => []

/-- Does this module hold the value an item of a session writes? -/
def itemApplied (x : Session) (s : State) (it : Item) : Bool := match objOf it.index with
  | some o => decide (dval it.index it.sub (recOf x o) s = it.val)
  | none => false

/-- A forwarded write is answered at a takeover: OK when the record that named it was confirmed here, and so is
applied, else STALE (15 R409, R425). The requests stay no longer. -/
def answerForwards (s : State) : State :=
  let l := s.mgmt.forwards
  each l (fun q s => match Tbl.get? s.mgmt.sessions q.1 with
    | some x =>
      let items := reqItems q.2.2
      let ok := !items.isEmpty && items.all (itemApplied x s)
      let st : EpStatus := if ok then .ok else .stale
      reply q.1 q.2.1 q.2.2 { status := st, items := [] } s
    | none => s) (s.onMgmt fun m => { m with forwards := [], owed := [] })

/-- Sessions over DTLS and over the mirror link end at a takeover (15 R401). -/
def endAtTakeover (s : State) : State := endSome (fun _ x => decide (x.path ≠ .mailbox)) (answerForwards s)

/-- A standby acts on a trigger: TAKEOVER, and compare-and-set to every seated carrier. -/
def takeoverBegin (afterHandover : Bool) (s : State) : State :=
  let cold := inMode [.coldStandby] s
  let s := goMode .takeover (endAtTakeover s)
  startRound .takeover (s.onPair fun p => { p with
    takeoverAt := s.now, takeoverColdStart := cold, afterHandover })

/-- The trigger of 10 R283: a standby takes over, any other module does not. -/
def takeoverTrigger (s : State) : State :=
  if inMode [.standby, .coldStandby] s then takeoverBegin false s else s

/-- Does a plan wait for data to be regenerated? The data of a read, and the completion behind it. -/
def planWaits (q : Planned) (l : List Planned) (s : State) : Bool := match q.frame.msg with
  | .data cid _ _ => (cmdBy q.conn 0 cid s).isSome
  | .completion cid _ _ _ _ => l.any fun r => r.conn = q.conn && isDataOf cid r.frame.msg
  | _ => false

/-- The plaintext a plan names is compared with its check values, record by record: on a mismatch the connection
ends with an RST and event 0x3120 (02 R59). -/
def planMatches (f : TxFrame) : Bool := f.checks = (List.range f.checks.length).map (Config.check32 f.msg)

def planMismatch (conn : Nat) (s : State) : State := resetConn conn 5 (raise 0x3120 conn 0 0x3100 0 s)

/-- Is it the completion of a write that R16 releases at the end of a cycle? -/
def heldEnd (s : State) (q : Planned) : Bool := match q.frame.msg with
  | .completion cid _ _ _ _ => match cmdBy q.conn 0 cid s with
    | some p => durable p.2
    | none => false
  | _ => false

/-- Plans that may leave now, in order: on each connection those before the first completion that waits for the
end of a cycle (01 R16; 10 R279, R289). -/
def beforeHeld (s : State) (l : List Planned) : List Planned :=
  l.zipIdx.filterMap fun p =>
    if (l.take (p.2 + 1)).any fun q => q.conn = p.1.conn && heldEnd s q then none else some p.1

/-- One plan of a committed record at a takeover: acknowledged content is not sent again, and a completion that
waits for the end of a cycle stays planned, with what follows it. -/
def adoptPlan (now : Bool) (q : Planned) (s : State) : State :=
  match connOf s q.conn with
  | none => s
  | some x =>
    let ended : Option Nat := match q.frame.msg with
      | .completion cid _ _ _ _ => (cmdBy q.conn 0 cid s).map Prod.fst
      | _ => none
    let release := fun (s : State) => match ended with
      | some id => releaseCmd id s
      | none => s
    if q.frame.pos + spanOf x q.frame.msg s ≤ x.txUna then release s
    else if !planMatches q.frame then release (planMismatch q.conn s)
    else if now then release (enqueue q.conn q.frame s)
    else s.onPair fun p => { p with planned := p.planned ++ [q] }

/-- Build the send queues from the plans of records up to the boundary (10 R287 step 4). -/
def buildQueues (s : State) : State :=
  let l := s.pair.planned.filter fun q => q.cycle ≤ s.pair.committed
  let keep := l.filter fun q => planWaits q l s
  let go := l.filter fun q => !planWaits q l s
  let first := beforeHeld s go
  each go (fun q => adoptPlan (first.contains q) q) (s.onPair fun p => { p with planned := keep })

/-- What becomes of one command at a takeover (10 R289). -/
def resumeCmd (id : Nat) (s : State) : State :=
  match cmdOf s id with
  | none => s
  | some c => match c.phase with
    | .startQ => if c.status = .success then admitCmd id s else complete id c.status s
    | .held => s
    | .waiting => tryStart id s
    | .missQ | .media => potLookup id false (onCommand id (fun c => { c with buf := none }) s)
    | .solicit =>
      let r := if c.ttag = 0 then (false, s) else request poolWriteIn c.nlb s
      if r.1 then onCommand id (fun c => { c with granules := c.nlb, pool := poolWriteIn, phase := .receiving }) r.2
      else r.2.onCmd fun d => { d with solicitQ := if d.solicitQ.contains id then d.solicitQ else d.solicitQ ++ [id] }
    | .receiving => if c.data.all (·.isSome) then joinPlacement id s else s
    | .placing =>
      s.onXlat fun x => { x with placeQ := if x.placeQ.contains id then x.placeQ else x.placeQ ++ [id] }
    | .encrypting => s
    | .placed =>
      if c.cycle ≠ 0 then s
      else if c.enc.isEmpty then joinPlacement id s
      else placeWrite id (dropReceived c.src.conn c.cid s)
    | .completing => s

/-- Every carrier's bookkeeping and the READ_ONLY flags are as the records left them; the gap from trigger
to the first command accepted is reported (10 R287, R305). -/
def noteTakeover (s : State) : State :=
  let s := bump 0x2132 0 1 s
  let s := setCount 0x2133 0 s.now s
  let gap := s.now - s.pair.takeoverAt
  let s := raise 0x2108 0 gap 0x2134 0 (setCount 0x2134 0 gap s)
  s.onPair fun p => { p with lastSwap := s.now }

/-- The Aborts whose outcome no committed record names are applied now (10 R289). -/
def applyHeldAborts (s : State) : State :=
  each s.cmd.ctrls (fun p s =>
    let l := p.2.heldAborts
    each l (fun a s => applyAbort (.fabric p.2.admin) a.1 (some p.1) a.2.1 a.2.2 s)
      (onCtrl p.1 (fun x => { x with heldAborts := [] }) s)) s

/-- After a handover both modules still receive every frame: the service ports stay confirmed (DEDUCED, log
entry 26). -/
def keepConfirmed (s : State) : State :=
  each (servicePorts s) (fun p s => onPort p (fun x => { x with dual := 1, confirmedAt := s.now }) s) s

/-- TCP starts afresh on every connection: nothing of what the plans name counts as sent (02 R60; 10 R288). -/
def freshTcp (s : State) : State := s.onConns fun m => m.map fun p =>
  (p.1, { p.2 with tcp := tcpNew p.2.txUna p.2.tcp.wnd (segMax p.2 s) s })

/-- Put the control frame of the first pass on every connection (10 R288). -/
def firstPass (s : State) : State :=
  let s := s.onPair fun p => { p with firstPass := Tbl.keys s.conns, firstPassAt := s.now }
  each s.conns (fun p s => ctrlSend p.2.info.port p.1 (.ack p.2.rxNext (if p.2.info.sack then p.2.ooo else [])) s) s

/-- The majority is held: steps 3 to 7 of R287. Later records are discarded unapplied; the plans, the
commands and the journal are taken up; the mode is SOLO, or ACTIVE after a handover. -/
def takeoverWon (s : State) : State :=
  let s := acceptRound s
  let cold := s.pair.takeoverColdStart
  let after := s.pair.afterHandover
  let s := (clearLacks s).onPair fun p => { p with
    entries := [], heldEntries := [], wasActive := true,
    paired := after, cold := after && p.cold, partnerJoining := false, lag := .normal,
    lastSealed := max p.lastSealed p.committed, handoverNext := 1 }
  let s := rebookAll (abandonProgs (freshSchedulers s))
  let s := releaseTargets (goMode (if after then .active else .solo) s)
  let s := serveAll (s.onMode fun m => { m with restarted := false })
  let s := when after keepConfirmed (evaluateCarriers (noteTakeover s))
  if cold then startResync (raise 0x2113 0 0 0x2132 0 s)
  else
    let s := applyHeldAborts (buildQueues (freshTcp s))
    let s := each (Tbl.keys s.cmd.cmds) resumeCmd s
    firstPass (startResync s)

/-- Without a majority the carriers won are released: ISOLATED and event 0x2109. -/
def takeoverLost (s : State) : State :=
  enterIsolated (raise 0x2109 0 s.pair.won.length 0x2160 0 (releaseWon s))

/-! ### Fencing and the loss of the majority (10 R279, R286) -/

/-- The fencing write holds a majority: SOLO, or QUIESCED without a partner while SERVICE_ENABLE drains; sends
resume, the held completions leave at the end of the cycle under the SOLO rule, and commands start again. -/
def fencingWon (s : State) : State :=
  let s := losePartner (acceptRound s)
  let s := raise 0x2104 0 s.pair.epoch.toNat 0x2112 0 s
  let first := beforeHeld s s.pair.planned
  let s := sendPlans (fun q => q.cycle < s.pair.cycle && first.contains q) s
  if inMode [.active] s then goMode .solo s
  else if inMode [.quiesced] s && s.mode.quiesceBy = .roleSwap then
    let s := s.onMode fun m => { m with quiesceBy := .none, handover := none }
    let s := goMode .solo s
    each ((s.cmd.cmds.filter fun p => p.2.phase = .waiting).map Prod.fst) tryStart s
  else s.onMode fun m => { m with handover := none }

/-- No majority within the limit: ISOLATED and event 0x210A. -/
def majorityLost (s : State) : State :=
  enterIsolated (raise 0x210A 0 s.pair.won.length 0x2160 0 s)

/-- A carrier refuses a command of a module that is not its holder: every carrier's value is read (10
R286). -/
def recheck (s : State) : State :=
  if s.pair.round.isSome then s
  else
    let seated := seatedBays s
    let s := s.onPair fun p => { p with round := some .recheck, won := [], asked := seated }
    each seated (fun c s => adminCmd c .reserveRead 0 0 0 s) s

/-! ### Service alone (14 R369; 10 R302, R303) -/

/-- The reservations are taken: SOLO, the addresses announced, resynchronisation begins. -/
def soloWon (s : State) : State :=
  let s := rebookAll (abandonProgs (acceptRound s))
  let s := s.onPair fun p => { p with wasActive := true }
  let s := s.onMode fun m => { m with restarted := false, holdIsolated := false }
  let s := evaluateCarriers (announce (releaseTargets (goMode .solo s)))
  let s := when (flag 0x2106 0 0 s) (sendPairing none) s
  startResync s

/-- Capacitance at or above 40% of need, 934 µF (12 R347). -/
def capHolds (s : State) : Bool := 934 ≤ s.power.cap

/-- What ISOLATED needs before the module rejoins or serves (14 R369): SERVICE_ENABLE, the array key and
the capacitance. -/
def mayServe (s : State) : Bool :=
  inMode [.isolated] s && flag 0x2001 0 0 s && s.keys.arrayKey.isSome && capHolds s

end Sys2Proof.Machine
end

