-- ==== Sys2Proof/Machine/Network.lean ====
section
/-! DEFINITION. Network ports, MAC, addresses, neighbour discovery and dual delivery (02 R26 to R44). -/

namespace Sys2Proof.Machine

/-! ### Ports (02 R26 to R31) -/

/-- Lanes carry signal in every mode but those with the lanes off (14 R368). -/
def lanesOn (s : State) : Bool := !inMode [.reset, .boot, .holdup] s

/-- The active hands over after a port loss: the partner is in STANDBY and has every serving port up that is
up here (10 R291). The record of this cycle carries the handover flag. -/
def portLoss (p : Nat) (s : State) : State :=
  if inMode [.active] s && s.pair.paired && (portOf s p).partnerUp && s.pair.partnerMode = 5
      && flag 0x2131 0 0 s && s.mode.handover.isNone
      && ((servicePorts s).all fun q => !(portOf s q).up || (portOf s q).partnerUp) then
    s.onMode fun m => { m with handover := some s.pair.cycle }
  else s

/-- A pause ends: its time is counted (05 R139). -/
def endPause (p : Nat) (s : State) : State :=
  let x := portOf s p
  let s := bump 0x4332 (p + 1) (s.now - x.pausedFrom.getD s.now) s
  onPort p (fun x => { x with pauseUntil := none, pausedFrom := none }) s

/-- A port is declared down: event 0x3001; its pause ends, and the partner is told (02 R31, R43; that the frame
PROBE_REPORT tells it is a DESIGN CHOICE, log entry 79). -/
def portGoesDown (p : Nat) (s : State) : State :=
  if (portOf s p).up then
    mirSend (.mirProbeReport [] [p])
      (raise 0x3001 (p + 1) 1 0x3001 (p + 1) (onPort p (fun x => { x with up := false }) (endPause p s)))
  else s

/-- PCS alignment and FEC lock have held for 10 ms. -/
def execPortUp (t : Time) (p : Port) (s : State) : Host.Outcome State Fault Refusal :=
  act t (fun s =>
    let x := portOf s p.val
    if lanesOn s && portPresent p.val s && flag 0x3002 (p.val + 1) 0 s && !x.recal && !x.up
        && (atNat s.net.appOk (p.val / 4)).getD false then
      raise 0x3002 (p.val + 1) 2 0x3001 (p.val + 1) (onPort p.val (fun x => { x with up := true }) s)
    else s) s

/-- Alignment has been lost for 10 µs: the port is down, and on the serving module a port loss when the
partner's port of that number stays up. -/
def execPortDown (t : Time) (p : Port) (s : State) : Host.Outcome State Fault Refusal :=
  act t (fun s => if (portOf s p.val).up then portLoss p.val (portGoesDown p.val s) else s) s

/-- Conditions of a write to RECAL (02 R29). -/
def recalCheck (c : WCtx) (s : State) : EpStatus := refuseIf (portOf s (c.sub - 1)).up .busyInService

/-- A recalibration runs; the port stays down until it ends. -/
def recalEffect (c : WCtx) (s : State) : State :=
  when (c.nat = 1) (onPort (c.sub - 1) fun x => { x with recal := true }) s

def execRecal (t : Time) (w : Write) (s : State) : Host.Outcome State Fault Refusal :=
  act t (fun s => writeObject 0x3005 recalCheck recalEffect w s) s

/-- A recalibration ends. -/
def execRecalComplete (t : Time) (p : Port) (s : State) : Host.Outcome State Fault Refusal :=
  act t (fun s => onPort p.val (fun x => { x with recal := false }) s) s

/-- Ports of a lane group. -/
def groupPorts (g : Nat) : List Nat := (List.range 4).map fun k => 4 * g + k

/-- A pluggable module's memory map is read: the application of the group's code is selected, or the ports of
the group stay down and event 0x3003 is raised (02 R30). -/
def cageCheck (g : Nat) (codes : List Nat) (s : State) : State :=
  let code := (atNat s.net.groupRun g).getD 0
  let ok := code = 3 || codes.contains code
  let s := s.onNet fun n => { n with appOk := updNat n.appOk g fun _ => ok }
  if ok then s else raise 0x3003 (g + 1) code 0x3000 (g + 1) (each (groupPorts g) portGoesDown s)

/-- At boot every seated pluggable module is read; `cages` names those seated, with the codes they advertise. -/
def readCages (cages : List (Group × List Nat)) (s : State) : State :=
  each cages (fun c s => cageCheck c.1.val c.2 (emit (.cageRead c.1.val) s)) s

def execCageInsertion (t : Time) (g : Group) (codes : List Nat) (s : State) :
    Host.Outcome State Fault Refusal :=
  act t (fun s => if inMode [.reset, .holdup] s then s else cageCheck g.val codes (emit (.cageRead g.val) s)) s

/-- The two modules hold different codes in a group: dual delivery of its service ports is unconfirmed
(02 R27). -/
def groupsDiffer (g : Nat) (s : State) : Bool := match s.pair.partnerGroups[g]? with
  | some c => c ≠ (atNat s.net.groupRun g).getD 0
  | none => false

/-- With a service port unconfirmed the pair runs in cold standby: the records of the active say so (02
R44). -/
def coldCheck (s : State) : State :=
  if inMode [.active, .quiesced] s && s.pair.paired && !s.pair.cold && !allConfirmed s then
    s.onPair fun p => { p with cold := true }
  else s

/-- Dual delivery of the service ports of a group is unconfirmed where the codes differ. -/
def compareGroup (g : Nat) (s : State) : State :=
  if groupsDiffer g s then
    coldCheck (each ((groupPorts g).filter fun p => (servicePorts s).contains p)
      (fun p s => onPort p (fun x => { x with dual := 2, probeOk := 0 }) s) s)
  else s

/-- A group takes a configuration: its ports go down, the pluggable module is read again, and the two
modules' codes are compared. -/
def groupEffect (g code : Nat) (s : State) : State :=
  let s := each (groupPorts g) portGoesDown s
  let s := s.onNet fun n => { n with
    groupRun := updNat n.groupRun g fun _ => code, appOk := updNat n.appOk g fun _ => false }
  compareGroup g (emit (.cageRead g) s)

def groupConfigEffect (c : WCtx) (s : State) : State := groupEffect (c.sub - 1) c.nat (storeOne c s)

def execGroupConfig (t : Time) (w : Write) (s : State) : Host.Outcome State Fault Refusal :=
  act t (fun s => writeObject 0x3000 noCheck groupConfigEffect w s) s

/-- A group MAC has the group bit and the local bit of its first octet set, or is all zeros (02 R34). -/
def groupMacCheck (c : WCtx) (_ : State) : EpStatus :=
  let b := c.val.octets
  refuseIf (!allZero b && (b.getD 0 0 &&& 3) ≠ 3) .range

/-- The connections of a port whose service stops end from this side (02 R34, R47; that they end is a DESIGN
CHOICE, log entry 80). -/
def endService (p : Nat) (s : State) : State :=
  if groupMacSet p s then s
  else each (s.conns.filter fun q => q.2.info.port = p) (fun q s => resetConn q.1 10 s) s

/-- The service of a port's addresses follows its group MAC. -/
def groupMacApplied (p : Nat) (s : State) : State :=
  let s := endService p s
  let on := groupMacSet p s && inMode [.solo, .active, .quiesced] s
  let changes := (svcsOf p s).any fun k => ((atNat s.net.svcs k).map (·.served)) ≠ some on
  let s := each (svcsOf p s) (fun k s => s.onNet fun n =>
    { n with svcs := updNat n.svcs k fun _ => { served := on, dad := false } }) s
  let s := when changes discoveryChanged s
  onPort p (fun x => { x with dual := 2, probeOk := 0, probeMiss := 0 }) s

def groupMacEffect (c : WCtx) (s : State) : State := groupMacApplied (c.sub - 1) (storeOne c s)

def execGroupMac (t : Time) (w : Write) (s : State) : Host.Outcome State Fault Refusal :=
  act t (fun s => writeObject 0x3010 groupMacCheck groupMacEffect w s) s

/-- A port follows PORT_ENABLE: disabled, it goes down (14 R375: its SerDes is off). -/
def portEnableApplied (p : Nat) (on : Bool) (s : State) : State := if on then s else portGoesDown p s

def portEnableEffect (c : WCtx) (s : State) : State :=
  portEnableApplied (c.sub - 1) (c.nat ≠ 0) (storeOne c s)

def execPortEnable (t : Time) (w : Write) (s : State) : Host.Outcome State Fault Refusal :=
  act t (fun s => writeObject 0x3002 noCheck portEnableEffect w s) s

/-! ### Frames (02 R28, R32, R38) -/

/-- Octets of a MAC or an address as a number, first octet highest. -/
def beNum (b : Bytes) : Nat := b.foldl (fun a x => a * 256 + x.toNat) 0

/-- Solicited-node multicast MAC of an IPv6 address. -/
def solicitedMac (a : Bytes) : BitVec 48 := BitVec.ofNat 48 (0x3333FF000000 + beNum (a.drop 13))

/-- Destinations a port accepts. -/
def acceptsDst (p : Nat) (d : BitVec 48) (s : State) : Bool :=
  d = stationMac p s || (groupMacSet p s && d = groupMac p s) || d = 0xFFFFFFFFFFFF#48
    || d = 0x333300000001#48
    || (svcsOf p s).any fun k =>
        let a := doct 0x3020 (k + 1) 0 s
        !isV4 a && d = solicitedMac a

/-- Bytes the retention ring holds (10 R276). -/
def retentionBytes : Nat := 64 * 1024 * 1024

/-- The newest entries of the ring that fit. -/
def keepRing : Nat → List (Time × Nat × Nat × Bytes) → List (Time × Nat × Nat × Bytes)
  | _, [] => []
  | n, e :: l => let b := e.2.2.2.length
    if b ≤ n then e :: keepRing (n - b) l else []

/-- Keep received payload for stream fills; the newest is first. -/
def retain (conn pos : Nat) (b : Bytes) (s : State) : State :=
  s.onNet fun n => { n with retention := keepRing retentionBytes ((s.now, conn, pos, b) :: n.retention) }

/-- A frame that a MAC has accepted: a probe of the partner is reported, payload of a service port is kept on
the active, and what 02 R32, R33 and R38 name is discarded. -/
def frameBody (p : Nat) (b : FrameBody) (s : State) : State := match b with
  | .probe serial port _ =>
    if serial = s.ident.serial || serial ≠ s.pair.partnerSerial then s
    else if inMode [.standby, .coldStandby, .rejoin, .solo, .active, .quiesced] s && port = p + 1 then
      mirSend (.mirProbeReport [p] []) s
    else s
  | .stream conn pos bytes =>
    if inMode [.solo, .active, .quiesced] s && (servicePorts s).contains p then retain conn pos bytes s else s
  | _ => s

/-- Is a frame in a VLAN that the port serves? A segment of a connection comes in the VLAN of its service address,
other packets in that of any service address of the port (0 is untagged); link-level frames carry no service
address (02 R32; which frames the VLAN of an address holds back is DEDUCED, log entry 81). -/
def vlanOk (p : Nat) (f : EthFrame) (s : State) : Bool := match f.body with
  | .probe .. | .pause => true
  | .stream conn _ _ => match connOf s conn with
    | some x => decide (f.vlan = svcVlan x.info.svc s)
    | none => true
  | _ => (svcsOf p s).any fun k => svcVlan k s = f.vlan

/-- The MAC sends a priority flow control frame when its buffers need one (02 R32; when they do is left open, log
entry 76). -/
def pfcSend (p : Nat) (s : State) : State :=
  let prio := dnat 0x3009 (p + 1) 0 s
  if 8 ≤ prio || !transmits s then s
  else
    let d := draw s
    match Config.pfcDue d.1 with
    | some n => emit (.pfc p prio n) d.2
    | none => d.2

/-- What a port's receiver counts before a frame: corrected codewords, and uncorrectable ones when the frame
overlaps one (02 R28). -/
def fecCount (p : Nat) (f : EthFrame) (s : State) : State :=
  bump 0x3007 (p + 1) (f.fecBad.getD 0) (bump 0x3006 (p + 1) f.corrected s)

/-- A frame at a MAC. -/
def frameArrives (p : Nat) (f : EthFrame) (s : State) : State :=
  if f.fecBad.isSome then s
  else if !f.fcsOk || dnat 0x3003 (p + 1) 0 s < f.len then bump 0x3008 (p + 1) 1 s
  else if 2 ≤ f.tags || !acceptsDst p f.dst s then s
  else
    let s := pfcSend p s
    if vlanOk p f s then frameBody p f.body s else s

def execFrameReceive (t : Time) (p : Port) (f : EthFrame) (s : State) : Host.Outcome State Fault Refusal :=
  act t (fun s =>
    if !(portOf s p.val).up || !lanesOn s then s else frameArrives p.val f (fecCount p.val f s)) s

/-! ### ARP, neighbour discovery, ICMP (02 R35 to R38) -/

/-- The service address entry of a port that holds an address and is served. -/
def servedAt (p : Nat) (a : Bytes) (s : State) : Bool :=
  groupMacSet p s && (svcsOf p s).any fun k =>
    decide (doct 0x3020 (k + 1) 0 s = a) && ((atNat s.net.svcs k).map (·.served)).getD false

/-- Link-local address of a port: modified EUI-64 of its group MAC. -/
def linkLocal (p : Nat) (s : State) : Bytes :=
  let m := doct 0x3010 (p + 1) 0 s
  let o := fun i => m.getD i 0
  [0xFE, 0x80, 0, 0, 0, 0, 0, 0, o 0 ^^^ 2, o 1, o 2, 0xFF, 0xFE, o 3, o 4, o 5]

/-- Does a port hold an IPv6 address: a served one, or its link-local one? -/
def holdsV6 (p : Nat) (a : Bytes) (s : State) : Bool :=
  (!isV4 a && servedAt p a s) ||
    (a = linkLocal p s && groupMacSet p s && (svcsOf p s).any fun k => !isV4 (doct 0x3020 (k + 1) 0 s))

def execArpRequest (t : Time) (p : Port) (addr : Bytes) (s : State) : Host.Outcome State Fault Refusal :=
  act t (fun s =>
    when (transmits s && isV4 addr && servedAt p.val addr s)
      (fun s => ctrlSend p.val 0 (.arpReply addr (groupMac p.val s)) s) s) s

def execNeighborSolicitation (t : Time) (p : Port) (addr : Bytes) (solicited : Bool) (s : State) :
    Host.Outcome State Fault Refusal :=
  act t (fun s =>
    when (transmits s && holdsV6 p.val addr s)
      (fun s => ctrlSend p.val 0 (.neighborAdvert addr (groupMac p.val s) solicited true false) s) s) s

/-- Put an entry first in the neighbour table; the least recently used one is dropped. -/
def putNeighbour (p : Nat) (addr : Bytes) (mac : BitVec 48) (s : State) : State :=
  s.onNet fun n => { n with
    neighbours := ({ port := p, addr, mac } :: n.neighbours.filter fun x => !(x.port = p && x.addr = addr)).take 4096
    resolving := n.resolving.filter fun r => !(r.1 = p && r.2.1 = addr) }

/-- Are the first `n` bits of two addresses the same? -/
def samePrefix (n : Nat) (a b : Bytes) : Bool := beNum a / 2 ^ (128 - n) = beNum b / 2 ^ (128 - n)

/-- Where the frames of a connection go next: the host itself on its own link, else the port's gateway. -/
def nextHop (i : ConnInfo) (s : State) : Bytes :=
  let a := doct 0x3020 (i.svc + 1) 0 s
  let n := dnat 0x3021 (i.svc + 1) 0 s + (if isV4 a then 96 else 0)
  if samePrefix n a i.src then i.src else doct 0x3030 (i.port + 1) 0 s

def neighbourOf (p : Nat) (addr : Bytes) (s : State) : Option Neigh :=
  s.net.neighbours.find? fun x => x.port = p && x.addr = addr

/-- Is the next hop of a connection resolved? -/
def resolved (i : ConnInfo) (s : State) : Bool := (neighbourOf i.port (nextHop i s) s).isSome

/-- An entry is used: it is the most recently used one. -/
def touchNeighbour (i : ConnInfo) (s : State) : State :=
  match neighbourOf i.port (nextHop i s) s with
  | some x => s.onNet fun n => { n with neighbours := x :: n.neighbours.filter (· ≠ x) }
  | none => s

/-- Resolve the next hop of a connection: one request, again after a second without a reply (02 R37; the repeat is
PRESUMED from RFC 4861, log entry 82). -/
def resolveHop (i : ConnInfo) (s : State) : State :=
  let a := nextHop i s
  let waits := s.net.resolving.any fun r => r.1 = i.port && r.2.1 = a && decide (s.now < r.2.2 + second)
  if !transmits s || resolved i s || waits then s
  else
    let s := s.onNet fun n => { n with
      resolving := (i.port, a, s.now) :: n.resolving.filter fun r => !(r.1 = i.port && r.2.1 = a) }
    let m : HostMsg := if isV4 a then .arpRequest a else .neighborSolicit a
    ctrlPut i.port 0 { portHdr i.port m s with vlan := svcVlan i.svc s } m s

/-- A neighbour is resolved: a new or changed entry enters the record. -/
def execNeighbourReply (t : Time) (p : Port) (addr : Bytes) (mac : BitVec 48) (s : State) :
    Host.Outcome State Fault Refusal :=
  act t (fun s =>
    if !transmits s then s
    else
      let same := s.net.neighbours.any fun x => x.port = p.val && x.addr = addr && x.mac = mac
      let s := putNeighbour p.val addr mac s
      if same then s else record (.neighbour p.val addr mac) s) s

/-- An echo is answered, at most 1,000 in a second for each port. -/
def execIcmpEchoRequest (t : Time) (p : Port) (addr : Bytes) (s : State) :
    Host.Outcome State Fault Refusal :=
  act t (fun s =>
    if !transmits s || !servedAt p.val addr s then s
    else
      let x := portOf s p.val
      let fresh := x.echoFrom + second ≤ s.now
      let n := if fresh then 0 else x.echoCount
      if 1000 ≤ n then s
      else
        let s := onPort p.val (fun x => { x with
          echoFrom := if fresh then s.now else x.echoFrom, echoCount := n + 1 }) s
        ctrlSend p.val 0 (.echoReply addr) s) s

/-- A smaller path MTU is taken for a TCP connection. -/
def execPacketTooBig (t : Time) (conn : Nat) (mtu : Nat) (s : State) : Host.Outcome State Fault Refusal :=
  act t (fun s =>
    when (receives s) (onConn conn fun x =>
      if x.info.kind = .tcp && mtu < x.pmtu then { x with pmtu := mtu } else x) s) s

/-! ### Entering service (02 R36; 14 R369) -/

/-- Is a partner serving? Then this module joins it. -/
def partnerServes (s : State) : Bool :=
  s.pair.link = 2 && flag 0x2106 0 0 s && [3, 4, 7, 9].contains s.pair.partnerMode

/-- The module leaves ISOLATED for SOLO: it takes the reservations; SOLO follows when a majority holds. -/
def soloEntry (s : State) : State :=
  if mayServe s && !s.mode.restarted && !s.mode.holdIsolated && !partnerServes s && s.pair.round.isNone then
    startRound .solo s
  else s

def execSoloEntry (t : Time) (s : State) : Host.Outcome State Fault Refusal := act t soloEntry s

/-- Detection ends: the address is served, or event 0x3020 is raised on a conflict. -/
def execDuplicateAddressDetectionEnd (t : Time) (svc : Fin 64) (conflict : Bool) (s : State) :
    Host.Outcome State Fault Refusal :=
  act t (fun s =>
    if ((atNat s.net.svcs svc.val).map (·.dad)).getD false then
      let s := s.onNet fun n =>
        { n with svcs := updNat n.svcs svc.val fun _ => { served := !conflict, dad := false } }
      if conflict then raise 0x3020 (svc.val + 1) 0 0x3020 (svc.val + 1) s else discoveryChanged s
    else s) s

/-! ### Dual delivery (02 R43, R44) -/

/-- Does the module confirm dual delivery? -/
def probing (s : State) : Bool :=
  s.pair.link = 2 && (inMode [.active] s || (inMode [.solo] s && (s.pair.paired || s.pair.partnerJoining)))

/-- A port becomes lost: event 0x3010 (02 R43). -/
def portLost (p : Nat) (s : State) : State :=
  if (portOf s p).dual = 3 then s
  else coldCheck (raise 0x3010 (p + 1) 3 0x3011 (p + 1) (onPort p (fun x => { x with dual := 3 }) s))

/-- A probe of a port is missed; at the third the port is lost. -/
def probeMissed (p : Nat) (s : State) : State :=
  let s := onPort p (fun x => { x with
    probeMiss := x.probeMiss + 1, probeOk := 0, probeOut := false,
    partnerUp := x.partnerUp && x.probeMiss < 2 }) s
  when (decide (3 ≤ (portOf s p).probeMiss)) (portLost p) s

/-- Send the probe of a port. -/
def probeSend (p : Nat) (s : State) : State :=
  let x := portOf s p
  if x.up then
    ctrlSend p 0 (.probe s.ident.serial (p + 1) x.probeSeq)
      (onPort p (fun x => { x with probeSeq := x.probeSeq + 1, probeOut := true }) s)
  else s

def execProbeIntervalExpiry (t : Time) (s : State) : Host.Outcome State Fault Refusal :=
  act t (fun s =>
    when (probing s) (each ((servicePorts s).filter fun p => groupMacSet p s) fun p s =>
      let x := portOf s p
      let s := if x.probeOut || !x.up then probeMissed p s else s
      probeSend p s) s) s

/-- The partner reports probes it has received: three in a row confirm the port, where the group codes
agree. -/
def probeReceived (p : Nat) (s : State) : State :=
  let x := portOf s p
  if !x.probeOut then s
  else
    let s := onPort p (fun x => { x with
      probeOut := false, probeOk := x.probeOk + 1, probeMiss := 0, partnerUp := true }) s
    if 2 ≤ x.probeOk && x.dual ≠ 1 && !groupsDiffer (p / 4) s then
      onPort p (fun x => { x with dual := 1, confirmedAt := s.now }) s
    else s

/-- The partner's port of a number goes down: where the module confirms dual delivery the port is lost. -/
def partnerPortDown (p : Nat) (s : State) : State :=
  let s := onPort p (fun x => { x with partnerUp := false, probeOk := 0 }) s
  when (probing s && (servicePorts s).contains p && groupMacSet p s) (portLost p) s

def execProbeReport (t : Time) (h : MirHdr) (ports : PortReport) (s : State) :
    Host.Outcome State Fault Refusal :=
  act t (whenFrame h fun s =>
    each ports.down (fun p s => partnerPortDown p.val s) (each ports.received (fun p s => probeReceived p.val s) s)) s

/-- Has every service port stayed confirmed for 10 s? -/
def confirmedLong (s : State) : Bool :=
  (servicePorts s).all fun p => (portOf s p).dual = 1 && (portOf s p).confirmedAt + 10 * second ≤ s.now

/-- Begin a rejoin at step 1: event 0x210B and a pairing frame (10 R292, R306). Without entropy no key can be
agreed, and pairing is refused (09 R262; 10 R294). -/
def rejoinBegin (s : State) : State :=
  if entropyState s = 2 then raise 0x2112 0 2 0x5305 0 s
  else
    let s := goMode .rejoin s
    let s := s.onPair fun p => { p with rejoinPhase := 1, rejoinPercent := 0, rejoinFrom := s.now, pairing := true }
    sendPairing none (raise 0x210B 0 1 0x2150 0 s)

/-- Every service port has been confirmed for 10 s: the active raises event 0x3011, and a module in cold
standby beside an AL2432 rejoins. -/
def execDualDeliveryRestored (t : Time) (s : State) : Host.Outcome State Fault Refusal :=
  act t (fun s =>
    if inMode [.active] s && s.pair.cold && s.pair.partnerKind ≠ 2 && confirmedLong s then
      raise 0x3011 0 1 0x3011 0 s
    else if inMode [.coldStandby] s && s.pair.partnerKind ≠ 2 then rejoinBegin s
    else s) s

end Sys2Proof.Machine
end

