-- ==== Sys2Proof/Machine/Transport.lean ====
section
/-! DEFINITION. TCP, TLS and RoCEv2 connections (02 R45 to R60; 09 R257, R258), and the selection of frames (05
R130 to R137). -/

namespace Sys2Proof.Machine

/-! ### Opening (02 R45, R55, R57) -/

def chainNew : Chain :=
  { txKey := 0, rxKey := 0, txIv := 0, rxIv := 0, txSecret := 0, rxSecret := 0, rxGhash := 0, rxDone := 0,
    rxLen := 0, txGhash := 0, txDone := 0, txLen := 0 }

def tlsNew : TlsSt :=
  { active := false, finished := false, pskRec := 0, txSeq := 0, rxSeq := 0, txRecords := 0, rxRecords := 0,
    kuPlanned := false, rxSwitch := false, cluster := 0, chain := chainNew, skipEarly := false }

/-- Class of a connection by the DSCP of its opening (05 R133). -/
def classOf (dscp : Nat) (s : State) : Nat := ((doct 0x4300 0 0 s).getD dscp 1).toNat

/-- A connection as it opens. -/
def connNew (info : ConnInfo) (half : Bool) (s : State) : Conn :=
  let x : Conn :=
    { info, half, txNext := info.isn, txUna := info.isn, rxNext := info.peerIsn + 1, ooo := [],
      pmtu := dnat 0x3003 (info.port + 1) 0 s - 18 - tagBytes info.svc s, tcp := tcpNew info.isn info.wnd 0 s,
      capsules := [], tls := tlsNew, connectFailed := false, ctrl := none, qid := 0, sqsize := 0, sqhd := 0,
      sqFlow := true, host := 0, cls := classOf info.dscp s, sendQ := [], finish := 0, headed := false, cap := none,
      capBk := { level := 0, stamp := 0 }, cutAt := none, cnpAt := none, retries := 0, rnrRetries := 0,
      missing := [], openedIn := recCycle s, recPos := info.peerIsn + 1, edges := [], refs := [] }
  { x with tcp := { x.tcp with cwnd := 10 * segMax x s } }

/-- Connections of the table, shared by TCP and RoCE (02 R55). -/
def connLimit : Nat := 8192

/-- Does a limit of 02 R55 refuse a connection from an address? -/
def connRefused (src : Bytes) (s : State) : Bool :=
  connLimit ≤ s.conns.length ||
    cfg 0x3101 s ≤ (s.conns.filter fun p => p.2.info.src = src).length

/-- Is the service address of an opening served on its port, and the listen port one of the module's? -/
def svcServes (info : ConnInfo) (s : State) : Bool :=
  (svcsOf info.port s).contains info.svc && groupMacSet info.port s &&
    ((atNat s.net.svcs info.svc).map (·.served)).getD false

/-- Enter a connection in the table; its opening enters the record before any frame that depends on it. -/
def openConn (info : ConnInfo) (half : Bool) (s : State) : Nat × State :=
  let k := Tbl.freeFrom s.conns 1 (s.conns.length + 1)
  let s := record (.connOpen k info none none) s
  (k, s.onConns fun m => Tbl.put m k (connNew info half s))

/-- A SYN-ACK with the MSS, the options the host offered and the module accepts (02 R45). -/
def synAckOf (i : ConnInfo) (s : State) : HostMsg :=
  .synAck (mssOffered i s) (if i.wscale then some 4 else none) i.sack i.tstamps i.ecn

/-- Answer an opening that is turned away: an RST, or a REJ on QP1. -/
def refuseOpen (i : ConnInfo) (s : State) : State :=
  if i.kind = .tcp then ctrlPut i.port 0 (connHdr i s) .rst s
  else finalSend 0 (connNew i false s) [] [.rej 1] [] s

/-- A SYN: the limits, then the connection and its SYN-ACK. -/
def execTcpSyn (t : Time) (info : ConnInfo) (s : State) : Host.Outcome State Fault Refusal :=
  act t (fun s =>
    let info := { info with kind := .tcp }
    if !transmits s || !svcServes info s then s
    else if info.listen ≠ cfg 0x3102 s && info.listen ≠ cfg 0x3103 s then refuseOpen info s
    else if connRefused info.src s then refuseOpen info (raise 0x3101 0 s.conns.length 0x3100 0 s)
    else if 1024 ≤ (s.conns.filter fun p => p.2.half).length then s
    else
      let d := draw s
      let info := { info with isn := Config.isn d.1, ecn := info.ecn && flag 0x3106 0 0 s }
      let r := openConn info true d.2
      sendHost r.1 (synAckOf info s) 0 (resolveHop info r.2)) s

/-- A connection request on QP1: the limits, then the connection and its REP, which offers no responder
resources. -/
def execRoceCmRequest (t : Time) (info : ConnInfo) (s : State) : Host.Outcome State Fault Refusal :=
  act t (fun s =>
    let info := { info with kind := .rdma }
    if !transmits s || !svcServes info s then s
    else if connRefused info.src s then refuseOpen info (raise 0x3101 0 s.conns.length 0x3100 0 s)
    else
      let d := draw s
      let info := { info with isn := Config.isn d.1 }
      let r := openConn info false d.2
      sendHost r.1 (.rep 0) 0 (resolveHop info r.2)) s

/-! ### Received data (02 R46, R53, R56; 03 R70) -/

/-- Command contexts (03 R70). -/
def contexts : Nat := 262144

/-- No context is free: event 0x3302, at most once a second. -/
def contextsFull (s : State) : Bool := contexts ≤ s.cmd.cmds.length
def noteFull (s : State) : State := raiseLimited 0x3302 0 s.cmd.cmds.length 0x3300 0 s

/-- Granules that hold a number of bytes. -/
def granulesFor (n : Nat) : Nat := (n + 4095) / 4096

/-- Extend a receive position by the ranges received beyond it. -/
def absorb : Nat → Nat → List (Nat × Nat) → Nat
  | 0, pos, _ => pos
  | n + 1, pos, l => match l.find? fun r => r.1 ≤ pos && pos < r.1 + r.2 with
    | some r => absorb n (r.1 + r.2) l
    | none => pos

/-- Take bytes [seq, seq + len) at a connection; the window is never shrunk and bytes beyond it are
dropped. -/
def takeBytes (seq len window : Nat) (x : Conn) : Conn :=
  if x.rxNext + window < seq + len then x
  else
    let l := (seq, len) :: x.ooo
    let pos := absorb l.length x.rxNext l
    { x with
      rxNext := pos
      ooo := l.filter fun r => pos < r.1 + r.2
      missing := x.missing.filter fun r => !(seq ≤ r.1 && r.1 + r.2 ≤ seq + len) }

/-- Note an advanced receive position in the record. -/
def recordRx (k : Nat) (old : Nat) (s : State) : State := match connOf s k with
  | some x => if old < x.rxNext then record (.rxPosition k x.rxNext x.tls.rxSeq) s else s
  | none => s

/-- The acknowledgement of a connection: its receive position, with the ranges beyond it when SACK was negotiated. -/
def sendAck (k : Nat) (s : State) : State := when (transmits s) (fun s => match connOf s k with
  | some y =>
    let m : HostMsg := if y.info.kind = .tcp then .ack y.rxNext (if y.info.sack then y.ooo else [])
      else .ack (y.rxNext - 1) []
    ctrlSend y.info.port k m s
  | none => s) s

/-- A module that does not decide records what it could not take (04 R100). -/
def noteMissed (k seq len : Nat) (s : State) : State :=
  if decides s then s
  else onConn k (fun x => { x with
    missing := if x.missing.contains (seq, len) then x.missing else x.missing ++ [(seq, len)] }) s

/-- Granules of an accepted segment: a capsule keeps them until its command is taken (04 R96). -/
def holdCapsule (k pool n : Nat) (capsule : Bool) (s : State) : State :=
  if capsule then onConn k (fun x => { x with capsules := x.capsules ++ [n] }) s else giveBack pool n s

/-- A segment with payload: discarded unacknowledged when no granule, or for a capsule no context, is free;
else taken and acknowledged. A segment of an unknown connection is answered with an RST (10 R300). -/
def execTcpSegment (t : Time) (conn : Nat) (seq len : Nat) (capsule : Bool) (s : State) :
    Host.Outcome State Fault Refusal :=
  act t (fun s =>
    if !receives s || inMode [.takeover] s then s
    else match connOf s conn with
      | none => when (transmits s) (emit (.rstUnknown conn)) s
      | some x =>
        if capsule && contextsFull s then noteMissed conn seq len (noteFull s)
        else
          let r := request poolTcpRx (granulesFor len) s
          if !r.1 then noteMissed conn seq len r.2
          else
            let s := holdCapsule conn poolTcpRx (granulesFor len) capsule r.2
            let s := onConn conn (fun x => { takeBytes seq len (cfg 0x3105 s) x with half := false }) s
            sendAck conn (recordRx conn x.rxNext s)) s

/-- References held until the host acknowledges a position are dropped (04 R104). -/
def dropAcked (k pos : Nat) (s : State) : State := match connOf s k with
  | none => s
  | some x =>
    let go := x.refs.filter fun r => r.1 ≤ pos
    let s := onConn k (fun x => { x with refs := x.refs.filter fun r => pos < r.1 }) s
    each go (fun r s => dropRef r.2 s) s

/-- The host acknowledges up to a position. -/
def ackUpTo (k pos : Nat) (s : State) : State :=
  match connOf s k with
  | none => s
  | some x =>
    let p := min pos x.txNext
    let s := onConn k (fun x => { x with
      txUna := max x.txUna p, half := false, retries := if x.txUna < p then 0 else x.retries
      rnrRetries := if x.txUna < p then 0 else x.rnrRetries }) s
    let s := dropAcked k p s
    if decides s then s else followAck k s

/-- Put a retransmission of up to `n` bytes from a position at the head of its connection's queue (05 R130). -/
def resendAt (k pos n : Nat) (s : State) : State :=
  let f : TxFrame := { msg := .retransmit pos, len := n, sent := 0, plan := none, cmd := 0, pos, checks := [],
                       prot := none }
  onConn k (fun x => { x with sendQ := f :: x.sendQ, headed := false, retries := x.retries + 1 }) s

/-- Send again what follows the last position acknowledged. -/
def retransmit (k : Nat) (s : State) : State := match connOf s k with
  | none => s
  | some x =>
    if x.txUna < x.txNext then
      resendAt k x.txUna (if x.info.kind = .tcp then min (segMax x s) (x.txNext - x.txUna) else segMax x s) s
    else s

/-! ### Loss recovery and congestion control (02 R45, R60: RFC 5681, 6298, 6675) -/

/-- Is it the head of a queue that has to be sent again? -/
def isResend (f : TxFrame) : Bool := match f.msg with
  | .retransmit _ => true
  | _ => false

/-- Ranges that the host holds beyond what it has acknowledged, in order. -/
def sackRanges (una : Nat) (l : List (Nat × Nat)) : List (Nat × Nat) :=
  (sortBy Prod.fst l).filter fun r => una < r.1 + r.2

/-- Bytes of ranges below a position. -/
def rangeBytes (hi : Nat) (l : List (Nat × Nat)) : Nat := (l.map fun r => min hi (r.1 + r.2) - min hi r.1).sum

/-- The first position from `pos` that no range holds, and the bytes up to the next range. -/
def nextHole (pos : Nat) : List (Nat × Nat) → Option (Nat × Nat)
  | [] => none
  | r :: l => if r.1 + r.2 ≤ pos then nextHole pos l
    else if r.1 ≤ pos then nextHole (r.1 + r.2) l
    else some (pos, r.1 - pos)

/-- Bytes believed to be in the network: those sent and not acknowledged, less those the host holds and those lost
and not yet sent again. -/
def pipeOf (x : Conn) : Nat :=
  let t := x.tcp
  let held := rangeBytes t.sent t.sacked
  let lost := match t.recover with
    | some _ => match t.sacked.getLast? with
      | some r => let lo := max x.txUna t.rexmit
        (r.1 - lo) - (rangeBytes r.1 t.sacked - rangeBytes lo t.sacked)
      | none => 0
    | none => 0
  t.sent - x.txUna - held - lost

/-- A round-trip sample. -/
def rttSample (r : Nat) (s : State) (t : TcpTx) : TcpTx :=
  let v := match t.rtt with
    | none => (r, r / 2)
    | some (m, d) => ((7 * m + r) / 8, (3 * d + ((m - r) + (r - m))) / 4)
  { t with rtt := some v, rto := rtoClamp (v.1 + 4 * v.2) s, timed := none }

/-- An acknowledgement of new data up to `p`. -/
def tcpAdvance (seg una p : Nat) (s : State) (t : TcpTx) : TcpTx :=
  let t := match t.timed with
    | some (q, a) => if q ≤ p then rttSample (s.now - a) s t else t
    | none => t
  let t := match t.recover with
    | some r => if r ≤ p then { t with recover := none, cwnd := t.ssthresh } else t
    | none =>
      if t.cwnd < t.ssthresh then { t with cwnd := t.cwnd + min (p - una) seg }
      else { t with cwnd := t.cwnd + max 1 (seg * seg / max 1 t.cwnd) }
  { t with
    dups := 0, sacked := sackRanges p t.sacked, sent := max t.sent p
    timer := if p < t.sent then some (s.now + t.rto) else none }

/-- Loss recovery starts: half the flight, and the first hole is sent again. -/
def enterRecovery (k : Nat) (x : Conn) (s : State) : State :=
  let seg := segMax x s
  let half := max ((x.tcp.sent - x.txUna) / 2) (2 * seg)
  let n := min seg (x.tcp.sent - x.txUna)
  resendAt k x.txUna n (onConn k (fun y => { y with tcp := { y.tcp with
    recover := some y.tcp.sent, ssthresh := half, cwnd := half, rexmit := x.txUna + n, timed := none } }) s)

/-- In recovery, the next hole is sent again while the window allows. -/
def fillHole (k : Nat) (s : State) : State := match connOf s k with
  | none => s
  | some x =>
    let seg := segMax x s
    if x.tcp.recover.isNone || x.tcp.cwnd < pipeOf x + seg then s
    else match nextHole (max x.txUna x.tcp.rexmit) x.tcp.sacked with
      | some (p, n) => resendAt k p (min seg n)
        (onConn k (fun y => { y with tcp := { y.tcp with rexmit := p + min seg n } }) s)
      | none => s

/-- For 80 µs after TAKEOVER duplicate acknowledgements are no loss signal (02 R60). -/
def dupsIgnored (s : State) : Bool := decide (s.now < s.pair.takeoverAt + 80 * micro) && decide (0 < countOf 0x2132 0 s)

/-- An acknowledgement that moves nothing while bytes are outstanding. -/
def tcpDuplicate (k : Nat) (s : State) : State := match connOf s k with
  | none => s
  | some x =>
    if dupsIgnored s || x.tcp.sent ≤ x.txUna then s
    else
      let s := onConn k (fun y => { y with tcp := { y.tcp with dups := y.tcp.dups + 1 } }) s
      let lost := decide (2 ≤ x.tcp.dups) || decide (2 * segMax x s < rangeBytes x.tcp.sent x.tcp.sacked)
      if x.tcp.recover.isNone && lost then enterRecovery k x s else s

/-- The host acknowledges up to a position, with its window and the ranges it holds beyond. -/
def tcpAckArrives (k pos wnd : Nat) (sack : List (Nat × Nat)) (s : State) : State := match connOf s k with
  | none => s
  | some x =>
    let p := min pos x.txNext
    let s := onConn k (fun y => { y with tcp := { y.tcp with
      wnd, sacked := if y.info.sack then sackRanges p (sack ++ y.tcp.sacked) else [] } }) s
    if x.txUna < p then
      fillHole k (ackUpTo k p (onConn k (fun y => { y with tcp := tcpAdvance (segMax x s) x.txUna p s y.tcp }) s))
    else fillHole k (when (decides s && decide (wnd = x.tcp.wnd || !sack.isEmpty)) (tcpDuplicate k) (ackUpTo k p s))

def execTcpAck (t : Time) (conn : Nat) (a : AckSeg) (s : State) :
    Host.Outcome State Fault Refusal :=
  act t (fun s => when (receives s) (tcpAckArrives conn a.pos a.wnd a.sack) s) s

/-- The retransmission timer has run out: the window falls to one segment, the timeout doubles up to 200 ms, and
the first bytes not acknowledged are sent again; with nothing outstanding and a closed window the next byte
probes it. -/
def tcpTimeout (k : Nat) (s : State) : State := match connOf s k with
  | none => s
  | some x =>
    let seg := segMax x s
    let rto := rtoClamp (2 * x.tcp.rto) s
    let s := onConn k (fun y => { y with tcp := { y.tcp with
      ssthresh := max ((y.tcp.sent - y.txUna) / 2) (2 * seg), cwnd := seg, rto, timer := some (s.now + rto)
      sacked := [], dups := 0, recover := none, timed := none } }) s
    if x.txUna < x.tcp.sent then resendAt k x.txUna (min seg (x.tcp.sent - x.txUna)) s
    else if x.sendQ.isEmpty then onConn k (fun y => { y with tcp := { y.tcp with timer := none } }) s
    else resendAt k x.txUna 1 s

/-- Has the retransmission timer of a connection run out? -/
def timerDue (x : Conn) (s : State) : Bool := match x.tcp.timer with
  | some u => decide (u ≤ s.now)
  | none => false

def execTcpRetransmissionTimeout (t : Time) (conn : Nat) (s : State) : Host.Outcome State Fault Refusal :=
  act t (fun s => match connOf s conn with
    | some x => when (transmits s && decide (x.info.kind = .tcp) && timerDue x s) (tcpTimeout conn) s
    | none => s) s

/-- A segment has stayed unacknowledged for 10 s: the connection ends with an RST. -/
def execTcpSendTimeout (t : Time) (conn : Nat) (s : State) : Host.Outcome State Fault Refusal :=
  act t (fun s => match connOf s conn with
    | some x => if transmits s && x.txUna < x.txNext then resetConn conn 1 s else s
    | none => s) s

/-- A host ends a connection (03 R82). -/
def execHostConnectionClose (t : Time) (conn : Nat) (s : State) : Host.Outcome State Fault Refusal :=
  act t (fun s => match connOf s conn with
    | some x =>
      when (decides s) (endConn conn 0 (if x.info.kind = .tcp then [.fin] else []) []) s
    | none => s) s

/-! ### TLS (02 R49 to R51; 09 R257, R258) -/

/-- Alert codes of RFC 8446. -/
def alertUnexpectedMessage : Nat := 10
def alertBadRecordMac : Nat := 20
def alertRecordOverflow : Nat := 22
def alertHandshakeFailure : Nat := 40
def alertProtocolVersion : Nat := 70
def alertInternalError : Nat := 80
def alertUnknownPskIdentity : Nat := 115

/-- Is a PSK record usable by a host? All three parts are set and its host record holds the NQN (02 R50; 09
R256). -/
def pskFits (r : Nat) (nqn : Bytes) (s : State) : Bool :=
  let h := dnat 0x5311 0 r s
  h ≠ 0 && dnat 0x5312 0 r s ≠ 0 && Tbl.has s.keys.psk r && doct 0x3211 0 h s = nqn

/-- The key exchange of a ClientHello: psk_dhe_ke is preferred, over secp384r1 before secp256r1 (DESIGN CHOICE, log
entry 83), and psk_ke accepted. -/
def keyExOf (h : Hello) : Option KeyEx :=
  if h.pskDhe && h.secp384 then some .pskDhe384
  else if h.pskDhe && h.secp256 then some .pskDhe256
  else if h.pskKe then some .pskKe
  else none

/-- The alert a ClientHello fails with, or none. Without entropy every new handshake fails (09 R262). -/
def helloFault (h : Hello) (s : State) : Option Nat :=
  if entropyState s = 2 then some alertInternalError
  else if !h.version13 then some alertProtocolVersion
  else if !h.suiteOk || (keyExOf h).isNone then some alertHandshakeFailure
  else match h.fault with
    | some c => some c
    | none => match h.pskRec with
      | some r => if pskFits r h.hostNqn s then none else some alertUnknownPskIdentity
      | none => some alertUnknownPskIdentity

/-- The chaining context that traffic secrets give. -/
def chainOf (o : TlsOpen) : Chain :=
  { chainNew with
    txSecret := o.tx, rxSecret := o.rx, txKey := Config.trafficKey o.tx, rxKey := Config.trafficKey o.rx,
    txIv := Config.trafficIv o.tx, rxIv := Config.trafficIv o.rx }

/-- The secrets of a handshake under a PSK record, of its n-th draw. -/
def tlsSecrets (r n : Nat) : TlsOpen := { pskRec := r, tx := Config.tlsSecret n true, rx := Config.tlsSecret n false }

/-- TLS begins on a connection: its context is allocated. -/
def tlsStart (k : Nat) (o : TlsOpen) (s : State) : State :=
  touchContext k (onConn k (fun x => { x with
    tls := { tlsNew with active := true, pskRec := o.pskRec, cluster := connCluster k + 1, chain := chainOf o
                         skipEarly := x.tls.skipEarly } }) s)

/-- End a TLS connection with an alert; before the client Finished has been taken the handshake fails with it (02
R50). -/
def tlsFail (k code : Nat) (s : State) : State := match connOf s k with
  | none => s
  | some x => closeConn k 7 [.alert code] (when (!x.tls.finished) (raise 0x3110 k code 0x3100 0) s)

/-- A connection begins, with or without a ClientHello (02 R49, R50). Early data that follows it is rejected. -/
def execTlsClientHello (t : Time) (conn : Nat) (hello : Option Hello) (s : State) :
    Host.Outcome State Fault Refusal :=
  act t (fun s =>
    match connOf s conn with
    | none => s
    | some x =>
      if x.info.kind ≠ .tcp || x.tls.active || !receives s then s
      else match hello with
        | none => if decides s && cfg 0x3110 s = 1 && x.info.listen = cfg 0x3102 s then resetConn conn 6 s else s
        | some h =>
          let s := onConn conn (fun x => { x with tls := { x.tls with skipEarly := h.earlyData } }) s
          if !decides s then s
          else if cfg 0x3110 s = 0 then resetConn conn 6 s
          else match helloFault h s with
            | some code => tlsFail conn code s
            | none =>
              let r := h.pskRec.getD 0
              let d := draw s
              let o := tlsSecrets r d.1
              let s := tlsStart conn o (record (.connOpen conn x.info (some o) none) d.2)
              sendHost conn (.serverHello r ((keyExOf h).getD .pskKe)) 0 s) s

/-- A record arrives: its length, count and type are judged, and a unit of the connection's cluster opens
it (09 R242, R257). -/
def execTlsRecord (t : Time) (conn : Nat) (ctype : Nat) (b : RecordBody) (s : State) :
    Host.Outcome State Fault Refusal :=
  act t (fun s => match connOf s conn with
    | none => s
    | some x =>
      if !receives s || !x.tls.active then s
      else if !decides s then
        match clusterFrom s (tlsCluster conn x) with
        | some c => startUnitOn c (.ingress conn ctype b.len b.fault) 0 0 [] false s
        | none => s
      else if 16384 < b.len then tlsFail conn alertRecordOverflow s
      else if 16777216 ≤ x.tls.rxRecords then tlsFail conn alertInternalError s
      else if ctype = 20 then (if x.tls.finished then tlsFail conn alertUnexpectedMessage s else s)
      else if ctype ≠ 21 && ctype ≠ 22 && ctype ≠ 23 then tlsFail conn alertUnexpectedMessage s
      else match clusterFrom s (tlsCluster conn x) with
        | some c =>
          let s := onConn conn (fun x => { x with
            tls := { x.tls with chain := { x.tls.chain with rxLen := b.len, rxDone := b.len } } }) s
          startUnitOn c (.ingress conn ctype b.len b.fault) 0 0 [] false s
        | none => s) s

/-- The sending key changes at the record that follows. -/
def nextTxKey (x : TlsSt) : TlsSt :=
  let sec := Config.nextSecret x.chain.txSecret
  { x with
    txSeq := 0, txRecords := 0
    chain := { x.chain with txSecret := sec, txKey := Config.trafficKey sec, txIv := Config.trafficIv sec } }

/-- The receiving key changes at the next record. -/
def nextRxKey (x : TlsSt) : TlsSt :=
  let sec := Config.nextSecret x.chain.rxSecret
  { x with
    rxSeq := 0, rxRecords := 0, rxSwitch := false
    chain := { x.chain with rxSecret := sec, rxKey := Config.trafficKey sec, rxIv := Config.trafficIv sec } }

/-- Send a KeyUpdate, a planned record under the old key. -/
def sendKeyUpdate (k : Nat) (s : State) : State :=
  let s := sendHost k .keyUpdate 0 s
  onConn k (fun x => { x with tls := { nextTxKey x.tls with kuPlanned := true } }) s

/-- A KeyUpdate of the host: both modules switch the receive key; the deciding one answers a request. -/
def execKeyupdateReceive (t : Time) (conn : Nat) (updateRequested : Bool) (s : State) :
    Host.Outcome State Fault Refusal :=
  act t (fun s => match connOf s conn with
    | none => s
    | some x =>
      if !receives s || !x.tls.active then s
      else
        let s := onConn conn (fun x => { x with tls := nextRxKey x.tls }) s
        when (updateRequested && decides s) (sendKeyUpdate conn) s) s

/-- The module updates its key after KEYUPDATE_RECORDS records. -/
def execKeyupdateSend (t : Time) (conn : Nat) (s : State) : Host.Outcome State Fault Refusal :=
  act t (fun s => match connOf s conn with
    | none => s
    | some x =>
      if decides s && x.tls.active && cfg 0x3111 s ≤ x.tls.txRecords && !x.tls.kuPlanned then sendKeyUpdate conn s
      else s) s

/-- A close_notify is answered with close_notify and FIN, and the connection ends. -/
def execCloseNotify (t : Time) (conn : Nat) (s : State) : Host.Outcome State Fault Refusal :=
  act t (fun s => match connOf s conn with
    | none => s
    | some x =>
      if !decides s || !x.tls.active then s
      else endConn conn 0 [.closeNotify, .fin] [] s) s

/-! ### RoCEv2 (02 R52 to R54) -/

/-- A Send with a command capsule: with no granule or context free an RNR NAK with timer value 1. -/
def execRoceSend (t : Time) (conn : Nat) (psn len : Nat) (s : State) : Host.Outcome State Fault Refusal :=
  act t (fun s => match connOf s conn with
    | none => s
    | some x =>
      if !receives s || inMode [.takeover] s || x.info.kind ≠ .rdma then s
      else
        let nak := fun (s : State) => when (transmits s) (ctrlSend x.info.port conn (.rnrNak 1)) s
        if contextsFull s then nak (noteFull s)
        else
          let r := request poolRoceRx (granulesFor len) s
          if !r.1 then nak r.2
          else
            let s := holdCapsule conn poolRoceRx (granulesFor len) true r.2
            let n := max 1 ((len + cfg 0x3130 s - 1) / cfg 0x3130 s)
            let s := onConn conn (fun x => if psn = x.rxNext then { x with rxNext := psn + n } else x) s
            sendAck conn (recordRx conn x.rxNext s)) s

/-- Inbound RDMA and atomics are refused with a Remote Access Error NAK. -/
def execRoceInboundRdma (t : Time) (conn : Nat) (s : State) : Host.Outcome State Fault Refusal :=
  act t (fun s => match connOf s conn with
    | some x => when (transmits s && decide (x.info.kind = .rdma)) (ctrlSend x.info.port conn .remoteAccessNak) s
    | none => s) s

/-- A module-side retry: the packet is sent again, and the connection ends when the retries are exhausted (02 R47,
R52). -/
def roceRetry (k : Nat) (x : Conn) (s : State) : State :=
  if 7 ≤ x.retries then resetConn k 1 s else retransmit k s

/-- A retry after an RNR NAK; that 7 is a number of retries is DEDUCED from R53 (log entry 84). -/
def rnrRetry (k : Nat) (x : Conn) (s : State) : State :=
  if 7 ≤ x.rnrRetries then resetConn k 1 s
  else retransmit k (onConn k (fun y => { y with rnrRetries := y.rnrRetries + 1 }) s)

/-- The status of a completion that has not left and is in no record becomes Data Transfer Error. -/
def failEnd (pos : Nat) (x : Conn) : Conn := { x with sendQ := x.sendQ.map fun f => match f.msg with
  | .completion cid _ dw0 h inval =>
    if f.pos = pos && f.plan.isNone && f.sent = 0 then
      { f with msg := HostMsg.completion cid .dataTransfer dw0 h inval } else f
  | _ => f }

/-- An RDMA Write or Read fails its remote access at the host: its command completes with Data Transfer Error (03
R92). A Write's completion stands behind its data; the Read is the oldest one outstanding (which command a NAK
concerns is DEDUCED, log entry 85). -/
def remoteFails (k psn : Nat) (s : State) : State := match connOf s k with
  | none => s
  | some x =>
    match x.refs.find? fun r => decide (psn < r.1) && match Tbl.get? s.pot.bufs r.2 with
      | some b => decide (r.1 ≤ psn + (b.len * 4096 + cfg 0x3130 s - 1) / cfg 0x3130 s)
      | none => false with
    | some r => ackUpTo k r.1 (onConn k (failEnd r.1) s)
    | none =>
      let l := s.cmd.cmds.filter fun p => decide (p.2.src = .fabric k) && decide (p.2.phase = .receiving) && !p.2.inCapsule
      let s := ackUpTo k (psn + 1) s
      match sortBy (fun p : Nat × Cmd => p.2.ttag) l with
      | p :: _ => complete p.1 .dataTransfer s
      | [] => s

/-- An acknowledgement, or a negative one: what precedes its PSN is acknowledged too. -/
def roceAckArrives (k psn : Nat) (nak : Option RoceNak) (s : State) : State := match nak with
  | none => ackUpTo k (psn + 1) s
  | some n =>
    let s := ackUpTo k psn s
    if !decides s then s
    else match connOf s k with
      | none => s
      | some x => match n with
        | .sequence => roceRetry k x s
        | .rnr => rnrRetry k x s
        | .remoteAccess => remoteFails k psn s

def execRoceAck (t : Time) (conn : Nat) (a : RoceAck) (s : State) :
    Host.Outcome State Fault Refusal :=
  act t (fun s => when (receives s) (roceAckArrives conn a.psn a.nak) s) s

/-- No acknowledgement: the frame is sent again, and the connection ends after seven retries. -/
def execRoceAckTimeout (t : Time) (conn : Nat) (s : State) : Host.Outcome State Fault Refusal :=
  act t (fun s => match connOf s conn with
    | none => s
    | some x =>
      if !transmits s || x.info.kind ≠ .rdma || x.txNext ≤ x.txUna then s
      else roceRetry conn x s) s

/-- Data of an RDMA Read arrives. -/
def execRoceReadResponse (t : Time) (conn : Nat) (ttag off : Nat) (sectors : List Bytes) (s : State) :
    Host.Outcome State Fault Refusal :=
  act t (fun s =>
    if !receives s then s
    else match s.cmd.cmds.find? fun p => p.2.src = .fabric conn && p.2.ttag = ttag && p.2.phase = .receiving with
      | some p => takeData p.1 off sectors s
      | none => s) s

/-- Rate of a port in Mbit/s, and the bytes a second of a rate. -/
def bytesPerSecond (mbit : Nat) : Nat := mbit * 125000

/-- A congestion mark: one notification packet in each interval for a connection. -/
def execCeMarkedPacket (t : Time) (conn : Nat) (s : State) : Host.Outcome State Fault Refusal :=
  act t (fun s => match connOf s conn with
    | none => s
    | some x =>
      let due := match x.cnpAt with
        | some a => a + cfg 0x3133 s ≤ s.now
        | none => true
      if transmits s && x.info.kind = .rdma && due then
        ctrlSend x.info.port conn .cnp (onConn conn (fun x => { x with cnpAt := some s.now }) s)
      else s) s

/-- Level of a connection's rate cap now (05 R132): a bucket of 16,384 bytes. -/
def capLevel (x : Conn) (now : Nat) : Nat := match x.cap with
  | some r => bucketLevel [(0, x.capBk)] 0 (bytesPerSecond r) 16384 now
  | none => 16384 * 1000000000

/-- A notification lowers the rate cap, at most once in each interval. -/
def execCongestionNotification (t : Time) (conn : Nat) (s : State) : Host.Outcome State Fault Refusal :=
  act t (fun s => match connOf s conn with
    | none => s
    | some x =>
      let due := match x.cutAt with
        | some a => a + cfg 0x3133 s ≤ s.now
        | none => true
      if transmits s && x.info.kind = .rdma && due then
        let r := x.cap.getD (portRate x.info.port s)
        onConn conn (fun x => { x with
          cap := some (r * (100 - cfg 0x3131 s) / 100)
          capBk := { level := capLevel x s.now, stamp := s.now }
          cutAt := some s.now }) s
      else s) s

/-- 55 µs without a notification: the cap rises by a step, up to port rate. -/
def execRateRecovery (t : Time) (conn : Nat) (s : State) : Host.Outcome State Fault Refusal :=
  act t (fun s => match connOf s conn with
    | none => s
    | some x => match x.cap with
      | none => s
      | some r =>
        let r := r + cfg 0x3132 s
        onConn conn (fun x => { x with
          cap := if portRate x.info.port s ≤ r then none else some r
          capBk := { level := capLevel x s.now, stamp := s.now } }) s) s

/-! ### Priority flow control (02 R32; 05 R132, R140) -/

/-- A pause frame of the port's one priority is honoured; a duration of 0 ends the pause. -/
def execPfcPause (t : Time) (p : Port) (prio : Nat) (duration : Nat) (s : State) :
    Host.Outcome State Fault Refusal :=
  act t (fun s =>
    if !lanesOn s || !(portOf s p.val).up || prio ≠ dnat 0x3009 (p.val + 1) 0 s || 8 ≤ prio then s
    else if duration = 0 then endPause p.val s
    else onPort p.val (fun x => { x with
      pauseUntil := some (s.now + duration)
      pausedFrom := some (x.pausedFrom.getD s.now) }) s) s

/-- The pause in force runs out. -/
def execPfcPauseExpiry (t : Time) (p : Port) (s : State) : Host.Outcome State Fault Refusal :=
  act t (fun s => match (portOf s p.val).pauseUntil with
    | some u => if u ≤ s.now then endPause p.val s else s
    | none => s) s

/-- A priority paused for 100 ms without a break: event 0x4301. -/
def execPortPausedLong (t : Time) (p : Port) (s : State) : Host.Outcome State Fault Refusal :=
  act t (fun s => match (portOf s p.val).pausedFrom with
    | some u =>
      if u + 100 * milli ≤ s.now then raise 0x4301 (p.val + 1) (s.now - u) 0x4332 (p.val + 1) s else s
    | none => s) s

/-! ### Selection of a frame (05 R130 to R137) -/

/-- Is `a` before `b`, compared by their difference taken as signed? -/
def precedes (a b : BitVec 64) : Bool := (a - b).msb

/-- Give one connection's new head its finish time. -/
def headOne (p : Nat) (v : BitVec 64) (s : State) (x : Conn) : Conn := match x.sendQ with
  | f :: _ =>
    if x.info.port = p && !x.headed then
      let w := dnat 0x4301 x.cls 0 s
      let st := if precedes x.finish v then v else x.finish
      { x with finish := st + BitVec.ofNat 64 (accounted x f s * 4096 / w), headed := true }
    else x
  | [] => x

/-- Give every new head of the port its finish time. -/
def headUp (p : Nat) (s : State) : State :=
  let v := ((atNat s.egress.ports p).map (·.v)).getD 0
  let s' := s.onConns fun m => m.map fun q => (q.1, headOne p v s q.2)
  s'.onEgress fun e => { e with closing := e.closing.map fun q => (q.1, { q.2 with x := headOne p v s q.2.x }) }

/-- Host and class buckets of a connection: key, rate and depth (05 R135). `k` is 0 for the committed and 1
for the peak bucket. -/
def egBuckets (x : Conn) (k : Nat) (s : State) : List (Nat × Nat × Nat) :=
  let host := if x.host = 0 then [] else
    [(k * 4096 + x.host, bytesPerSecond (dnat (0x4310 + 2 * k) 0 x.host s), dnat (0x4311 + 2 * k) 0 x.host s)]
  host ++ [(65536 + (x.info.port * 16 + (x.cls - 1)) * 2 + k,
    bytesPerSecond (dnat (0x4302 + 2 * k) x.cls 0 s), dnat (0x4303 + 2 * k) x.cls 0 s)]

def egHas (x : Conn) (k len : Nat) (s : State) : Bool :=
  (egBuckets x k s).all fun b => bucketHas s.egress.buckets b.1 b.2.1 b.2.2 s.now len

def egCharge (x : Conn) (k len : Nat) (s : State) : State :=
  each (egBuckets x k s) (fun b s => s.onEgress fun e =>
    { e with buckets := bucketCharge e.buckets b.1 b.2.1 b.2.2 s.now len }) s

/-- Has the planned start been reached? (02 R58) -/
def planReached (f : TxFrame) (s : State) : Bool := match f.plan with
  | some n => !s.pair.paired || (n ≤ s.pair.committed && n + 2 ≤ s.pair.cycle)
  | none => true

/-- May TCP send the next bytes of a head? Within the host's window and the congestion window; what is sent again
is (RFC 5681, 6675). -/
def windowOpen (x : Conn) (f : TxFrame) (s : State) : Bool :=
  let n := nextBytes x f s
  decide (x.info.kind = .rdma) || isResend f ||
    (f.pos + f.sent + n ≤ x.txUna + x.tcp.wnd && (f.pos + f.sent < x.tcp.sent || pipeOf x + n ≤ x.tcp.cwnd))

/-- May a connection's head be selected? (05 R132) Its next hop is resolved (02 R37). -/
def egEligible (x : Conn) (s : State) : Bool := match x.sendQ with
  | [] => false
  | f :: _ =>
    let len := accounted x f s
    let p := portOf s x.info.port
    planReached f s && !(p.pauseUntil.isSome && dnat 0x3009 (x.info.port + 1) 0 s = x.info.pcp) &&
      len * 1000000000 ≤ capLevel x s.now + (if x.cap.isNone then len * 1000000000 else 0) && egHas x 1 len s &&
      windowOpen x f s && resolved x.info s

/-- The connection with the least finish time, the lowest number of equals. -/
def leastFinish : List (Nat × Conn) → Option (Nat × Conn)
  | [] => none
  | q :: l => match leastFinish l with
    | some r => if precedes r.2.finish q.2.finish then some r else some q
    | none => some q

/-- The connection selected on a port, and whether in the committed tier (05 R134). -/
def egPick (p : Nat) (s : State) : Option (Nat × Conn × Bool) :=
  let l := (queuedOn p s).filter fun q => egEligible q.2 s
  let com := l.filter fun q => match q.2.sendQ with
    | f :: _ => egHas q.2 0 (accounted q.2 f s) s
    | [] => false
  match leastFinish com with
  | some q => some (q.1, q.2, true)
  | none => (leastFinish l).map fun q => (q.1, q.2, false)

/-- The first-pass frame of a connection has left (10 R288). -/
def firstPassSent (k : Nat) (s : State) : State :=
  s.onPair fun p =>
    if p.firstPass.contains k then { p with firstPass := p.firstPass.filter (· ≠ k), firstPassAt := s.now } else p

/-- May a control frame leave? That of a connection waits for its next hop; an answer on no connection goes back to
where its packet came from. -/
def ctrlReady (q : Nat × FrameHdr × HostMsg) (s : State) : Bool := match flowOf s q.1 with
  | some x => resolved x.info s
  | none => true

/-- Send a frame of the control queue: it needs a granule of CONTROL (04 R100). -/
def sendControl (p : Nat) (q : Nat × FrameHdr × HostMsg) (s : State) : State :=
  let r := request poolControl 1 s
  if !r.1 then r.2
  else
    let s := giveBack poolControl 1 r.2
    let s := s.onEgress fun e => { e with ports := updNat e.ports p fun x => { x with ctrlQ := x.ctrlQ.erase q } }
    let s := match flowOf s q.1 with
      | some x => touchNeighbour x.info s
      | none => s
    firstPassSent q.1 (emit (.host q.2.1 p q.1 q.2.2 none) s)

/-- A frame leaves: the message with its last byte, a part of it before. -/
def frameOut (p k off len : Nat) (last : Bool) (m : HostMsg) (h : FrameHdr) (pr : Option TlsProt) (s : State) : State :=
  if last then
    let s := emit (.host h p k m pr) s
    match m with
    | .keyUpdate => onFlow k (fun x => { x with tls := { x.tls with kuPlanned := false } }) s
    | _ => closingDone k s
  else emit (.hostSegment h p k off len pr) s

/-- The position after the next frame of a head. -/
def frameEnd (x : Conn) (f : TxFrame) (s : State) : Nat :=
  if f.len ≤ f.sent + nextBytes x f s && !isResend f then f.pos + spanOf x f.msg s
  else f.pos + f.sent + nextBytes x f s

/-- TCP notes what it sends: the position, the timer, and the segment it times. -/
def tcpNote (x : Conn) (f : TxFrame) (s : State) : TcpTx :=
  let e := frameEnd x f s
  let t := x.tcp
  { t with
    sent := max t.sent e
    timer := some (t.timer.getD (s.now + t.rto))
    timed := if t.timed.isNone && !isResend f && t.sent < e then some (e, s.now) else t.timed }

/-- Send the selected frame: charge, virtual time, and the frame itself, through cluster `c` of the cipher engine on
a TLS connection (05 R131, R134). -/
def sendFrame (p k : Nat) (x : Conn) (committed : Bool) (f : TxFrame) (c : Option Nat) (s : State) : State :=
  let len := accounted x f s
  let n := nextBytes x f s
  let last := f.len ≤ f.sent + n
  let h := connHdr x.info s
  let s := egCharge x 1 len s
  let s := if committed then egCharge x 0 len s else bump 0x4331 (p + 1) len s
  let s := s.onEgress fun e => { e with ports := updNat e.ports p fun q => { q with v := x.finish } }
  let t := tcpNote x f s
  let s := onFlow k (fun x => { x with
    headed := false
    tcp := t
    capBk := { level := capLevel x s.now - len * 1000000000, stamp := s.now }
    sendQ := match x.sendQ with
      | f :: l => if last then l else { f with sent := f.sent + n } :: l
      | [] => [] }) (touchNeighbour x.info s)
  match c with
  | some c =>
    let s := s.onEgress fun e => { e with ports := updNat e.ports p fun q => { q with pipeline := q.pipeline + 1 } }
    startUnitOn c (.egress p k f.sent n last f.msg h f.prot) 0 0 [] false s
  | none => frameOut p k f.sent n last f.msg h f.prot s

/-- The selected head is sent when a granule of CONTROL holds its header (04 R100) and, on a TLS connection, a lane
of its cluster is there; else it stays in its queue. -/
def sendSelected (p k : Nat) (x : Conn) (committed : Bool) (f : TxFrame) (s : State) : State :=
  let r := if f.sent = 0 then request poolControl 1 s else (true, s)
  if !r.1 then r.2
  else
    let s := if f.sent = 0 then giveBack poolControl 1 r.2 else s
    if x.tls.active && x.info.kind = .tcp then
      match clusterFrom s (tlsCluster k x) with
      | some c => sendFrame p k x committed f (some c) s
      | none => s
    else sendFrame p k x committed f none s

/-- Next hops of a port's waiting frames are resolved. -/
def resolvePort (p : Nat) (s : State) : State := each (queuedOn p s) (fun q s => resolveHop q.2.info s) s

/-- The MAC of a port can take a frame: a control frame first, else the connection selected. -/
def egressSelect (p : Nat) (s : State) : State :=
  if !transmits s || !(portOf s p).up then s
  else
    let port := (atNat s.egress.ports p).getD { v := 0, ctrlQ := [], pipeline := 0 }
    match port.ctrlQ.find? fun q => ctrlReady q s with
    | some q => portIdle p (sendControl p q s)
    | none =>
      if 4 ≤ port.pipeline then s
      else
        let s := headUp p (resolvePort p s)
        match egPick p s with
        | none => s
        | some (k, x, committed) => match x.sendQ with
          | [] => s
          | f :: _ =>
            if f.sent = 0 && !planMatches f then planMismatch k s
            else portIdle p (sendSelected p k x committed f s)

def execEgressSelect (t : Time) (p : Port) (s : State) : Host.Outcome State Fault Refusal :=
  act t (egressSelect p.val) s

/-! ### After a takeover (10 R290) -/

/-- A gap that the host has not filled within 10 ms of the first pass ends the connection. -/
def execReceiveGapTimeout (t : Time) (conn : Nat) (s : State) : Host.Outcome State Fault Refusal :=
  act t (fun s => match connOf s conn with
    | none => s
    | some x =>
      if transmits s && !x.missing.isEmpty then
        raise 0x2111 conn (x.missing.map (·.2)).sum 0x3100 0 (resetConn conn 8 s)
      else s) s

end Sys2Proof.Machine
end

