-- ==== Sys2Proof/Machine/Commands.lean ====
section
/-! DEFINITION. Commands of hosts (03): Fabrics and admin commands, the arrival of I/O commands, data,
admission and timeouts. -/

namespace Sys2Proof.Machine

/-! ### Controllers (03 R64, R65) -/

/-- The well-known discovery NQN. -/
def discoveryNqn : Bytes := strOctets "nqn.2014-08.org.nvmexpress.discovery"

/-- Record of a table whose NQN object holds an NQN. -/
def nqnRecord (idx n : Nat) (nqn : Bytes) (s : State) : Option Nat :=
  if nqn.isEmpty then none else ((List.range n).map (· + 1)).find? fun k => decide (doct idx 0 k s = nqn)

/-- What a Connect names, once checks 1 and 2 have passed: subsystem (0 for discovery) and host record. -/
structure Assoc where
  subsys : Nat
  host : Nat
  discovery : Bool
deriving DecidableEq, Repr

/-- Checks 1 and 2 of 03 R64, on a connection to a listen port: the discovery NQN is answered at the discovery port
(03 R66). -/
def connectNames (listen : Nat) (subnqn hostnqn : Bytes) (s : State) : Except (Status × ConnectField) Assoc :=
  let disc := decide (subnqn = discoveryNqn) && decide (listen = cfg 0x3103 s)
  match (if disc then some 0 else nqnRecord 0x3201 256 subnqn s) with
  | none => .error (.connectInvalid, .subnqn)
  | some k => match nqnRecord 0x3211 1024 hostnqn s with
    | none => .error (.connectHost, .none)
    | some h =>
      if disc || (flag 0x3202 0 k s && octBit (doct 0x3203 0 k s) (h - 1)) then
        .ok { subsys := k, host := h, discovery := disc }
      else .error (.connectHost, .none)

/-- The controller an I/O-queue Connect names. -/
def connectCtrl (a : Assoc) (hostnqn : Bytes) (cntlid : Nat) (s : State) : Option Ctrl :=
  (Tbl.get? s.cmd.ctrls cntlid).filter fun c =>
    c.subsys = a.subsys && decide (c.hostNqn = hostnqn) && c.discovery = a.discovery

/-- Checks 3 and 4 of 03 R64, with the limits of R68: the failure, or none. -/
def connectLimits (a : Assoc) (hostnqn : Bytes) (qid sqsize cntlid : Nat) (s : State) :
    Option (Status × ConnectField) :=
  if qid = 0 then
    if 31 < sqsize then some (.connectInvalid, .sqsize)
    else if cntlid ≠ 0xFFFF then some (.connectInvalid, .cntlid)
    else if 2048 ≤ s.cmd.ctrls.length then some (.connectBusy, .none)
    else none
  else if 64 < qid || a.discovery then some (.connectInvalid, .qid)
  else if 1023 < sqsize then some (.connectInvalid, .sqsize)
  else match connectCtrl a hostnqn cntlid s with
    | none => some (.connectInvalid, .cntlid)
    | some c => if c.ioq.any (fun q => decide (q.1 = qid)) then some (.connectInvalid, .qid) else none

/-- A Keep Alive Timeout in the granularity of 100 ms, rounded up (03 R81; the rounding is PRESUMED from NVMe, log
entry 86). -/
def katoOf (n : Nat) : Nat := (n + 99) / 100 * 100

/-- A controller as its admin queue connects, or as a joiner takes it over. -/
def ctrlNew (k : Nat) (q : QueueInfo) : Ctrl :=
  { subsys := q.subsys, host := q.host, hostNqn := q.hostNqn, discovery := q.discovery, admin := k, ioq := [],
    kato := katoOf q.kato, lastCmd := q.lastCmd, aers := [], nsNotice := false, logNotice := false,
    logChanged := false, aenConfig := q.aenConfig, changedNs := q.changedNs, numQueues := 64, unitsRead := 0,
    unitsWritten := 0, cc := q.cc, csts := q.csts, aborts := 0, heldAborts := [], errLog := [], errCount := 0 }

/-- Attach a connection to a queue of a controller. -/
def joinQueue (k : Nat) (q : QueueInfo) (s : State) : State :=
  let add := fun (x : Ctrl) => { x with ioq := x.ioq ++ [(q.qid, k)], lastCmd := max x.lastCmd q.lastCmd }
  let f := fun (t : Tbl Ctrl) => if q.qid = 0 then Tbl.put t q.ctrl (ctrlNew k q) else Tbl.upd t q.ctrl add
  let s := s.onCmd fun c => { c with ctrls := f c.ctrls }
  onConn k (fun x => { x with
    ctrl := some q.ctrl, qid := q.qid, sqsize := q.sqsize, sqhd := 0, sqFlow := q.sqFlow, host := q.host
    connectFailed := false }) s

/-- The response to a Connect. -/
def connectReply (k cid : Nat) (st : Status) (cntlid : Nat) (f : ConnectField) (s : State) : State :=
  let s := takeHead k s
  sendHost k (.connectResp cid st cntlid f (sqhdOf k s)) 0 s

/-- A Connect fails: event 0x3201, and the connection takes no other command. A registered host is charged for the
response all the same (05 R133). -/
def connectFails (k cid : Nat) (hostnqn : Bytes) (st : Status) (f : ConnectField) (s : State) : State :=
  let h := (nqnRecord 0x3211 1024 hostnqn s).getD 0
  connectReply k cid st 0 f
    (raise 0x3201 k 0 0x3100 0 (onConn k (fun x => { x with connectFailed := true, host := h }) s))

/-- TLS of a connection, as an entry names it. -/
def tlsOpenOf (x : Conn) : Option TlsOpen :=
  if x.tls.active then some { pskRec := x.tls.pskRec, tx := x.tls.chain.txSecret, rx := x.tls.chain.rxSecret } else none

/-! ### Capsules (03 R69, R70; 04 R96, R100) -/

/-- The oldest capsule of a connection is taken as a command, with the granules that hold it; a capsule that no row
has brought before asks for those of its `n` sectors now. None: refused, and an RNR NAK answers it on RDMA. -/
def takeCapsule (k n : Nat) (s : State) : Option Nat × State := match connOf s k with
  | none => (some 0, s)
  | some x => match x.capsules with
    | g :: l => (some g, onConn k (fun x => { x with capsules := l }) s)
    | [] =>
      let r := if n = 0 then (true, s) else request (rxPool x) n s
      if r.1 then (some n, r.2)
      else (none, when (x.info.kind = .rdma && transmits s) (ctrlSend x.info.port k (.rnrNak 1)) r.2)

/-- A capsule whose command needs no data of it: its granules return. -/
def dropCapsule (k : Nat) (s : State) : State :=
  let r := takeCapsule k 0 s
  giveBack (((connOf s k).map rxPool).getD poolTcpRx) (r.1.getD 0) r.2

/-- CID of a completion. -/
def endCid (m : HostMsg) : Option Nat := match m with
  | .completion c _ _ _ _ => some c
  | _ => none

/-- CIDs outstanding on a connection's queue: commands, event requests and Aborts without a completion, and
completions not yet sent (03 R69). -/
def outstanding (k : Nat) (x : Conn) (s : State) : List Nat :=
  let cmds := (s.cmd.cmds.filter fun p => decide (p.2.src = .fabric k) && !p.2.orphan).map (·.2.cid)
  let adm := match x.ctrl.bind fun i => Tbl.get? s.cmd.ctrls i with
    | some c => if c.admin = k then c.aers ++ c.heldAborts.map Prod.fst else []
    | none => []
  let ends := (x.sendQ.filterMap fun f => endCid f.msg) ++
    (s.pair.planned.filter fun q => q.conn = k).filterMap fun q => endCid q.frame.msg
  (cmds ++ adm ++ ends).eraseDups

/-- Is a command one too many on its queue, or its CID one still outstanding? (03 R69) -/
def overrun (k : Nat) (x : Conn) (cid : Nat) (s : State) : Bool :=
  let l := outstanding k x s
  decides s && (x.sqsize + 1 ≤ l.length || l.contains cid)

/-- Fabrics Connect. The assignment of the controller ID enters the record (03 R65); a partner takes it from
there. -/
def execConnect (t : Time) (conn : Nat) (cid : Nat) (subnqn hostnqn : Bytes) (qid : Nat) (sq : SqAsk)
    (cntlid kato : Nat) (s : State) : Host.Outcome State Fault Refusal :=
  act t (fun s => match connOf s conn with
    | none => s
    | some x =>
      if !receives s || inMode [.takeover] s then s
      else
        let s := dropCapsule conn s
        if !decides s then s
        else if x.ctrl.isSome then fatalTransport conn fesSequence s
        else match connectNames x.info.listen subnqn hostnqn s with
          | .error e => connectFails conn cid hostnqn e.1 e.2 s
          | .ok a => match connectLimits a hostnqn qid sq.size cntlid s with
            | some e => connectFails conn cid hostnqn e.1 e.2 s
            | none =>
              let id := if qid = 0 then Tbl.freeFrom s.cmd.ctrls 1 (s.cmd.ctrls.length + 1) else cntlid
              let q : QueueInfo :=
                { ctrl := id, qid, sqsize := sq.size, subsys := a.subsys, host := a.host, hostNqn := hostnqn,
                  discovery := a.discovery, kato, sqFlow := sq.flow, lastCmd := s.now, aenConfig := 0, changedNs := [], cc := 0
                  csts := 0 }
              let s := joinQueue conn q (record (.connOpen conn x.info (tlsOpenOf x) (some q)) s)
              connectReply conn cid .success id .none s) s

/-! ### Admin commands -/

/-- Take the next submission entry of an attach queue: its window generation, once fetched (13 R360). -/
def takeEntry (q : Nat) (s : State) : Option (Nat × State) :=
  match Tbl.get? s.attach.sqs q with
  | some x => match x.gens with
    | g :: rest =>
      let h := if x.size ≤ x.head + 1 then 0 else x.head + 1
      some (g, s.onAttach fun a => { a with sqs := Tbl.put a.sqs q { x with head := h, gens := rest } })
    | [] => none
  | none => none

/-- Is an attach entry fetched now? The controller is enabled and Bus Master Enable is set. -/
def attachRuns (s : State) : Bool := s.attach.ccEn && s.attach.bme && !s.attach.cfs

/-- Run an admin command of a source: a fabric controller's admin queue that a Connect has opened, or the attach
admin queue. A capsule on a connection whose Connect failed ends it, and so does a command one too many or with a
CID still outstanding (03 R69). On a connection with no Connect at all the same holds (DESIGN CHOICE, log entry
87). An admin opcode is none of an I/O queue's (03 R88), and one with FUSE set is refused (03 R73). -/
def withAdmin (a : AdmCmd) (k : Option Nat → State → State) (s : State) : State :=
  let run := fun (i : Option Nat) (s : State) =>
    if a.fuse ≠ 0 then adminReply a.src a.cid .invalidField 0 none s else k i s
  match a.src with
  | .fabric c => match connOf s c with
    | none => s
    | some x =>
      if !receives s || inMode [.takeover] s then s
      else match x.ctrl with
        | none => if decides s then fatalTransport c fesSequence s else s
        | some id =>
          if overrun c x a.cid s then fatalTransport c fesSequence s
          else
            let s := onCtrl id (fun y => { y with lastCmd := s.now }) (dropCapsule c s)
            if x.qid ≠ 0 then adminReply a.src a.cid .invalidOpcode 0 none s else run (some id) s
  | .attach q =>
    if q ≠ 0 || !attachRuns s then s
    else match takeEntry 0 s with
      | some (g, s) => dropGen g (run none s)
      | none => s

/-- A Fabrics command as an admin command: it has no FUSE and no data. -/
def fabricsCmd (conn cid : Nat) : AdmCmd :=
  { src := .fabric conn, cid, fuse := 0, sgl := { typeOk := true, len := 0, addr := 0, key := 0, inval := false } }

/-- Does the descriptor of an admin command fail R91? Commands of the attach port carry PRPs. -/
def badSgl (a : AdmCmd) : Bool := match a.src with
  | .fabric _ => !a.sgl.typeOk
  | .attach _ => false

/-- Answer an admin command with data. -/
def pageReply (a : AdmCmd) (kind : Nat) (b : Bytes) (s : State) : State :=
  adminReply a.src a.cid .success 0 (some (a.sgl, kind, b)) s

/-- CAP with MPSMIN 0 (03 R91). -/
def capValue : Nat := Config.property 0 % 2 ^ 48 + Config.property 0 / 2 ^ 52 % 2 ^ 12 * 2 ^ 52

/-- Fabrics Property Get: CC and CSTS from the controller, CAP and VS as fixed (03 R68). -/
def execPropertyGet (t : Time) (conn : Nat) (cid : Nat) (offset : Nat) (s : State) :
    Host.Outcome State Fault Refusal :=
  act t (fun s => withAdmin (fabricsCmd conn cid) (fun k s =>
    let x := k.bind fun i => Tbl.get? s.cmd.ctrls i
    match x with
    | none => s
    | some x =>
      let r : Option Nat := match offset with
        | 0x00 => some capValue
        | 0x08 => some (Config.property 8)
        | 0x14 => some x.cc
        | 0x1C => some x.csts
        | _ => none
      match r with
      | some v => adminReply (.fabric conn) cid .success v none s
      | none => adminReply (.fabric conn) cid .invalidField 0 none s) s) s

/-- Fabrics Property Set: CC.EN and CC.SHN change CSTS (PRESUMED from NVMe, log entry 18). -/
def execPropertySet (t : Time) (conn : Nat) (cid : Nat) (offset value : Nat) (s : State) :
    Host.Outcome State Fault Refusal :=
  act t (fun s => withAdmin (fabricsCmd conn cid) (fun k s =>
    match k with
    | none => s
    | some id =>
      if offset = 0x14 then
        let v := BitVec.ofNat 32 value
        let csts := (if v.getLsbD 0 then 1 else 0) + (if v.getLsbD 14 || v.getLsbD 15 then 8 else 0)
        adminReply (.fabric conn) cid .success 0 none (onCtrl id (fun x => { x with cc := v.toNat, csts }) s)
      else adminReply (.fabric conn) cid .invalidField 0 none s) s) s

/-- Fabrics Disconnect: it completes, and the connection ends. -/
def execDisconnect (t : Time) (conn : Nat) (cid : Nat) (s : State) : Host.Outcome State Fault Refusal :=
  act t (fun s => match connOf s conn with
    | none => s
    | some x =>
      if !decides s || inMode [.takeover] s then s
      else if x.ctrl.isNone || overrun conn x cid s then fatalTransport conn fesSequence s
      else
        let s := takeHead conn (dropCapsule conn s)
        let last : HostMsg := if x.info.kind = .tcp then .fin else .dreq
        endConn conn 3 [.completion cid .success 0 (sqhdOf conn s) none, last] [] s) s

/-! ### Data structures (03 R66, R90, R91; 07 R193; 13 R363) -/

/-- A structure of `n` octets: the octets the spec states at their offsets, the others open. -/
def adminPage (kind n : Nat) (fields : List (Nat × Bytes)) : Bytes :=
  (List.range n).map fun i => match fields.find? fun f => f.1 ≤ i && i < f.1 + f.2.length with
    | some f => f.2.getD (i - f.1) 0
    | none => Config.pageByte kind i

/-- Octets of a string, filled with spaces. -/
def padded (n : Nat) (b : Bytes) : Bytes := b.take n ++ List.replicate (n - b.length) 0x20#8

/-- Namespaces of a subsystem, as record and NSID, by NSID. -/
def nsList (subsys : Nat) (s : State) : List (Nat × Nat) :=
  sortBy Prod.snd ((s.cmd.ns.filter fun p => dnat 0x3221 0 p.1 s = subsys).map fun p => (p.1, dnat 0x3222 0 p.1 s))

/-- SMART / Health Information. -/
def smartPage (subsys unitsRead unitsWritten : Nat) (s : State) : Bytes :=
  let ro := (nsList subsys s).any fun p => nsReadOnly p.1 s
  let wear := ((List.range 24).map fun c =>
    if (carOf s c).state = .inService then wearMean (carOf s c) else 0).foldl max 0
  let k := fun n => (n * 8 + 999) / 1000
  adminPage 2 512 [(0, [if ro then 8#8 else 0#8]), (5, leBytes 1 (min 255 (wear / 10))),
    (32, leBytes 16 (k unitsRead)), (48, leBytes 16 (k unitsWritten))]

/-- Commands Supported and Effects: the commands of 03 R87 and R88. -/
def effectsPage : Bytes :=
  let adm := [0x02, 0x06, 0x08, 0x09, 0x0A, 0x0C, 0x18]
  let io := [0x00, 0x01, 0x02, 0x08, 0x09]
  adminPage 5 4096 [(0, (List.range 256).flatMap fun i => leBytes 4 (if adm.contains i then 1 else 0)),
    (1024, (List.range 256).flatMap fun i => leBytes 4 (if io.contains i then 1 else 0))]

/-- Status field of a completion: type and code (03 R92; those of queue management are PRESUMED from NVMe, log entry
13). -/
def statusField : Status → Nat
  | .success => 0 | .invalidOpcode => 1 | .invalidField => 2 | .dataTransfer => 4 | .internal => 6 | .aborted => 7
  | .invalidNs => 0x0B | .sglLength => 0x0F | .sglType => 0x11 | .writeProtected => 0x20 | .lbaRange => 0x80
  | .invalidQueue => 0x101 | .invalidQueueSize => 0x102 | .abortLimit => 0x103 | .aerLimit => 0x105
  | .invalidLogPage => 0x109 | .notSaveable => 0x10D | .connectBusy => 0x181 | .connectInvalid => 0x182
  | .connectHost => 0x184 | .unrecovered => 0x281 | .anaInaccessible => 0x302

/-- Error Information: the newest error first, entries not used with error count 0 (the offsets are PRESUMED from
NVMe, log entry 13). -/
def errorPage (l : List ErrEntry) : Bytes :=
  adminPage 1 4096 ((l.zipIdx.flatMap fun p =>
    let o := 64 * p.2
    let e := p.1
    [(o, leBytes 8 e.number), (o + 8, leBytes 2 e.qid), (o + 10, leBytes 2 e.cid),
      (o + 12, leBytes 2 (2 * statusField e.status)), (o + 24, leBytes 4 e.nsid)]) ++
    [(64 * l.length, List.replicate (4096 - 64 * l.length) 0)])

/-- Changed Namespace List. -/
def changedPage (l : List Nat) : Bytes :=
  adminPage 4 4096 [(0, (sortBy id l).flatMap (leBytes 4) ++ List.replicate (4096 - 4 * l.length) 0)]

/-- One discovery entry: subsystem NQN, service address, port and transport, with TREQ and SECTYPE (2: TLS 1.3)
while TLS is required (03 R66). -/
def discoveryEntry (nqn addr : Bytes) (svcid trtype tls : Nat) : Bytes :=
  adminPage 0x70 1024 [(0, leBytes 1 trtype), (3, leBytes 1 tls), (32, leBytes 32 svcid), (256, nqn ++ List.replicate (256 - nqn.length) 0),
    (512, addr), (768, leBytes 1 (2 * tls))]

/-- Discovery log: one entry for each enabled subsystem the host may use, served address and transport, and
one for the discovery subsystem at each served address. -/
def discoveryPage (host : Nat) (s : State) : Bytes :=
  let svcs := (List.range 64).filter fun k => ((atNat s.net.svcs k).map (·.served)).getD false
  let subs := ((List.range 256).map (· + 1)).filter fun k =>
    flag 0x3202 0 k s && octBit (doct 0x3203 0 k s) (host - 1)
  let tls := if cfg 0x3110 s = 1 then 1 else 0
  let l := svcs.flatMap fun v =>
    let a := doct 0x3020 (v + 1) 0 s
    (subs.flatMap fun k =>
      [discoveryEntry (doct 0x3201 0 k s) a (cfg 0x3102 s) 3 tls, discoveryEntry (doct 0x3201 0 k s) a 4791 1 0]) ++
      [discoveryEntry discoveryNqn a (cfg 0x3103 s) 3 tls]
  adminPage 0x71 1024 [(8, leBytes 8 l.length)] ++ l.flatten

/-- Asymmetric Namespace Access: one group with every namespace (13 R363). -/
def anaPage (s : State) : Bytes :=
  let l := (nsList (cfg 0x6203 s) s).flatMap fun p => leBytes 4 p.2
  adminPage 0x0C (48 + l.length) [(8, leBytes 2 1), (16, leBytes 4 1), (20, leBytes 4 (l.length / 4)),
    (32, leBytes 1 (if attachOptimized s then 1 else 3)), (48, l)]

/-- Log page of a controller other than discovery: its octets, and the state once it is read (03 R90; 13 R363). -/
def logPage (k : Option Nat) (lid : Nat) (retain : Bool) (s : State) : Option (Bytes × State) :=
  let x := k.bind fun i => Tbl.get? s.cmd.ctrls i
  let sub := (x.map (·.subsys)).getD (cfg 0x6203 s)
  let a := s.attach
  match lid with
  | 1 => some (errorPage ((x.map (·.errLog)).getD a.errLog), s)
  | 2 => some (smartPage sub ((x.map (·.unitsRead)).getD a.unitsRead) ((x.map (·.unitsWritten)).getD a.unitsWritten) s, s)
  | 4 =>
    let read := fun (s : State) => match k with
      | some i => onCtrl i (fun x => { x with changedNs := [], nsNotice := false }) s
      | none => s.onAttach fun a => { a with changedNs := [], nsNotice := false }
    some (changedPage ((x.map (·.changedNs)).getD a.changedNs), when (!retain) read s)
  | 5 => some (effectsPage, s)
  | 0x0C =>
    if k.isSome then none
    else some (anaPage s, when (!retain) (fun s => s.onAttach fun a =>
      { a with anaNotice := false, anaChanged := false }) s)
  | _ => none

/-- Log page of the discovery controller (03 R66). -/
def discPage (i : Nat) (x : Ctrl) (lid : Nat) (retain : Bool) (s : State) : Option (Bytes × State) :=
  if lid = 0x70 then
    some (discoveryPage x.host s,
      when (!retain) (onCtrl i fun x => { x with logNotice := false, logChanged := false }) s)
  else none

/-- Get Log Page (03 R90): reading a page clears the notice it answers unless the host retains it. -/
def execGetLogPage (t : Time) (h : AdmHead) (cid : Nat) (lid : Nat) (retain : Bool) (s : State) :
    Host.Outcome State Fault Refusal :=
  act t (fun s => withAdmin { toAdmHead := h, cid } (fun k s =>
    let disc := k.bind fun i => ((Tbl.get? s.cmd.ctrls i).filter (·.discovery)).map fun x => (i, x)
    let page := match disc with
      | some (i, x) => discPage i x lid retain s
      | none => logPage k lid retain s
    match page with
    | none => adminReply h.src cid .invalidLogPage 0 none s
    | some (b, s') => if badSgl { toAdmHead := h, cid } then adminReply h.src cid .sglType 0 none s else pageReply { toAdmHead := h, cid } lid b s') s) s

/-- SGLS: none on the attach port; keyed data blocks on RDMA only (03 R91). -/
def sglsOf (a : AdmCmd) (s : State) : Nat := match a.src with
  | .attach _ => 0
  | .fabric k => if (connOf s k).any fun x => x.info.kind = .rdma then 0x100005 else 0x100001

/-- Identify Controller (03 R91; 13 R356). A fabric controller reports no ANA (03 R67; the bits of CMIC are PRESUMED
from NVMe, log entry 13). -/
def identifyCtrl (a : AdmCmd) (k : Option Nat) (sub : Nat) (disc : Bool) (s : State) : Bytes :=
  let attach := k.isNone
  let id := k.getD (if s.ident.pairIdHigh then 0xFFEE else 0xFFEF)
  adminPage 0x101 4096 [(4, padded 20 (doct 0x3204 0 sub s)), (24, padded 40 (strOctets "AELLEN AL2432")),
    (76, leBytes 1 (if attach then 0x0A else 0x02)),
    (77, leBytes 1 11), (78, leBytes 2 id), (111, leBytes 1 (if disc then 2 else 1)), (258, leBytes 1 7),
    (259, leBytes 1 3), (320, leBytes 2 (if attach then 0 else 1)), (344, leBytes 4 (if attach then 1 else 0)),
    (514, leBytes 2 1024), (516, leBytes 4 2048), (520, leBytes 2 12), (522, leBytes 2 0), (525, leBytes 1 0),
    (526, leBytes 2 0), (528, leBytes 2 0), (536, leBytes 4 (sglsOf a s)),
    (1792, leBytes 4 (if attach then 0 else 516)), (1796, leBytes 4 (if attach then 0 else 1)),
    (1800, leBytes 2 0)]

/-- Identify Namespace (03 R63, R67, R74): no metadata, no protection; NSATTR bit 0 while READ_ONLY. -/
def identifyNs (ns : Nat) (attach : Bool) (s : State) : Bytes :=
  let n := leBytes 8 (nsSize ns s)
  adminPage 0x100 4096 [(0, n), (8, n), (25, [0]), (26, [0]), (27, [0]), (28, [0]), (29, [0]), (34, leBytes 2 0),
    (36, leBytes 2 0), (38, leBytes 2 0),
    (92, leBytes 4 (if attach then 1 else 0)), (99, [if nsReadOnly ns s then 1#8 else 0#8]),
    (104, doct 0x3224 0 ns s), (128, leBytes 2 0), (130, [12])]

/-- The structure that CNS names, or the status it fails with (03 R87). -/
def identifyPage (a : AdmCmd) (k : Option Nat) (cns nsid : Nat) (s : State) : Except Status Bytes :=
  let x := k.bind fun i => Tbl.get? s.cmd.ctrls i
  let sub := (x.map (·.subsys)).getD (cfg 0x6203 s)
  match cns with
  | 0 => match nsOf sub nsid s with
    | some ns => .ok (identifyNs ns k.isNone s)
    | none => .error .invalidNs
  | 1 => .ok (identifyCtrl a k sub ((x.map (·.discovery)).getD false) s)
  | 2 =>
    let l := ((nsList sub s).map Prod.snd).filter fun n => nsid < n
    .ok (adminPage 0x102 4096 [(0, l.flatMap (leBytes 4) ++ List.replicate (4096 - 4 * l.length) 0)])
  | 3 => match nsOf sub nsid s with
    | some ns => .ok (adminPage 0x103 4096 [(0, [2#8, 16#8, 0, 0] ++ doct 0x3224 0 ns s ++ List.replicate 4076 0)])
    | none => .error .invalidNs
  | _ => .error .invalidField

/-- Identify: CNS 00h, 01h, 02h and 03h (03 R87). -/
def execIdentify (t : Time) (h : AdmHead) (cid : Nat) (cns nsid : Nat) (s : State) : Host.Outcome State Fault Refusal :=
  act t (fun s => withAdmin { toAdmHead := h, cid } (fun k s =>
    match identifyPage { toAdmHead := h, cid } k cns nsid s with
    | .error st => adminReply h.src cid st 0 none s
    | .ok b => if badSgl { toAdmHead := h, cid } then adminReply h.src cid .sglType 0 none s else pageReply { toAdmHead := h, cid } (cns + 0x100) b s) s) s

/-- Abort: at most eight in progress on a controller. A partner keeps it until its outcome is recorded (10
R289). -/
def execAbort (t : Time) (h : AdmHead) (cid : Nat) (sqid target : Nat) (s : State) : Host.Outcome State Fault Refusal :=
  act t (fun s => withAdmin { toAdmHead := h, cid } (fun k s =>
    match k with
    | none => applyAbort h.src cid none sqid target s
    | some i => match Tbl.get? s.cmd.ctrls i with
      | none => s
      | some x =>
        if 8 ≤ x.aborts + x.heldAborts.length then adminReply h.src cid .abortLimit 0 none s
        else if decides s then
          let s := when s.pair.paired (onCtrl i fun x => { x with aborts := x.aborts + 1 }) s
          applyAbort h.src cid k sqid target s
        else onCtrl i (fun x => { x with heldAborts := x.heldAborts ++ [(cid, sqid, target)] }) s) s) s

/-- Set Features (03 R89; 13 R356: Keep Alive is not supported on the attach controller). SV decides before the
feature identifier is looked at (DESIGN CHOICE, log entry 88). -/
def execSetFeatures (t : Time) (h : AdmHead) (cid : Nat) (fid : Nat) (save : Bool) (dw11 : Nat) (s : State) :
    Host.Outcome State Fault Refusal :=
  act t (fun s => withAdmin { toAdmHead := h, cid } (fun k s =>
    let done := fun (v : Nat) (s : State) => adminReply h.src cid .success v none s
    if save then adminReply h.src cid .notSaveable 0 none s
    else match fid, k with
      | 0x07, _ => done (63 + 63 * 65536) s
      | 0x0B, some i => done 0 (onCtrl i (fun x => { x with aenConfig := dw11 }) s)
      | 0x0B, none => done 0 (s.onAttach fun a => { a with features := dw11 })
      | 0x0F, some i => done 0 (onCtrl i (fun x => { x with kato := katoOf dw11 }) s)
      | _, _ => adminReply h.src cid .invalidField 0 none s) s) s

/-- Get Features: SEL 00b gives the current value, 11b the capabilities: changeable, not saveable. -/
def execGetFeatures (t : Time) (h : AdmHead) (cid : Nat) (fid : Nat) (sel : BitVec 3) (s : State) :
    Host.Outcome State Fault Refusal :=
  act t (fun s => withAdmin { toAdmHead := h, cid } (fun k s =>
    let x := k.bind fun i => Tbl.get? s.cmd.ctrls i
    let v : Option Nat := match fid, k with
      | 0x07, _ => some (63 + 63 * 65536)
      | 0x0B, _ => some ((x.map (·.aenConfig)).getD s.attach.features)
      | 0x0F, some _ => some ((x.map (·.kato)).getD 0)
      | _, _ => none
    match v with
    | none => adminReply h.src cid .invalidField 0 none s
    | some v =>
      if sel = 0 then adminReply h.src cid .success v none s
      else if sel = 3 then adminReply h.src cid .success 4 none s
      else adminReply h.src cid .invalidField 0 none s) s) s

/-- What a controller has not been told yet is told with its next event request: a changed namespace, or a change of
the discovery log (03 R66, R67). -/
def tellOwed (i : Nat) (s : State) : State := match Tbl.get? s.cmd.ctrls i with
  | none => s
  | some x =>
    if !x.changedNs.isEmpty && !x.nsNotice && noticeOn x.aenConfig 8 then
      notice i nsNoticeDw (onCtrl i (fun x => { x with nsNotice := true }) s)
    else if x.logChanged && !x.logNotice && noticeOn x.aenConfig 31 then
      notice i discNoticeDw (onCtrl i (fun x => { x with logNotice := true, logChanged := false }) s)
    else s

/-- The same on the attach controller (13 R363). -/
def attachTellOwed (s : State) : State :=
  let a := s.attach
  if !a.changedNs.isEmpty && !a.nsNotice && noticeOn a.features 8 then
    attachNotice nsNoticeDw (s.onAttach fun a => { a with nsNotice := true })
  else if a.anaChanged then attachAnaChanged s
  else s

/-- Asynchronous Event Request: four outstanding at most. A change not yet told completes it at once. -/
def execAsynchronousEventRequest (t : Time) (h : AdmHead) (cid : Nat) (s : State) : Host.Outcome State Fault Refusal :=
  act t (fun s => withAdmin { toAdmHead := h, cid } (fun k s => match k with
    | none =>
      if 4 ≤ s.attach.aers.length then adminReply h.src cid .aerLimit 0 none s
      else attachTellOwed (s.onAttach fun b => { b with aers := b.aers ++ [cid] })
    | some i => match Tbl.get? s.cmd.ctrls i with
      | none => s
      | some x =>
        if 4 ≤ x.aers.length then adminReply h.src cid .aerLimit 0 none s
        else
          let s := onCtrl i (fun x => { x with aers := x.aers ++ [cid] }) s
          when (decides s) (tellOwed i) s) s) s

/-- Keep Alive: the timer of the controller starts again (03 R81). The attach controller has none (13 R356). -/
def execKeepAlive (t : Time) (h : AdmHead) (cid : Nat) (s : State) : Host.Outcome State Fault Refusal :=
  act t (fun s => withAdmin { toAdmHead := h, cid } (fun k s =>
    adminReply h.src cid (if k.isSome then .success else .invalidOpcode) 0 none s) s) s

/-- Any opcode that 03 R87 and R88 do not list completes with 01h. -/
def execInvalidOpcode (t : Time) (src : Src) (cid : Nat) (opc : BitVec 8) (s : State) :
    Host.Outcome State Fault Refusal :=
  act t (fun s =>
    let _ := opc
    match src with
    | .fabric c => withAdmin (fabricsCmd c cid) (fun _ s => adminReply src cid .invalidOpcode 0 none s) s
    | .attach q =>
      if !attachRuns s then s
      else match takeEntry q s with
        | some (g, s) =>
          postCqe q cid .invalidOpcode 0 (dropGen g s)
        | none => s) s

/-! ### Queues of the attach controller (13 R356) -/

/-- Is a queue number one of the 64 I/O queues, and a size in range? -/
def queueStatus (qid size : Nat) : Option Status :=
  if qid = 0 || 64 < qid then some .invalidQueue
  else if size = 0 || 1024 < size then some .invalidQueueSize
  else none

def attQNew (size cq : Nat) : AttQ := { size, head := 0, tail := 0, cq, gens := [] }

/-- Run an admin command of the attach controller. -/
def attachAdmin (cid : Nat) (k : State → Status × State) (s : State) : State :=
  withAdmin { fabricsCmd 0 cid with src := .attach 0 } (fun _ s =>
    let r := k s
    adminReply (.attach 0) cid r.1 0 none r.2) s

def execCreateIoSq (t : Time) (cid : Nat) (qid size cqid : Nat) (s : State) : Host.Outcome State Fault Refusal :=
  act t (attachAdmin cid fun s => match queueStatus qid size with
    | some st => (st, s)
    | none =>
      if Tbl.has s.attach.sqs qid || !Tbl.has s.attach.cqs cqid || cqid = 0 then (.invalidQueue, s)
      else (.success, s.onAttach fun a => { a with sqs := Tbl.put a.sqs qid (attQNew size cqid) })) s

def execCreateIoCq (t : Time) (cid : Nat) (qid size : Nat) (s : State) : Host.Outcome State Fault Refusal :=
  act t (attachAdmin cid fun s => match queueStatus qid size with
    | some st => (st, s)
    | none =>
      if Tbl.has s.attach.cqs qid then (.invalidQueue, s)
      else (.success, s.onAttach fun a => { a with cqs := Tbl.put a.cqs qid (attQNew size qid) })) s

/-- Deleting a queue ends its commands as the end of a connection does (03 R82; 13 R361). -/
def execDeleteIoSq (t : Time) (cid : Nat) (qid : Nat) (s : State) : Host.Outcome State Fault Refusal :=
  act t (attachAdmin cid fun s =>
    if qid = 0 || !Tbl.has s.attach.sqs qid then (.invalidQueue, s)
    else
      let s := each (s.cmd.cmds.filter fun p => decide (p.2.src = .attach qid)) (fun p s => orphanCmd p.1 p.2 s) s
      (.success, s.onAttach fun a => { a with sqs := Tbl.del a.sqs qid })) s

def execDeleteIoCq (t : Time) (cid : Nat) (qid : Nat) (s : State) : Host.Outcome State Fault Refusal :=
  act t (attachAdmin cid fun s =>
    if qid = 0 || !Tbl.has s.attach.cqs qid || (s.attach.sqs.any fun p => p.2.cq = qid) then (.invalidQueue, s)
    else (.success, s.onAttach fun a => { a with cqs := Tbl.del a.cqs qid })) s

/-! ### Arrival of I/O commands (03 R69 to R73; 13 R356, R360) -/

/-- A command as it arrives, with the granules of a pool that hold its in-capsule data. -/
def cmdNew (o : Opc) (c : IoCmd) (ns host : Nat) (inCap : Option (List Bytes)) (gran pool gen : Nat)
    (ranges : List (Nat × Nat)) : Cmd :=
  let n := if o.moves then c.nlb else 0
  { src := c.src, cid := c.cid, opc := o, ns, nsid := c.nsid, slba := c.slba, nlb := c.nlb,
    trump := c.trump && o ≠ .flush, host, cls := none, phase := .startQ,
    data := match inCap with
      | some l => (List.range n).map fun i => l[i]?
      | none => List.replicate n none
    enc := [], ttag := 0, sgl := c.sgl, inCapsule := inCap.isSome, granules := gran, pool, buf := none, status := .success, cycle := 0,
    ranges, orphan := false, gen, bar2 := none, bmeHeld := false, waitsKey := false }

/-- Put a command in the table. -/
def enterCmd (c : Cmd) (s : State) : Nat × State :=
  (s.cmd.nextCmd, s.onCmd fun d => { d with
    cmds := Tbl.put d.cmds d.nextCmd c, nextCmd := d.nextCmd + 1 })

/-- The status of a command decides at once, or the command goes to admission; a partner holds it with its status
until the records say (03 R79). An attach command of a module that does not decide reaches an inaccessible
controller (13 R363). -/
def judge (id : Nat) (st : Status) (s : State) : State :=
  let attach := match (cmdOf s id).map (·.src) with
    | some (.attach _) => true
    | _ => false
  if !decides s then
    if attach then complete id (if st = .success then .anaInaccessible else st) s
    else takeAhead id (onCommand id (fun c => { c with status := st }) s)
  else if st = .success then admitCmd id s else complete id st s

/-- Has a module that does not decide taken a command already? Its capsule has come again after it was discarded (02
R56). -/
def known (k cid : Nat) (s : State) : Bool := s.cmd.cmds.any fun p =>
  decide (p.2.src = .fabric k) && p.2.cid = cid && !p.2.orphan && decide (p.2.phase ≠ .completing)

/-- A command of the same CID whose completion the host has, though no acknowledgement of it has come here. -/
def dropEnded (k cid : Nat) (s : State) : State :=
  if decides s then s
  else each ((s.cmd.cmds.filter fun p =>
    decide (p.2.src = .fabric k) && p.2.cid = cid && !p.2.orphan).map Prod.fst) releaseCmd s

/-- A fabric command: the fatal cases of 03 R69, a context and granules of R70, then its status. A command on a
connection with no Connect is one of them (DESIGN CHOICE, log entry 87). -/
def fabricIo (o : Opc) (c : IoCmd) (k : Nat) (x : Conn) (dealloc : Bool) (ranges : List (Nat × Nat))
    (inCap : Option (List Bytes)) (s : State) : State :=
  let n := (inCap.map List.length).getD 0
  match x.ctrl with
  | none => if decides s then fatalTransport k fesSequence s else s
  | some id =>
    if overrun k x c.cid s then fatalTransport k fesSequence s
    else if !decides s && known k c.cid s then dropCapsule k s
    else if decides s && decide (2 < n) then fatalTransport k fesLimit s
    else if x.qid = 0 then adminReply c.src c.cid .invalidOpcode 0 none (dropCapsule k s)
    else if contextsFull s then
      let s := noteFull (dropCapsule k s)
      when (x.info.kind = .rdma && transmits s) (ctrlSend x.info.port k (.rnrNak 1)) s
    else
      let r := takeCapsule k n s
      match r.1 with
      | none => r.2
      | some g =>
        let s := onCtrl id (fun y => { y with lastCmd := s.now }) (if n = 0 then giveBack (rxPool x) g r.2 else r.2)
        let st := statusOf o c (subsysOf c.src s) dealloc ranges s
        let s := dropEnded k c.cid s
        let e := enterCmd (cmdNew o c st.2 x.host inCap (if n = 0 then 0 else g) (rxPool x) 0 ranges) s
        judge e.1 st.1 e.2

/-- The store range that PRP entries into BAR2 name, under a generation (13 R360). -/
def resolveBar2 (off n gen : Nat) (s : State) : Option Nat :=
  let wins := if gen = s.attach.gen then s.attach.active else ((Tbl.get? s.attach.gens gen).getD s.attach.active)
  match atNat wins (off / 67108864) with
  | some w =>
    let o := off % 67108864
    if w.enable && o + n ≤ w.length * 4096 then some (w.offset * 4096 + o) else none
  | none => none

/-- An attach command: its entry is fetched when a context is free; PRPs into the module's own BAR2 resolve
under the generation of its doorbell, or the command completes with 04h at its dispatch. -/
def attachIo (o : Opc) (c : IoCmd) (q : Nat) (dealloc : Bool) (ranges : List (Nat × Nat)) (s : State) : State :=
  if !attachRuns s || q = 0 || contextsFull s then s
  else match takeEntry q s with
    | none => s
    | some (g, s) =>
      let st := statusOf o c (cfg 0x6203 s) dealloc ranges s
      let cmd := cmdNew o c st.2 (attachHost s) none 0 poolAttach g ranges
      let cmd := match c.bar2 with
        | some off => match resolveBar2 off (c.nlb * 4096) g s with
          | some a => { cmd with bar2 := some a }
          | none => { cmd with status := if o.moves then .dataTransfer else .success }
        | none => cmd
      let e := enterCmd cmd s
      judge e.1 st.1 e.2

/-- An I/O command arrives. -/
def ioArrive (o : Opc) (c : IoCmd) (dealloc : Bool) (ranges : List (Nat × Nat)) (inCap : Option (List Bytes))
    (s : State) : State :=
  match c.src with
  | .fabric k =>
    if !receives s || inMode [.takeover] s then s
    else match connOf s k with
      | some x => fabricIo o c k x dealloc ranges inCap s
      | none => s
  | .attach q => attachIo o c q dealloc ranges s

def execFlush (t : Time) (c : IoCmd) (s : State) : Host.Outcome State Fault Refusal :=
  act t (ioArrive .flush c false [] none) s

def execRead (t : Time) (c : IoCmd) (s : State) : Host.Outcome State Fault Refusal :=
  act t (ioArrive .read c false [] none) s

def execWrite (t : Time) (c : IoCmd) (inCapsule : Option (List Bytes)) (s : State) :
    Host.Outcome State Fault Refusal :=
  act t (ioArrive .write c false [] inCapsule) s

def execWriteZeroes (t : Time) (c : IoCmd) (s : State) : Host.Outcome State Fault Refusal :=
  act t (ioArrive .writeZeroes c false [] none) s

/-- Dataset Management: ranges as first sector and count. -/
def execDatasetManagement (t : Time) (c : IoCmd) (deallocate : Bool) (ranges : List (Nat × Nat)) (s : State) :
    Host.Outcome State Fault Refusal :=
  act t (ioArrive .dsm c deallocate (if deallocate then ranges else []) none) s

/-- A partner that got no granules for a write discards its data and records the positions it missed: the bytes end
at the receive position (04 R100; which positions they are is DEDUCED, log entry 89). -/
def missData (conn ttag n : Nat) (s : State) : State :=
  let waits := s.cmd.cmds.any fun p =>
    decide (p.2.src = .fabric conn) && p.2.ttag = ttag && decide (p.2.phase = .solicit)
  match connOf s conn with
  | some x => if waits then noteMissed conn (x.rxNext - 4096 * n) (4096 * n) s else s
  | none => s

/-- Write data of an R2T: an unknown tag or bytes outside the range are fatal (03 R69). -/
def execH2cData (t : Time) (conn : Nat) (ttag off : Nat) (sectors : List Bytes) (s : State) :
    Host.Outcome State Fault Refusal :=
  act t (fun s =>
    if !receives s || inMode [.takeover] s || (connOf s conn).isNone then s
    else match s.cmd.cmds.find? fun p =>
        decide (p.2.src = .fabric conn) && p.2.ttag = ttag && decide (p.2.phase = .receiving) with
      | none =>
        if decides s then fatalTransport conn fesInvalidHeader s else missData conn ttag sectors.length s
      | some (id, c) =>
        if c.nlb < off + sectors.length then (if decides s then fatalTransport conn fesOutOfRange s else s)
        else takeData id off sectors s) s

/-! ### Held and waiting commands (03 R72, R85) -/

/-- Key of a held command's queue: host and namespace. -/
def heldKey (c : Cmd) : Nat := c.host * 4096 + c.ns

/-- Queues with held commands, the one after `last` first. -/
def heldKeys (last : Nat) (s : State) : List Nat :=
  let l := sortBy id (((s.cmd.cmds.filter fun p => p.2.phase = .held).map fun p => heldKey p.2).eraseDups)
  (l.filter fun k => last < k) ++ l.filter fun k => k ≤ last

/-- Re-test the head of one queue. -/
def retestHead (k : Nat) (s : State) : State :=
  match s.cmd.cmds.find? fun p => p.2.phase = .held && heldKey p.2 = k with
  | none => s
  | some (id, c) =>
    if (admission c s).isSome then admitCmd id (s.onCmd fun d => { d with rrLast := k }) else s

/-- Re-test the heads in round-robin order until a round admits none. -/
def retestRounds : Nat → State → State
  | 0, s => s
  | n + 1, s =>
    let held := (s.cmd.cmds.filter fun p => p.2.phase = .held).length
    let s' := each (heldKeys s.cmd.rrLast s) retestHead s
    if (s'.cmd.cmds.filter fun p => p.2.phase = .held).length = held then s' else retestRounds n s'

/-- Buckets refill and contexts are released: held commands are tested again. QUIESCED holds them (10
R297). -/
def execAdmissionRetest (t : Time) (s : State) : Host.Outcome State Fault Refusal :=
  act t (fun s =>
    if !decides s || inMode [.quiesced, .takeover] s then s else retestRounds (s.cmd.cmds.length + 1) s) s

/-- Commands of a queue that wait on an ordered command start, in order of arrival. -/
def execCommandStart (t : Time) (src : Src) (s : State) : Host.Outcome State Fault Refusal :=
  act t (fun s =>
    if !decides s || inMode [.takeover] s then s
    else each ((s.cmd.cmds.filter fun p =>
      decide (p.2.src = src) && decide (p.2.phase = .waiting)).map Prod.fst) tryStart s) s

/-- No command within the Keep Alive Timeout: the controller is deleted (03 R81). -/
def execKeepAliveExpired (t : Time) (ctrl : Nat) (s : State) : Host.Outcome State Fault Refusal :=
  act t (fun s => match Tbl.get? s.cmd.ctrls ctrl with
    | none => s
    | some x =>
      if transmits s && x.kato ≠ 0 && x.lastCmd + x.kato * milli ≤ s.now then
        deleteCtrl ctrl (raise 0x3202 ctrl x.kato 0x3100 0 s)
      else s) s

end Sys2Proof.Machine
end

