-- ==== Sys2Proof/Machine/Attach.lean ====
section
/-! DEFINITION. The attach port (13): its link and resets, the queues and doorbells of its NVMe
controller, the windows and their generations, peer transactions, Bus Master Enable and host reads. -/

namespace Sys2Proof.Machine

/-! ### Link and resets (13 R351, R357, R361) -/

/-- Release every queue of the controller: held commands drop without completion, entries not fetched give
their generations back, and results of dispatched commands are discarded (13 R361). -/
def clearCtrl (s : State) : State :=
  let s := dropAttachCmds s
  let s := each s.attach.sqs (fun p s => each p.2.gens dropGen s) s
  s.onAttach fun a => { a with
    ccEn := false, cfs := false, sqs := [], cqs := [], aers := [], features := 0, changedNs := [],
    nsNotice := false, anaNotice := false, anaChanged := false, unitsRead := 0, unitsWritten := 0, errLog := []
    errCount := 0, heldCqes := [], pba := [] }

/-- A reset of the function: the controller, Bus Master Enable, read tags, mailbox, store and windows. -/
def resetFunction (s : State) : State :=
  let s := clearCtrl s
  let s := giveBack poolAttach s.attach.storeSize s
  s.onAttach fun a => { a with
    bme := false, tags := [], storeSize := 0, store := [],
    shadow := Vector.replicate 16 Win.reset, active := Vector.replicate 16 Win.reset,
    gens := [], commitResult := 0, mboxBusy := false, mboxReady := false, mboxLen := 0 }

/-- The link goes down: event 0x6202. -/
def attachDown (s : State) : State :=
  if s.attach.speed = 0 then s
  else raise 0x6202 0 0 0x6201 0 (s.onAttach fun a => { a with speed := 0, width := 0 })

/-- Ask for the window store: granted whole and zeroed, or refused with event 0x6205. -/
def grantStore (s : State) : State :=
  let n := cfg 0x6205 s
  if s.attach.storeSize ≠ 0 || n = 0 then s
  else
    let r := request poolAttach n s
    if r.1 then r.2.onAttach fun a => { a with storeSize := n, store := [] }
    else raise 0x6205 0 n 0x6205 0 r.2

/-- The link comes up. The port is off while ATTACH_ENABLE is 0. -/
def execAttachLinkUp (t : Time) (speed width : Nat) (s : State) : Host.Outcome State Fault Refusal :=
  act t (fun s =>
    if cfg 0x6200 s = 0 || s.ident.noAttach || !lanesOn s then s
    else
      let s := s.onAttach fun a => { a with speed, width, perst := false }
      grantStore (raise 0x6201 0 (width * 16 + speed) 0x6201 0 s)) s

def execAttachLinkDown (t : Time) (s : State) : Host.Outcome State Fault Refusal :=
  act t attachDown s

/-- ATT_PERST_N low keeps the endpoint in reset. -/
def execAttPerstAssert (t : Time) (s : State) : Host.Outcome State Fault Refusal :=
  act t (fun s => attachDown (resetFunction (s.onAttach fun a => { a with perst := true }))) s

/-- A hot reset takes the link down with the function. -/
def execHotReset (t : Time) (s : State) : Host.Outcome State Fault Refusal :=
  act t (fun s => attachDown (resetFunction s)) s

/-- A Function Level Reset leaves the link as it is. -/
def execFunctionLevelReset (t : Time) (s : State) : Host.Outcome State Fault Refusal :=
  act t resetFunction s

/-- ATTACH_ENABLE (13 R351); the -SN variant refuses 1 (17 R451). -/
def attachEnableCheck (c : WCtx) (s : State) : EpStatus := refuseIf (s.ident.noAttach && c.nat = 1) .range

/-- The port is off while the object is 0. -/
def attachEnableApplied (on : Bool) (s : State) : State := if on then s else attachDown (resetFunction s)

def attachEnableEffect (c : WCtx) (s : State) : State := attachEnableApplied (c.nat ≠ 0) (storeOne c s)

def execAttachEnable (t : Time) (w : Write) (s : State) : Host.Outcome State Fault Refusal :=
  act t (fun s => writeObject 0x6200 attachEnableCheck attachEnableEffect w s) s

/-! ### The controller and its doorbells (13 R354, R356, R360) -/

/-- Is the endpoint there to take a transaction of the host? -/
def endpointUp (s : State) : Bool := s.attach.speed ≠ 0

/-- CC.EN is set: the admin queues have the sizes of AQA, in entries. Sizes above 32 entries, an AQA over 31,
set CSTS.CFS. -/
def execCcEnable (t : Time) (asqSize acqSize : Nat) (s : State) : Host.Outcome State Fault Refusal :=
  act t (fun s =>
    if !endpointUp s || s.attach.ccEn then s
    else if 32 < asqSize || 32 < acqSize then
      raise 0x6205 0 asqSize 0x6201 0 (s.onAttach fun a => { a with ccEn := true, cfs := true })
    else s.onAttach fun a => { a with
      ccEn := true, sqs := [(0, attQNew asqSize 0)], cqs := [(0, attQNew acqSize 0)] }) s

def execCcDisable (t : Time) (s : State) : Host.Outcome State Fault Refusal :=
  act t (fun s => if endpointUp s then clearCtrl s else s) s

/-- A submission doorbell: every entry it adds records the generation in force. A tail outside the queue is
ignored. -/
def sqDoorbell (qid tail : Nat) (s : State) : State := match Tbl.get? s.attach.sqs qid with
  | none => s
  | some q =>
    if q.size ≤ tail then s
    else
      let n := (tail + q.size - q.tail) % q.size
      if n = 0 then s
      else s.onAttach fun a => { a with
        sqs := Tbl.put a.sqs qid { q with tail := tail, gens := q.gens ++ List.replicate n a.gen }
        genUsers := Tbl.add a.genUsers a.gen n }

def execSqTailDoorbell (t : Time) (qid tail : Nat) (s : State) : Host.Outcome State Fault Refusal :=
  act t (fun s => if endpointUp s && s.attach.ccEn && !s.attach.cfs then sqDoorbell qid tail s else s) s

/-- A completion head doorbell frees entries, and completions that wait for room are written. -/
def cqDoorbell (qid head : Nat) (s : State) : State := match Tbl.get? s.attach.cqs qid with
  | none => s
  | some q =>
    if q.size ≤ head then s
    else drainCqes (s.onAttach fun a => { a with cqs := Tbl.put a.cqs qid { q with head := head } })

def execCqHeadDoorbell (t : Time) (qid head : Nat) (s : State) : Host.Outcome State Fault Refusal :=
  act t (fun s => if endpointUp s && s.attach.ccEn then cqDoorbell qid head s else s) s

/-! ### Windows (13 R357 to R359) -/

/-- Does a window set lie inside the store? LENGTH is 16,384 granules at most. -/
def winInside (w : Win) (store : Nat) : Bool := w.length ≤ 16384 && w.offset + w.length ≤ store

/-- Result of a commit: 3 no store, 1 a named set outside it, 2 eight generations still held, 0 applied. -/
def commitResult (mask : BitVec 16) (a : Attach) : Nat :=
  if a.storeSize = 0 then 3
  else if (List.range 16).any (fun w => mask.getLsbD w &&
      !winInside ((atNat a.shadow w).getD Win.reset) a.storeSize) then 1
  else if 8 ≤ a.genUsers.length then 2
  else 0

/-- The named shadow sets come into force together, as a new generation; the old one is kept while a command
that recorded it has not completed. -/
def applyCommit (mask : BitVec 16) (a : Attach) : Attach :=
  { a with
    gens := if Tbl.has a.genUsers a.gen then Tbl.put a.gens a.gen a.active else a.gens
    gen := a.gen + 1
    active := Vector.ofFn fun w : Fin 16 => if mask.getLsbD w.val then a.shadow[w.val] else a.active[w.val] }

/-- A write to WIN_COMMIT, with the shadow sets written since the last. -/
def winCommit (mask : BitVec 16) (shadow : List (Fin 16 × Win)) (s : State) : State :=
  let s := s.onAttach fun a => { a with
    shadow := shadow.foldl (fun v p => v.set p.1.val p.2 p.1.isLt) a.shadow }
  let r := commitResult mask s.attach
  let s := s.onAttach fun a => { a with commitResult := r }
  if r = 0 then bump 0x6209 0 1 (s.onAttach (applyCommit mask))
  else raise 0x6204 0 r 0x6209 0 s

def execWinCommit (t : Time) (mask : BitVec 16) (shadow : List (Fin 16 × Win)) (s : State) :
    Host.Outcome State Fault Refusal :=
  act t (fun s => if endpointUp s then winCommit mask shadow s else s) s

/-- Store position of a peer transaction, if its window allows it. -/
def peerAt (write : Bool) (win : Fin 16) (off len : Nat) (a : Attach) : Option Nat :=
  let w := a.active[win.val]
  if w.enable && (if write then w.peerWrite else w.peerRead) && off + len ≤ w.length * 4096 then
    some (w.offset * 4096 + off)
  else none

/-- A peer transaction that is refused: an advisory non-fatal error, counted. -/
def peerRefused (s : State) : State := emit (.attachAer false) (bump 0x620A 0 1 s)

def peerWrite (win : Fin 16) (off : Nat) (bytes : Bytes) (s : State) : State :=
  match peerAt true win off bytes.length s.attach with
  | some p => s.onAttach fun a => { a with store := storeBytes p bytes a.store }
  | none => peerRefused s

def execPeerWrite (t : Time) (win : Fin 16) (off : Nat) (bytes : Bytes) (s : State) :
    Host.Outcome State Fault Refusal :=
  act t (fun s => if endpointUp s then peerWrite win off bytes s else s) s

def peerRead (win : Fin 16) (off len : Nat) (s : State) : State :=
  match peerAt false win off len s.attach with
  | some p => emit (.attachCpl (storeRead s.attach.store p len)) s
  | none => emit .attachUr (peerRefused s)

def execPeerRead (t : Time) (win : Fin 16) (off len : Nat) (s : State) : Host.Outcome State Fault Refusal :=
  act t (fun s => if endpointUp s then peerRead win off len s else s) s

/-! ### Bus Master Enable (13 R361) -/

/-- Is a command's transfer to or from host memory unfinished? It is dispatched, moves data, and its data is
not in the window store. -/
def transferOpen (c : Cmd) : Bool :=
  c.bar2.isNone && !c.orphan && match c.phase with
    | .missQ | .media | .solicit | .receiving => true
    | _ => false

def isAttach (c : Cmd) : Bool := match c.src with
  | .attach _ => true
  | .fabric _ => false

/-- Bus Master Enable is cleared: event 0x6203, and each command with an unfinished transfer is held. -/
def bmeClear (s : State) : State :=
  let s := bump 0x6208 0 1 (raise 0x6203 0 (countOf 0x6208 0 s + 1) 0x6208 0 s)
  let s := s.onAttach fun a => { a with bme := false }
  each (s.cmd.cmds.filter fun p => isAttach p.2 && transferOpen p.2) (fun p s =>
    let s := s.onCmd fun d => { d with solicitQ := d.solicitQ.filter (· ≠ p.1) }
    let s := s.onPot fun q => { q with missQ := q.missQ.filter (· ≠ p.1) }
    onCommand p.1 (fun c => { c with bmeHeld := true, phase := .completing, status := .dataTransfer }) s) s

def execBmeClear (t : Time) (s : State) : Host.Outcome State Fault Refusal :=
  act t (fun s => if s.attach.bme then bmeClear s else s) s

/-- Highest cycle whose record is committed, or alone ended (01 R16; 10 R275). -/
def committedTo (s : State) : Nat := if s.pair.paired then s.pair.committed else s.pair.cycle - 1

/-- Host memory reads go on for every write that still lacks data. -/
def fetchMore (s : State) : State :=
  each (s.cmd.cmds.filter fun p => isAttach p.2 && p.2.bar2.isNone && decide (p.2.phase = .receiving))
    (fun p s => attachFetch p.1 s) s

/-- Bus Master Enable is set: held commands complete, an unfinished transfer with 04h and the others with
their own status; a durable write still waits for its record. -/
def bmeSet (s : State) : State :=
  let s := s.onAttach fun a => { a with bme := true }
  let s := each (s.cmd.cmds.filter fun p => p.2.bmeHeld) (fun p s =>
    if p.2.orphan then releaseCmd p.1 s
    else if durable p.2 && committedTo s < p.2.cycle then onCommand p.1 (fun c => { c with bmeHeld := false }) s
    else releaseCmd p.1 (sendCompletion p.1 p.2 s)) s
  let s := fetchMore (drainCqes s)
  let l := s.attach.pba
  each l (fun v s => emit (.msix v) s) (s.onAttach fun a => { a with pba := [] })

def execBmeSet (t : Time) (s : State) : Host.Outcome State Fault Refusal :=
  act t (fun s => if s.attach.bme || !endpointUp s then s else bmeSet s) s

/-! ### Reads of host memory (13 R353) -/

/-- A completion frees its tag; its data is discarded while Bus Master Enable is clear. -/
def hostRead (tag : Nat) (sectors : List Bytes) (s : State) : State :=
  match Tbl.get? s.attach.tags tag with
  | none => s
  | some key =>
    let s := s.onAttach fun a => { a with tags := Tbl.del a.tags tag }
    if !s.attach.bme then s
    else fetchMore (takeData (key / 65536) (key % 65536) (sectors.take 1) s)

def execHostReadCompletion (t : Time) (tag : Nat) (sectors : List Bytes) (s : State) :
    Host.Outcome State Fault Refusal :=
  act t (hostRead tag sectors) s

/-- A read without a completion for 50 ms: AER, event 0x6206, and its command completes with 04h. -/
def hostReadLost (tag : Nat) (s : State) : State :=
  match Tbl.get? s.attach.tags tag with
  | none => s
  | some key =>
    let s := s.onAttach fun a => { a with tags := Tbl.del a.tags tag }
    let s := raise 0x6206 0 tag 0x6207 0 (emit (.attachAer true) s)
    fetchMore (complete (key / 65536) .dataTransfer s)

def execAttachCompletionTimeout (t : Time) (tag : Nat) (s : State) : Host.Outcome State Fault Refusal :=
  act t (hostReadLost tag) s

/-! ### What BAR0 reads as (13 R354, R355) -/

/-- WIN_STATUS: the last commit's result and the generations held. -/
def winStatus (a : Attach) : Nat := a.commitResult + a.genUsers.length * 256

/-- MBOX_STATUS: busy, response ready and the response's length. -/
def mboxStatus (a : Attach) : Nat :=
  (if a.mboxBusy then 1 else 0) + (if a.mboxReady then 2 else 0) + a.mboxLen * 65536

/-- One entry of the attach ROM. -/
def romEntry (type inst location size param : Nat) : Bytes :=
  leBytes 1 type ++ leBytes 1 inst ++ leBytes 2 0 ++ leBytes 4 location ++ leBytes 4 size ++ leBytes 4 param

/-- The ROM before its CRC: header and 20 entries; BAR2 is code 1 in bits 31 to 30 of a location. -/
def attachRomBody (pairIdHigh : Bool) : Bytes :=
  leBytes 4 0x5454414B ++ leBytes 2 1 ++ leBytes 2 340 ++ leBytes 2 20 ++ leBytes 6 0 ++
    romEntry 1 1 0 8192 (if pairIdHigh then 0xFFEE else 0xFFEF) ++
    (List.range 16).flatMap (fun i => romEntry 2 (i + 1) (0x40000000 + i * 67108864) 67108864 (0x9000 + 16 * i)) ++
    romEntry 3 1 0x9000 524 8 ++ romEntry 4 1 0xA000 8200 65 ++ romEntry 5 1 0 0 (3 + 512 * 65536)

/-- ATTACH_ROM, 340 bytes. -/
def attachRom (pairIdHigh : Bool) : Bytes :=
  let b := attachRomBody pairIdHigh
  b ++ leBytes 4 (crc32 b).toNat

end Sys2Proof.Machine
end

