-- ==== Sys2Proof/Machine/Cipher.lean ====
section
/-! DEFINITION. Rows of the cipher engine and of the keys (09): the completion of a unit, its retry, lanes
handed to self-repair, keys, chaining contexts, entropy. -/

namespace Sys2Proof.Machine

/-! ### Release of a unit (09 R243) -/

def dropUnit (id : Nat) (s : State) : State := s.onCipher fun c => { c with units := Tbl.del c.units id }

/-- A sector of a write is compared: with the last one the write is placed, or kept in slots of state 6 by a
module that does not decide (06 R155, R157). -/
def writeCompared (cmd idx : Nat) (ct : Bytes) (s : State) : State :=
  match cmdOf s cmd with
  | none => s
  | some c =>
    if c.phase ≠ .encrypting then s
    else
      let enc := c.enc.set idx (some ct)
      let s := onCommand cmd (fun c => { c with enc }) s
      if enc.all (·.isSome) then
        if decides s && !inMode [.takeover] s then placeWrite cmd s else partnerReceived cmd s
      else s

/-- A part of an egress record is compared: its frame leaves the pipeline, protected under the key, IV and sequence
number its message was given. What is left of a connection that has ended without last messages is dropped. -/
def egressCompared (p k off len : Nat) (last : Bool) (m : HostMsg) (h : FrameHdr) (pr : Option TlsProt) (s : State) :
    State :=
  let s := s.onEgress fun e => { e with
    ports := updNat e.ports p fun q => { q with pipeline := q.pipeline - 1 } }
  match flowOf s k with
  | none => s
  | some x =>
    let total := bytesOf x m
    let done := if last then 0 else (off + len) % 16406
    let size := if last then 0 else min 16406 (total - (off + len) / 16406 * 16406)
    let s := onFlow k (fun x => { x with
      tls := { x.tls with chain := { x.tls.chain with txDone := done, txLen := size } } }) s
    when (transmits s) (frameOut p k off len last m h pr) s

/-- What a record that has been opened fails with: the fault of a handshake message in it, or another type before
the client Finished (02 R50). -/
def ingressFault (x : Conn) (ctype : Nat) (fault : Option Nat) : Option Nat :=
  if fault.isSome then fault
  else if !x.tls.finished && ctype = 23 then some alertUnexpectedMessage
  else none

/-- A record received is opened: its plaintext passes on; the first handshake record is the client
Finished. -/
def ingressPasses (k ctype : Nat) (s : State) : State :=
  let s := onConn k (fun x => { x with tls := { x.tls with
    rxSeq := x.tls.rxSeq + 1
    rxRecords := x.tls.rxRecords + 1
    finished := x.tls.finished || decide (ctype = 22)
    skipEarly := false
    chain := { x.tls.chain with rxDone := 0, rxLen := 0 } } }) s
  match connOf s k with
  | some x => record (.rxPosition k x.rxNext x.tls.rxSeq) s
  | none => s

def ingressOpened (k ctype : Nat) (fault : Option Nat) (s : State) : State := match connOf s k with
  | none => s
  | some x => match ingressFault x ctype fault with
    | some c => when (decides s) (tlsFail k c) s
    | none => ingressPasses k ctype s

/-- Release what a unit has computed. -/
def releaseUnit (u : CUnit) (s : State) : State := match u.op with
  | .hostRead buf idx =>
    fillSector buf idx (Config.xtsDecrypt (nsKeyOf u.ns u.oldKey s) (tweak u.ns u.lba) u.input) s
  | .write cmd idx =>
    writeCompared cmd idx (Config.xtsEncrypt (nsKeyOf u.ns u.oldKey s) (tweak u.ns u.lba) u.input) s
  | .egress p k off len last m h pr => egressCompared p k off len last m h pr s
  | .ingress k ctype _ fault => ingressOpened k ctype fault s

/-- The connection of a TLS unit. -/
def unitConn (u : CUnit) : Option Nat := match u.op with
  | .egress _ k _ _ _ _ _ _ | .ingress k _ _ _ => some k
  | _ => none

def isEncryption (u : CUnit) : Bool := match u.op with
  | .write .. | .egress .. => true
  | _ => false

/-- Do the two results of a unit agree? The checksums always; the tags for the last part of a record sent,
the tag verdicts for a record received. -/
def unitAgrees (u : CUnit) (sumA sumB : BitVec 64) (tagA tagB : Bool) : Bool :=
  decide (sumA = sumB) && match u.op with
    | .egress _ _ _ _ last _ _ _ => !last || tagA == tagB
    | .ingress _ _ _ _ => tagA == tagB
    | _ => true

/-- Both lanes agree that a record fails authentication: bad_record_mac, event 0x3111 (02 R51; 09 R244). Early data
is rejected so: before the client Finished, records that do not open are skipped (02 R49). -/
def recordForged (k : Nat) (s : State) : State :=
  let early := (connOf s k).any fun x => x.tls.skipEarly && !x.tls.finished
  when (decides s && !early) (fun s => tlsFail k alertBadRecordMac (raise 0x3111 k alertBadRecordMac 0x3100 0 s)) s

/-- The result of a check that passed: an ingress tag that both found false is a failure of the record. -/
def unitPassed (id : Nat) (u : CUnit) (tag : Bool) (s : State) : State :=
  let s := dropUnit id s
  match u.op with
  | .ingress k _ _ _ => if tag then releaseUnit u s else recordForged k s
  | _ => releaseUnit u s

/-- A unit that fails twice is never released (09 R246). -/
def unitFailed (id : Nat) (u : CUnit) (s : State) : State :=
  let s := dropUnit id s
  match u.op with
  | .hostRead buf _ => fillFailed buf .internal s
  | .write cmd _ => match cmdOf s cmd with
    | none => s
    | some c =>
      if decides s && !inMode [.takeover] s then
        let s := if c.inCapsule then s
          else onCommand cmd (fun c => { c with granules := 0 }) (giveBack c.pool c.granules s)
        let s := s.onCipher fun x => { x with units := x.units.filter fun p => match p.2.op with
          | .write k _ => k ≠ cmd
          | _ => true }
        complete cmd .internal (record (.writeFailed c.src.conn c.cid) s)
      else onCommand cmd (fun c => { c with enc := [], phase := .placed }) s
  | .egress p k _ _ _ _ _ _ =>
    let s := s.onEgress fun e => { e with
      ports := updNat e.ports p fun q => { q with pipeline := q.pipeline - 1 }
      closing := Tbl.del e.closing k }
    resetConn k 9 s
  | .ingress k _ _ _ => when (decides s) (tlsFail k alertInternalError) s

/-! ### Lanes (09 R241, R245, R247) -/

/-- Lanes in service of a cluster are counted: fewer than 22 raise event 0x530B, and no cluster with two
leads to SAFE. -/
def clusterShort (c : Nat) (s : State) : State :=
  let n := (clusterLanes s c).length
  clusterCheck (when (n < 22) (raise 0x530B (c + 1) n 0x5302 0) s)

def setLane (l : Nat) (st : ElemState) (s : State) : State :=
  s.onCipher fun c => { c with lanes := updNat c.lanes l fun _ => st }

/-- A lane with a result against it is handed to self-repair; a spare of its cluster takes its place. -/
def laneToRepair (l : Nat) (s : State) : State :=
  match atNat s.cipher.lanes l with
  | none => s
  | some st =>
    if st = .underTest || st = .retired then s
    else
      let spare := (indices s.cipher.lanes fun x => x = .spare).find? fun i => i / 26 = l / 26 && i ≠ l
      let s := raise 0x5303 (l + 1) l 0x5300 (l + 1) (setLane l .underTest s)
      let s := match spare with
        | some i => if st = .inService then setLane i .inService s else s
        | none => s
      clusterShort (l / 26) s

/-- A mismatch is counted against a lane. -/
def countMismatch (l : Nat) (s : State) : State := bump 0x5301 (l + 1) 1 s

/-- Lanes that may compute a retry: in service or spare, neither of the first two. -/
def retryLanes (u : CUnit) (s : State) : List Nat :=
  (indices s.cipher.lanes fun st => decide (st = .inService) || decide (st = .spare)).filter fun l =>
    l / 26 = u.cluster && l ≠ u.laneA && l ≠ u.laneB

/-- Two results disagree: counted against both lanes, event 0x5301, and the unit is held for its retry; with
too few lanes it has failed twice. -/
def unitMismatch (id : Nat) (u : CUnit) (sumA sumB : BitVec 64) (s : State) : State :=
  let s := countMismatch u.laneB (countMismatch u.laneA s)
  let s := raise 0x5301 (u.laneA + 1) (u.laneB + 1) 0x5301 (u.laneA + 1) s
  if (retryLanes u s).length < 2 then
    let s := bump 0x5304 0 1 (raise 0x5302 (u.laneA + 1) (u.laneB + 1) 0x5304 0 s)
    laneToRepair u.laneB (laneToRepair u.laneA (unitFailed id u s))
  else
    s.onCipher fun c => { c with units := Tbl.upd c.units id fun x => { x with held := true, sumA, sumB } }

/-- Is an earlier record of the connection, in the same direction, still in the cluster? Records are released in the
order of their sequence numbers (09 R242). -/
def recordBefore (id : Nat) (u : CUnit) (s : State) : Bool :=
  match unitConn u with
  | some k => s.cipher.units.any fun p => p.1 < id && unitConn p.2 = some k && isEncryption p.2 == isEncryption u
  | none => false

/-- Both lanes finish a unit. For an encryption `sumA` is the checksum of its input and `sumB` that of the
second lane's decryption. A TLS unit whose context is not resident waits for it (09 R260), and one behind an earlier
record of its connection for that (R242); a key slot that fails its check is reloaded, event 0x5307, and the unit is computed again (R249). -/
def execCipherUnitComplete (t : Time) (unit : Nat) (sumA sumB : BitVec 64) (tagA tagB : Bool) (slotOk : Bool)
    (s : State) : Host.Outcome State Fault Refusal :=
  act t (fun s => match Tbl.get? s.cipher.units unit with
    | none => s
    | some u =>
      let waits := match unitConn u with
        | some k => ((connOf s k).isSome && !s.cipher.resident.contains k) || recordBefore unit u s
        | none => false
      if u.held || waits then s
      else if !slotOk && (unitConn u).isNone then raise 0x5307 u.ns u.ns 0x5306 0 s
      else
        let s := match unitConn u with
          | some k => when (connOf s k).isSome (touchContext k) s
          | none => s
        if unitAgrees u sumA sumB tagA tagB then unitPassed unit u tagA s
        else unitMismatch unit u sumA sumB s) s

/-- The value that at least two of four checksums share. -/
def majorityOf (l : List (BitVec 64)) : Option (BitVec 64) :=
  l.find? fun v => 2 ≤ (l.filter fun w => w = v).length

/-- The lanes a retry makes suspect (09 R245). -/
def suspects (u : CUnit) (c d : Nat) (sumC sumD : BitVec 64) (pass cEqualsA : Bool) : List Nat :=
  if pass then
    if isEncryption u then (if cEqualsA then [u.laneB] else [u.laneA])
    else (if u.sumA = sumC then [] else [u.laneA]) ++ (if u.sumB = sumC then [] else [u.laneB])
  else
    let l := [(u.laneA, u.sumA), (u.laneB, u.sumB), (c, sumC), (d, sumD)]
    match majorityOf (l.map Prod.snd) with
    | some v => (l.filter fun p => p.2 ≠ v).map Prod.fst
    | none => l.map Prod.fst

/-- The retry of a held unit finishes on lanes c and d; one that mismatches is counted against both (09 R245; DEDUCED,
log entry 102). -/
def execCipherRetryComplete (t : Time) (unit : Nat) (c d : Lane) (sumC sumD : BitVec 64) (tagC tagD : Bool)
    (cEqualsA : Bool) (s : State) : Host.Outcome State Fault Refusal :=
  act t (fun s => match Tbl.get? s.cipher.units unit with
    | none => s
    | some u =>
      if !u.held || c = d || !(retryLanes u s).contains c.val || !(retryLanes u s).contains d.val then s
      else
        let pass := unitAgrees u sumC sumD tagC tagD
        let s := if pass then unitPassed unit u tagC s
          else bump 0x5304 0 1 (raise 0x5302 (u.laneA + 1) (u.laneB + 1) 0x5304 0
            (unitFailed unit u (countMismatch d.val (countMismatch c.val s))))
        each (suspects u c.val d.val sumC sumD pass cEqualsA) laneToRepair s) s

/-- A connection moves to the next cluster with two lanes, once its records on the old one have completed
(09 R242). -/
def execClusterRebind (t : Time) (conn : Nat) (s : State) : Host.Outcome State Fault Refusal :=
  act t (fun s => match connOf s conn with
    | none => s
    | some x =>
      let old := tlsCluster conn x
      let busy := s.cipher.units.any fun p => unitConn p.2 = some conn && p.2.cluster = old
      if !x.tls.active || clusterTakes s old || busy then s
      else match clusterFrom s old with
        | some c => onConn conn (fun x => { x with tls := { x.tls with cluster := c + 1 } }) s
        | none => s) s

/-! ### Keys (09 R248 to R253, R256) -/

/-- Both noise sources have failed: no key is generated (09 R262). -/
def entropyLost (s : State) : Bool := entropyState s = 2

/-- A namespace key from the generator, K2 different from K1: its complement where the generator gives two equal halves
(09 R251; DESIGN CHOICE, log entry 64). -/
def newKey (s : State) : Key × State :=
  let d := draw s
  let k := Config.randomKey d.1
  (if k.k1 = k.k2 then { k with k2 := ~~~k.k1 } else k, d.2)

/-- Put a namespace key; it enters the record and the stored copies (06 R151). -/
def putKey (ns gen : Nat) (k : Option Key) (old : Option Key) (s : State) : State :=
  let e : NsKey := { key := k, gen, erasing := false, old }
  writeStore (record (.nsKey ns gen k) (s.onKeys fun x => { x with ns := Tbl.put x.ns ns e }))

def nsKeyAt (ns : Nat) (s : State) : NsKey :=
  (Tbl.get? s.keys.ns ns).getD { key := none, gen := 0, erasing := false, old := none }

def cryptoEraseCheck (c : WCtx) (s : State) : EpStatus :=
  let k := nsKeyAt c.rcd s
  firstFailure [refuseIf (c.nat ≠ 0xC3C3) .range, refuseIf (k.key.isNone || k.erasing) .mode,
    refuseIf (entropyLost s) .internal]

/-- A crypto erase begins: new encryptions under the old key wait. -/
def cryptoEraseEffect (c : WCtx) (s : State) : State :=
  s.onKeys fun x => { x with ns := Tbl.upd x.ns c.rcd fun k => { k with erasing := true } }

def execNsCryptoErase (t : Time) (w : Write) (s : State) : Host.Outcome State Fault Refusal :=
  act t (fun s => writeObject 0x5321 cryptoEraseCheck cryptoEraseEffect w s) s

/-- Work of a namespace started under the old key: encryptions under way. -/
def eraseBusy (ns : Nat) (s : State) : Bool :=
  s.cmd.cmds.any fun p => p.2.ns = ns && decide (p.2.phase = .encrypting) && !p.2.waitsKey

/-- Reads that still use the old key. -/
def oldKeyReads (ns : Nat) (s : State) : Bool :=
  (s.pot.bufs.any fun p => p.2.ns = ns && decide (p.2.state = .filling) && !p.2.admissible) ||
    s.cipher.units.any fun p => p.2.ns = ns && p.2.oldKey

/-- Everything written under the old key is placed: in one step the new key takes the slot, every LB of the
namespace is released and the pot holds nothing of it; then the encryptions that waited start. -/
def cryptoSwitch (ns : Nat) (s : State) : State :=
  let k := nsKeyAt ns s
  let n := newKey s
  let s := putKey ns (k.gen + 1) (some n.1) k.key n.2
  let s := s.onCipher fun c => { c with units := c.units.map fun p =>
    (p.1, if p.2.ns = ns then { p.2 with oldKey := true } else p.2) }
  let s := each (nsLbs ns s) discardLb (invalidate ns 0 (nsSize ns s) s)
  let s := each ((s.cmd.cmds.filter fun p =>
    p.2.ns = ns && decide (p.2.phase = .encrypting) && p.2.waitsKey).map Prod.fst) startEncrypt s
  raise 0x5308 ns (k.gen + 1) 0x5322 0 s

def execCryptoEraseSwitch (t : Time) (ns : Nat) (s : State) : Host.Outcome State Fault Refusal :=
  act t (fun s =>
    if decides s && eraseRuns ns s && !eraseBusy ns s then cryptoSwitch ns s else s) s

/-- The last read under the old key has finished: the old key is zeroised. -/
def execOldKeyZeroise (t : Time) (ns : Nat) (s : State) : Host.Outcome State Fault Refusal :=
  act t (fun s =>
    if oldKeyReads ns s then s
    else s.onKeys fun x => { x with ns := Tbl.upd x.ns ns fun k => { k with old := none } }) s

/-- The escrow key makes the export readable (09 R252). -/
def escrowEffect (c : WCtx) (s : State) : State := s.onKeys fun k => { k with kek := some c.val.octets }

def execEscrowKek (t : Time) (w : Write) (s : State) : Host.Outcome State Fault Refusal :=
  act t (fun s => writeObject 0x5330 noCheck escrowEffect w s) s

/-- The array key an import holds, if its integrity check passes. -/
def importKey (b : Bytes) (s : State) : Option (BitVec 256) := s.keys.kek.bind fun k => Config.unwrap k b

def keyImportCheck (c : WCtx) (s : State) : EpStatus :=
  firstFailure [refuseIf (!inMode [.isolated] s || s.keys.arrayKey.isSome) .mode,
    refuseIf (importKey c.val.octets s).isNone .range]

def keyImportEffect (c : WCtx) (s : State) : State :=
  s.onKeys fun k => { k with arrayKey := importKey c.val.octets s }

def execArrayKeyImport (t : Time) (w : Write) (s : State) : Host.Outcome State Fault Refusal :=
  act t (fun s => writeObject 0x5332 keyImportCheck keyImportEffect w s) s

/-- A PSK value is written: the slot, the record, event 0x530A. Established connections keep their keys. -/
def pskEffect (c : WCtx) (s : State) : State :=
  let s := s.onKeys fun k => { k with psk := Tbl.put k.psk c.rcd c.val.octets }
  raise 0x530A c.rcd c.rcd 0x5314 0 (writeStore (record (.psk c.rcd c.val.octets) s))

def execPskValue (t : Time) (w : Write) (s : State) : Host.Outcome State Fault Refusal :=
  act t (fun s => writeObject 0x5313 noCheck pskEffect w s) s

/-! ### Contexts (09 R259, R260) -/

/-- A context that is not resident is restored from the spill region; one that fails its integrity check
ends the connection. -/
def execContextMiss (t : Time) (conn : Nat) (unwrapOk : Bool) (s : State) : Host.Outcome State Fault Refusal :=
  act t (fun s =>
    if !s.cipher.spilled.contains conn then s
    else if unwrapOk then bump 0x5309 0 1 (touchContext conn s)
    else resetConn conn 10 (raise 0x5306 conn 0 0x5309 0 s)) s

/-! ### Entropy (09 R262) -/

/-- A noise source fails its tests. -/
def execEntropyTestFailure (t : Time) (src : Fin 2) (s : State) : Host.Outcome State Fault Refusal :=
  act t (fun s =>
    if !s.cipher.sourceOk[src] then s
    else
      let s := s.onCipher fun c => { c with sourceOk := updAt c.sourceOk src fun _ => false }
      if entropyLost s then raise 0x5305 0 2 0x5305 0 s else raise 0x5304 (src.val + 1) 1 0x5305 0 s) s

/-- A source has passed its tests for 1 s. -/
def execEntropySourceRecovery (t : Time) (src : Fin 2) (s : State) : Host.Outcome State Fault Refusal :=
  act t (fun s => s.onCipher fun c => { c with sourceOk := updAt c.sourceOk src fun _ => true }) s

/-- The mask generators are reseeded; without a source they run on. -/
def execMaskReseed (t : Time) (s : State) : Host.Outcome State Fault Refusal :=
  act t (fun s =>
    if entropyLost s then s else s.onCipher fun c => { c with maskSeeds := c.maskSeeds + 1 }) s

end Sys2Proof.Machine
end

