-- ==== Sys2Proof/Machine/Buffers.lean ====
section
/-! DEFINITION. Rows of the buffer pools and of the pot (04). -/

namespace Sys2Proof.Machine

/-! ### Waiting queues (04 R100, R101) -/

/-- Re-request the head of the miss queue, looked up again first, until one is refused. -/
def retryMisses : Nat → State → State
  | 0, s => s
  | n + 1, s => match s.pot.missQ with
    | [] => s
    | id :: _ =>
      let s' := potLookup id true s
      if s'.pot.missQ.contains id then s' else retryMisses n s'

/-- Stripes held for want of PARITY granules are programmed. -/
def retryProgs (s : State) : State :=
  each (heldProgs s) (fun p s => issueGranted p.1 p.2 s) s

/-- Reconstructions held for want of granules read their survivors. -/
def retryRecons (s : State) : State :=
  each (s.media.recons.filter fun p => p.2.waiting) (fun p s =>
    let e := p.2
    let k := (s.xlat.geo.map Geo.k).getD 0
    let n := e.want.length * k
    let pool := if e.queue = qHostC || e.queue = qHostX then poolRecon else poolRebuild
    let r := request pool n s
    if !r.1 then r.2
    else
      let s := r.2.onMedia fun m => { m with
        recons := Tbl.put m.recons p.1 { e with granules := n, waiting := false } }
      match bandAt s e.band with
      | some b => each e.want (fun x s => readMember e.band b x e.stripe 0 k e.queue (.recon p.1 x) s) s
      | none => s) s

/-- Jobs that paused read on. -/
def retryJobs (s : State) : State :=
  each ((s.xlat.jobs.filter fun p => p.2.paused).map Prod.fst) jobRead s

/-- A request reaches the manager. The head of a solicitation queue or of the miss queue whose request it is
goes on when it is granted; any other request is granted or refused (04 R98). R98 bounds a request by one transfer,
2,048 granules, and gives a longer one no result of its own: the same rule decides it (DESIGN CHOICE, log entry
90). -/
def execGranuleRequest (t : Time) (pool : PoolNo) (n : Nat) (s : State) : Host.Outcome State Fault Refusal :=
  act t (fun s =>
    let asks := fun (id : Nat) => ((cmdOf s id).map (·.nlb)) = some n
    let head := if pool.val = poolWriteIn then
        ((List.range 32).filterMap fun p => (solicitOf p s).head?).find? asks
      else if pool.val = poolPour then s.pot.missQ.head?.filter asks
      else none
    match head with
    | some id => if pool.val = poolPour then potLookup id true s else solicit id s
    | none => (request pool.val n s).2) s

/-! ### Buffers (04 R102, R106) -/

def execRefcountDecrement (t : Time) (buf : Nat) (s : State) : Host.Outcome State Fault Refusal :=
  act t (fun s => anaSync (dropRef buf s)) s

/-- The window of a coalescing entry has passed: it takes no more attachments. -/
def execCoalesceWindowExpiry (t : Time) (buf : Nat) (s : State) : Host.Outcome State Fault Refusal :=
  act t (fun s =>
    let close := fun (b : Buf) =>
      if b.openedAt + cfg 0x4101 s ≤ s.now then { b with open_ := false } else b
    s.onPot fun p => { p with bufs := Tbl.upd p.bufs buf close }) s

/-! ### The clock hand (04 R112, R114) -/

/-- The hand moves on one buffer; passing its mark ends a revolution. -/
def handStep (id : Nat) (s : State) : State :=
  let after := ((s.pot.ring.dropWhile (· ≠ id)).drop 1).head?
  s.onPot (handTo s.now (after.orElse fun _ => s.pot.ring.head?))

/-- One visit of the hand: a buffer that senders hold is passed, a frequency is spent, a buffer without one
is evicted. -/
def handVisit (s : State) : State :=
  match s.pot.hand with
  | none => s
  | some id => match Tbl.get? s.pot.bufs id with
    | none => s.onPot (ringDrop s.now id)
    | some b =>
      let s := handStep id s
      if 1 < b.count then s
      else if 0 < b.f then
        s.onPot fun p => { p with bufs := Tbl.upd p.bufs id fun b => { b with f := b.f - 1 } }
      else unindex id (bump 0x4115 0 1 s)

/-- The hand runs until the free granules reach the high watermark, or until it has passed every buffer often
enough to spend its frequency. -/
def handRun : Nat → State → State
  | 0, s => s
  | n + 1, s =>
    if cfg 0x4105 s ≤ pourFree s || s.pot.hand.isNone then s else handRun n (handVisit s)

/-- A change of POT_SIZE takes full effect once the pot holds no granule beyond it. -/
def potResized (s : State) : State :=
  let target := potTarget s
  if s.pot.region = target then s
  else if poolUsed s poolPour ≤ target then
    raise 0x4102 0 (cfg 0x4100 s) 0x4100 0 (setRegion target s)
  else setRegion (poolUsed s poolPour) s

def execEvictionHand (t : Time) (s : State) : Host.Outcome State Fault Refusal :=
  act t (fun s =>
    let start := s.pot.handOn || decide (pourFree s < cfg 0x4104 s)
    let s := if start then handRun (9 * s.pot.ring.length + 1) s else s
    potResized (s.onPot fun p => { p with handOn := start && decide (pourFree s < cfg 0x4105 s) })) s

/-- POT_SIZE changes: an increase takes effect at once, a reduction as the hand frees granules. -/
def potSizeEffect (c : WCtx) (s : State) : State := potResized (storeOne c s)

def execPotSize (t : Time) (w : Write) (s : State) : Host.Outcome State Fault Refusal :=
  act t (fun s => writeObject 0x4100 noCheck potSizeEffect w s) s

end Sys2Proof.Machine
end

