-- ==== Sys2Proof/Machine/Translation.lean ====
section
/-! DEFINITION. The rows of translation (06): the format, namespaces, placement, gathering, the closing of
fills, merges, the release of slots and bands, checkpoints and the journal's carrier copies. -/

namespace Sys2Proof.Machine

/-! ### Format (06 R141, R142, R145) -/

/-- A format releases every band and clears every map; so does a module that takes another array (06 R142). -/
def clearMaps (s : State) : State :=
  s.onXlat fun x => { x with
    lbs := [], bands := [], runs := [], openseq := 0, slots := [], passAt := 0, placeSeq := 0, placeQ := []
    journal := [], journalPrev := [], journalFlip := false, ckpt := none, ckptRun := none, heads := []
    journalRemovals := [], journalCars := [], fills := [], logs := [], progs := [], jobs := [], mergeDue := []
    releaseDue := [], sources := [], relocate := [], commits := 0, refresh := [], overlayHigh := false, freeCritical := false
    stageOver := false, lost := [], lostFull := false, narrowed := false, resyncKind := 0, reclaiming := false
    victims := [], mapSource := 0 }

/-- Codes of the partner's modes that let a format run: RESET, BOOT, ISOLATED, SAFE, and 255, unknown. -/
def formatModes : List Nat := [0, 1, 2, 11, 255]

/-- A write to FORMAT is refused with RANGE for another value, with MODE as R141 and R142 say, with INTERNAL while the
entropy source is lost, and with BUSY_IN_SERVICE while a format or another round of reservations runs (the spec gives
no status for the last: DESIGN CHOICE, log entry 98). -/
def formatCheck (c : WCtx) (s : State) : EpStatus :=
  firstFailure [refuseIf (c.nat ≠ 0x5A5A) .range,
    refuseIf (!inMode [.isolated] s || !s.cmd.ns.isEmpty) .mode,
    refuseIf (!formatModes.contains s.pair.partnerMode || (s.pair.partnerMode = 2 && s.pair.link ≠ 2)) .mode,
    refuseIf (entropyLost s) .internal,
    refuseIf (s.xlat.formatting || s.pair.round.isSome) .busyInService]

/-- A format begins with the reservations; its write is answered when it has ended. -/
def formatEffect (c : WCtx) (s : State) : State :=
  startRound .format (s.onXlat fun x =>
    { x with formatting := true, formatBy := some (c.sess, c.trans, c.req) })

/-- A format ends: its write is answered, a group by its message status. -/
def formatEnd (st : EpStatus) (s : State) : State :=
  let s' := s.onXlat fun x => { x with formatting := false, formatBy := none }
  match s.xlat.formatBy with
  | some (sess, tn, req) =>
    let r : Resp := match req with
      | .setGroup _ _ => { status := st, items := [] }
      | _ => answer 0x5005 0 1 st none
    reply sess tn req r s'
  | none => s'


/-- Seated carriers whose link is up and whose descriptor passes its checks. -/
def formatCarriers (s : State) : List Nat :=
  (seatedBays s).filter fun c => (carOf s c).linkUp && descrPasses (carOf s c)

/-- Stripe page size of a format: the one most carriers have, the smaller of two held by as many. -/
def formatPage (l : List Descr) : Option Nat :=
  let sizes := sortBy id ((l.map (·.pageSize)).eraseDups)
  mostBy (fun p => (l.filter fun d => d.pageSize = p).length) sizes

/-- The geometry that carriers of these descriptors give; the counts of EUs follow their admission. -/
def formatGeometry (l : List Descr) (s : State) : Option Geo :=
  match formatPage l with
  | none => none
  | some p => match (l.filter fun d => d.pageSize = p).map (·.euSize) with
    | [] => none
    | e :: es => some { eMiB := es.foldl min e, pKiB := p, w0 := cfg 0x5002 s, euTotal := 0, talonTotal := 0,
                        overprov := cfg 0x5006 s }

/-- Carriers whose geometry fits join the array; another raises event 0x5008 and stays out. -/
def admitAll (g : Geo) (s : State) : State :=
  let s := s.onMedia fun m => { m with
    floorRo := false, exhausted := false, recons := []
    cars := m.cars.map fun c => { c with state := .absent, queue := [], out := [], absentBands := [] } }
  let s := each (formatCarriers s) (fun c s => match (carOf s c).descr with
    | some d =>
      if !geometryFits g d then
        raise 0x5008 (c + 1) d.pageSize 0x5001 0 (onCar c (fun x => { x with state := .notAdmitted }) s)
      else if (carOf s c).listsRead then admitCarrier c s
      else s
    | none => s) s
  let inUse := (List.range 24).filter fun c => (carOf s c).state = .inService
  let eus := (inUse.map fun c => (goodEus (carOf s c)).length).sum
  let talons := (inUse.map fun c => (carOf s c).talonInit).sum
  s.onXlat fun x => { x with geo := some { g with euTotal := eus, talonTotal := talons } }

/-- The reservations are won: the geometry is fixed, the maps are cleared, the array key and the identity are
new, and a partner in ISOLATED is sent them. Without a geometry the carriers won are written back. -/
def formatWon (s : State) : State :=
  match formatGeometry ((formatCarriers s).filterMap fun c => (carOf s c).descr) s with
  | none => formatEnd .range (releaseWon s)
  | some g =>
    let s := admitAll g (clearMaps (acceptRound s))
    let k := draw s
    let i := draw k.2
    let s := i.2.onKeys fun x => { x with arrayKey := some (Config.random256 k.1) }
    let s := s.onXlat fun x => { x with arrayId := Config.random64 i.1 }
    let s := s.onMode fun m => { m with restarted := false }
    if s.pair.partnerMode = 2 && s.pair.link = 2 then
      sendPairing s.keys.arrayKey s
    else formatEnd .ok s

/-- Without a majority the format is refused. -/
def formatLost (s : State) : State := formatEnd .busyInService (releaseWon s)

/-- A write to FORMAT: refused at once, or answered when the format ends. -/
def execFormat (t : Time) (w : Write) (s : State) : Host.Outcome State Fault Refusal :=
  act t (fun s => writeLater 0x5005 formatCheck formatEffect w s) s

/-- The partner has stored the new key, maps and identity, or its link has gone down. -/
def execFormatComplete (t : Time) (partnerStored : Bool) (s : State) : Host.Outcome State Fault Refusal :=
  act t (fun s =>
    if s.xlat.formatting && s.pair.round.isNone && (partnerStored || s.pair.link ≠ 2) then formatEnd .ok s
    else s) s

/-! ### Namespaces (06 R145; 03 R67; 09 R251) -/

/-- First LB of the lowest gap of `n` LBs below `cap`, among ranges in rising order. -/
def lbGap (n cap : Nat) : List NsSt → Nat → Option Nat
  | [], c => if c + n ≤ cap then some c else none
  | x :: l, c => if c + n ≤ x.base then some c else lbGap n cap l (x.base + x.count)

/-- LBs a namespace of a size takes. -/
def lbsFor (size : Nat) (s : State) : Nat := (size + lbSectors s - 1) / lbSectors s

/-- First LB that an enable of a namespace record would reserve. -/
def lbBase (ns : Nat) (s : State) : Option Nat := match s.xlat.geo with
  | some g => lbGap (lbsFor (nsSize ns s) s) g.capacity (sortBy (·.base) (Tbl.vals s.cmd.ns)) 0
  | none => none

/-- Is the NSID of a namespace unlike that of every enabled one of its subsystem, and not 0? (03 R63; the status of
a refusal is a DESIGN CHOICE, log entry 69) -/
def nsidFree (ns : Nat) (s : State) : Bool :=
  let nsid := dnat 0x3222 0 ns s
  nsid ≠ 0 && (nsOf (dnat 0x3221 0 ns s) nsid s).isNone

def nsEnableCheck (c : WCtx) (s : State) : EpStatus :=
  if c.nat = 0 || nsEnabled c.rcd s then .ok
  else firstFailure [refuseIf s.xlat.geo.isNone .mode, refuseIf (!nsidFree c.rcd s) .range,
    refuseIf (lbBase c.rcd s).isNone .range,
    refuseIf (entropyLost s) .internal]

/-- Reserve the LBs of a namespace; what no band can hold is READ_ONLY from the start (08 R230). -/
def reserveLbs (ns : Nat) (s : State) : State := match lbBase ns s with
  | some b =>
    let n : NsSt := { base := b, count := lbsFor (nsSize ns s) s, roExhaust := false, roFloor := s.media.floorRo }
    s.onCmd fun x => { x with ns := Tbl.put x.ns ns n }
  | none => s

/-- Return the LBs of a namespace: every one is released, its content is gone. -/
def returnLbs (ns : Nat) (s : State) : State :=
  let s := each (nsLbs ns s) discardLb (invalidate ns 0 (nsSize ns s) s)
  s.onCmd fun x => { x with ns := Tbl.del x.ns ns }

/-- Enable or disable a namespace: LBs, key, notices. A write that changes nothing is only stored. -/
def nsEnableApplied (ns : Nat) (on : Bool) (s : State) : State :=
  if !on then
    if nsEnabled ns s then
      namespaceChanged ns (putKey ns (nsKeyAt ns s).gen none none (returnLbs ns s))
    else s
  else if nsEnabled ns s then s
  else
    let n := newKey (reserveLbs ns s)
    namespaceChanged ns (putKey ns (nsKeyAt ns s).gen (some n.1) none n.2)

def nsEnableEffect (c : WCtx) (s : State) : State := nsEnableApplied c.rcd (c.nat ≠ 0) (storeOne c s)

def execNsEnable (t : Time) (sess : Nat) (s : State) : Host.Outcome State Fault Refusal :=
  act t (fun s => writeObject 0x3225 nsEnableCheck nsEnableEffect { sess, sub := 0, val := .num 1 } s) s

def execNsDisable (t : Time) (sess : Nat) (s : State) : Host.Outcome State Fault Refusal :=
  act t (fun s => writeObject 0x3225 nsEnableCheck nsEnableEffect { sess, sub := 0, val := .num 0 } s) s

/-- The administrative READ_ONLY flag, with the notices when the namespace's state changes from what it was. -/
def writeProtectApplied (ns : Nat) (before : Bool) (s : State) : State :=
  when (nsEnabled ns s && before ≠ nsReadOnly ns s) (namespaceChanged ns) s

def writeProtectEffect (c : WCtx) (s : State) : State :=
  writeProtectApplied c.rcd (nsReadOnly c.rcd s) (storeOne c s)

def execNsWriteProtect (t : Time) (w : Write) (s : State) : Host.Outcome State Fault Refusal :=
  act t (fun s => writeObject 0x3227 noCheck writeProtectEffect w s) s

/-! ### Placement and gathering (06 R156 to R162) -/

/-- The head of the placement queue reserves slots once enough are free. -/
def execPlacementQueueReserve (t : Time) (s : State) : Host.Outcome State Fault Refusal :=
  act t (fun s => if decides s then placementReserve s else s) s

/-- Gather one stripe with sectors of an LB: a direct fill, else a log or staging stripe of its namespace. -/
def gather (lb : Nat) (s : State) : State :=
  let r := gatherDirect lb s
  if r.1 then r.2
  else match nsOfLb lb r.2 with
    | some (ns, _) => gatherLog ns false r.2
    | none => r.2

def execStripeGather (t : Time) (lb : Nat) (s : State) : Host.Outcome State Fault Refusal :=
  act t (fun s => if decides s then gather lb s else s) s

/-- Is a stripe of an LB at or above FILL not complete in the caddy? A fill that has reached the LB's end has none left
to complete, and it closes in the same way (06 R159 does not say when it does: DESIGN CHOICE, log entry 91). -/
def stripeLacks (lb : Nat) (s : State) : Bool :=
  match s.xlat.geo, nsOfLb lb s with
  | some g, some (ns, first) =>
    let w := setWidth lb s
    let fill := (lbAt s lb).fill
    let n := stripeSectors g w
    g.lbSectors ≤ fill || (List.range ((g.lbSectors - fill + n - 1) / n)).any fun i =>
      let st := stripeOf g w (fill + i * n)
      (stripeSlots ns first st.1 st.2 s).isNone
  | _, _ => false

/-- FILL_WAIT has run out for a fill that is open, or for sectors that wait to open one: it closes (06 R159). Above
CADDY_STAGE_MARK so does a fill whose stripe is complete and was not programmed in that time, and its sectors go to
staging (06 R161). -/
def fillExpired (lb : Nat) (s : State) : State :=
  let waits : Bool := match nsOfLb lb s with
    | some (ns, _) => (waitingSlots ns s).any fun e => e.2.2.1 = lb
    | none => false
  if (Tbl.has s.xlat.fills lb || waits) && !(lbAt s lb).fillClosed
      && (stripeLacks lb s || caddyAbove (cfg 0x5022 s) s) then closeFill lb s else s

def execFillWaitExpiry (t : Time) (lb : Nat) (s : State) : Host.Outcome State Fault Refusal :=
  act t (fun s => if decides s then fillExpired lb s else s) s

/-- The oldest log-bound entry of a namespace has waited LOG_GATHER_WAIT: a partial stripe is programmed. -/
def execLogGatherWaitExpiry (t : Time) (ns : Nat) (s : State) : Host.Outcome State Fault Refusal :=
  act t (fun s => if decides s then gatherLog ns true s else s) s

/-- The slots of a programmed stripe are released, and the placement queue looks again. -/
def execCaddySlotRelease (t : Time) (prog : Nat) (s : State) : Host.Outcome State Fault Refusal :=
  act t (fun s => if decides s then placementReserve (releaseSlots prog s) else s) s

/-! ### Merges (06 R164 to R169) -/

/-- Has the LB a sequential log that takes no further stripe? -/
def seqLogFull (lb : Nat) (s : State) : Bool := match seqLogOf lb s with
  | some b => match bandAt s b with
    | some e => !e.isOpen || bandStripes e s ≤ bandNext b e s
    | none => false
  | none => false

/-- An LB is due for a merge. -/
def dueMerge (l : List Nat) (s : State) : State :=
  s.onXlat fun x => { x with mergeDue := (x.mergeDue ++ l).eraseDups }

/-- An LB with a closed fill or a full sequential log has had no placed sector for MERGE_QUIET. -/
def execMergeQuietExpiry (t : Time) (lb : Nat) (s : State) : Host.Outcome State Fault Refusal :=
  act t (fun s =>
    if decides s && (lbAt s lb).state ≠ .merging && ((lbAt s lb).fillClosed || seqLogFull lb s) then
      dueMerge [lb] s
    else s) s

/-- Full merges of narrow sets under way. -/
def widening (s : State) : Nat :=
  (s.xlat.jobs.filter fun p => match p.2.kind with
    | .merge lb _ _ => lbWidens lb s
    | _ => false).length

/-- The LBs that R231 widens now: the lowest of those with narrow sets, in ascending order, at most 16 at a time. -/
def wideningTurn (lb : Nat) (s : State) : Bool :=
  let started := fun (l : Nat) => s.xlat.jobs.any fun p => match p.2.kind with
    | .merge x _ _ => x = l
    | _ => false
  let l := (s.xlat.lbs.filter fun p => lbWidens p.1 s && !started p.1).map Prod.fst
  widening s < 16 && leastBy id l = some lb

/-- May a merge of the LB start? One is due, or bandwidth is left over and the LB has something to merge, or
its set is to be widened (08 R231). -/
def mergeWanted (lb : Nat) (s : State) : Bool :=
  let e := lbAt s lb
  s.xlat.mergeDue.contains lb || decide (e.state = .merging) || e.hasRuns || e.fillClosed ||
    (needsFull lb s && (!lbWidens lb s || wideningTurn lb s))

/-- The staging band with live runs that was opened first. -/
def oldestStaging (s : State) : Option Nat :=
  let l := s.xlat.bands.filter fun p => decide (p.2.kind = .staging) && !(runsIn p.1 s).isEmpty
  (sortBy (fun p => p.2.openseq) l).head?.map Prod.fst

/-- Folds go in the order of the staging bands: an LB with staging runs waits until the oldest band is its own, unless
its merge is due for another reason or under way (07 R183). -/
def foldTurn (lb : Nat) (s : State) : Bool :=
  let staged := s.xlat.runs.any fun r => r.lb = lb && decide (r.kind = .staging)
  !staged || s.xlat.mergeDue.contains lb || decide ((lbAt s lb).state = .merging) ||
    (oldestStaging s).all fun b => (lbsIn b s).contains lb

def execMergeStart (t : Time) (lb : Nat) (s : State) : Host.Outcome State Fault Refusal :=
  act t (fun s => if decides s && mergeWanted lb s && foldTurn lb s then startMerge lb s else s) s

/-- The merge of an LB that is ready to commit: every target stripe is programmed and no target still has a
replaced member to verify (06 R167; 07 R197). -/
def mergeReady (lb : Nat) (s : State) : Option (Nat × Job) :=
  s.xlat.jobs.find? fun p => p.2.ready && !(p.2.targets.any fun b => replacing b s) && (match p.2.kind with
    | .merge l _ _ => l = lb
    | _ => false)

/-- Bands that the target of a merge leaves behind. -/
def mergeLeaves (k : MergeKind) (old targets : List Nat) : List Nat := match k with
  | .partial_ => []
  | _ => old.filter fun b => !targets.contains b

/-- Sub-index of 0x5033 for a kind of merge. -/
def MergeKind.sub : MergeKind → Nat
  | .switch => 1 | .partial_ => 2 | .full => 3

/-- Log bands opened half of 2²⁰ merge commits ago are merged out, so that they are released in time (06
R169; the half is a DESIGN CHOICE, log entry 21). -/
def oldLogs (s : State) : State :=
  let old := s.xlat.logs.filter fun p => p.2.openedAt + 524288 ≤ s.xlat.commits
  each old (fun p s =>
    let s := onBand p.1 (fun e => if e.isOpen then { e with isOpen := false } else e) s
    dueMerge (lbsIn p.1 s) s) s

/-- A merge commits in one step: the LB entry points at the target, STATE MAPPED, FILL at hi, FILL_CLOSED
clear, every run of the earlier epoch gone (06 R167). -/
def mergeCommit (lb id : Nat) (j : Job) (s : State) : State :=
  match j.kind with
  | .merge _ k fold =>
    let e := lbAt s lb
    let refreshed := e.bands.any fun b => 3 ≤ (refreshOf b s).length || ((bandAt s b).any fun x => readsOver x s)
    let moves := j.targets.any fun b => s.xlat.relocate.contains b
    let copied := if k = .full then j.hi else j.hi - e.fill
    let s := endJob id s
    let s := each j.targets (fun b s =>
      let s := onBand b (fun e => { e with kind := .data, ns := 0, owner := lb, isOpen := e.isOpen && k ≠ .switch }) s
      bandFull b (s.onXlat fun x => { x with logs := Tbl.del x.logs b })) s
    let s := setLb lb { e with bands := j.targets, state := .mapped, fill := j.hi, fillClosed := false } s
    let s := dropRuns lb e.epoch s
    let s := each (mergeLeaves k e.bands j.targets) markRelease s
    let s := bump 0x5033 k.sub 1 (bump 0x5034 0 copied s)
    let s := when fold (bump 0x5105 0 copied) s
    let s := when refreshed (bump 0x5144 0 1) s
    let s := when moves (dueMerge [lb]) s
    oldLogs (s.onXlat fun x => { x with commits := x.commits + 1 })
  | _ => s

def execMergeCommit (t : Time) (lb : Nat) (s : State) : Host.Outcome State Fault Refusal :=
  act t (fun s => match mergeReady lb s with
    | some (id, j) => if decides s && (lbAt s lb).state = .merging then mergeCommit lb id j s else s
    | none => s) s

/-! ### Releasing, checkpoints, journal copies (06 R151, R163, R167, R175) -/

/-- A log or staging band that holds no live run is to be released, an open one once a stripe of it has been programmed;
a band that is due is released once nothing reads it (06 R163; 07 R183). -/
def bandRelease (b : Nat) (s : State) : State :=
  match bandAt s b with
  | none => s
  | some e =>
    let log := decide (e.kind = .sharedLog) || decide (e.kind = .seqLog) || decide (e.kind = .staging)
    let busy := s.xlat.progs.any (fun p => p.2.band = b) ||
      s.xlat.jobs.any fun p => p.2.targets.contains b
    let s := when (log && (!e.isOpen || 0 < e.program) && !e.retiring && !busy && (runsIn b s).isEmpty) (markRelease b) s
    releaseWhenFree b s

def execBandRelease (t : Time) (band : Nat) (s : State) : Host.Outcome State Fault Refusal :=
  act t (fun s => if decides s then bandRelease band s else s) s

/-- The map image as a checkpoint holds it: LB map entries, band-table entries with their read counters, and wear
counts, each after its number (06 R151; 07 R190, R200; the order is a DESIGN CHOICE, log entry 93). -/
def imageBytes (s : State) : Bytes :=
  s.xlat.lbs.flatMap (fun p => leBytes 4 p.1 ++ lbBytes p.2) ++
  s.xlat.bands.flatMap (fun p => leBytes 4 p.1 ++ bandBytes p.2 ++ leBytes 4 p.2.readCount) ++
  s.media.cars.toList.flatMap fun c => leBytes 4 c.wear.length ++ c.wear.flatMap fun p => leBytes 4 p.1 ++ leBytes 2 p.2

/-- System bands for `n` stripes, in order, as far as they can be formed. -/
def systemBands : Nat → State → List Nat × State
  | 0, s => ([], s)
  | n + 1, s =>
    let r := openBand .system 0 0 (widthNow s) qIngest s
    match r.1 with
    | some b =>
      let q := systemBands n r.2
      (b :: q.1, q.2)
    | none => ([], r.2)

/-- Program stripe `i` of the map image, under the metadata key (09 R255). -/
def imageStripe (g : Geo) (bands : List Nat) (i : Nat) (l : List Bytes) (s : State) : State :=
  match bands[i / g.stripes]? with
  | some b =>
    let w := widthNow s
    let t := i % g.stripes
    programStripe (progNew b t .system 0) (metaSectors g b w t 0 l s ++ padding g b w t l.length s) s
  | none => s

/-- The map image is checkpointed into new system bands; a checkpoint that is being written goes on, and one whose
bands cannot be formed is not begun (06 R151). -/
def checkpoint (g : Geo) (s : State) : State :=
  let n := stripeSectors g (widthNow s)
  let image := chunks n (asSectors (imageBytes s))
  let need := (image.length + g.stripes - 1) / g.stripes
  if s.xlat.ckptRun.isSome || n = 0 then s
  else
    let k : Ckpt := { bands := [], lbs := s.xlat.lbs, table := s.xlat.bands, seq := s.xlat.openseq }
    let r := systemBands need s
    if r.1.length < need then each r.1 markRelease r.2
    else
      let s := r.2.onXlat fun x => { x with ckptRun := some { k with bands := r.1 } }
      checkpointDone (each image.zipIdx (fun p s => imageStripe g r.1 p.2 p.1 s) s)

def execCheckpoint (t : Time) (s : State) : Host.Outcome State Fault Refusal :=
  act t (fun s => match s.xlat.geo with
    | some g => if decides s then checkpoint g s else s
    | none => s) s

/-- Removals are written to the carrier copies. -/
def execJournalCarrierWrite (t : Time) (s : State) : Host.Outcome State Fault Refusal :=
  act t (fun s =>
    if mediaAllowed s then writeRemovals s else s) s

end Sys2Proof.Machine
end

