-- ==== Sys2Proof/Machine/Media.lean ====
section
/-! DEFINITION. The rows of the media lifecycle (07) and of stripes (08 R220 to R231): reclamation,
compaction, wear levelling, member moves, scrub, exhaustion, the media queue, rebuild, narrowing, lost ranges. -/

namespace Sys2Proof.Machine

/-! ### Reclamation (07 R185 to R188) -/

/-- Cost of merging out every LB with live runs in a band. -/
def mergeOutCost (b : Nat) (s : State) : Nat := ((lbsIn b s).map fun lb => (mergeChoice lb s).2).sum

/-- Is a victim compacted, and at what cost? A sequential log and a staging band are merged (07 R186). -/
def victimCost (b : Nat) (e : Band) (s : State) : Bool × Nat :=
  let m := mergeOutCost b s
  let c := liveIn b s
  if e.kind = .sharedLog && logBandFits e.ns s && c ≤ m then (true, c) else (false, m)

/-- Compact a victim, or have every LB of it merged. -/
def reclaim (b : Nat) (e : Band) (s : State) : State :=
  if (victimCost b e s).1 then startCompact b s
  else
    let l := (lbsIn b s).filter fun lb => (lbAt s lb).state ≠ .merging
    each l startMerge (dueMerge l s)

/-- Is a log or staging band to be reclaimed whatever F is? It waits for relocation or a refresh (07 R200; 08 R224). -/
def mustReclaim (b : Nat) (e : Band) (s : State) : Bool :=
  s.xlat.relocate.contains b || !(refreshOf b s).isEmpty || readsOver e s

/-- The order of victims: bands to relocate or refresh first, then least cost, least live, least OPENSEQ. -/
def victimKey (b : Nat) (e : Band) (s : State) : Nat × Nat × Nat × Nat :=
  let first := mustReclaim b e s
  (if first then 0 else 1, (victimCost b e s).2, liveIn b s, e.openseq)

/-- Lexicographic order of four numbers. -/
def before4 (a b : Nat × Nat × Nat × Nat) : Bool :=
  a.1 < b.1 || (a.1 = b.1 && (a.2.1 < b.2.1 || (a.2.1 = b.2.1 &&
    (a.2.2.1 < b.2.2.1 || (a.2.2.1 = b.2.2.1 && a.2.2.2 < b.2.2.2)))))

/-- The first candidate in the order of victims. -/
def bestVictim (s : State) : List (Nat × Band) → Option (Nat × Band)
  | [] => none
  | p :: l => match bestVictim s l with
    | some q => if before4 (victimKey q.1 q.2 s) (victimKey p.1 p.2 s) then some q else some p
    | none => some p

/-- Release the candidates without a live sector. -/
def releaseEmpty (s : State) : State :=
  each ((reclaimCandidates s).filter fun p => (runsIn p.1 s).isEmpty && !p.2.retiring) (fun p s =>
    bandRelease p.1 (s.onXlat fun x => { x with victims := (x.victims ++ [p.1]).eraseDups })) s

/-- One step of reclamation: from FREE_LOW until FREE_HIGH, and for bands that must be relocated or refreshed. A
victim begun is finished before another is chosen, unless it is held back (07 R185, R186). -/
def reclaimStep (s : State) : State :=
  let on := freeBelow 0x5112 s && (freeBelow 0x5111 s || s.xlat.reclaiming)
  let s := checkFree (releaseEmpty (s.onXlat fun x => { x with reclaiming := on }))
  let cands := (reclaimCandidates s).filter fun p => !p.2.retiring && !(s.xlat.jobs.any fun j => j.2.targets.contains p.1)
  let goes := fun (p : Nat × Band) => !((victimCost p.1 p.2 s).1 = false && heldBack p.1 s)
  match cands.find? fun p => s.xlat.victims.contains p.1 && goes p with
  | some p => reclaim p.1 p.2 s
  | none =>
    let l := cands.filter fun p => (on || mustReclaim p.1 p.2 s) && goes p
    match bestVictim s l with
    | some p => reclaim p.1 p.2 (s.onXlat fun x => { x with victims := (x.victims ++ [p.1]).eraseDups })
    | none => s

def execReclaimVictim (t : Time) (s : State) : Host.Outcome State Fault Refusal :=
  act t (fun s => if decides s && s.xlat.geo.isSome then reclaimStep s else s) s

/-- Sectors of a source run that the same source run still covers, at their new slots: `r` is the source run, `n` the
run that takes its place (07 R188). -/
def stillLive (r n : Run) (s : State) : List Run :=
  (List.range r.len).foldl (fun l i =>
    let o := r.start + i
    let live := s.xlat.runs.any fun x => x.covers r.lb o && x.band = r.band && x.kind = r.kind && x.epoch = r.epoch &&
      (decide (r.kind = .zero) || x.slot + (o - x.start) = r.slot + i)
    if live then joinRun l { n with start := o, len := 1, slot := if r.kind = .zero then n.slot else n.slot + i } else l) []

/-- The runs that a compaction stripe moves. -/
def movedRuns (s : State) : List Run → List Run → List Run
  | r :: l, n :: k => stillLive r n s ++ movedRuns s l k
  | _, _ => []

/-- A compaction stripe commits in one step (07 R188). -/
def compactionCommit (id : Nat) (j : Job) (s : State) : State :=
  match j.kind, j.targets.head? with
  | .compact v, some b =>
    let moved := movedRuns s j.src (runsPlaced b j.hi j.src 0)
    let s := endJob id s
    let s := each moved addRun s
    let s := bump 0x5115 0 (((j.src.filter fun r => decide (r.kind ≠ .zero)).map (·.len)).sum) s
    let s := bandFull b s
    let empty := (runsIn v s).isEmpty
    when empty (bandRelease v) s
  | _, _ => s

def execCompactionCommit (t : Time) (job : Nat) (s : State) : Host.Outcome State Fault Refusal :=
  act t (fun s => match Tbl.get? s.xlat.jobs job with
    | some j =>
      if decides s && j.ready && !(j.targets.any fun b => replacing b s) then compactionCommit job j s else s
    | none => s) s

/-! ### Wear and moves (07 R192, R194) -/

/-- Members on a carrier in data bands, as band, position, EU and OPENSEQ. -/
def dataMembers (c : Nat) (s : State) : List (Nat × Nat × Nat × Nat) :=
  s.xlat.bands.flatMap fun p =>
    if p.2.kind = .data then
      p.2.members.zipIdx.filterMap fun m =>
        if m.1.carrier = c && decide (m.1.mstate = .good) then some (p.1, m.2, m.1.eu, p.2.openseq) else none
    else []

/-- A static move of the carrier is under way. -/
def staticMove (c : Nat) (s : State) : Bool := s.xlat.jobs.any fun p => p.2.car = c && p.2.static

/-- Does a move of the member run? -/
def movesNow (b pos : Nat) (s : State) : Bool := jobRuns (fun k => decide (k = .move b pos)) s

/-- Static wear levelling of one carrier: the least-worn data member of the lowest OPENSEQ moves to the
most-worn free EU. -/
def wearLevel (c : Nat) (s : State) : State :=
  let x := carOf s c
  let l := dataMembers c s
  let w := l.map fun m => wearOf x m.2.2.1
  match leastBy id w with
  | none => s
  | some lo =>
    let diff := w.foldl max 0 - lo
    let spread := cfg 0x5120 s * 10
    let on := if x.moveOn then decide (spread * 80 < diff * 100) else decide (spread < diff)
    let s := onCar c (fun x => { x with moveOn := on }) s
    if !on || staticMove c s then s
    else
      let least := l.filter fun m => wearOf x m.2.2.1 = lo && !movesNow m.1 m.2.1 s
      let seqs := least.map fun m => m.2.2.2
      match least.find? (fun m => some m.2.2.2 = leastBy id seqs), mostBy (wearOf x) x.free with
      | some m, some eu =>
        startMove m.1 m.2.1 eu false true (onFree c (fun x => { x with free := x.free.filter (· ≠ eu) }) s)
      | _, _ => s

def execStaticWearLevel (t : Time) (b : Bay) (s : State) : Host.Outcome State Fault Refusal :=
  act t (fun s =>
    if decides s && (carOf s b.val).state = .inService then wearLevel b.val s else s) s

/-- A verified move is switched in, in one step; the source EU is freed, or retired when a page of it was
unreadable (07 R194, R196). Pages that the source has gained meanwhile are copied first, and a stripe under way in the
band is waited for. -/
def moveSwitch (id : Nat) (j : Job) (s : State) : State :=
  match j.kind with
  | .move b pos =>
    match bandAt s b, (bandAt s b).bind fun e => memberAt e pos with
    | some e, some m =>
      if m.mstate ≠ .good || m.carrier ≠ j.car then restartCopy id s
      else if j.total < e.program then
        jobRead id (onJob id (fun j => { j with
          next := j.total, total := e.program, ready := false, verified := 0, want := [], programming := false }) s)
      else if s.xlat.progs.any fun p => p.2.band = b && !p.2.done then s
      else
        let s := endJob id s
        let s := onBand b (fun e => { e with members := e.members.set pos { m with eu := j.eu } }) s
        let key := b * 32 + pos
        let s := when (s.xlat.refresh.contains key) (bump 0x5144 0 1) s
        releaseSources (s.onXlat fun x => { x with
          refresh := x.refresh.filter (· ≠ key), sources := x.sources ++ [(b, j.car, m.eu, j.urgent)] })
    | _, _ => restartCopy id s
  | _ => s

def execMemberMoveSwitch (t : Time) (job : Nat) (s : State) : Host.Outcome State Fault Refusal :=
  act t (fun s => match Tbl.get? s.xlat.jobs job with
    | some j => if decides s && j.ready then moveSwitch job j s else s
    | none => s) s

/-! ### Scrub, exhaustion, the queue (07 R200, R203, R205) -/

/-- Every programmed band is read once. -/
def scrubAll (s : State) : State :=
  let l := s.xlat.bands.filter fun p => 0 < p.2.program && decide (p.2.kind ≠ .free) &&
    !(s.xlat.jobs.any fun j => decide (j.2.kind = .scrub p.1))
  let s := s.onMedia fun m => { m with scrubLast := s.now }
  each l (fun p s =>
    let id := s.xlat.nextJob
    jobRead id (addJob { jobNew (.scrub p.1) with total := p.2.program } s)) s

def execScrubIntervalExpiry (t : Time) (s : State) : Host.Outcome State Fault Refusal :=
  act t (fun s => if decides s then scrubAll s else s) s

/-- F has stayed at or above FREE_LOW for 10 s. -/
def execExhaustionCleared (t : Time) (s : State) : Host.Outcome State Fault Refusal :=
  act t (fun s =>
    if decides s && s.media.exhausted && !freeBelow 0x5111 s then
      let l := s.cmd.ns.filter fun p => p.2.roExhaust
      let s := each l (fun p s => setReadOnly p.1 1 false s) s
      raise 0x5106 0 (freeBands s) 0x5110 0 (s.onMedia fun m => { m with exhausted := false })
    else s) s

def execMediaQueueSelect (t : Time) (b : Bay) (s : State) : Host.Outcome State Fault Refusal :=
  act t (fun s => selectMedia b.val s) s

/-! ### Rebuild (08 R220 to R224) -/

/-- A rebuild of the member runs. -/
def rebuildRuns (b pos : Nat) (s : State) : Bool :=
  jobRuns (fun k => decide (k = .rebuild b pos)) s

/-- Bands in rebuild. -/
def rebuildBands (s : State) : Nat :=
  ((s.xlat.jobs.filterMap fun p => match p.2.kind with
    | .rebuild b _ => some b
    | _ => none).eraseDups).length

/-- Members without a target, in the order of 08 R222. -/
def rebuildOrder (s : State) : List (Nat × Nat) :=
  let rank := fun (b : Nat) (e : Band) =>
    if 2 ≤ degraded e then 0 else if Tbl.has s.xlat.journal b then 1 else 2
  let l := s.xlat.bands.flatMap fun p => p.2.members.zipIdx.filterMap fun m =>
    if m.1.mstate ≠ .good && !p.2.retiring && !rebuildRuns p.1 m.2 s && !s.xlat.relocate.contains p.1 &&
        (!ownTarget m.1 s || eligible s m.1.carrier) then
      some (p.1, p.2, m.2)
    else none
  let l := sortBy (fun q => q.2.1.openseq) l
  let l := sortBy (fun q => if rank q.1 q.2.1 = 2 then 2 ^ 32 - q.2.1.readCount else 0) l
  (sortBy (fun q => rank q.1 q.2.1) l).map fun q => (q.1, q.2.2)

/-- The next lost member gets a target; a band already in rebuild takes its second beside it. -/
def rebuildNext (s : State) : State :=
  let inBand := fun (b : Nat) => jobRuns (fun k => match k with
    | .rebuild x _ => x = b
    | _ => false) s
  match (rebuildOrder s).find? fun q => rebuildBands s < cfg 0x5205 s || inBand q.1 with
  | some q => startRebuild q.1 q.2 s
  | none => s

def execRebuildStart (t : Time) (s : State) : Host.Outcome State Fault Refusal :=
  act t (fun s => if decides s then rebuildNext s else s) s

/-- Stripes of the band still being programmed are issued to the member that has been switched in. -/
def issueToTarget (b pos : Nat) (m : Member) (s : State) : State :=
  let l := s.xlat.progs.filter fun p => p.2.band = b && !p.2.done && !p.2.waiting.contains pos
  each l (fun p s => match p.2.pages[pos]?.getD none with
    | some d =>
      let s := s.onXlat fun x => { x with progs := Tbl.upd x.progs p.1 fun y => { y with waiting := y.waiting ++ [pos] } }
      queueMedia m.carrier (mediaCmd .program m.eu p.2.stripe 0 0 d (destQueue p.2.dest s) (.stripe p.1 pos) b) s
    | none => s) s

/-- A verified target is switched in with MSTATE GOOD; the pass goes on first over stripes that an open band has
gained. The old EU is retired if its carrier is in service (08 R221). -/
def rebuildSwitch (id : Nat) (j : Job) (s : State) : State :=
  match j.kind with
  | .rebuild b pos =>
    match bandAt s b with
    | none => freeEu j.car j.eu (endJob id s)
    | some e =>
      if j.total < e.program then
        jobRead id (onJob id (fun j => { j with
          total := e.program, ready := false, verified := 0, want := [], programming := false }) s)
      else match memberAt e pos with
        | none => endJob id s
        | some old =>
          let m : Member := { carrier := j.car, eu := j.eu, mstate := .good }
          let s := endJob id s
          let s := onBand b (fun e => { e with members := e.members.set pos m }) s
          let s := issueToTarget b pos m s
          let retire := old.carrier < 24 && decide ((carOf s old.carrier).state = .inService) &&
            !(carOf s old.carrier).bad.contains old.eu
          let s := when retire (fun s => releaseSources (s.onXlat fun x =>
            { x with sources := x.sources ++ [(b, old.carrier, old.eu, true)] })) s
          rebuildComplete (bump 0x5208 0 1 s)
  | _ => s

def execRebuildSwitch (t : Time) (job : Nat) (s : State) : Host.Outcome State Fault Refusal :=
  act t (fun s => match Tbl.get? s.xlat.jobs job with
    | some j => if decides s && j.ready then rebuildSwitch job j s else s
    | none => s) s

/-! ### Lost ranges and the floor (08 R228, R230) -/

/-- All entries of the lost-range list. -/
def lostAll : Nat := 0xFFFFFFFF

/-- A position of the list, from 1, or all of it; another value is out of range (DEDUCED, log entry 69). -/
def lostClearCheck (c : WCtx) (s : State) : EpStatus :=
  refuseIf (c.nat ≠ lostAll && (c.nat = 0 || s.xlat.lost.length < c.nat)) .range

/-- The lost sectors of a list entry as zero runs. -/
def lostZeros (e : Lost) (s : State) : List Run :=
  (List.range e.count).foldl (fun l i => match lbOf e.ns (e.lba + i) s with
    | some (lb, o) =>
      if s.xlat.runs.any fun r => decide (r.kind = .lost) && r.covers lb o then
        joinRun l { lb, start := o, len := 1, kind := .zero, epoch := (lbAt s lb).epoch, band := noBand, slot := 0 }
      else l
    | none => l) []

/-- Remove entries of the list: their lost runs turn into zero runs. -/
def lostClear (n : Nat) (s : State) : State :=
  let gone := if n = lostAll then s.xlat.lost else (s.xlat.lost[n - 1]?).toList
  let s := each gone (fun e s => each (lostZeros e s) addRun s) s
  let s := s.onXlat fun x => { x with
    lost := if n = lostAll then [] else x.lost.eraseIdx (n - 1)
    lostFull := false }
  record (.config 0x5243 0 0 (.num n)) s

def execLostClear (t : Time) (w : Write) (s : State) : Host.Outcome State Fault Refusal :=
  act t (fun s => writeObject 0x5243 lostClearCheck (fun c => lostClear c.nat) w s) s

/-- Eligible carriers have stayed at or above NARROW_FLOOR for 10 s. -/
def execNarrowFloorCleared (t : Time) (s : State) : Host.Outcome State Fault Refusal :=
  act t (fun s =>
    if decides s && s.media.floorRo && widthNow s ≠ 0 then
      let s := each s.cmd.ns (fun p s => setReadOnly p.1 2 false s) s
      raise 0x5207 0 (widthNow s) 0x5201 0 (s.onMedia fun m => { m with floorRo := false })
    else s) s

end Sys2Proof.Machine
end

