-- ==== Sys2Proof/Machine/Carriers.lean ====
section
/-! DEFINITION. The rows of the carrier ports (11) and of carriers as array members (08 R216, R225): links,
admission, administrative and media completions, limits; and the outcome of a round of compare-and-set (10
R285), which the carriers' answers decide. -/

namespace Sys2Proof.Machine

/-! ### Rounds (10 R279, R285 to R287, R303; 06 R142) -/

/-- What a round that holds a majority brings. -/
def roundHeld (r : Round) (s : State) : State := match r with
  | .fencing => fencingWon s
  | .takeover => takeoverWon s
  | .solo => soloWon s
  | .force => raise 0x2115 0 0 0x2171 0 (soloWon s)
  | .format => formatWon s
  | .recheck => s.onPair fun p => { p with round := none, won := [], asked := [] }
  | .pairing => acceptRound s

/-- What a round without a majority brings. A module that cannot take the reservations stays in ISOLATED, event
0x210A. -/
def roundFailed (r : Round) (s : State) : State := match r with
  | .fencing => majorityLost s
  | .takeover => takeoverLost s
  | .solo | .force => raise 0x210A 0 s.pair.won.length 0x2160 0 (releaseWon s)
  | .format => formatLost s
  | .recheck | .pairing => majorityLost s

/-- Count a round: fencing holds as soon as it has its majority and fails at its own limit; every other round
waits for all answers or for the deadline. -/
def settleRound (deadline : Bool) (s : State) : State := match s.pair.round with
  | none => s
  | some .fencing => if roundWon s then roundHeld .fencing s else s
  | some r =>
    if !s.pair.asked.isEmpty && !deadline then s
    else if roundWon s then roundHeld r s
    else roundFailed r s

/-- A carrier has answered; `held` says whether it holds the value. -/
def answered (c : Nat) (held : Bool) (s : State) : State :=
  if s.pair.asked.contains c then
    settleRound false (s.onPair fun p => { p with
      asked := p.asked.filter (· ≠ c), won := if held && !p.won.contains c then p.won ++ [c] else p.won })
  else s

/-! ### Links (11 R309, R310, R321, R324) -/

/-- A carrier that fails the checks: event 0x6004; one that was not admitted before is not admitted. -/
def carrierRejected (c value : Nat) (s : State) : State :=
  let x := carOf s c
  let s := raise 0x6004 (c + 1) value 0x5202 (c + 1) s
  if serving s && (decide (x.state = .absent) || decide (x.state = .notAdmitted)) then
    record (.carrierState c .notAdmitted) (onCar c (fun x => { x with state := .notAdmitted }) s)
  else s

/-- Lanes of a link that work: 4, the 2 of one half, or none (11 R310). -/
def linkLanes (bad : List Nat) : Nat :=
  if bad.isEmpty then 4
  else if bad.any (· < 2) && bad.any (2 ≤ ·) then 0
  else 2

/-- Half kept of a narrowed link: lanes 2 and 3 when a lane of the lower half fails. -/
def halfKept (bad : List Nat) : Option Bool := if bad.isEmpty then none else some (bad.any (· < 2))

def execCarrierLinkUp (t : Time) (b : Bay) (d : Descr) (s : State) : Host.Outcome State Fault Refusal :=
  act t (fun s =>
    let c := b.val
    let x := carOf s c
    let other := decide ((match x.descr with
      | some p => p.serial
      | none => x.serial) ≠ d.serial)
    let s := when other (otherCarrier c) s
    let bad := if other then [] else x.badLanes
    if inMode [.reset, .holdup] s || linkLanes bad = 0 then s
    else
      let s := onCar c (fun x => { x with
        linkUp := true, width := linkLanes bad, half := halfKept bad, badLanes := bad, descr := some d
        ready := false, tagBound := false, eventWait := false, asking := []
        listsRead := x.listsRead && !other, bad := if other then [] else x.bad }) s
      let s := raise 0x6001 (b.val + 1) (linkLanes bad) 0x6004 (b.val + 1) s
      if !descrPasses (carOf s c) then carrierRejected c d.protocol s
      else if (carOf s c).serial = d.serial then carrierBack c s
      else s) s

/-- A link is down: its rings are discarded; the serving module loses the carrier. -/
def linkFalls (c : Nat) (s : State) : State :=
  if !(carOf s c).linkUp then s
  else
    let s := onCar c (fun x => { x with
      linkUp := false, width := 0, ready := false, tagBound := false, eventWait := false, asking := [] }) s
    let s := adminDrop c s
    let s := carrierLost c (raise 0x6002 (c + 1) 0 0x6004 (c + 1) s)
    let x := carOf s c
    if serving s && x.state = .notAdmitted then
      record (.carrierState c .absent) (onCar c (fun x => { x with state := .absent }) s)
    else onCar c (fun x => { x with out := [] }) s

def execCarrierLinkDown (t : Time) (b : Bay) (s : State) : Host.Outcome State Fault Refusal :=
  act t (linkFalls b.val) s

/-- The link stays in Recovery longer than 10 ms. -/
def execCarrierRecoveryTimeout (t : Time) (b : Bay) (s : State) : Host.Outcome State Fault Refusal :=
  act t (fun s => linkFalls b.val s) s

/-- A lane fails: the half that holds no failing lane is kept, with its repair-map entry and event 0x6003; with
a failing lane in both halves the link goes down. -/
def laneFails (c lane : Nat) (s : State) : State :=
  let x := carOf s c
  if x.badLanes.contains lane then s
  else
    let bad := x.badLanes ++ [lane]
    let s := onCar c (fun x => { x with badLanes := bad, half := halfKept bad }) s
    if linkLanes bad = 0 then linkFalls c s
    else
      let s := addRepair 7 2 (c + 1) (if halfKept bad = some true then 1 else 0) s
      let s := onCar c (fun x => { x with width := if x.linkUp then linkLanes bad else 0 }) s
      raise 0x6003 (c + 1) (linkLanes bad) 0x6004 (c + 1) s

/-- A lane fails equalisation, or its margin has stayed below the floor for 10 s. -/
def execCarrierLinkNarrowed (t : Time) (b : Bay) (lane : Fin 4) (s : State) : Host.Outcome State Fault Refusal :=
  act t (fun s => laneFails b.val lane.val s) s

/-- One margin of a lane: below 10 mV or 0.08 UI for 10 s it narrows the link (11 R310; 17 R445). -/
def laneMargin (c lane mv mui : Nat) (s : State) : State :=
  let low := mv < 10 || mui < 80
  match low, Tbl.get? (carOf s c).marginLow lane with
  | false, _ => onCar c (fun x => { x with marginLow := Tbl.del x.marginLow lane }) s
  | true, none => onCar c (fun x => { x with marginLow := Tbl.put x.marginLow lane s.now }) s
  | true, some since => if since + 10 * second ≤ s.now then laneFails c lane s else s

def execLaneMargining (t : Time) (b : Bay) (lane : Fin 4) (millivolt milliUi : Nat) (s : State) :
    Host.Outcome State Fault Refusal :=
  act t (laneMargin b.val lane.val millivolt milliUi) s

/-- READY is seen: the carrier is set up; one whose geometry does not fit the array stays out, event
0x5008. -/
def execCarrierReady (t : Time) (b : Bay) (s : State) : Host.Outcome State Fault Refusal :=
  act t (fun s =>
    let c := b.val
    let x := carOf s c
    if !x.linkUp || !descrPasses x then s
    else
      let s := onCar c (fun x => { x with ready := true }) s
      let r := misfitOut c s
      if r.1 then r.2 else carrierSetup c r.2) s

/-- DL_Up or READY has not come within 1 s; the first second runs only while the module's own bay output is ON
(11 R324). -/
def execCarrierAdmitTimeout (t : Time) (b : Bay) (s : State) : Host.Outcome State Fault Refusal :=
  act t (fun s =>
    let c := b.val
    let x := carOf s c
    if x.linkUp && x.ready then s
    else if !x.linkUp && (bayOf s c).state ≠ .on then s
    else carrierLost c (carrierRejected c 0 s)) s

/-- 600 s have passed without the carrier's return. -/
def execCarrierLostTimeout (t : Time) (b : Bay) (s : State) : Host.Outcome State Fault Refusal :=
  act t (fun s => if serving s && (carOf s b.val).state = .lost then replaceBit b.val 5 s else s) s

/-- A readmission is for a carrier that is held out, and a matter of the serving module (08 R216). -/
def readmitCheck (c : WCtx) (s : State) : EpStatus :=
  refuseIf (c.nat = 1 && (!serving s || (carOf s (c.sub - 1)).state ≠ .heldOut)) .mode

/-- The carrier returns; one whose link is not there is lost again. -/
def readmitEffect (c : WCtx) (s : State) : State :=
  let b := c.sub - 1
  if c.nat = 0 then s
  else
    let s := carrierReturn b s
    if sameCarrier (carOf s b) then s else carrierLost b s

def execCarrierReadmit (t : Time) (w : Write) (s : State) : Host.Outcome State Fault Refusal :=
  act t (fun s => writeObject 0x520B readmitCheck readmitEffect w s) s

/-! ### Statuses (11 R316) -/

/-- Code of a status. -/
def statusCode : CarStatus → Nat
  | .success => 0 | .invalidOpcode => 0x10 | .invalidField => 0x11 | .outOfRange => 0x12 | .pageOrder => 0x13
  | .euBad => 0x14 | .modeConflict => 0x15 | .notHolder => 0x20 | .reserveMismatch => 0x21 | .tagInUse => 0x22
  | .listFull => 0x23 | .uncorrectable => 0x30 | .erased => 0x31 | .programFailed => 0x32 | .eraseFailed => 0x33
  | .modeFailed => 0x34 | .transferFailed => 0x38 | .fatal k => 0xE0 + k.val

/-- A status that makes the carrier lost: event 0x6006. -/
def carrierFatal (c : Nat) (st : CarStatus) (s : State) : State :=
  carrierLost c (raise 0x6006 (c + 1) (statusCode st) 0x5202 (c + 1) s)

/-- The other link is bound to this module's tag: the carrier is not admitted, event 0x6009. -/
def tagConflict (c : Nat) (s : State) : State :=
  let s := raise 0x6009 (c + 1) 0x22 0x5202 (c + 1) s
  let x := carOf s c
  if serving s && (decide (x.state = .absent) || decide (x.state = .notAdmitted)) then
    record (.carrierState c .notAdmitted) (onCar c (fun x => { x with state := .notAdmitted }) s)
  else carrierLost c s

/-- The response to a status that has no response of its own in the command's row. -/
def otherStatus (c : Nat) (st : CarStatus) (s : State) : State := match st with
  | .success => s
  | .notHolder => recheck s
  | .tagInUse => tagConflict c s
  | .listFull => raise 0x600A (c + 1) 0x23 0x5202 (c + 1) s
  | .reserveMismatch => s
  | _ => carrierFatal c st s

/-! ### Administrative completions (11 R314) -/

/-- Number of an administrative command that brings a data page. -/
def adminNo (op : CarOp) (level : Nat) : Nat := match op with
  | .identify => 0
  | .badEuList => 1
  | _ => 2 + level

/-- A command with a data page has completed without success. Its first failed transfer has it issued again (11 R316). -/
def adminFailed (c : Nat) (op : CarOp) (level : Nat) (st : CarStatus) (s : State) : State :=
  let k := adminNo op level
  if st = .transferFailed && !(carOf s c).adminAgain.contains k then
    adminCmd c op level 0 0 (onCar c (fun x => { x with adminAgain := x.adminAgain ++ [k] }) s)
  else otherStatus c st s

/-- It has completed with success. -/
def adminOk (c : Nat) (op : CarOp) (level : Nat) (s : State) : State :=
  onCar c (fun x => { x with adminAgain := x.adminAgain.filter (· ≠ adminNo op level) }) s

def execCarrierIdentifyDone (t : Time) (b : Bay) (status : CarStatus) (inputs : BitVec 3) (temp : Int) (width : Nat)
    (s : State) : Host.Outcome State Fault Refusal :=
  act t (fun s => match status with
    | .success => onCar b.val (fun x => { x with inputs, temp, width := if x.linkUp then width else 0 })
        (adminOk b.val .identify 0 (adminDone b.val s))
    | st => adminFailed b.val .identify 0 st (adminDone b.val s)) s

/-- The tag is bound; a carrier with everything else in place is admitted. -/
def execSetLinkTagDone (t : Time) (b : Bay) (status : CarStatus) (s : State) : Host.Outcome State Fault Refusal :=
  act t (fun s => match status with
    | .success => tryAdmit b.val (onCar b.val (fun x => { x with tagBound := x.linkUp }) s)
    | st => otherStatus b.val st s) s

/-- A value of this module is on a carrier: it enters the record, and the carrier may be admitted. -/
def reservedNow (c : Nat) (v : BitVec 64) (s : State) : State :=
  tryAdmit c (record (.reserve c v) (s.onPair fun p => { p with reserved := Tbl.put p.reserved c v }))

/-- A compare-and-set completes. The value held is NEW after success and the prior value after a mismatch; it is
an answer to the round that runs, or the reservation of a carrier at its admission. -/
def reserveDone (c : Nat) (st : CarStatus) (prior : BitVec 64) (s : State) : State :=
  let x := carOf s c
  let new := x.asking.headD (nextValue s)
  let s := onCar c (fun x => { x with
    asking := x.asking.drop 1
    value := match st with
      | .success => new
      | .reserveMismatch => prior
      | _ => x.value }) s
  match st with
  | .success =>
    if s.pair.round.isSome && s.pair.asked.contains c && new = nextValue s then answered c true s
    else if serving s && new = ownValue s then reservedNow c new s
    else s
  | .reserveMismatch => answered c false s
  | st => otherStatus c st (answered c false s)

def execReserveDone (t : Time) (b : Bay) (status : CarStatus) (prior : BitVec 64) (s : State) :
    Host.Outcome State Fault Refusal :=
  act t (reserveDone b.val status prior) s

/-- A value is read: for a check of the majority it is counted; in a round it becomes the expected value of the
compare-and-set; on a carrier that joins the shelf it is the expected value of its reservation. -/
def valueRead (c : Nat) (v : BitVec 64) (s : State) : State :=
  let s := onCar c (fun x => { x with value := v }) s
  if s.pair.asked.contains c then
    match s.pair.round with
    | some .recheck => answered c (v = ownValue s) s
    | some _ =>
      adminCmd c .reserve 0 v (nextValue s) (s.onPair fun p => { p with expected := Tbl.put p.expected c v })
    | none => s
  else if serving s && v ≠ ownValue s && descrPasses (carOf s c) then adminCmd c .reserve 0 v (ownValue s) s
  else if serving s then tryAdmit c s
  else s

def execReserveReadDone (t : Time) (b : Bay) (status : CarStatus) (value : BitVec 64) (s : State) :
    Host.Outcome State Fault Refusal :=
  act t (fun s => match status with
    | .success => valueRead b.val value s
    | st => otherStatus b.val st (answered b.val false s)) s

/-- The 4 µs deadline of a round passes: a carrier that has not answered counts as not held. -/
def execReserveAnswerDeadline (t : Time) (s : State) : Host.Outcome State Fault Refusal :=
  act t (fun s => settleRound true (s.onPair fun p => { p with asked := [] })) s

def execTemperatureDone (t : Time) (b : Bay) (status : CarStatus) (die _bridge : Int) (s : State) :
    Host.Outcome State Fault Refusal :=
  act t (fun s => match status with
    | .success => onCar b.val (fun x => { x with temp := die }) s
    | st => otherStatus b.val st s) s

/-- The bad-EU list joins what the map image holds of the same carrier. -/
def execBadEuListDone (t : Time) (b : Bay) (status : CarStatus) (eus : List Nat) (s : State) :
    Host.Outcome State Fault Refusal :=
  act t (fun s => match status with
    | .success => tryAdmit b.val (onCar b.val (fun x => { x with
        bad := x.bad ++ eus.filter fun e => !x.bad.contains e
        listsRead := true }) (adminOk b.val .badEuList 0 (adminDone b.val s)))
    | st => adminFailed b.val .badEuList 0 st (adminDone b.val s)) s

/-- The order of the retry levels; when the command fails the order is ascending (07 R199). -/
def execRetryLevelsDone (t : Time) (b : Bay) (status : CarStatus) (slc : Bool) (levels : List Nat) (s : State) :
    Host.Outcome State Fault Refusal :=
  act t (fun s =>
    let l := if status = .success then levels else []
    let s := adminDone b.val (onCar b.val (fun x => if slc then { x with retrySlc := l } else { x with retryNative := l }) s)
    let level := if slc then 1 else 0
    if status = .success then adminOk b.val .retryLevels level s else adminFailed b.val .retryLevels level status s) s

/-- An event of the carrier (11 R322); the next wait is posted at once. -/
def carrierEvent (c code : Nat) (s : State) : State :=
  let input := fun (k : Nat) (present : Bool) (s : State) =>
    raise 0x6007 (c + 1) code 0x6005 (c + 1) (onCar c (fun x => { x with
      inputs := if present then x.inputs ||| (1#3 <<< k) else x.inputs &&& ~~~(1#3 <<< k) }) s)
  if code = 1 then input 0 false s
  else if code = 2 then input 0 true s
  else if code = 3 then input 1 false s
  else if code = 4 then input 1 true s
  else if code = 5 then raise 0x6008 (c + 1) code 0x6006 (c + 1) s
  else if code = 7 then carrierLost c (onCar c (fun x => { x with inputs := x.inputs ||| 4#3 }) s)
  else s

def execEventWaitDone (t : Time) (b : Bay) (status : CarStatus) (code : BitVec 16) (s : State) :
    Host.Outcome State Fault Refusal :=
  act t (fun s => match status with
    | .success =>
      let s := adminCmd b.val .eventWait 0 0 0 s
      carrierEvent b.val code.toNat s
    | st => otherStatus b.val st (onCar b.val (fun x => { x with eventWait := false }) s)) s

/-! ### Media completions (11 R315, R316) -/

/-- Band and member position of an EU of a carrier. -/
def memberOfEu (c eu : Nat) (s : State) : Option (Nat × Nat) :=
  s.xlat.bands.findSome? fun p =>
    (p.2.members.findIdx? fun m => m.carrier = c && m.eu = eu && m.mstate ≠ .lost).map fun i => (p.1, i)

/-- The copy whose target is an EU. -/
def jobOfEu (c eu : Nat) (s : State) : Option (Nat × Job) :=
  s.xlat.jobs.find? fun p => p.2.car = c && p.2.eu = eu && (match p.2.kind with
    | .move .. | .rebuild .. => true
    | _ => false)

/-- A page of a stripe is no longer waited for. -/
def stripePage (id pos : Nat) (s : State) : State :=
  let r := pageDone id pos s
  match r.1 with
  | some j => jobStripeDone j r.2
  | none => r.2

/-- Commands queued for an EU that failed are dropped: a stripe's page counts as not issued, since its
replacement is programmed from the start. -/
def dropQueued (c eu : Nat) (s : State) : State :=
  let hit := (carOf s c).queue.filter fun m => m.eu = eu && decide (m.op ≠ .markBad)
  let s := onCar c (fun x => { x with queue := x.queue.filter fun m => !(m.eu = eu && decide (m.op ≠ .markBad)) }) s
  each hit (fun m s => match m.purpose with
    | .stripe id pos => stripePage id pos s
    | _ => s) s

/-- A copy whose target EU failed takes the next EU of the carrier's talon and starts from the first page; event
0x5108. With no EU it is started again later (07 R197, R198). -/
def retarget (id : Nat) (j : Job) (s : State) : State :=
  match takeTalon j.car s with
  | none => restartCopy id (retireEu j.car j.eu s)
  | some (eu, s) =>
    let s := retireEu j.car j.eu s
    let band := match j.kind with
      | .move b _ | .rebuild b _ => b
      | _ => noBand
    let slc := ((bandAt s band).map fun e => decide (e.kind = .staging)).getD false
    let s := onJob id (fun j => { j with
      eu, next := 0, got := [], want := [], programming := false, verified := 0, ready := false }) s
    let s := prepareEu j.car eu slc (jobQueue j s) band s
    jobRead id (raise 0x5108 (j.car + 1) eu 0x5131 (j.car + 1) s)

/-- An EU failed a program, or an erase after it was taken (07 R196, R197). -/
def euFailed (c eu : Nat) (s : State) : State :=
  let s := dropQueued c eu s
  match jobOfEu c eu s with
  | some (id, j) => retarget id j s
  | none => match memberOfEu c eu s with
    | some (b, pos) => replaceMember b pos s
    | none => retireEu c eu s

/-- A carrier copy of the journal could not be written: the next healthy carrier receives the whole journal,
event 0x5004 (06 R175). -/
def journalCopyFailed (c band : Nat) (s : State) : State :=
  moveCopies band (onCar c (fun x => { x with
    sysFailed := true, queue := x.queue.filter fun m => m.purpose ≠ .system }) s)

/-- A media command that could not be performed for want of the reservation, or of a transfer, goes back to the
head of its queue. -/
def requeue (c : Nat) (m : MediaCmd) (s : State) : State :=
  onCar c (fun x => { x with queue := m :: x.queue }) s

/-- The statuses that every media command meets alike: a first failed transfer is reissued, a second is fatal;
a command of a module that is not the holder waits while the majority is checked. -/
def mediaStatus (c : Nat) (m : MediaCmd) (st : CarStatus) (s : State) : State := match st with
  | .transferFailed =>
    if m.reissued then carrierFatal c st (requeue c m s) else requeue c { m with reissued := true } s
  | .notHolder => recheck (requeue c m s)
  | st => otherStatus c st (requeue c m s)

/-- Take a completed command off its carrier's list. -/
def takeOut (c cid : Nat) (s : State) : Option (MediaCmd × State) :=
  (Tbl.get? (carOf s c).out cid).map fun m => (m, onCar c (fun x => { x with out := Tbl.del x.out cid }) s)

/-- With the completion of a media command the carrier makes progress: what it left is looked at again. -/
def mediaDone (c cid : Nat) (k : MediaCmd → State → State) (s : State) : State := match takeOut c cid s with
  | some (m, s) => releaseSources (k m s)
  | none => s

/-- Corrected bits at or above REFRESH_BITS of what the carrier corrects. -/
def needsRefresh (c corrected : Nat) (s : State) : Bool := match (carOf s c).descr with
  | some d => d.correctBits * cfg 0x5141 s ≤ corrected * 100
  | none => false

/-- A page has been read: a retry that succeeded sets the band's retry position; many corrected bits and a retry
ask for a refresh, and refuse the verification of a copy (07 R194, R199, R200). -/
def readSucceeded (c : Nat) (m : MediaCmd) (corrected : Nat) (l : List Bytes) (s : State) : State :=
  let pos := posOf m.band c m.eu s
  let many := needsRefresh c corrected s
  let s := when (m.level ≠ 0) (onBandLocal m.band (fun e => { e with
    retryPos := (retryOrder (carOf s c) m.eu).findIdx (fun k => k = m.level) + 1 })) s
  let verify : Bool := match m.purpose with
    | .jobVerify _ => true
    | _ => false
  if verify then pageRead m pos (if many then none else some l) s
  else
    let s := when (many || m.level ≠ 0) (scheduleRefresh m.band pos false) s
    readDisturb m.band (pageRead m pos (some l) s)

def execCarrierReadDone (t : Time) (b : Bay) (cid : Nat) (status : CarStatus) (corrected : Nat)
    (sectors : List Bytes) (s : State) : Host.Outcome State Fault Refusal :=
  act t (mediaDone b.val cid (fun m s => match status with
    | .success => readSucceeded b.val m corrected sectors s
    | .erased => if blankPage m s then readBlank m s else readFailed b.val m (bump 0x6007 (b.val + 1) 1 s)
    | .uncorrectable => readFailed b.val m (bump 0x6007 (b.val + 1) 1 s)
    | st => mediaStatus b.val m st s)) s

/-- A page has been programmed. -/
def programSucceeded (m : MediaCmd) (s : State) : State := match m.purpose with
  | .stripe id pos => stripePage id pos s
  | .jobProg j => jobStripeDone j s
  | _ => s

/-- A program has failed: the EU is replaced, and the stripe goes on without the page (07 R197). -/
def programFails (c : Nat) (m : MediaCmd) (s : State) : State := match m.purpose with
  | .system => journalCopyFailed c m.band s
  | .stripe id pos => stripePage id pos (euFailed c m.eu s)
  | _ => euFailed c m.eu s

def execCarrierProgramDone (t : Time) (b : Bay) (cid : Nat) (status : CarStatus) (s : State) :
    Host.Outcome State Fault Refusal :=
  act t (mediaDone b.val cid (fun m s => match status with
    | .success => programSucceeded m s
    | .programFailed => programFails b.val m (bump 0x6008 (b.val + 1) 1 s)
    | st => mediaStatus b.val m st s)) s

/-- An erase or a cell mode has failed: the EU is replaced; of a system EU the journal's copy moves on. -/
def eraseFails (c : Nat) (m : MediaCmd) (s : State) : State :=
  if m.purpose = .system then journalCopyFailed c m.band s else journalStaging (euFailed c m.eu s)

def execCarrierEraseDone (t : Time) (b : Bay) (cid : Nat) (status : CarStatus) (s : State) :
    Host.Outcome State Fault Refusal :=
  act t (mediaDone b.val cid (fun m s => match status with
    | .success => journalStaging (addWear b.val m.eu s)
    | .eraseFailed | .modeFailed => eraseFails b.val m (bump 0x6009 (b.val + 1) 1 s)
    | st => mediaStatus b.val m st s)) s

/-- A cell mode has been set: the erase that follows uses it. -/
def execSetCellModeDone (t : Time) (b : Bay) (cid : Nat) (status : CarStatus) (s : State) :
    Host.Outcome State Fault Refusal :=
  act t (mediaDone b.val cid (fun m s => match status with
    | .success => onCar b.val (fun x => { x with
        slc := if m.level = 1 then (if x.slc.contains m.eu then x.slc else x.slc ++ [m.eu])
               else x.slc.filter (· ≠ m.eu) }) s
    | .eraseFailed | .modeFailed => eraseFails b.val m (bump 0x6009 (b.val + 1) 1 s)
    | st => mediaStatus b.val m st s)) s

/-- An EU is on the carrier's bad-EU list; with a full list the retirement stays in the map image alone. -/
def execMarkBadDone (t : Time) (b : Bay) (cid : Nat) (status : CarStatus) (s : State) :
    Host.Outcome State Fault Refusal :=
  act t (mediaDone b.val cid (fun m s => match status with
    | .success => s
    | .listFull => raise 0x600A (b.val + 1) 0x23 0x5202 (b.val + 1) s
    | st => mediaStatus b.val m st s)) s

/-! ### Limits (11 R317, R322) -/

/-- A carrier misses a limit: counted, event 0x6005, and lost. -/
def limitMissed (c value : Nat) (s : State) : State :=
  carrierLost c (raise 0x6005 (c + 1) value 0x600A (c + 1) (bump 0x600A (c + 1) 1 s))

/-- No media completion has arrived for PROGRESS_LIMIT while a command is outstanding. -/
def execProgressLimitExpiry (t : Time) (b : Bay) (s : State) : Host.Outcome State Fault Refusal :=
  act t (fun s =>
    let n := (carOf s b.val).out.length
    if n = 0 then s else limitMissed b.val n s) s

/-- A media command has been outstanding longer than MEDIA_AGE_LIMIT. -/
def execMediaAgeLimitExpiry (t : Time) (b : Bay) (cid : Nat) (s : State) : Host.Outcome State Fault Refusal :=
  act t (fun s => if Tbl.has (carOf s b.val).out cid then limitMissed b.val cid s else s) s

/-- An administrative command has missed its completion limit. -/
def execAdminCompletionLimitExpiry (t : Time) (b : Bay) (s : State) : Host.Outcome State Fault Refusal :=
  act t (fun s =>
    if (carOf s b.val).linkUp && adminAllowed s then limitMissed b.val 0 (answered b.val false s) else s) s

/-- TEMP_POLL has passed. -/
def execTempPollExpiry (t : Time) (b : Bay) (s : State) : Host.Outcome State Fault Refusal :=
  act t (fun s => adminCmd b.val .temperature 0 0 0 s) s

end Sys2Proof.Machine
end

