-- ==== Sys2Proof/Machine/Records.lean ====
section
/-! DEFINITION. Sealing a cycle record (10 R271 to R274), and what stops when the module leaves every mode
that works (12 R342; 14 R369). -/

namespace Sys2Proof.Machine

/-- Is the entry a receive position of the connection? -/
def positionOf (conn : Nat) : RecEntry → Bool
  | .rxPosition k _ _ => k = conn
  | _ => false

/-- Only the position at the cycle's end is named (10 R272, RX_POSITION). -/
def lastPositions : List RecEntry → List RecEntry
  | [] => []
  | .rxPosition k p q :: l =>
    if l.any (positionOf k) then lastPositions l else .rxPosition k p q :: lastPositions l
  | e :: l => e :: lastPositions l

/-- Decisions that were held and fit the next record, and those still held (10 R273). -/
def fitHeld : List RecEntry → List RecEntry → List RecEntry × List RecEntry
  | l, [] => (l, [])
  | l, e :: held =>
    if recordLen l + entryLen e ≤ 65536 then fitHeld (l ++ [e]) held else (l, e :: held)

/-- Records the caddy ring of 128 MiB holds, newest first (06 R153). -/
def ringFit : Nat → List (Nat × CycleRec) → List (Nat × CycleRec)
  | _, [] => []
  | room, (n, r) :: l => if r.length ≤ room then (n, r) :: ringFit (room - r.length) l else []

/-- Put a record into the caddy ring. -/
def ringPut (r : CycleRec) (s : State) : State :=
  s.onPair fun p => { p with ring := (ringFit 134217728 (Tbl.put p.ring r.cycle r).reverse).reverse }

/-- Entry types that protocol version 1 lacks: CONN_OPEN, CONN_END and PLAN (10 R301). -/
def onlyVersion2 : RecEntry → Bool
  | .connOpen .. | .txPosition .. | .connEnd .. | .plan .. => true
  | _ => false

/-- The record of the cycle that runs (10 R271). -/
def recordNow (handover join : Bool) (s : State) : CycleRec :=
  let p := s.pair
  let l := lastPositions p.entries
  let l := if p.protocol = 1 then l.filter fun e => !onlyVersion2 e else l
  { format := if p.protocol = 0 then 2 else p.protocol, handover, cold := p.paired && p.cold, join,
    length := recordLen l, cycle := p.cycle, epoch := p.epoch, clock := (p.cycle + 1) * 8000,
    confirmed := p.committed, entries := l }

/-- Seal the record of the cycle that runs: it is in the caddy ring, and the decisions held enter the next
(10 R274). -/
def sealRecord (handover join : Bool) (s : State) : CycleRec × State :=
  let r := recordNow handover join s
  let s := peak 0x2115 0 r.length (ringPut r s)
  let next := fitHeld [] s.pair.heldEntries
  (r, s.onPair fun p => { p with lastSealed := p.cycle, entries := next.1, heldEntries := next.2 })

/-- Every output of the bays is off and every bay is held off; the pins and their timers go on (12 R331, R343;
14 R374). -/
def baysOff (s : State) : State :=
  s.onBays fun v => v.map fun b => { b with
    state := .heldOff, aux := .off, retries := [], reseat := false, mA := 0, mv := 0, auxTrips := [],
    calibrating := false }

/-- The module stops: the running record is sealed, and connections, media work, sessions, the partner, the
attach endpoint and working memory are lost (12 R342, R343; 14 R369). -/
def stopAll (s : State) : State :=
  let s := if decides s then (sealRecord false false s).2 else s
  let s := losePartner (dropMediaWork (dropConnections s))
  let s := s.onPair fun p => { p with
    round := none, won := [], asked := [], planned := [], entries := [], heldEntries := [], link := 0,
    unacked := [], heartbeat := false }
  let s := endSessions (baysOff s)
  let s := s.onCmd fun c => { c with cmds := [] }
  let s := s.onPools fun v => v.map fun q => { q with used := 0 }
  { s with attach := State.reset.attach }

/-- Feed loss: HOLDUP from every mode but RESET and HOLDUP (12 R342). A capacitance measurement is
abandoned. -/
def enterHoldup (s : State) : State :=
  if inMode [.reset, .holdup] s then s
  else
    let s := s.onPower fun p => { p with
      holdRunning := true, lossAt := some s.now, lastHoldup := s.now, measuring := false, samples := [] }
    enterMode .holdup (stopAll s)

/-- Enter RESET with its cause (14 R369, R396). -/
def enterReset (cause : Nat) (s : State) : State :=
  enterMode .reset ((stopAll s).onMode fun m => { m with
    resetCause := cause, quiesceBy := .none, handover := none, safeCause := 0 })

end Sys2Proof.Machine
end

