-- ==== Sys2Proof/Machine/Power.lean ====
section
/-! DEFINITION. Feeds, bay power and hold-up (12): the feed states, the bay state machine and its faults, the
auxiliary outputs, the hold-up sequence's end and the capacitance test. -/

namespace Sys2Proof.Machine

/-! ### Feeds (12 R328 to R330) -/

def onFeed (f : Nat) (g : FeedSt → FeedSt) (s : State) : State :=
  s.onPower fun p => { p with feeds := updNat p.feeds f g }

def feedOf (s : State) (f : Nat) : FeedSt := (atNat s.power.feeds f).getD { state := .absent, mv := 0 }

/-- A feed whose pass transistor is enabled. -/
def FeedSt.enabled (f : FeedSt) : Bool := match f.state with
  | .good | .low => true
  | _ => false

/-- The node follows the higher enabled feed, less 20 mV; with none it holds its charge (12 R329). -/
def settleNode (s : State) : State :=
  let l := (s.power.feeds.toList.filter FeedSt.enabled).map (·.mv)
  if l.isEmpty then s else s.onPower fun p => { p with nodeMv := l.foldl max 0 - 20 }

/-- A feed takes a state at a voltage; the node follows. -/
def feedTo (f : Nat) (st : FeedState) (mv : Nat) (s : State) : State :=
  settleNode (onFeed f (fun _ => { state := st, mv }) s)

/-- A feed whose state stays at a new voltage. -/
def feedSame (f mv : Nat) (s : State) : State := settleNode (onFeed f (fun x => { x with mv }) s)

/-- Both feeds LOST or OVERVOLTAGE is feed loss (12 R342). -/
def feedsLost (s : State) : Bool := s.power.feeds.toList.all fun f => match f.state with
  | .lost | .overvoltage => true
  | _ => false

def checkFeeds (s : State) : State := if feedsLost s then enterHoldup s else s

/-- The comparators and the pin timers work while the always-on domain runs (14 R374). -/
def awake (f : State → State) (s : State) : State := if s.mode.alwaysOn then f s else s

/-- Above 10.8 V for 10 ms. -/
def execFeedGood (t : Time) (f : Feed) (millivolt : Nat) (s : State) : Host.Outcome State Fault Refusal :=
  act t (awake fun s => match (feedOf s f.val).state with
    | .absent | .lost => raise 0x6102 (f.val + 1) millivolt 0x6100 (f.val + 1) (feedTo f.val .good millivolt s)
    | .low => feedTo f.val .good millivolt s
    | _ => feedSame f.val millivolt s) s

/-- Below 10.6 V for 100 µs. -/
def execFeedLow (t : Time) (f : Feed) (millivolt : Nat) (s : State) : Host.Outcome State Fault Refusal :=
  act t (awake fun s => match (feedOf s f.val).state with
    | .good => raise 0x6103 (f.val + 1) millivolt 0x6100 (f.val + 1) (feedTo f.val .low millivolt s)
    | _ => feedSame f.val millivolt s) s

/-- Below 10.2 V for 0.5 µs; with both feeds gone the module enters HOLDUP. -/
def execFeedLost (t : Time) (f : Feed) (millivolt : Nat) (s : State) : Host.Outcome State Fault Refusal :=
  act t (awake fun s => match (feedOf s f.val).state with
    | .good | .low =>
      checkFeeds (raise 0x6101 (f.val + 1) millivolt 0x6100 (f.val + 1) (feedTo f.val .lost millivolt s))
    | _ => feedSame f.val millivolt s) s

/-- Above 14.0 V for 1 µs. -/
def execFeedOvervoltage (t : Time) (f : Feed) (millivolt : Nat) (s : State) : Host.Outcome State Fault Refusal :=
  act t (awake fun s => match (feedOf s f.val).state with
    | .overvoltage => feedSame f.val millivolt s
    | _ =>
      checkFeeds (raise 0x6104 (f.val + 1) millivolt 0x6100 (f.val + 1) (feedTo f.val .overvoltage millivolt s))) s

/-- Below 13.5 V for 10 ms. -/
def execFeedOvervoltageClear (t : Time) (f : Feed) (millivolt : Nat) (s : State) :
    Host.Outcome State Fault Refusal :=
  act t (awake fun s => match (feedOf s f.val).state with
    | .overvoltage => feedTo f.val .good millivolt s
    | _ => feedSame f.val millivolt s) s

/-- Below the node by more than the regulated drop. -/
def execFeedReverse (t : Time) (f : Feed) (millivolt : Nat) (s : State) : Host.Outcome State Fault Refusal :=
  act t (awake fun s => match (feedOf s f.val).state with
    | .good | .low =>
      raise 0x6105 (f.val + 1) millivolt 0x6100 (f.val + 1) (feedTo f.val .reverse millivolt s)
    | _ => feedSame f.val millivolt s) s

/-- Above the node for 1 ms: GOOD or LOW by voltage. -/
def execFeedReverseClear (t : Time) (f : Feed) (millivolt : Nat) (s : State) :
    Host.Outcome State Fault Refusal :=
  act t (awake fun s => match (feedOf s f.val).state with
    | .reverse => feedTo f.val (if millivolt < 10600 then .low else .good) millivolt s
    | _ => feedSame f.val millivolt s) s

/-- The sequence ends: the caddy is closed, and a RESET_N held low meanwhile takes effect (12 R342; 14
R395). -/
def execHoldupSequenceEnd (t : Time) (s : State) : Host.Outcome State Fault Refusal :=
  act t (fun s =>
    if !inMode [.holdup] s || !s.power.holdRunning then s
    else
      let s := s.onPower fun p => { p with holdRunning := false, caddyOpen := false }
      if s.mode.resetN then s else enterReset 2 s) s

/-! ### Bays (12 R331 to R337) -/

/-- Does the bay state machine run? (12 R331) -/
def baysRun (s : State) : Bool := !(inMode [.reset, .holdup] s || (inMode [.boot] s && s.power.measuring))

def bayLocked (b : Nat) (s : State) : Bool := flag 0x6111 (b + 1) 0 s

/-- The output starts; a calibration, which runs only while it is off, stops (12 R333, R340). -/
def bayRamp (b : Nat) (s : State) : State :=
  onBay b (fun x => { x with state := .ramp, calibrating := false }) s

/-- A seated bay starts, or stays locked. -/
def bayStart (b : Nat) (s : State) : State :=
  if bayLocked b s then onBay b (fun x => { x with state := .locked }) s else bayRamp b s

/-- The gate is off. -/
def bayTo (b : Nat) (st : BayState) (s : State) : State :=
  onBay b (fun x => { x with state := st, mA := 0, mv := 0 }) s

/-- The state machines start: a bay seated already ramps without a fresh debounce (14 R374). -/
def baysStart (s : State) : State :=
  each (List.range 24) (fun b s =>
    let x := bayOf s b
    if x.state ≠ .heldOff then s
    else if !x.prsnt then bayTo b .empty s
    else
      let s := onBay b (fun x => { x with state := .present, aux := .on }) s
      if x.seated then bayStart b s else s) s

/-- PRSNT_N low for 10 ms. -/
def bayPresent (b : Nat) (s : State) : State :=
  let s := onBay b (fun x => { x with prsnt := true }) s
  if baysRun s && (bayOf s b).state = .empty then
    let s := onBay b (fun x => { x with state := .present, aux := .on }) s
    if (bayOf s b).seated then bayStart b s else s
  else s

def execBayPresent (t : Time) (b : Bay) (s : State) : Host.Outcome State Fault Refusal :=
  act t (awake (bayPresent b.val)) s

/-- Serial number of the carrier last known at a bay. -/
def seatedSerial (x : Car) : Bytes := match x.descr, x.sideband with
  | some d, _ => d.serial
  | none, some i => if i.ok then i.serial else x.serial
  | none, none => x.serial

/-- The sideband memory is read; one that cannot be read does not stop the start (11 R321). -/
def sidebandRead (b : Nat) (id : Sideband) (s : State) : State :=
  let before := seatedSerial (carOf s b)
  let s := onCar b (fun x => { x with sideband := some id }) s
  if id.ok then when (id.serial ≠ before) (otherCarrier b) s
  else raise 0x600B (b + 1) 0 0x600C (b + 1) s

/-- Seating confirmed for 100 ms: a latch of the auxiliary output is released, and a present bay starts. -/
def baySeated (b : Nat) (id : Sideband) (s : State) : State :=
  let s := onBay b (fun x => { x with
    seat1 := true, seat2 := true, seated := true, auxTrips := [],
    aux := if x.aux = .latched then .on else x.aux }) s
  let s := sidebandRead b id s
  if baysRun s && (bayOf s b).state = .present then bayStart b s else s

def execBaySeated (t : Time) (b : Bay) (id : Sideband) (s : State) : Host.Outcome State Fault Refusal :=
  act t (awake (baySeated b.val id)) s

/-- A seating pin high for 10 µs: the gate is off, the retry count and latch are cleared, and a cool-down that
runs continues (12 R333, R336). -/
def baySeatingLost (b : Nat) (pins : BitVec 2) (s : State) : State :=
  let x := bayOf s b
  let s := onBay b (fun x => { x with
    seat1 := x.seat1 && !pins.getLsbD 0, seat2 := x.seat2 && !pins.getLsbD 1,
    seated := x.seated && pins = 0 }) s
  if pins = 0 || !x.seated || !baysRun s || x.state = .empty then s
  else
    let s := bayTo b (if x.state = .cooldown then .cooldown else .present) s
    raise 0x6116 (b + 1) pins.toNat 0x6119 (b + 1)
      (onBay b (fun y => { y with retries := [], reseat := decide (x.state = .cooldown) }) s)

def execBaySeatingLost (t : Time) (b : Bay) (pins : BitVec 2) (s : State) : Host.Outcome State Fault Refusal :=
  act t (awake (baySeatingLost b.val pins)) s

/-- PRSNT_N high for 10 ms: both outputs off. -/
def bayRemoved (b : Nat) (s : State) : State :=
  let s := onBay b (fun x => { x with
    prsnt := false, seat1 := false, seat2 := false, seated := false, retries := [], reseat := false,
    auxTrips := [], aux := .off }) s
  if baysRun s then bayTo b .empty s else s

def execBayRemoved (t : Time) (b : Bay) (s : State) : Host.Outcome State Fault Refusal :=
  act t (awake (bayRemoved b.val)) s

/-- The gate is enhanced and the output within 200 mV of the node. -/
def execBayRampDone (t : Time) (b : Bay) (millivolt : Nat) (s : State) : Host.Outcome State Fault Refusal :=
  act t (fun s =>
    if (bayOf s b.val).state = .ramp && s.power.nodeMv ≤ millivolt + 200 then
      raise 0x6110 (b.val + 1) millivolt 0x6114 (b.val + 1)
        (onBay b.val (fun x => { x with state := .on, mv := millivolt }) s)
    else s) s

/-- A start fault: the gate is off and the bay latches. -/
def startFault (b code : Nat) (s : State) : State :=
  let s := onBay b (fun x => { x with lastFault := code }) (bayTo b .latched s)
  raise 0x6112 (b + 1) code 0x6117 (b + 1) (bump 0x6116 (b + 1) 1 s)

/-- A trip in ON: a cool-down with fewer than 3 retries in the last 60 s, else a latch. -/
def bayTrip (b code : Nat) (s : State) : State :=
  let recent := (bayOf s b).retries.filter fun t => s.now < t + 60 * second
  let s := bump 0x6116 (b + 1) 1 (onBay b (fun x => { x with lastFault := code, retries := recent }) s)
  if recent.length < 3 then raise 0x6111 (b + 1) code 0x6117 (b + 1) (bayTo b .cooldown s)
  else raise 0x6113 (b + 1) code 0x6117 (b + 1) (bayTo b .latched s)

/-- A fault by the state in which it is armed: its code in ON and in RAMP. -/
def bayFault (b : Nat) (inOn inRamp : Option Nat) (s : State) : State :=
  match (bayOf s b).state, inOn, inRamp with
  | .on, some c, _ => bayTrip b c s
  | .ramp, _, some c => startFault b c s
  | _, _, _ => s

def execBayStartDeadline (t : Time) (b : Bay) (s : State) : Host.Outcome State Fault Refusal :=
  act t (bayFault b.val none (some 4)) s

/-- Above 3.8 A for 2 ms, armed in ON. -/
def execBayOvercurrent (t : Time) (b : Bay) (milliamp : Nat) (s : State) : Host.Outcome State Fault Refusal :=
  act t (fun s => if 3800 < milliamp then bayFault b.val (some 1) none s else s) s

/-- 12 A or more, armed in RAMP and ON. -/
def execBayFastTrip (t : Time) (b : Bay) (milliamp : Nat) (s : State) : Host.Outcome State Fault Refusal :=
  act t (fun s => if 12000 ≤ milliamp then bayFault b.val (some 2) (some 5) s else s) s

/-- A pass-die sample in 0.1 °C; 140 °C trips or faults the start. -/
def execBayPassTempSample (t : Time) (b : Bay) (temp : Int) (s : State) : Host.Outcome State Fault Refusal :=
  act t (fun s =>
    let s := onBay b.val (fun x => { x with temp }) s
    if 1400 ≤ temp then bayFault b.val (some 3) (some 6) s else s) s

/-- A mean above 2.5 A over 1 s is reported only. -/
def execBayOverBudget (t : Time) (b : Bay) (milliamp : Nat) (s : State) : Host.Outcome State Fault Refusal :=
  act t (fun s =>
    if (bayOf s b.val).state = .on then
      let s := onBay b.val (fun x => { x with mA := milliamp }) s
      if 2500 < milliamp then raise 0x6114 (b.val + 1) milliamp 0x6113 (b.val + 1) s else s
    else s) s

/-- The 2 s end with the pass transistor below 100 °C: a retry, a fresh debounce after a reseat, or a lock (12
R333, R336, R348). -/
def cooldownEnd (b : Nat) (s : State) : State :=
  let x := bayOf s b
  if x.state ≠ .cooldown || 1000 ≤ x.temp then s
  else if x.reseat then
    onBay b (fun y => { y with state := if x.seated then .debounce else .present, reseat := false }) s
  else if bayLocked b s then bayTo b .locked s
  else bayRamp b (onBay b (fun y => { y with retries := y.retries ++ [s.now] }) s)

def execBayCooldownEnd (t : Time) (b : Bay) (s : State) : Host.Outcome State Fault Refusal :=
  act t (cooldownEnd b.val) s

def execBayDebounceEnd (t : Time) (b : Bay) (s : State) : Host.Outcome State Fault Refusal :=
  act t (fun s =>
    if (bayOf s b.val).state = .debounce && (bayOf s b.val).seated then bayStart b.val s else s) s

/-- BAY_LOCK takes effect on this module's output: locking a bay that is ON or starts switches it off (12
R337; that it does in RAMP too is a DESIGN CHOICE, log entry 55). -/
def bayLockApplied (b : Nat) (on : Bool) (s : State) : State :=
  match (bayOf s b).state, on with
  | .on, true | .ramp, true => bayTo b .locked s
  | .locked, false => if (bayOf s b).seated then bayRamp b (bayTo b .locked s) else s
  | _, _ => s

def bayLockEffect (c : WCtx) (s : State) : State := bayLockApplied (c.sub - 1) (c.nat ≠ 0) (storeOne c s)

def execBayLock (t : Time) (w : Write) (s : State) : Host.Outcome State Fault Refusal :=
  act t (fun s => writeObject 0x6111 noCheck bayLockEffect w s) s

/-- BAY_CLEAR is refused on a bay that is not LATCHED on this module. -/
def bayClearCheck (c : WCtx) (s : State) : EpStatus := refuseIf ((bayOf s (c.sub - 1)).state ≠ .latched) .mode

/-- The latch is released, that of the auxiliary output too (12 R333, R339). -/
def bayClearEffect (c : WCtx) (s : State) : State :=
  when (c.nat = 1 ∧ (bayOf s (c.sub - 1)).state = .latched) (onBay (c.sub - 1) fun x => { x with
    state := .debounce, retries := [], auxTrips := [], aux := if x.aux = .latched then .on else x.aux }) s

def execBayClear (t : Time) (w : Write) (s : State) : Host.Outcome State Fault Refusal :=
  act t (fun s => writeObject 0x6112 bayClearCheck bayClearEffect w s) s

/-! ### Auxiliary outputs (12 R339) -/

/-- In limit for 5 ms: off for a cool-down; the fourth trip within 60 s latches it off. -/
def auxTrip (b : Nat) (s : State) : State :=
  let x := bayOf s b
  if x.aux ≠ .on then s
  else
    let l := (x.auxTrips.filter fun t => s.now < t + 60 * second) ++ [s.now]
    let s := onBay b (fun y => { y with auxTrips := l, aux := if 4 ≤ l.length then .latched else .cooldown }) s
    raise 0x6115 (b + 1) l.length 0x6118 (b + 1) s

def execAuxTrip (t : Time) (b : Bay) (s : State) : Host.Outcome State Fault Refusal :=
  act t (auxTrip b.val) s

def execAuxCooldownEnd (t : Time) (b : Bay) (s : State) : Host.Outcome State Fault Refusal :=
  act t (fun s =>
    onBay b.val (fun y => { y with aux := if y.aux = .cooldown && y.prsnt then .on else y.aux }) s) s

/-! ### The capacitance test (12 R346, R347) -/

/-- A bay whose 12 V output is on, ramps or cools down. -/
def bayBusy (x : BaySt) : Bool := match x.state with
  | .ramp | .on | .cooldown => true
  | _ => false

def holdupTestCheck (_ : WCtx) (s : State) : EpStatus :=
  firstFailure [refuseIf (!inMode [.isolated] s) .mode, refuseIf (s.bays.toList.any bayBusy) .busyInService]

def holdupTestEffect (c : WCtx) (s : State) : State :=
  when (c.nat = 1) (fun s => s.onPower fun p => { p with measuring := true, samples := [] }) s

def execHoldupTest (t : Time) (w : Write) (s : State) : Host.Outcome State Fault Refusal :=
  act t (fun s => writeObject 0x6105 holdupTestCheck holdupTestEffect w s) s

/-- Median of eight: the mean of the middle two. -/
def median8 (l : List Nat) : Nat :=
  let m := sortBy id l
  (m.getD 3 0 + m.getD 4 0) / 2

/-- The test ends: 80% of the need of 2,334 µF, and 40% of it. In BOOT the bays start. -/
def testEnds (s : State) : State :=
  let cap := median8 s.power.samples
  let s := s.onPower fun p => { p with cap, measuring := false, samples := [] }
  let s := when (cap < 1867) (fun s => addReason 3 (raise 0x6120 0 cap 0x6103 0 s)) s
  let s := when (cap < 934) (raise 0x6121 0 cap 0x6103 0) s
  if inMode [.boot] s then baysStart s else s

/-- One of the eight measurements; a feed must be GOOD. -/
def holdupMeasurement (uF : Nat) (s : State) : State :=
  if !s.power.measuring || !(s.power.feeds.toList.any fun f => decide (f.state = .good)) then s
  else
    let s := s.onPower fun p => { p with samples := p.samples ++ [uF] }
    if 8 ≤ s.power.samples.length then testEnds s else s

def execHoldupMeasurement (t : Time) (microfarad : Nat) (s : State) : Host.Outcome State Fault Refusal :=
  act t (holdupMeasurement microfarad) s

/-- HOLDUP_TIME in ns: from 10.2 V to 7.4 V at 230 W. -/
def holdupTime (s : State) : Nat := s.power.cap * 4928 / 46

end Sys2Proof.Machine
end

