-- ==== Sys2Proof/Machine/Repair.lean ====
section
/-! DEFINITION. Self-repair (14 R382 to R394): the deal of the engines, suspect engines and their tests, lanes
under test, requested tests, the adaptive supplies, ageing. -/

namespace Sys2Proof.Machine

/-! ### Engines (14 R384 to R387) -/

def onEngine (e : Nat) (f : Eng → Eng) (s : State) : State :=
  s.onRepair fun r => { r with engines := updNat r.engines e f }

def engineOf (s : State) (e : Nat) : Eng := (atNat s.repair.engines e).getD { state := .retired, stage := 0 }

/-- Cluster of an engine: 18 engines each. -/
def engineCluster (e : Nat) : Nat := e / 18

/-- Minimum of a stage (14 R384). -/
def stageMin (k : Nat) : Nat := [0, 6, 6, 6, 3, 2, 1].getD k 0

/-- Engines a stage runs, and the engines dealt to it. -/
def stageRuns (k : Nat) (s : State) : Nat :=
  (indices s.repair.engines fun e => decide (e.state = .inService) && e.stage = k).length
def stageDeal (k : Nat) (s : State) : Nat := dnat 0x7012 k 0 s

/-- Of stages with their counts, the one furthest above its minimum: ties go to translation, then command, then
transport (14 R387). -/
def richest (counts : Nat → Nat) : Option Nat :=
  let rich := [3, 2, 1, 4, 5, 6].filter fun k => stageMin k < counts k
  leastBy (fun k => 100 - (counts k - stageMin k)) rich

/-- Engines retired. -/
def enginesRetired (s : State) : Nat := (indices s.repair.engines fun e => decide (e.state = .retired)).length

/-- An engine is retired in the repair map: event 0x7004, and reason bit 0 with 3 of the 4 spares used (14
R386, R394). -/
def retireEngine (e source : Nat) (s : State) : State :=
  let s := onEngine e (fun _ => { state := .retired, stage := 0 }) s
  let s := raise 0x7004 (e + 1) (enginesRetired s) 0x7013 0 (addRepair 1 source (e + 1) 0 s)
  when (3 ≤ enginesRetired s) (addReason 0) s

/-- A spare for a seat: from the same cluster when one is left (14 R386). -/
def engineSpare (e : Nat) (s : State) : Option Nat :=
  let l := indices s.repair.engines fun x => decide (x.state = .spare)
  match l.find? fun i => engineCluster i = engineCluster e with
  | some i => some i
  | none => l.head?

/-- A spare loads the stage image and takes a seat: event 0x7006. -/
def seatEngine (i stage : Nat) (s : State) : State :=
  raise 0x7006 (i + 1) stage 0x7011 (i + 1) (onEngine i (fun _ => { state := .inService, stage }) s)

/-- A stage has lost an engine: a spare, one short, an engine of the stage furthest above its minimum, or SAFE
with code 2 (14 R386, R387). -/
def fillSeat (e stage : Nat) (s : State) : State :=
  match engineSpare e s with
  | some i => seatEngine i stage s
  | none =>
    if stageMin stage ≤ stageRuns stage s then s
    else match richest (fun k => stageRuns k s) with
      | some k => match (indices s.repair.engines fun x => decide (x.state = .inService) && x.stage = k).getLast? with
        | some i => onEngine i (fun x => { x with stage }) s
        | none => goSafe 2 s
      | none => goSafe 2 s

/-- An engine in service becomes suspect: it takes no new item and is tested (14 R385, R386). -/
def suspectEngine (e : Nat) (s : State) : State :=
  let x := engineOf s e
  if x.state ≠ .inService || inMode [.reset, .holdup] s then s
  else
    let s := raise 0x7003 (e + 1) x.stage 0x7014 (e + 1) (bump 0x7014 (e + 1) 1 s)
    fillSeat e x.stage (onEngine e (fun _ => { state := .underTest, stage := 0 }) s)

/-- An engine passes its test: a spare, which takes a seat that is short (14 R386, R387, R395). -/
def enginePasses (e : Nat) (s : State) : State :=
  match [1, 2, 3, 4, 5, 6].find? fun k => stageRuns k s < stageDeal k s with
  | some k => seatEngine e k s
  | none => onEngine e (fun _ => { state := .spare, stage := 0 }) s

def execEngineItemStall (t : Time) (e : Engine) (s : State) : Host.Outcome State Fault Refusal :=
  act t (suspectEngine e.val) s

def execEngineSramError (t : Time) (e : Engine) (s : State) : Host.Outcome State Fault Refusal :=
  act t (suspectEngine e.val) s

/-- The check of an engine's code region: a failure that reload from boot flash does not mend makes the engine
suspect and is SAFE trigger 6 (14 R372, R385). -/
def execEngineCodeCheck (t : Time) (e : Engine) (ok okAfterReload : Bool) (s : State) :
    Host.Outcome State Fault Refusal :=
  act t (fun s =>
    if ok || okAfterReload || (engineOf s e.val).state ≠ .inService then s
    else goSafe 6 (suspectEngine e.val s)) s

/-- Is the element under the requested test? -/
def testing (kind inst : Nat) (s : State) : Bool := s.repair.tests.any fun x => x.kind = kind && x.inst = inst

/-- The test of a suspect or a spare engine ends. -/
def execEngineTestComplete (t : Time) (e : Engine) (pass : Bool) (s : State) :
    Host.Outcome State Fault Refusal :=
  act t (fun s =>
    if (engineOf s e.val).state ≠ .underTest || testing 1 (e.val + 1) s then s
    else if pass then enginePasses e.val s else retireEngine e.val 2 s) s

/-! ### Lanes (09 R247; 14 R386) -/

def laneOf (s : State) (l : Nat) : ElemState := (atNat s.cipher.lanes l).getD .retired

/-- Lanes retired: the cipher spares used. -/
def lanesRetired (s : State) : Nat := (indices s.cipher.lanes fun x => decide (x = .retired)).length

/-- A lane under test passes, and returns to service while its cluster has fewer than 24, or fails and is
retired in the repair map; with 6 of the 8 spares used reason bit 1 is set. -/
def laneTested (l source : Nat) (pass : Bool) (s : State) : State :=
  if pass then
    let short := decide ((clusterLanes s (l / 26)).length < 24)
    setLane l (if short then .inService else .spare) s
  else
    let s := addRepair 2 source (l + 1) 0 (setLane l .retired s)
    when (6 ≤ lanesRetired s) (addReason 1) s

def execLaneTestComplete (t : Time) (l : Lane) (pass : Bool) (s : State) : Host.Outcome State Fault Refusal :=
  act t (fun s =>
    if laneOf s l.val ≠ .underTest || testing 2 (l.val + 1) s then s else laneTested l.val 2 pass s) s

/-- Every spare engine and lane is tested once per SPARE_TEST_INTERVAL (14 R390). -/
def spareTests (s : State) : State :=
  let s := each (indices s.repair.engines fun x => decide (x.state = .spare)) (fun e s =>
    onEngine e (fun x => { x with state := .underTest }) s) s
  each (indices s.cipher.lanes fun x => decide (x = .spare)) (fun l s => setLane l .underTest s) s

def execSpareTestIntervalExpiry (t : Time) (s : State) : Host.Outcome State Fault Refusal :=
  act t (fun s => if inMode [.reset, .boot, .holdup] s then s else spareTests s) s

/-! ### Requested tests (14 R389) -/

/-- Kind and instance of a SELF_TEST value, when they are in range. -/
def testOf (v : Nat) : Option (Nat × Nat) :=
  let kind := v / 16777216
  let inst := v % 256
  let top := [0, 36, 104, 24].getD kind 0
  if v / 256 % 65536 = 0 && 1 ≤ kind && 1 ≤ inst && inst ≤ top then some (kind, inst) else none

/-- A spare lane of a cluster. -/
def laneSpare (l : Nat) (s : State) : Option Nat :=
  (indices s.cipher.lanes fun x => decide (x = .spare)).find? fun i => i / 26 = l / 26

/-- Can the element be taken for a test now? -/
def testable (kind inst : Nat) (s : State) : Bool :=
  let i := inst - 1
  match kind with
  | 1 => match (engineOf s i).state with
    | .spare => true
    | .inService => (engineSpare i s).isSome
    | _ => false
  | 2 => match laneOf s i with
    | .spare => true
    | .inService => (laneSpare i s).isSome
    | _ => false
  | _ => !bayBusy (bayOf s i)

/-- Does another test run? -/
def testRuns (s : State) : Bool :=
  !s.repair.tests.isEmpty || s.repair.engines.toList.any (fun x => decide (x.state = .underTest))
    || s.cipher.lanes.toList.any (fun x => decide (x = .underTest))

def selfTestCheck (c : WCtx) (s : State) : EpStatus := match testOf c.nat with
  | none => .range
  | some (kind, inst) =>
    refuseIf (testRuns s || !testable kind inst s || !grants s poolSelfTest 1) .busyInService

/-- The element leaves service, a spare takes its seat, and the test runs with a granule of SELF_TEST. -/
def selfTestEffect (c : WCtx) (s : State) : State := match testOf c.nat with
  | none => s
  | some (kind, inst) =>
    let i := inst - 1
    let s := takeGranules poolSelfTest 1 s
    let s := s.onRepair fun r => { r with tests := [{ kind, inst }], testResult := 1 }
    match kind with
    | 1 =>
      let x := engineOf s i
      let s := onEngine i (fun _ => { state := .underTest, stage := 0 }) s
      if x.state = .inService then fillSeat i x.stage s else s
    | 2 =>
      let was := laneOf s i
      let s := setLane i .underTest s
      match laneSpare i s with
      | some j => if was = .inService then setLane j .inService s else s
      | none => s
    | _ => onBay i (fun x => { x with calibrating := !bayBusy x }) s

/-- SELF_TEST kind 1. -/
def execSelfTestEngine (t : Time) (w : Write) (s : State) : Host.Outcome State Fault Refusal :=
  act t (fun s => writeObject 0x7100 selfTestCheck selfTestEffect w s) s

/-- SELF_TEST kind 2. -/
def execSelfTestLane (t : Time) (w : Write) (s : State) : Host.Outcome State Fault Refusal :=
  act t (fun s => writeObject 0x7100 selfTestCheck selfTestEffect w s) s

/-- SELF_TEST kind 3. -/
def execSelfTestBay (t : Time) (w : Write) (s : State) : Host.Outcome State Fault Refusal :=
  act t (fun s => writeObject 0x7100 selfTestCheck selfTestEffect w s) s

/-- The requested test ends: its result, event 0x7101, and the element is a spare again or is retired. -/
def selfTestDone (pass : Bool) (s : State) : State := match s.repair.tests with
  | [] => s
  | x :: _ =>
    let i := x.inst - 1
    let s := s.onRepair fun r => { r with tests := [], testResult := if pass then 2 else 3 }
    let s := giveBack poolSelfTest 1 s
    let s := match x.kind with
      | 1 => if pass then enginePasses i s else retireEngine i 3 s
      | 2 => laneTested i 3 pass s
      | _ => onBay i (fun y => { y with calibrating := false }) s
    raise 0x7101 x.inst (if pass then 2 else 3) 0x7101 0 s

def execSelfTestDone (t : Time) (pass : Bool) (s : State) : Host.Outcome State Fault Refusal :=
  act t (selfTestDone pass) s

/-! ### The repair map (14 R383) -/

/-- Entry at a position of the field map, from 1. -/
def repairAt (p : Nat) (s : State) : Option Repair := if p = 0 then none else s.repair.field[p - 1]?

/-- Only a kind 7 entry may be removed. -/
def repairClearCheck (c : WCtx) (s : State) : EpStatus := match repairAt c.nat s with
  | some e => refuseIf (e.kind ≠ 7) .range
  | none => .range

/-- The entry is removed and the carrier's link is no longer narrowed (11 R310). -/
def repairClearEffect (c : WCtx) (s : State) : State := match repairAt c.nat s with
  | none => s
  | some e =>
    let s := s.onRepair fun r => { r with field := r.field.eraseIdx (c.nat - 1) }
    onCar (e.instNo - 1) (fun x => { x with badLanes := [], half := none, width := if x.linkUp then 4 else x.width }) s

def execRepairClear (t : Time) (w : Write) (s : State) : Host.Outcome State Fault Refusal :=
  act t (fun s => writeObject 0x7043 repairClearCheck repairClearEffect w s) s

/-! ### Caddy blocks (06 R153; 14 R394) -/

/-- Spare blocks of the caddy. -/
def caddySpares : Nat := 5376

/-- A block takes a spare; the last one spent sets reason bit 5. -/
def caddyBlockFails (s : State) : State :=
  if caddySpares ≤ s.xlat.spareUsed then addReason 5 s
  else
    let s := s.onXlat fun x => { x with spareUsed := x.spareUsed + 1 }
    when (s.xlat.spareUsed = caddySpares) (addReason 5) s

/-- Which block fails makes no difference to the state: its contents are kept in the spare. -/
def execCaddyBlockFailure (t : Time) (block : Nat) (s : State) : Host.Outcome State Fault Refusal :=
  act t (fun s =>
    let _ := block
    caddyBlockFails s) s

/-! ### Supplies, temperature and life (14 R391 to R393) -/

/-- Maximum supply of a domain, in tenths of a mV. -/
def maxSupply (d : Nat) : Nat := if d = 2 then 9000 else 8500

def domOf (s : State) (d : Nat) : DomSt :=
  (atNat s.repair.domains d).getD { supply := 0, slack := 0, highFrom := none, start := 0 }

/-- DOMAIN_HEADROOM in tenths of a mV. -/
def headroom (d : Nat) (s : State) : Nat := maxSupply d - (domOf s d).supply

/-- One reading of a domain: up 2.5 mV below 25 mV of slack, down 2.5 mV after 1 s above 35 mV, between the
start supply and the maximum. -/
def domStep (d : Nat) (slack : Int) (now : Time) (x : DomSt) : DomSt :=
  let x := { x with slack }
  if slack < 25 then { x with supply := min (maxSupply d) (x.supply + 25), highFrom := none }
  else if 35 < slack then
    match x.highFrom with
    | none => { x with highFrom := some now }
    | some t0 =>
      if t0 + second ≤ now then { x with supply := max x.start (x.supply - 25), highFrom := some now } else x
  else { x with highFrom := none }

/-- A headroom that falls below 10 mV raises event 0x7007 and sets reason bit 2 (14 R392). -/
def supplyMonitor (d : Nat) (slack : Int) (s : State) : State :=
  let before := headroom d s
  let s := s.onRepair fun r => { r with domains := updNat r.domains d (domStep d slack s.now) }
  if headroom d s < 100 && 100 ≤ before then
    addReason 2 (raise 0x7007 (d + 1) (headroom d s / 10) 0x7021 (d + 1) s)
  else s

def execSupplyMonitor (t : Time) (d : Domain) (slackMillivolt : Int) (s : State) :
    Host.Outcome State Fault Refusal :=
  act t (fun s => if inMode [.reset, .holdup] s then s else supplyMonitor d.val slackMillivolt s) s

/-- Slack below 5 mV at the maximum supply for 1 ms is SAFE trigger 3. -/
def execSlackCritical (t : Time) (d : Domain) (s : State) : Host.Outcome State Fault Refusal :=
  act t (fun s =>
    if (domOf s d.val).supply = maxSupply d.val && (domOf s d.val).slack < 5 then goSafe 3 s else s) s

/-- exp of a fraction near 0 in units of 10⁻¹⁸, by its series. -/
def expSmall (x : Int) : Int :=
  let one : Int := 1000000000000000000
  (List.range 14).foldr (fun (k : Nat) (a : Int) => one + x * a / ((k + 1 : Int) * one)) one

/-- The square of a fixed-point number. -/
def squareFix (x : Int) : Int := x * x / 1000000000000000000

/-- Weight of a second at a junction temperature in 0.1 °C, in ns at 80 °C: exp(8,123 K × (1/353.15 K −
1/(T + 273.15 K))) in fixed point (14 R393; the arithmetic is DEDUCED, log entry 51). -/
def lifeWeight (temp : Int) : Nat :=
  let k : Int := 10 * temp + 27315
  if k ≤ 0 then 0
  else
    let x : Int := 812300 * 1000000000000000000 * (k - 35315) / (35315 * k) / 16
    ((squareFix (squareFix (squareFix (squareFix (expSmall x))))) / 1000000000).toNat

/-- Each second: the temperatures, their peaks since boot, and the life of the hotter die. -/
def lifeSecond (core port : Int) (s : State) : State :=
  s.onRepair fun r => { r with
    temp := #v[core, port]
    peak := #v[max r.peak[0] core, max r.peak[1] port]
    life := r.life + lifeWeight (max core port) }

def execLifeAccounting (t : Time) (core port : Int) (s : State) : Host.Outcome State Fault Refusal :=
  act t (lifeSecond core port) s

/-- A die at or above 105 °C for 10 s. -/
def execJunctionHigh (t : Time) (d : Die) (s : State) : Host.Outcome State Fault Refusal :=
  act t (fun s => raise 0x7008 (d.val + 1) ((s.repair.temp[d.val]).toNat) 0x7024 (d.val + 1) s) s

/-- A die at or above 120 °C for 10 ms is SAFE trigger 4. -/
def execJunctionOvertemp (t : Time) (d : Die) (s : State) : Host.Outcome State Fault Refusal :=
  act t (fun s =>
    let _ := d
    goSafe 4 s) s

/-- A core supply outside its range for 10 µs is SAFE trigger 5. -/
def execSupplyOutOfRange (t : Time) (d : Domain) (s : State) : Host.Outcome State Fault Refusal :=
  act t (fun s =>
    let _ := d
    goSafe 5 s) s

/-- Both management engines fail their watchdogs: SAFE trigger 7. -/
def execMgmtWatchdog (t : Time) (s : State) : Host.Outcome State Fault Refusal :=
  act t (goSafe 7) s

end Sys2Proof.Machine
end

