-- ==== Sys2Proof/Machine/Modes.lean ====
section
/-! DEFINITION. Reset, boot, the always-on domain, SERVICE_ENABLE and RESTART, and the power states (14 R368 to
R381). -/

namespace Sys2Proof.Machine

/-! ### What a restart keeps (12 R343; 15 R399, R416, R419) -/

/-- CONFIG entries of the committed records later than the configuration store's copy are applied again. -/
def replayConfig (s : State) : State :=
  let l := (s.pair.ring.filter fun p => s.mgmt.storeGen < p.1 && p.1 ≤ s.pair.committed).flatMap fun p => p.2.entries
  each l (fun e s => match e with
    | .config i sub r v => match objOf i with
      | some o => if storedObj o then putDict i sub r v s else s
      | none => s
    | _ => s) s

/-- Counts that clear at BOOT (15 R419). -/
def sinceBoot : List Nat := [0x4207, 0x5021, 0x6116]

/-- The overlay as the summaries give it back: a run whose EPOCH is its LB's, or one less while the LB merges (06
R152). -/
def restoredRun (s : State) (r : Run) : Bool :=
  let e := lbAt s r.lb
  decide (r.epoch = e.epoch) || (decide (e.state = .merging) && decide (r.epoch + 1 = e.epoch))

/-- Lanes at start: the retired stay out, and the first 24 others of each cluster are in service. -/
def lanesAtBoot (v : Vector ElemState 104) : Vector ElemState 104 :=
  Vector.ofFn fun l =>
    if v[l.val] = .retired then .retired
    else
      let first := l.val / 26 * 26
      let before := (List.range l.val).filter fun i => first ≤ i && atNat v i ≠ some .retired
      if before.length < 24 then .inService else .spare

/-- Carriers at start: the links are down and nothing is queued; the books of the array stay. -/
def carAtBoot (c : Car) : Car :=
  { c with
    linkUp := false, width := 0, descr := none, ready := false, tagBound := false, eventWait := false,
    listsRead := false, inputs := 0, temp := 0, value := 0, asking := [], queue := [], out := [], nextCid := 0,
    deficit := [], recent := [], adminHeld := 0, adminAgain := [], postponed := [] }

/-- A band at start: no read holds it, and its read counter is the one that the last checkpoint saved (07 R199, R200). -/
def bandAtBoot (s : State) (p : Nat × Band) : Band :=
  let saved := (s.xlat.ckpt.bind fun k => Tbl.get? k.table p.1).filter fun b => b.openseq = p.2.openseq
  { p.2 with readers := 0, retryPos := 0, readCount := (saved.map (·.readCount)).getD 0 }

/-- Working memory is empty; the caddy, boot flash, fuses, pins and the always-on domain are as they were. A
placed sector that no committed record names is lost, and so is the supersession by it (01 R17; 12 R343). -/
def coldStart (s : State) : State :=
  let z := State.reset
  let mgmt : Mgmt := { z.mgmt with
    log := s.mgmt.log, eventNext := s.mgmt.eventLimit, eventLimit := s.mgmt.eventLimit
    configGen := s.mgmt.configGen, storeGen := s.mgmt.storeGen, storeFlip := s.mgmt.storeFlip
    store := s.mgmt.store, counts := s.mgmt.ckpt.filter fun p => !sinceBoot.contains (p.1 / 256)
    ckpt := s.mgmt.ckpt, slots := s.mgmt.slots, images := s.mgmt.images }
  let kept := s.xlat.slots.filter fun p =>
    fullCycle s.pair.cycle p.2.cycle ≤ s.pair.committed && p.2.state ≠ .received
  let xlat : Xlat := { s.xlat with
    slots := kept.map fun p => (p.1, slotRestored s.pair.committed kept p.2)
    bands := s.xlat.bands.map fun p => (p.1, bandAtBoot s p)
    runs := s.xlat.runs.filter (restoredRun s)
    passAt := 0, placeQ := [], jobs := [], mergeDue := [], relocate := [], refresh := [], overlayHigh := false
    freeCritical := false, stageOver := false, formatting := false, formatBy := none, reclaiming := false
    victims := [], ckptRun := none }
  let pair : Pair := { z.pair with
    cycle := s.pair.cycle, committed := s.pair.committed, lastSealed := s.pair.lastSealed
    wasActive := s.pair.wasActive, ring := s.pair.ring, epoch := s.pair.epoch, reserved := s.pair.reserved
    faultIn := s.pair.faultIn, lastSwap := s.pair.lastSwap, takeoverAt := s.pair.takeoverAt
    partnerSerial := s.pair.partnerSerial }
  let d := draw { s with dict := s.mgmt.store }
  let s1 : State := d.2
  let keys : Keys := { s.keys with
    pairKey := none, kek := none, wrapKey := Config.random256 d.1
    ns := s.keys.ns.map fun p => (p.1, { p.2 with erasing := false, old := none }) }
  let s2 := replayConfig { s1 with
    mgmt := mgmt, xlat := xlat, pair := pair, keys := keys
    conns := [], cmd := { z.cmd with ns := s.cmd.ns }, pools := z.pools, pot := z.pot
    core := { z.core with rowSpares := s.core.rowSpares, withdrawn := s.core.withdrawn,
                          sharedFree := z.core.sharedFree - s.core.withdrawn }
    egress := z.egress, attach := z.attach
    cipher := { z.cipher with lanes := lanesAtBoot s.cipher.lanes }
    media := { s.media with cars := s.media.cars.map carAtBoot, recons := [] }
    power := { s.power with caddyOpen := true, holdRunning := false, cap := 0, measuring := true, samples := [] }
    bays := s.bays.map fun b => { b with lastFault := 0 }
    repair := { s.repair with tests := [], testResult := 0, peak := z.repair.peak }
    mode := { s.mode with quiesceBy := .none, handover := none, safeCause := 0, loadDown := 0, gated := [],
                          restarted := true, holdIsolated := false,
                          healthLost := false } }
  let net : Net := { z.net with groupRun := Vector.ofFn fun g => dnat 0x3000 (g.val + 1) 0 s2 }
  let target := potTarget s2
  let s3 := abandonProgs (setRegion target { s2 with net := net })
  setCount 0x5021 0 (caddyUsed s3) s3

/-! ### The deal at boot (14 R384, R387) -/

/-- Counts dealt when fewer engines are serviceable: stages lose engines one at a time; none when every stage is
at its minimum and engines still lack. -/
def dealCounts (n : Nat) : Nat → List Nat → Option (List Nat)
  | 0, c => if c.sum ≤ n then some c else none
  | fuel + 1, c =>
    if c.sum ≤ n then some c
    else match richest (fun k => c.getD (k - 1) 0) with
      | some k => dealCounts n fuel (c.set (k - 1) (c.getD (k - 1) 0 - 1))
      | none => none

/-- Seats of the stages in one cluster: half of each count, the odd one in the first. -/
def seatsOf (first : Bool) (c : List Nat) : List Nat :=
  c.zipIdx.flatMap fun p => List.replicate (if first then (p.1 + 1) / 2 else p.1 / 2) (p.2 + 1)

/-- Engines with their stages: each cluster's engines in number order take its seats, and those left over the
seats of the other. -/
def dealSeats (engines c : List Nat) : List (Nat × Nat) :=
  let a := engines.filter (· < 18)
  let b := engines.filter (18 ≤ ·)
  let sa := seatsOf true c
  let sb := seatsOf false c
  a.zip sa ++ b.zip sb ++ (a.drop sa.length).zip (sb.drop b.length) ++ (b.drop sb.length).zip (sa.drop a.length)

/-- The deal of a boot: engines that fail the self-test are retired first. None: a stage cannot be dealt its
minimum. -/
def bootDeal (ok : Nat → Bool) (s : State) : Option State :=
  let bad := (List.range 36).filter fun e => !ok e && (engineOf s e).state ≠ .retired
  let s := each bad (fun e s => retireEngine e 1 s) s
  let live := (List.range 36).filter fun e => (engineOf s e).state ≠ .retired
  match dealCounts live.length 64 ((List.range 6).map fun k => stageDeal (k + 1) s) with
  | none => none
  | some c =>
    let seats := dealSeats live c
    let engine := fun (e : Fin 36) (x : Eng) =>
      if x.state = .retired then x
      else match seats.find? fun p => p.1 = e.val with
        | some p => { x with state := ElemState.inService, stage := p.2 }
        | none => { x with state := ElemState.spare, stage := 0 }
    some (s.onRepair fun r => { r with engines := Vector.ofFn fun e => engine e r.engines[e.val] })

/-! ### Boot (14 R369, R379 to R381) -/

/-- Does a slot's image pass the checks of 14 R380? -/
def slotRuns (k : Nat) (s : State) : Bool := match (atNat s.mgmt.images (k - 1)).bind id with
  | some i => i.digestOk && i.sigOk && s.mode.secVersion ≤ i.version
  | none => false

/-- BOOT cannot end: SAFE, with the bays on (14 R369, R373). -/
def bootFails (cause : Nat) (s : State) : State :=
  let s := (s.onMode fun m => { m with safeCause := cause }).onPower fun p => { p with measuring := false }
  baysStart (raiseAt s.now true 0x2003 0 cause 0x2007 0 (enterMode .safe s))

/-- The boot ROM tries the slot requested, then the other: event 0x7002 for each that fails. -/
def pickSlot (s : State) : Option Nat × State :=
  let first := if s.mode.bootReq = 2 then 2 else 1
  let reject := fun (k : Nat) (s : State) => raiseAt s.now true 0x7002 k k 0x7001 0 s
  if slotRuns first s then (some first, s)
  else
    let s := reject first s
    if slotRuns (3 - first) s then (some (3 - first), s) else (none, reject (3 - first) s)

/-- Start BOOT with a cause: POWER_LOSS is raised for a hold-up sequence run, the slot chosen, the deal formed, the
modules seated in the cages read (02 R30). -/
def startBoot (cause : Nat) (retried : Bool) (ok : Nat → Bool) (cages : List (Group × List Nat)) (s : State) : State :=
  let loss := s.power.lossAt
  let s := (coldStart s).onMode fun m => { m with resetCause := cause, bootRetried := retried }
  let s := enterMode .boot s
  let s := match loss with
    | some t =>
      raiseAt t false 0x6106 0 0 0x6107 0 (bump 0x6106 0 1 (s.onPower fun p => { p with lossAt := none }))
    | none => s
  match pickSlot s with
  | (none, s) => bootFails 8 s
  | (some k, s) =>
    let v := (((atNat s.mgmt.images (k - 1)).bind id).map (·.version)).getD 0
    let s := s.onMode fun m => { m with bootSlot := k, imageVersion := v }
    match bootDeal ok s with
    | none => bootFails 2 s
    | some s => readCages cages s

/-- Is a feed GOOD? -/
def feedIsGood (s : State) : Bool := s.power.feeds.toList.any fun f => decide (f.state = .good)

/-- A feed within 10.8 V to 13.2 V for 100 ms ends HOLDUP, once the sequence has ended (12 R345, R348). -/
def execHoldupRestart (t : Time) (s : State) : Host.Outcome State Fault Refusal :=
  act t (fun s =>
    let inRange := s.power.feeds.toList.any fun f =>
      decide (f.state = .good) && 10800 ≤ f.mv && f.mv ≤ 13200
    if inMode [.holdup] s && !s.power.holdRunning && s.mode.alwaysOn && inRange then
      startBoot 6 false (fun _ => true) [] s
    else s) s

/-- RESET_N low for 10 µs; in HOLDUP the sequence completes first (14 R369, R395). -/
def execResetNAssert (t : Time) (s : State) : Host.Outcome State Fault Refusal :=
  act t (fun s =>
    let s := s.onMode fun m => { m with resetN := false }
    if inMode [.reset] s || (inMode [.holdup] s && s.power.holdRunning) then s else enterReset 2 s) s

/-- RESET ends with a feed GOOD, RESET_N and TEST_N high. The operands are what the checks of both slots find
and the engines that pass the self-test. -/
def execResetRelease (t : Time) (testN : Bool) (s1 s2 : ImageCheck) (found : BootFinds) (s : State) :
    Host.Outcome State Fault Refusal :=
  act t (fun s =>
    if !inMode [.reset] s || !s.mode.alwaysOn then s
    else
      let s := s.onMode fun m => { m with resetN := true, testN }
      if testN && feedIsGood s then
        let s := s.onMgmt fun m => { m with images := #v[some s1, some s2] }
        startBoot s.mode.resetCause false (fun e => found.serviceable.any fun x => x.val = e) found.cages s
      else s) s

/-- The maps come from the first source that is intact (06 R152). -/
def mapSourceOf (ownImage partnerImage : Bool) : Nat := if ownImage then 0 else if partnerImage then 1 else 2

/-- The block map from the last checkpoint, rolled forward by the EU headers whose OPENSEQ is later: they bring their
bands, and a data band its place in its LB's set, filled as far as it is programmed. The overlay is what the summaries
of the bands known so give (06 R151, R152; how far R152 leaves open is a DESIGN CHOICE, log entry 99). -/
def mapsFromCheckpoint (s : State) : State :=
  let k : Ckpt := s.xlat.ckpt.getD { bands := [], lbs := [], table := [], seq := 0 }
  let later := s.xlat.heads.filter fun p => k.seq ≤ p.2.openseq
  let gone := fun (b : Band) => later.any fun p => p.2.openseq ≠ b.openseq &&
    p.2.members.any fun m => b.members.any fun n => m.carrier = n.carrier && m.eu = n.eu
  let now_ := fun (p : Nat × Band) => (p.1, (bandAt s p.1).getD p.2)
  let table := (k.table.filter fun p => !gone p.2).foldl (fun t p => Tbl.put t p.1 p.2) []
  let table := (later.map now_).foldl (fun t p => Tbl.put t p.1 p.2) table
  let sets := sortBy (fun p => p.2.openseq) (later.filter fun p => p.2.kind = .data)
  let lbs := sets.foldl (fun t p =>
    let e := (Tbl.get? t p.2.owner).getD lbNew
    let bands := if e.bands.contains p.1 then e.bands else e.bands ++ [p.1]
    let done := (bands.map fun b => match Tbl.get? table b, s.xlat.geo with
      | some x, some g => x.program * stripeSectors g x.width
      | _, _ => 0).sum
    Tbl.put t p.2.owner { e with bands, state := .mapped, fill := min done (lbSectors s), fillClosed := true }) k.lbs
  let s := s.onXlat fun x => { x with
    lbs, bands := table, openseq := (later.map fun p => p.2.openseq + 1).foldl max k.seq }
  s.onXlat fun x => { x with
    runs := x.runs.filter fun r => restoredRun s r && (r.kind = .lost || Tbl.has table r.band) }

/-- BOOT ends: ISOLATED, event 0x7001; the security counter follows the image, and the mirror link trains (10
R267). With no intact journal the whole
array is to be resynchronised, event 0x5209 (06 R152; 08 R234). -/
def bootComplete (ownImage partnerImage journalOk : Bool) (s : State) : State :=
  let src := mapSourceOf ownImage partnerImage
  let dur := s.now - s.mode.since
  let s := s.onMode fun m => { m with bootDuration := dur, secVersion := max m.secVersion m.imageVersion }
  let s := s.onXlat fun x => { x with mapSource := src, resyncKind := if journalOk then x.resyncKind else 2 }
  let s := s.onPair fun p => { p with link := if p.link = 0 then 1 else p.link }
  let formatted := s.xlat.geo.isSome
  let s := when (formatted && src = 2) (fun s => raise 0x5005 0 0 0x5038 0 (mapsFromCheckpoint s)) s
  let s := when (formatted && !journalOk) (raise 0x5209 0 0 0x5211 0) s
  let s := raise 0x7001 0 dur 0x7002 0 (goMode .isolated s)
  each ((List.range 24).filter fun c => (carOf s c).ready) carrierSetup s

def execBootComplete (t : Time) (ownImage partnerImage journalOk : Bool) (s : State) :
    Host.Outcome State Fault Refusal :=
  act t (fun s =>
    if inMode [.boot] s && !s.power.measuring then bootComplete ownImage partnerImage journalOk s else s) s

/-- 5 s have passed since RESET without the end of BOOT: once the other slot, then SAFE with code 8. -/
def execBootWatchdog (t : Time) (s : State) : Host.Outcome State Fault Refusal :=
  act t (fun s =>
    if !inMode [.boot] s then s
    else if s.mode.bootRetried then bootFails 8 s
    else
      let s := s.onMode fun m => { m with bootReq := 3 - m.bootSlot }
      startBoot 5 true (fun _ => true) [] (stopAll s)) s

/-! ### The always-on domain (14 R374) -/

/-- The node falls below 5.0 V: nothing runs, and the retained state and the timers are lost. -/
def alwaysOnStops (s : State) : State :=
  let s := s.onMode fun m => { m with
    mode := .reset, since := s.now, alwaysOn := false, power := .none, gated := [], lastMode := .reset
    bootReq := 1, safeCause := 0, resetCause := 1, quiesceBy := .none, handover := none }
  let s := s.onPower fun p => { p with
    holdRunning := false, caddyOpen := false, nodeMv := 0, feeds := Vector.replicate 2 { state := .absent, mv := 0 }
    measuring := false, samples := [] }
  (stopAll s).onBays fun v => v.map fun b => { b with
    prsnt := false, seat1 := false, seat2 := false, seated := false }

def execAlwaysOnDomainStop (t : Time) (s : State) : Host.Outcome State Fault Refusal :=
  act t (fun s => if s.mode.alwaysOn then alwaysOnStops s else s) s

/-- The node rises to 5.0 V: RESET, with the cause power on. -/
def execAlwaysOnDomainStart (t : Time) (s : State) : Host.Outcome State Fault Refusal :=
  act t (fun s =>
    if s.mode.alwaysOn then s
    else s.onMode fun m => { m with alwaysOn := true, mode := .reset, since := s.now, resetCause := 1 }) s

/-! ### SERVICE_ENABLE and RESTART (14 R369, R370) -/

/-- The lifetime counts go to the statistics checkpoint (15 R419). -/
def statCheckpoint (s : State) : State := s.onMgmt fun m => { m with ckpt := m.counts }

/-- Drain into QUIESCED (10 R297; 14 R369). -/
def quiesce (by_ : QuiesceBy) (s : State) : State :=
  goMode .quiesced ((statCheckpoint s).onMode fun m => { m with quiesceBy := by_ })

def serviceEnableCheck (c : WCtx) (s : State) : EpStatus :=
  refuseIf (c.nat = 0 && inMode [.takeover, .rejoin, .boot, .holdup, .safe] s) .mode

/-- Writing 0 goes towards ISOLATED by the rows of R369. -/
def serviceOff (s : State) : State := match s.mode.mode with
  | .solo => quiesce .serviceEnable s
  | .active => if s.pair.partnerMode = 5 then quiesce .serviceEnable s else s
  | .standby | .coldStandby => enterIsolated s
  | _ => s

def serviceEnableEffect (c : WCtx) (s : State) : State :=
  let s := storeOne c s
  if c.nat = 0 then serviceOff s else s

/-- A write of 0 in TAKEOVER is refused at once; another waits (14 R370; 15 R407). -/
def execServiceEnable (t : Time) (w : Write) (s : State) : Host.Outcome State Fault Refusal :=
  act t (fun s => writeWhen (w.val ≠ .num 0) 0x2001 serviceEnableCheck serviceEnableEffect w s) s

def restartCheck (c : WCtx) (s : State) : EpStatus :=
  firstFailure [refuseIf (c.nat ≠ 0xB0B0) .range,
    refuseIf (!inMode [.safe, .isolated, .standby, .coldStandby] s) .mode]

def restartEffect (_ : WCtx) (s : State) : State := enterReset 3 (statCheckpoint s)

def execRestart (t : Time) (w : Write) (s : State) : Host.Outcome State Fault Refusal :=
  act t (fun s => writeObject 0x2005 restartCheck restartEffect w s) s

/-! ### Power states (14 R375 to R377) -/

/-- Modes whose power state POWER_POLICY chooses. -/
def policyModes (s : State) : Bool :=
  !inMode [.boot, .takeover, .rejoin, .isolated, .safe, .reset, .holdup] s

def powerPolicyApplied (s : State) : State :=
  if policyModes s then
    setPower (powerOn s.mode.mode (cfg 0x2003 s) s.mode.power) (s.onMode fun m => { m with loadUp := 0, loadDown := 0 })
  else s

def powerPolicyEffect (c : WCtx) (s : State) : State := powerPolicyApplied (storeOne c s)

def execPowerPolicy (t : Time) (w : Write) (s : State) : Host.Outcome State Fault Refusal :=
  act t (fun s => writeObject 0x2003 noCheck powerPolicyEffect w s) s

/-- Is load L, the highest of the three shares, at or above a percentage? -/
def loadAt (pct delivered received commands : Nat) : Bool :=
  pct * 3200000000000 ≤ delivered * 100 || pct * 960000000000 ≤ received * 100 || pct * 40000000 ≤ commands * 100

/-- One second of load under automatic policy: seconds past the thresholds, and a change when they last. -/
def loadSecond (delivered received commands : Nat) (s : State) : State :=
  let ge := fun (idx : Nat) => loadAt (cfg idx s) delivered received commands
  let move := fun (p : PowerState) (s : State) =>
    setPower p (s.onMode fun m => { m with loadUp := 0, loadDown := 0 })
  let count := fun (up down : Bool) (s : State) => s.onMode fun m => { m with
    loadUp := if up then m.loadUp + 1 else 0, loadDown := if down then m.loadDown + 1 else 0 }
  match s.mode.power with
  | .full =>
    let s := count false (!ge 0x2011) s
    if 60 ≤ s.mode.loadDown then move .trimmed s else s
  | .trimmed =>
    let s := count (ge 0x2010) (!ge 0x2012) s
    if 1 ≤ s.mode.loadUp then move .full s
    else if 300 ≤ s.mode.loadDown then move .dormant s else s
  | .dormant =>
    let s := count (ge 0x2013) false s
    if 1 ≤ s.mode.loadUp then move .trimmed s else s
  | .none => s

/-- Bits delivered to hosts and received as write data, and commands, of the last second. -/
def execLoadMeasurement (t : Time) (delivered received commands : Nat) (s : State) :
    Host.Outcome State Fault Refusal :=
  act t (fun s =>
    if policyModes s && cfg 0x2003 s = 3 then loadSecond delivered received commands s else s) s

/-- May an idle element be gated in the power state? Kinds: 0 engine, 1 cipher lane, 2 port pipeline, 3 DRAM
stack; instances from 1. In dormant at least one engine of each stage and two lanes of each cluster stay
clocked (14 R375). -/
def mayGate (kind inst : Nat) (s : State) : Bool :=
  let i := inst - 1
  let awakeOf := fun (l : List Nat) => (l.filter fun j => !s.mode.gated.contains (kind, j + 1)).length
  match s.mode.power, kind with
  | .trimmed, 0 => decide ((engineOf s i).state = .inService)
  | .trimmed, 1 => decide (laneOf s i = .inService)
  | .dormant, 0 => decide ((engineOf s i).state = .inService) &&
      decide (2 ≤ awakeOf (indices s.repair.engines fun e =>
        decide (e.state = .inService) && e.stage = (engineOf s i).stage))
  | .dormant, 1 => decide (laneOf s i = .inService) && decide (3 ≤ awakeOf (clusterLanes s (i / 26)))
  | .trimmed, 2 | .dormant, 2 => inst ≤ 32
  | .dormant, 3 => inst ≤ 4
  | _, _ => false

def execIdleGateExpiry (t : Time) (kind : Fin 4) (inst : Nat) (s : State) : Host.Outcome State Fault Refusal :=
  act t (fun s =>
    if 1 ≤ inst && mayGate kind.val inst s && !s.mode.gated.contains (kind.val, inst) then
      s.onMode fun m => { m with gated := m.gated ++ [(kind.val, inst)] }
    else s) s

/-- Demand wakes a gated element (14 R376). -/
def execElementWake (t : Time) (kind : Fin 4) (inst : Nat) (s : State) : Host.Outcome State Fault Refusal :=
  act t (fun s => s.onMode fun m => { m with gated := m.gated.filter fun g => g ≠ (kind.val, inst) }) s

/-- Link energy on the management port wakes the management engines (14 R374). -/
def execManagementWake (t : Time) (s : State) : Host.Outcome State Fault Refusal :=
  act t (fun s => s.onMode fun m => { m with
    gated := m.gated.filter fun g => !(g.1 = 0 && (engineOf s (g.2 - 1)).stage = 6) }) s

end Sys2Proof.Machine
end

