-- ==== Sys2Proof/Machine/PairCore.lean ====
section
/-! DEFINITION. What the rows of the pair do to the module's role (10 R279, R291 to R303): the end of a
handover, joining and its failure, and the objects that ask for a change of role. -/

namespace Sys2Proof.Machine

/-! ### Leaving the role (10 R291, R297; 14 R369) -/

/-- Frames that are planned and not sent wait as a standby's plans do. -/
def unsent (s : State) : List Planned := s.conns.flatMap fun p =>
  p.2.sendQ.filterMap fun f => f.plan.map fun n =>
    { cycle := n, conn := p.1, frame := { f with sent := 0 } }

/-- A command on a module that has become a standby: media work is dropped, and a write whose data is complete
is encrypted here as on any partner. -/
def standbyCmd (p : Nat × Cmd) (s : State) : State := match p.2.phase with
  | .missQ | .media => onCommand p.1 (fun c => { c with phase := .media, buf := none }) s
  | .startQ => onCommand p.1 (fun c => { c with phase := .waiting }) s
  | .placing => if p.2.opc = .write then startEncrypt p.1 s else s
  | _ => s

/-- The module gives up the active role and keeps every state a standby holds (10 R297 step 4). -/
def leaveActive (s : State) : State :=
  let back := unsent s
  let s := s.onConns fun m => m.map fun p => (p.1, { p.2 with sendQ := [], refs := [], headed := false })
  let s := dropMediaWork s
  let s := s.onXlat fun x => { x with placeQ := [] }
  let s := s.onPair fun p => { p with
    planned := back ++ p.planned, wasActive := false, paired := true, lag := .normal, entries := [],
    heldEntries := [], round := none, lastSwap := s.now }
  let s := s.onMode fun m => { m with quiesceBy := .none, handover := none }
  s.onCmd fun c => { c with solicitQ := [] }

/-- A role swap ends: STANDBY and event 0x210E. -/
def becomeStandby (s : State) : State :=
  let s := goMode .standby (leaveActive s)
  raise 0x210E 0 s.pair.epoch.toNat 0x2140 0 (each s.cmd.cmds standbyCmd s)

/-- A handover after a port loss ends: COLD_STANDBY without connections, event 0x2114 (10 R291, R299). -/
def becomeCold (s : State) : State :=
  let s := leaveActive (dropConnections s)
  let s := s.onPair fun p => { p with planned := [], cold := true }
  raise 0x2114 0 0 0x2131 0 (goMode .coldStandby s)

/-- The partner has confirmed the handover record (10 R291 step 2, R297 step 4; 14 R369). -/
def handoverDone (s : State) : State := match s.mode.mode, s.mode.quiesceBy with
  | .quiesced, .roleSwap => becomeStandby s
  | .quiesced, .serviceEnable => enterIsolated s
  | .active, _ => becomeCold s
  | _, _ => s.onMode fun m => { m with handover := none }

/-- The drain of QUIESCED is over: in a pair the record of this cycle carries the handover flag, alone the
module enters ISOLATED (10 R297 step 2; 14 R369). -/
def drained (s : State) : State :=
  if !inMode [.quiesced] s || s.mode.handover.isSome then s
  else if s.pair.paired then s.onMode fun m => { m with handover := some s.pair.cycle }
  else if s.mode.quiesceBy = .serviceEnable then enterIsolated s
  else s

/-! ### Joining (10 R292 to R295) -/

/-- What ISOLATED needs to join a partner that serves alone; a module without an array key takes the partner's
(09 R250; 14 R369). -/
def mayRejoin (s : State) : Bool :=
  inMode [.isolated] s && flag 0x2001 0 0 s && flag 0x2106 0 0 s && capHolds s && s.pair.link = 2
    && s.pair.round.isNone

/-- The partner serves alone: its last frame said SOLO. -/
def partnerSolo (s : State) : Bool := s.pair.partnerMode = 3

/-- The joining module gives up: event 0x2112 in step 1, 0x210D later, and ISOLATED (10 R294). -/
def rejoinFails (s : State) : State :=
  let s := if s.pair.rejoinPhase ≤ 1 then raise 0x2112 0 s.pair.partnerMode 0x2102 0 s
    else raise 0x210D 0 s.pair.rejoinPhase 0x2150 0 s
  enterIsolated s

/-- The serving module gives up a partner's join: event 0x210D; it stays as it is (10 R294, R304). -/
def joinAbandoned (s : State) : State :=
  if s.pair.partnerJoining then
    raise 0x210D 0 s.pair.rejoinPhase 0x2150 0 (s.onPair fun p => { p with
      partnerJoining := false, pairing := false, rejoinPhase := 0, handoverNext := 1 })
  else s

/-- The partner is lost to the serving module: fencing in a pair, and the end of a join alone (10 R279, R304). -/
def partnerGone (s : State) : State :=
  if inMode [.active, .quiesced] s && s.pair.paired then startFencing evictOther s
  else joinAbandoned s

/-! ### Objects that ask for a role (10 R294, R297, R298, R303) -/

def roleSwapCheck (c : WCtx) (s : State) : EpStatus :=
  firstFailure [refuseIf (c.nat ≠ 0xA5A5) .range,
    refuseIf (!inMode [.active] s || s.pair.partnerMode ≠ 5 || s.mode.handover.isSome) .mode]

def roleSwapEffect (_ : WCtx) (s : State) : State := quiesce .roleSwap s

def forceSoloCheck (c : WCtx) (s : State) : EpStatus :=
  firstFailure [refuseIf (c.nat ≠ 0xF00F) .range, refuseIf (!mayServe s || s.pair.round.isSome) .mode]

/-- The module takes the reservations whatever they hold. -/
def forceSoloEffect (_ : WCtx) (s : State) : State := startRound .force s

/-- Is the image of a slot signed? -/
def slotSigned (k : Nat) (s : State) : Bool := match (atNat s.mgmt.images (k - 1)).bind id with
  | some i => i.digestOk && i.sigOk
  | none => false

def fwActivateCheck (c : WCtx) (s : State) : EpStatus :=
  firstFailure [refuseIf (!slotSigned c.nat s) .range,
    refuseIf (!inMode [.standby, .coldStandby, .isolated] s) .mode]

/-- The module restarts into the slot. -/
def fwActivateEffect (c : WCtx) (s : State) : State :=
  enterReset 4 ((statCheckpoint s).onMode fun m => { m with bootReq := c.nat })

def rejoinRequestCheck (c : WCtx) (s : State) : EpStatus := refuseIf (c.nat = 1 && !inMode [.isolated] s) .mode

/-- A rejoin that is asked for may leave ISOLATED again, at once when a partner serves alone. -/
def rejoinRequestEffect (c : WCtx) (s : State) : State :=
  if c.nat = 0 then s
  else
    let s := s.onMode fun m => { m with holdIsolated := false }
    if mayRejoin s && partnerSolo s then rejoinBegin s else s

end Sys2Proof.Machine
end

