-- ==== Sys2Proof/Machine/Handlers.lean ====
section
/-! DEFINITION. What a write to each object does beyond storing its value: the object's own conditions, the
conditions that tie objects together, and its effect, by index (15 R405, R406). -/

namespace Sys2Proof.Machine

/-! ### Trust anchors, images, attestation (15 R410, R413, R415) -/

/-- A value of ANCHOR_CERT is zero or a CA certificate. -/
def anchorCheckWith (parses : Bool) (c : WCtx) : EpStatus := refuseIf (!allZero c.val.octets && !parses) .range

def anchorCheck (c : WCtx) (_ : State) : EpStatus := anchorCheckWith (Config.certParses c.val.octets) c

/-- An anchor has been written: event 0x1003, the sessions that chained to it end; the first anchor claims the
module, event 0x1002, and ends the claiming session. -/
def anchorApplied (k : Nat) (before : Bool) (s : State) : State :=
  let s := endSome (fun _ x => x.anchor = k) (raise 0x1003 k k 0x1020 k s)
  if !before && claimed s then
    endSome (fun _ x => decide (x.path = .mgmtPort)) (raise 0x1002 0 1 0x1022 0 s)
  else s

/-- The session of a write holds an image load. -/
def holdsLoad (c : WCtx) (s : State) : Bool := ((Tbl.get? s.mgmt.sessions c.sess).map (·.loading)).getD false

/-- The running slot is no target, and one session at a time loads. -/
def loadSlotCheck (c : WCtx) (s : State) : EpStatus :=
  refuseIf (c.nat = s.mode.bootSlot || s.mgmt.sessions.any fun p => p.1 ≠ c.sess && p.2.loading) .mode

def loadSlotApplied (c : WCtx) (s : State) : State :=
  s.onMgmt fun m => { m with
    loadSlot := c.nat, loadState := 1, sessions := Tbl.upd m.sessions c.sess fun x => { x with loading := true } }

/-- Bytes of an image slot (15 R414). -/
def slotBytes : Nat := 120 * 1024 * 1024

/-- A chunk needs the session's load (DEDUCED, log entry 47) and must fit the slot. -/
def loadDataCheck (c : WCtx) (s : State) : EpStatus :=
  firstFailure [refuseIf (!holdsLoad c s) .mode,
    refuseIf (slotBytes < s.mgmt.loadOffset + c.val.octets.length) .range]

/-- Put bytes at an offset of a slot; erased flash between reads as ones. -/
def putChunk (off : Nat) (b old : Bytes) : Bytes :=
  let head := old.take off
  head ++ List.replicate (off - head.length) 0xFF#8 ++ b ++ old.drop (off + b.length)

/-- A chunk is written at LOAD_OFFSET, which advances; the slot holds no image until a commit passes. -/
def loadDataApplied (c : WCtx) (s : State) : State :=
  let b := c.val.octets
  let off := s.mgmt.loadOffset
  let k := s.mgmt.loadSlot - 1
  s.onMgmt fun m => { m with
    slots := updNat m.slots k fun old => putChunk off b (if off = 0 then [] else old)
    images := updNat m.images k fun _ => none
    loadOffset := off + b.length, loadState := 1 }

def loadCommitCheck (c : WCtx) (s : State) : EpStatus := refuseIf (!holdsLoad c s) .mode

/-- The commit checks the image: LOAD_STATE 2 and event 0x1004, or 3 and event 0x1005; the load is over. -/
def loadCommitWith (img : ImageCheck) (c : WCtx) (s : State) : State :=
  let k := s.mgmt.loadSlot
  let ok := img.digestOk && img.sigOk && s.mode.secVersion ≤ img.version
  let s := s.onMgmt fun m => { m with
    images := updNat m.images (k - 1) fun _ => if ok then some img else none
    loadState := if ok then 2 else 3
    sessions := Tbl.upd m.sessions c.sess fun x => { x with loading := false } }
  raise (if ok then 0x1004 else 0x1005) k (if ok then 2 else 3) 0x1034 0 s

def loadCommitApplied (c : WCtx) (s : State) : State :=
  let img := Config.imageCheck (((atNat s.mgmt.slots (s.mgmt.loadSlot - 1)).getD []).take c.nat)
  loadCommitWith img c s

def nonceApplied (c : WCtx) (s : State) : State :=
  s.onMgmt fun m => { m with sessions := Tbl.upd m.sessions c.sess fun x => { x with nonce := some c.val.octets } }

/-! ### Performance counters (15 R420 to R424) -/

/-- Counters of a block: the last two blocks have four. -/
def ctrsOf (b : Nat) : Nat := if 14 ≤ b then 4 else 8

/-- What an enabled counter and the clock counter of a block have counted since they were last read: free values
(DESIGN CHOICE, log entry 6: the commands of the table do not carry the counted transactions). -/
def ctrTick (b : Nat) (s : State) : State :=
  let d := draw s
  let s := d.2.onMgmt fun m => { m with blocks := updNat m.blocks (b - 1) fun k =>
    { k with cycles := k.cycles + BitVec.ofNat 64 (Config.freeNat d.1) } }
  each ((List.range (ctrsOf b)).filter fun i => ctrOn (b - 1) i s) (fun i s =>
    let d := draw s
    let n := Config.freeNat d.1
    let add : Ctr → Ctr := fun c => { c with
      value := c.value + BitVec.ofNat 48 n, overflow := c.overflow || decide (2 ^ 48 ≤ c.value.toNat + n) }
    d.2.onMgmt fun m => { m with blocks := updNat m.blocks (b - 1) fun k =>
      { k with ctrs := updNat k.ctrs i add } }) s

/-- Latch every counter of a block in one step. -/
def ctrSnapshot (b : Nat) (s : State) : State :=
  let s := ctrTick b s
  s.onMgmt fun m => { m with blocks := updNat m.blocks (b - 1) fun k => { k with
    ctrs := k.ctrs.map fun c => { c with latch := c.value }
    cyclesLatch := k.cycles, latched := true } }

/-- A write to CTR_VALUE clears the counter, what its latch shows, and its status bits. -/
def ctrClear (b i : Nat) (s : State) : State :=
  s.onMgmt fun m => { m with blocks := updNat m.blocks (b - 1) fun k =>
    { k with ctrs := updNat k.ctrs i fun _ => Ctr.reset } }

/-- CLASS, PRIV, MASTER and ADDR apply to events 1 to 7 only. -/
def ctrControlCheck (c : WCtx) (_ : State) : EpStatus :=
  let v := BitVec.ofNat 64 c.nat
  let event := (v.extractLsb' 0 8).toNat
  refuseIf ((v.extractLsb' 8 7 ≠ 0 || v.extractLsb' 16 8 ≠ 0 || v.getLsbD 24) && !(1 ≤ event && event ≤ 7)) .range

/-! ### CONFIG_RESET (15 R400) -/

/-- Objects that CONFIG_RESET leaves: the trust anchors, the management addressing and DEAL. -/
def keptAtReset (i : Nat) : Bool := i = 0x1020 || i = 0x1021 || (0x1010 ≤ i && i ≤ 0x1017) || i = 0x7012

def configResetCheck (c : WCtx) (s : State) : EpStatus :=
  firstFailure [refuseIf (c.nat ≠ 0xD5D5) .range, refuseIf (!inMode [.isolated] s) .mode]

/-- Every other value is its default, with what that brings; the keys stay. -/
def configReset (s : State) : State :=
  let old := s
  let s := each (Tbl.keys s.cmd.ns) returnLbs s
  let s := { s with dict := s.dict.filter fun p => keptAtReset (p.1 / 1048576) }
  let s := each ((List.range 8).filter fun g => (atNat old.net.groupRun g).getD 0 ≠ dnat 0x3000 (g + 1) 0 s)
    (fun g s => groupEffect g (dnat 0x3000 (g + 1) 0 s) s) s
  let s := each ((List.range 32).filter fun p => groupMacSet p old) groupMacApplied s
  let s := each ((List.range 24).filter fun b => bayLocked b old) (fun b s => bayLockApplied b false s) s
  let s := attachEnableApplied (cfg 0x6200 s ≠ 0) (powerPolicyApplied (potResized s))
  let s := (freshSchedulers s).onMgmt fun m => { m with configGen := m.configGen + 1 }
  raise 0xF002 0 s.mgmt.configGen 0xF001 0 (writeStore s)

/-! ### Conditions of single objects -/

/-- Conditions of an object's own chapter that look at it alone (15 R405). -/
def ownCheck (c : WCtx) (s : State) : EpStatus := match c.obj.idx with
  | 0x1020 => anchorCheck c s
  | 0x1030 => loadSlotCheck c s
  | 0x1032 => loadDataCheck c s
  | 0x1033 => loadCommitCheck c s
  | 0x2001 => serviceEnableCheck c s
  | 0x2005 => restartCheck c s
  | 0x2140 => roleSwapCheck c s
  | 0x2154 => rejoinRequestCheck c s
  | 0x2170 => fwActivateCheck c s
  | 0x2171 => forceSoloCheck c s
  | 0x3004 => refuseIf ((leBytes 4 c.nat).any fun b => 4 < b.toNat) .range
  | 0x3005 => recalCheck c s
  | 0x3010 => groupMacCheck c s
  | 0x3221 | 0x3222 | 0x3223 | 0x3224 => refuseIf (flag 0x3225 0 c.rcd s) .mode
  | 0x3225 => nsEnableCheck c s
  | 0x4300 => refuseIf (c.val.octets.any fun b => b.toNat = 0 || 16 < b.toNat) .range
  | 0x5005 => formatCheck c s
  | 0x520B => readmitCheck c s
  | 0x5243 => lostClearCheck c s
  | 0x5321 => cryptoEraseCheck c s
  | 0x5332 => keyImportCheck c s
  | 0x6105 => holdupTestCheck c s
  | 0x6112 => bayClearCheck c s
  | 0x6200 => attachEnableCheck c s
  | 0x7043 => repairClearCheck c s
  | 0x7100 => selfTestCheck c s
  | 0x8004 => ctrControlCheck c s
  | 0xF002 => configResetCheck c s
  | _ => .ok

/-! ### Conditions that tie objects together (15 R406) -/

/-- Kitties against caps and their total (04 R97). -/
def poolsFit (s : State) : Bool :=
  let l := (List.range 15).map (· + 1)
  decide ((l.map (kitty s)).sum ≤ poolRegion) &&
    l.all fun p => 1024 ≤ kitty s p && kitty s p ≤ capOf s p && capOf s p ≤ poolRegion

/-- CBS ≤ PBS and PBS ≥ 2,048 (03 R84). -/
def depthsFit (cbs r : Nat) (s : State) : Bool :=
  decide (dnat cbs 0 r s ≤ dnat (cbs + 2) 0 r s) && 2048 ≤ dnat (cbs + 2) 0 r s

/-- FREE_CRIT < FREE_LOW < FREE_HIGH (07 R185). -/
def freeMarksFit (s : State) : Bool := decide (cfg 0x5113 s < cfg 0x5111 s ∧ cfg 0x5111 s < cfg 0x5112 s)

/-- The power-policy thresholds rise (14 R377). -/
def loadMarksFit (s : State) : Bool :=
  decide (cfg 0x2012 s < cfg 0x2013 s ∧ cfg 0x2013 s < cfg 0x2011 s ∧ cfg 0x2011 s < cfg 0x2010 s)

/-- DEAL: every count at its minimum or above, mirror 2, management 2, and 32 in all (14 R384). -/
def dealFits (s : State) : Bool :=
  ((List.range 6).all fun k => stageMin (k + 1) ≤ stageDeal (k + 1) s) && stageDeal 5 s = 2 && stageDeal 6 s = 2
    && ((List.range 6).map fun k => stageDeal (k + 1) s).sum = 32

/-- At most one PSK record binds a host and a subsystem (09 R256). -/
def pskAlone (r : Nat) (s : State) : Bool :=
  let h := dnat 0x5311 0 r s
  let u := dnat 0x5312 0 r s
  h = 0 || u = 0 || (s.dict.all fun p =>
    let q := p.1 % 4096
    p.1 / 1048576 ≠ 0x5311 || q = r || dnat 0x5311 0 q s ≠ h || dnat 0x5312 0 q s ≠ u)

/-- Does the state a write would leave break a condition that the object is part of? -/
def jointBroken (c : WCtx) (s : State) : Bool := match c.obj.idx with
  | 0x4000 => !poolsFit s
  | 0x4001 => !poolsFit s || !decide (cfg 0x6205 s + 16384 ≤ capOf s poolAttach)
  | 0x6205 => !decide (cfg 0x6205 s + 16384 ≤ capOf s poolAttach)
  | 0x3311 | 0x3313 => !depthsFit 0x3311 c.rcd s
  | 0x3321 | 0x3323 => !depthsFit 0x3321 c.rcd s
  | 0x5111 | 0x5112 | 0x5113 => !freeMarksFit s
  | 0x2010 | 0x2011 | 0x2012 | 0x2013 => !loadMarksFit s
  | 0x4104 | 0x4105 => !decide (cfg 0x4104 s < cfg 0x4105 s)
  | 0x5200 | 0x5002 => !decide (cfg 0x5200 s ≤ cfg 0x5002 s)
  | 0x7012 => !dealFits s
  | 0x5311 | 0x5312 => !pskAlone c.rcd s
  | _ => false

/-! ### Effects -/

/-- Discovery controllers are told when their log gains or loses an entry (03 R66). -/
def discoveryDiff (old s : State) : State :=
  let changed := s.cmd.ctrls.any fun p => p.2.discovery && discoveryPage p.2.host old ≠ discoveryPage p.2.host s
  when changed discoveryChanged s

/-- A bucket of admission whose rate or depth is set starts full (03 R84). -/
def fullBucket (kind r : Nat) (s : State) : State :=
  s.onCmd fun d => { d with buckets := Tbl.del d.buckets (kind * 4096 + r) }

/-- A bucket of the egress scheduler whose rate or depth is set starts full, a class's on every port (05 R135). -/
def fullHostEg (kind r : Nat) (s : State) : State :=
  s.onEgress fun e => { e with buckets := Tbl.del e.buckets (kind * 4096 + r) }
def fullClassEg (kind cls : Nat) (s : State) : State :=
  s.onEgress fun e => { e with buckets := e.buckets.filter fun p =>
    !(65536 ≤ p.1 && (p.1 - 65536) % 32 = (cls - 1) * 2 + kind) }

/-- A PSK record that names neither host nor subsystem any more holds no value. -/
def pskCleared (r : Nat) (s : State) : State :=
  if dnat 0x5311 0 r s = 0 && dnat 0x5312 0 r s = 0 && Tbl.has s.keys.psk r then
    writeStore (record (.psk r []) (s.onKeys fun k => { k with psk := Tbl.del k.psk r }))
  else s

/-- Free EUs whose wear has reached WEAR_RETIRE are retired at once (07 R196). -/
def retireWorn (s : State) : State :=
  each (List.range 24) (fun c s =>
    let x := carOf s c
    each (x.free.filter fun e => cfg 0x5121 s * 10 ≤ wearOf x e) (retireEu c) s) s

/-- What a write does once its value is held; `old` is the state before it. -/
def effectAfter (c : WCtx) (old s : State) : State := match c.obj.idx with
  | 0x1007 => nonceApplied c s
  | 0x1020 => anchorApplied c.sub (claimed old) s
  | 0x1030 => loadSlotApplied c s
  | 0x1031 => s.onMgmt fun m => { m with loadOffset := c.nat }
  | 0x1032 => loadDataApplied c s
  | 0x1033 => loadCommitApplied c s
  | 0x2001 => if c.nat = 0 then serviceOff s else s
  | 0x2003 => powerPolicyApplied s
  | 0x2005 => restartEffect c s
  | 0x2140 => roleSwapEffect c s
  | 0x2154 => rejoinRequestEffect c s
  | 0x2170 => fwActivateEffect c s
  | 0x2171 => forceSoloEffect c s
  | 0x3000 => groupEffect (c.sub - 1) c.nat s
  | 0x3002 => portEnableApplied (c.sub - 1) (c.nat ≠ 0) s
  | 0x3005 => recalEffect c s
  | 0x3010 => groupMacApplied (c.sub - 1) s
  | 0x3020 | 0x3022 | 0x3201 | 0x3202 | 0x3203 | 0x3211 => discoveryDiff old s
  | 0x3225 => nsEnableApplied c.rcd (c.nat ≠ 0) s
  | 0x3227 => writeProtectApplied c.rcd (nsReadOnly c.rcd old) s
  | 0x3310 | 0x3311 => fullBucket 0 c.rcd s
  | 0x3312 | 0x3313 => fullBucket 1 c.rcd s
  | 0x3320 | 0x3321 => fullBucket 2 c.rcd s
  | 0x3322 | 0x3323 => fullBucket 3 c.rcd s
  | 0x4100 => potResized s
  | 0x5100 => if s.xlat.geo.isSome then checkStage s else s
  | 0x5113 => if s.xlat.geo.isSome then checkFree s else s
  | 0x5200 => floorCheck s
  | 0x5121 => if decides s then retireWorn s else s
  | 0x4302 | 0x4303 => fullClassEg 0 c.sub s
  | 0x4304 | 0x4305 => fullClassEg 1 c.sub s
  | 0x4310 | 0x4311 => fullHostEg 0 c.rcd s
  | 0x4312 | 0x4313 => fullHostEg 1 c.rcd s
  | 0x5005 => formatEffect c s
  | 0x520B => readmitEffect c s
  | 0x5243 => lostClear c.nat s
  | 0x5311 | 0x5312 => pskCleared c.rcd s
  | 0x5313 => pskEffect c s
  | 0x5321 => cryptoEraseEffect c s
  | 0x5330 => escrowEffect c s
  | 0x5332 => keyImportEffect c s
  | 0x6105 => holdupTestEffect c s
  | 0x6111 => bayLockApplied (c.sub - 1) (c.nat ≠ 0) s
  | 0x6112 => bayClearEffect c s
  | 0x6200 => attachEnableApplied (c.nat ≠ 0) s
  | 0x7043 => repairClearEffect c s
  | 0x7100 => selfTestEffect c s
  | 0x8001 => if c.nat = 1 then ctrSnapshot c.rcd s else s
  | 0x8003 => ctrClear c.rcd (c.sub - 1) s
  | 0x8004 => s.onMgmt fun m => { m with ctrGen := m.ctrGen + 1 }
  | 0xF002 => configReset s
  | _ => s

/-- One checked write takes effect. -/
def writeOne (c : WCtx) (s : State) : State := effectAfter c s (storeOne c s)

/-- The conditions of one write alone: its own, then those that tie it to others, against the state it would
leave (15 R406). -/
def wholeCheck (c : WCtx) (s : State) : EpStatus :=
  firstFailure [ownCheck c s, refuseIf (jointBroken c (putValue c s)) .range]

/-! ### A pair-scope value that comes from the partner (10 R272; 15 R398) -/

/-- What the value of a CONFIG entry brings on the module that follows the deciding one. Keys, bands and carriers
come by entries of their own. -/
def followConfig (idx sub r : Nat) (v : Val) (old s : State) : State := match idx with
  | 0x3002 => portEnableApplied (sub - 1) (v.toNat ≠ 0) s
  | 0x3010 => groupMacApplied (sub - 1) s
  | 0x3225 =>
    if v.toNat = 0 then (if nsEnabled r s then namespaceChanged r (returnLbs r s) else s)
    else if nsEnabled r s then s
    else namespaceChanged r (reserveLbs r s)
  | 0x3227 => writeProtectApplied r (nsReadOnly r old) s
  | 0x4100 => potResized s
  | 0x5243 => lostClear v.toNat s
  | 0x6111 => bayLockApplied (sub - 1) (v.toNat ≠ 0) s
  | _ => s

/-- A CONFIG entry is applied: an object that this module does not define is discarded (16 R432), and one it
stores counts as a stored change of its own store. -/
def applyConfig (idx sub r : Nat) (v : Val) (s : State) : State := match objOf idx with
  | none => s
  | some o =>
    if storedObj o then followConfig idx sub r v s (storedChange idx sub 1 (putDict idx sub r v s))
    else followConfig idx sub r v s s

end Sys2Proof.Machine
end

