-- ==== Sys2Proof/Machine/Values.lean ====
section
/-! DEFINITION. What a GET reads at each object (16 R428; the tables of R61, R94, R116, R138, R139, R177, R208,
R237, R265, R305, R326, R349, R366, R396 and R426): RO objects from the state, counts from their totals, writable
objects from the dictionary or the session. -/

namespace Sys2Proof

/-! ### Codes -/

def FeedState.code : FeedState → Nat
  | .absent => 0 | .good => 1 | .low => 2 | .lost => 3 | .overvoltage => 4 | .reverse => 5

def BayState.code : BayState → Nat
  | .empty => 0 | .present => 1 | .debounce => 2 | .locked => 3 | .ramp => 4 | .on => 5 | .cooldown => 6
  | .latched => 7 | .heldOff => 8

def AuxState.code : AuxState → Nat
  | .off => 0 | .on => 1 | .cooldown => 2 | .latched => 3

def ElemState.code : ElemState → Nat
  | .inService => 0 | .spare => 1 | .underTest => 2 | .retired => 3

def CarState.code : CarState → Nat
  | .absent => 0 | .inService => 1 | .lost => 2 | .heldOut => 3 | .notAdmitted => 4

def Ty.code : Ty → Nat
  | .bool => 1 | .u8 => 2 | .u16 => 3 | .u32 => 4 | .u64 => 5 | .i16 => 6 | .i32 => 7 | .str => 8 | .oct => 9
  | .addr => 10 | .time => 11 | .dur => 12

def Access.code : Access → Nat
  | .ro => 0 | .rw => 1 | .wo => 2 | .rws => 3

def Scope.code : Scope → Nat
  | .module => 0 | .pair => 1 | .session => 2

end Sys2Proof

namespace Sys2Proof.Machine

def bit (b : Bool) (k : Nat) : Nat := if b then 2 ^ k else 0

/-- Octets padded with zeros, and cut, to a length. -/
def fixed (n : Nat) (b : Bytes) : Bytes := b.take n ++ List.replicate (n - b.length) 0

def bool1 (b : Bool) : Val := .num (if b then 1 else 0)
def nat1 (n : Nat) : Val := .num n
def oct1 (n : Nat) (b : Bytes) : Val := .oct (fixed n b)

/-- DUR values stop at their maximum. -/
def dur1 (n : Nat) : Val := .num (min n 4294967295)

/-! ### Windows and reports -/

/-- A log entry as it is read (15 R416, 16 R434). The DATA of 0xF001 holds the first object and the member count
(15 R427). -/
def logBytes (e : LogEntry) : Bytes :=
  leBytes 8 e.time ++ leBytes 4 e.seq ++ leBytes 2 e.code ++ leBytes 1 e.severity ++ leBytes 1 (bit e.rom 0) ++
    leBytes 2 e.instNo ++ leBytes 2 0 ++
    leBytes 8 e.value ++ leBytes 2 (e.object / 256) ++ leBytes 1 (e.object % 256) ++ leBytes 1 0

/-- Every entry held, oldest first. -/
def logAll (s : State) : List LogEntry := s.mgmt.log ++ s.mgmt.pendingLog

/-- The sixteen entries of a session's window: zeros where no entry of that SEQ is held. -/
def logWindow (x : Session) (k : Nat) (s : State) : Option LogEntry :=
  (logAll s).find? fun e => e.seq = selOf x 0x1110 + k

/-- A lost-range entry (08 R227). -/
def lostBytes (e : Lost) : Bytes :=
  leBytes 8 e.detected ++ leBytes 8 e.lba ++ leBytes 4 e.count ++ leBytes 2 e.ns ++ leBytes 1 e.cause ++
    leBytes 1 e.missing ++ leBytes 4 (e.band % 33554432) ++ leBytes 2 e.stripe ++ leBytes 2 0

/-- The entry at a 1-based position of a list. -/
def atPos {α : Type} (l : List α) (p : Nat) : Option α := if p = 0 then none else l[p - 1]?

/-- A repair-map entry: 128 bits, little-endian (14 R382). -/
def repairBytes (e : Repair) : Bytes :=
  leBytes 4 e.detail ++ leBytes 2 e.instNo ++ leBytes 1 (e.source % 16 * 16) ++ leBytes 1 e.kind ++ leBytes 8 e.time

/-- A window of `n` positions from `base` on a list: how many hold an entry. -/
def windowCount (len base n : Nat) : Nat := ((List.range n).filter fun k => 1 ≤ base + k && base + k ≤ len).length

/-- LIFE_USED in 0.01 % of 40 years at 80 °C (14 R393). -/
def lifeUsed (s : State) : Nat := s.repair.life / 126230400000000

/-- The attestation report (15 R413). -/
def attestBody (nonce : Bytes) (s : State) : Bytes :=
  let digest := fun (k : Nat) =>
    if ((atNat s.mgmt.images k).bind id).isSome then Config.sha384 ((atNat s.mgmt.slots k).getD []) else []
  let repairs := (s.repair.factory ++ s.repair.field).flatMap repairBytes
  leBytes 4 0x5354414B ++ leBytes 2 1 ++ leBytes 2 352 ++ fixed 16 s.ident.serial ++ fixed 32 nonce ++
    leBytes 8 s.now ++ fixed 48 (digest 0) ++ fixed 48 (digest 1) ++ leBytes 1 s.mode.bootSlot ++
    leBytes 1 s.mode.mode.code ++ leBytes 2 s.mode.secVersion ++ fixed 48 (Config.sha384 repairs) ++
    leBytes 1 (bit (degradedModule s) 0) ++ leBytes 1 s.repair.reason.toNat ++ leBytes 2 (lifeUsed s) ++
    List.replicate 40 0

def attestReport (nonce : Bytes) (s : State) : Bytes :=
  let b := attestBody nonce s
  b ++ fixed 96 (Config.sign (Config.sha384 b))

/-- META of the index a session names (16 R431). -/
def metaBytes (o : Obj) : Bytes :=
  let dflt : Bytes :=
    if o.idx = 0x1001 then fixed 8 (strOctets "AL2432")
    else if o.dflt < 0 then leBytes 8 ((2 : Int) ^ 64 + o.dflt).toNat
    else leBytes 8 o.dflt.toNat
  leBytes 1 o.ty.code ++ leBytes 1 o.acc.code ++ leBytes 1 (privRank o.priv) ++ leBytes 1 (scopeOf o).code ++
    leBytes 1 o.hi ++ List.replicate 3 0 ++ dflt

/-! ### Values by chapter; `none` leaves the value to the count or the dictionary -/

/-- Accounted bytes that wait on a port (05 R137, R139). -/
def queuedBytes (p : Nat) (s : State) : Nat :=
  ((queuedOn p s).map fun q => (q.2.sendQ.map fun f =>
    let n := nextBytes q.2 f s
    let left := f.len - f.sent
    left + (if n = 0 then 1 else (left + n - 1) / n) * (accounted q.2 f s - n)).sum).sum

def netVal (idx sub : Nat) (s : State) : Option Val := match idx with
  | 0x3001 => some (nat1 (portStateCode (sub - 1) s))
  | 0x3011 =>
    let p := sub - 1
    if (svcsOf p s).isEmpty || !groupMacSet p s then some (nat1 0)
    else some (nat1 (if (portOf s p).dual = 0 then 2 else (portOf s p).dual))
  | 0x3100 => some (nat1 s.conns.length)
  | 0x4330 => some (nat1 (queuedBytes (sub - 1) s))
  | 0x4332 =>
    let start := (portOf s (sub - 1)).pausedFrom
    some (nat1 (countOf idx sub s + (s.now - start.getD s.now)))
  | _ => none

def cmdVal (idx r : Nat) (s : State) : Option Val := match idx with
  | 0x3226 => some (nat1 (if !nsEnabled r s then 0 else if nsReadOnly r s then 2 else 1))
  | 0x3300 => some (nat1 s.cmd.cmds.length)
  | 0x3330 => some (nat1 (s.cmd.cmds.filter fun p => decide (p.2.phase = .held)).length)
  | _ => none

def poolVal (idx sub : Nat) (s : State) : Option Val := match idx with
  | 0x4002 => some (nat1 (poolUsed s (sub - 1)))
  | 0x4004 => some (nat1 (((atNat s.pools (sub - 1)).map (·.peak)).getD 0))
  | 0x4005 => some (nat1 (poolFree s - reserveOther s 0))
  | 0x4113 => some (dur1 s.pot.revolution)
  | 0x4114 => some (nat1 ((s.pot.bufs.filter fun p => p.2.potRef && decide (p.2.count = 1)).map (·.2.len)).sum)
  | 0x4203 => some (nat1 s.core.sharedFree)
  | _ => none

def xlatVal (idx : Nat) (s : State) : Option Val :=
  let g := s.xlat.geo
  match idx with
  | 0x5000 => some (nat1 ((g.map (·.eMiB)).getD 0))
  | 0x5001 => some (nat1 ((g.map (·.pKiB)).getD 0))
  | 0x5003 => some (nat1 (lbSectors s))
  | 0x5004 => some (nat1 ((g.map Geo.capacity).getD 0))
  | 0x5007 => some (nat1 s.xlat.arrayId.toNat)
  | 0x5020 => some (nat1 (caddyUsed s))
  | 0x5023 => some (nat1 (5376 - s.xlat.spareUsed))
  | 0x5030 => some (nat1 s.xlat.fills.length)
  | 0x5031 => some (nat1 (logBands s))
  | 0x5032 => some (nat1 s.xlat.runs.length)
  | 0x5035 => some (nat1 s.xlat.bands.length)
  | 0x5036 => some (nat1 s.xlat.journal.length)
  | 0x5037 =>
    let units := (s.xlat.bands.map fun p => bandUnits p.2.width).sum
    some (nat1 (((g.map Geo.capacity).getD 0 + units) * 16 / 1024))
  | 0x5038 => some (nat1 s.xlat.lastCheckpoint)
  | _ => none

def mediaVal (x : Session) (idx sub : Nat) (s : State) : Option Val :=
  let c := carOf s (sub - 1)
  match idx with
  | 0x5101 => some (nat1 (stageLimit s))
  | 0x5102 => some (nat1 (stageBands s))
  | 0x5103 => some (nat1 ((s.xlat.runs.filter fun r => decide (r.kind = .staging)).map (·.len)).sum)
  | 0x5104 => some (nat1 (shelfFill s))
  | 0x5110 => some (nat1 (freeBands s))
  | 0x5122 => some (nat1 (wearMean c))
  | 0x5123 => some (nat1 (wearMax c))
  | 0x5131 => some (nat1 (talonLeft c))
  | 0x5132 => some (nat1 c.borrowed)
  | 0x5147 => some (nat1 (((bandAt s (selOf x 0x5146)).map (·.readCount)).getD 0))
  | 0x5150 => some (nat1 c.replace.toNat)
  | 0x5201 => some (nat1 (widthNow s))
  | 0x5202 => some (nat1 c.state.code)
  | 0x5203 => some (nat1 (s.xlat.bands.filter fun p => degraded p.2 = 1).length)
  | 0x5204 => some (nat1 (s.xlat.bands.filter fun p => degraded p.2 = 2).length)
  | 0x5210 => some (nat1 s.xlat.resyncKind)
  | 0x5211 => some (nat1 (s.xlat.bands.filter fun p => p.2.awaitResync).length)
  | 0x5240 => some (oct1 32 (((atPos s.xlat.lost (selOf x 0x5241 + (sub - 1))).map lostBytes).getD []))
  | 0x5242 => some (nat1 s.xlat.lost.length)
  | _ => none

/-- PSK_STATE (09 R256). -/
def pskState (r : Nat) (s : State) : Nat :=
  let l : List Bool := [decide (dnat 0x5311 0 r s ≠ 0), decide (dnat 0x5312 0 r s ≠ 0), Tbl.has s.keys.psk r]
  if l.all id then 1 else if l.any id then 2 else 0

def cipherVal (idx sub r : Nat) (s : State) : Option Val := match idx with
  | 0x5300 => some (nat1 (laneOf s (sub - 1)).code)
  | 0x5302 => some (nat1 (indices s.cipher.lanes fun l => decide (l = .inService)).length)
  | 0x5303 => some (nat1 (lanesRetired s))
  | 0x5305 => some (nat1 (entropyState s))
  | 0x5306 => some (nat1 ((s.keys.ns.filter fun p => p.2.key.isSome).length + s.keys.psk.length))
  | 0x5307 => some (nat1 s.cipher.resident.length)
  | 0x5314 => some (nat1 (pskState r s))
  | 0x5320 =>
    let k := nsKeyAt r s
    some (nat1 (if k.erasing then 2 else if k.key.isSome then 1 else 0))
  | 0x5322 => some (nat1 (nsKeyAt r s).gen)
  | 0x5331 => match s.keys.arrayKey, s.keys.kek with
    | some k, some kek => some (oct1 40 (Config.wrap kek k))
    | _, _ => some (oct1 40 [])
  | 0x5333 => some (bool1 s.keys.arrayKey.isSome)
  | _ => none

def pairVal (idx sub : Nat) (s : State) : Option Val := match idx with
  | 0x2100 => some (nat1 (pairState s))
  | 0x2101 => some (.oct s.pair.partnerSerial)
  | 0x2102 => some (nat1 s.pair.partnerMode)
  | 0x2103 => some (nat1 s.pair.partnerKind)
  | 0x2104 => some (nat1 s.pair.link)
  | 0x2105 => some (nat1 s.pair.protocol)
  | 0x2110 => some (nat1 s.pair.cycle)
  | 0x2111 => some (nat1 s.pair.committed)
  | 0x2112 => some (nat1 s.pair.epoch.toNat)
  | 0x2130 => some (nat1 (s.pair.faultOut.toNat * 4 + s.pair.faultIn.toNat))
  | 0x2142 => some (nat1 s.pair.lastSwap)
  | 0x2150 => some (nat1 s.pair.rejoinPhase)
  | 0x2151 => some (nat1 s.pair.rejoinPercent)
  | 0x2160 => some (nat1 (carriersHeld s))
  | 0x2161 => some (nat1 (carOf s (sub - 1)).value.toNat)
  | _ => none

def carrierVal (idx sub : Nat) (s : State) : Option Val :=
  let c := carOf s (sub - 1)
  match idx with
  | 0x6000 => some (.oct ((c.descr.map (·.serial)).getD []))
  | 0x6001 => some (.oct ((c.descr.map (·.model)).getD []))
  | 0x6002 => some (oct1 8 ((c.descr.map (·.firmware)).getD []))
  | 0x6003 => some (nat1 ((c.descr.map (·.protocol)).getD 0))
  | 0x6004 => some (nat1 (if c.linkUp then c.width else 0))
  | 0x6005 => some (nat1 c.inputs.toNat)
  | 0x6006 => some (.num c.temp)
  | 0x600B => some (oct1 256 ((c.descr.map (·.image)).getD []))
  | 0x600C => some (oct1 256 ((c.sideband.map (·.image)).getD []))
  | _ => none

def powerVal (idx sub : Nat) (s : State) : Option Val :=
  let b := bayOf s (sub - 1)
  match idx with
  | 0x6100 => some (nat1 (feedOf s (sub - 1)).mv)
  | 0x6102 => some (nat1 (feedOf s (sub - 1)).state.code)
  | 0x6103 => some (nat1 s.power.cap)
  | 0x6104 => some (dur1 (holdupTime s))
  | 0x6107 => some (nat1 s.power.lastHoldup)
  | 0x6108 => some (nat1 s.power.nodeMv)
  | 0x6110 => some (nat1 b.state.code)
  | 0x6113 => some (nat1 b.mA)
  | 0x6114 => some (nat1 b.mv)
  | 0x6115 => some (.num b.temp)
  | 0x6117 => some (nat1 b.lastFault)
  | 0x6118 => some (nat1 b.aux.code)
  | 0x6119 => some (nat1 (bit b.seat1 0 + bit b.seat2 1 + bit b.prsnt 2))
  | 0x6201 => some (nat1 (s.attach.width * 16 + s.attach.speed))
  | 0x620B => some (nat1 (if s.attach.optimized then 1 else 3))
  | _ => none

def modeVal (x : Session) (idx sub : Nat) (s : State) : Option Val := match idx with
  | 0x1100 => some (nat1 (bit (degradedModule s) 0))
  | 0x1101 => some (nat1 s.repair.reason.toNat)
  | 0x2000 => some (nat1 s.mode.mode.code)
  | 0x2002 => some (nat1 s.mode.power.code)
  | 0x2004 => some (nat1 s.mode.resetCause)
  | 0x2006 => some (nat1 s.mode.since)
  | 0x2007 => some (nat1 s.mode.safeCause)
  | 0x7001 => some (nat1 s.mode.bootSlot)
  | 0x7002 => some (dur1 s.mode.bootDuration)
  | 0x7003 => some (nat1 s.mode.secVersion)
  | 0x7010 => some (nat1 (engineOf s (sub - 1)).state.code)
  | 0x7011 => some (nat1 (engineOf s (sub - 1)).stage)
  | 0x7013 => some (nat1 (enginesRetired s))
  | 0x7020 => some (nat1 ((domOf s (sub - 1)).supply / 10))
  | 0x7021 => some (nat1 (headroom (sub - 1) s / 10))
  | 0x7022 => some (.num (domOf s (sub - 1)).slack)
  | 0x7023 => some (nat1 (lifeUsed s))
  | 0x7024 => some (.num ((atNat s.repair.temp (sub - 1)).getD 0))
  | 0x7025 => some (.num ((atNat s.repair.peak (sub - 1)).getD 0))
  | 0x7030 => some (nat1 ((atNat s.repair.dramLanes (sub - 1)).getD 0))
  | 0x7031 => some (nat1 ((atNat s.repair.dramRows (sub - 1)).getD 0))
  | 0x7040 => some (nat1 s.repair.field.length)
  | 0x7042 => some (oct1 16 (((atPos s.repair.field (selOf x 0x7041 + (sub - 1))).map repairBytes).getD []))
  | 0x7101 => some (nat1 s.repair.testResult)
  | _ => none

def ctrAt (b i : Nat) (s : State) : Ctr :=
  ((atNat s.mgmt.blocks (b - 1)).bind fun k => atNat k.ctrs i).getD Ctr.reset

/-- CTR_STATUS: overflow and mixed bits of a block's counters (15 R424, R426). -/
def ctrStatus (b : Nat) (s : State) : Nat :=
  ((List.range 8).map fun i => bit (ctrAt b i s).overflow i + bit (ctrAt b i s).mixed (i + 8)).sum

def ctrVal (idx sub b : Nat) (s : State) : Option Val :=
  let latched := ((atNat s.mgmt.blocks (b - 1)).map (·.latched)).getD false
  match idx with
  | 0x8002 => (atNat s.mgmt.blocks (b - 1)).map fun k =>
    nat1 (if latched then k.cyclesLatch.toNat else k.cycles.toNat)
  | 0x8003 =>
    let c := ctrAt b (sub - 1) s
    some (nat1 (if latched then c.latch.toNat else c.value.toNat))
  | 0x8007 => some (nat1 (ctrStatus b s))
  | 0x8008 => some (nat1 s.mgmt.ctrGen)
  | _ => none

/-- DTLS sessions open, over the management port and the in-band address (15 R401). -/
def dtlsSessions (s : State) : Nat :=
  (s.mgmt.sessions.filter fun p => p.2.path = .mgmtPort || p.2.path = .inband).length

def mgmtVal (x : Session) (idx sub : Nat) (s : State) : Option Val := match idx with
  | 0x1000 => some (.oct s.ident.serial)
  | 0x1002 =>
    some (.oct (if ((atNat s.mgmt.images (sub - 1)).bind id).isSome then Config.fwVersion sub else []))
  | 0x1004 => some (oct1 1024 Config.deviceCert)
  | 0x1005 => some (oct1 1024 Config.caCert)
  | 0x1006 => some (oct1 48 Config.rootDigest)
  | 0x1008 => some (oct1 352 (attestReport (x.nonce.getD []) s))
  | 0x1014 => some (oct1 6 Config.mgmtMac)
  | 0x1018 => some (nat1 (dtlsSessions s))
  | 0x1022 => some (bool1 (claimed s))
  | 0x1031 => some (nat1 s.mgmt.loadOffset)
  | 0x1034 => some (nat1 s.mgmt.loadState)
  | 0x1111 => some (oct1 32 (((logWindow x (sub - 1) s).map logBytes).getD []))
  | 0x1112 => some (nat1 s.mgmt.eventNext)
  | 0x1113 => some (nat1 (((logAll s).head?.map (·.seq)).getD s.mgmt.eventNext))
  | 0xF001 => some (nat1 s.mgmt.configGen)
  | 0xF004 => (objOf (selOf x 0xF003)).map fun o => .oct (metaBytes o)
  | _ => none

/-- Sub-index 0 of an array: its instances, or the entries a window holds (16 R430). -/
def arrayCount (x : Session) (o : Obj) (s : State) : Nat :=
  if o.idx = 0x1111 then ((List.range 16).filter fun k => (logWindow x k s).isSome).length
  else if o.idx = 0x5240 then windowCount s.xlat.lost.length (selOf x 0x5241) 254
  else if o.idx = 0x7042 then windowCount s.repair.field.length (selOf x 0x7041) 16
  else if o.sel = 0x8000 then ctrsOf (recOf x o)
  else o.hi

/-- What an object reads as. -/
def stateVal (x : Session) (idx sub r : Nat) (s : State) : Option Val :=
  (netVal idx sub s).orElse fun _ => (cmdVal idx r s).orElse fun _ => (poolVal idx sub s).orElse fun _ =>
  (xlatVal idx s).orElse fun _ => (mediaVal x idx sub s).orElse fun _ => (cipherVal idx sub r s).orElse fun _ =>
  (pairVal idx sub s).orElse fun _ => (carrierVal idx sub s).orElse fun _ => (powerVal idx sub s).orElse fun _ =>
  (modeVal x idx sub s).orElse fun _ => (ctrVal idx sub r s).orElse fun _ => mgmtVal x idx sub s

def readVal (x : Session) (o : Obj) (sub : Nat) (s : State) : Val :=
  let r := recOf x o
  if isCount o sub then nat1 (arrayCount x o s)
  else match stateVal x o.idx sub r s with
    | some v => v
    | none =>
      if scopeOf o = .session then nat1 (selOf x o.idx)
      else if o.acc = .ro && o.idx ≠ 0x7000 && o.idx ≠ 0xF000 && o.idx ≠ 0x1001 then
        if o.ty = .dur then dur1 (countOf o.idx sub s) else nat1 (countOf o.idx sub s)
      else dval o.idx sub r s

/-- A reading of a sensor that no command of the table feeds: the feed current (log entry 5). -/
def isReading (idx sub : Nat) : Bool := idx = 0x6101 && sub ≠ 0

/-- Is the counter read live, and so brought up to date first? -/
def liveCounter (idx r sub : Nat) (s : State) : Bool :=
  (idx = 0x8002 || idx = 0x8003 || idx = 0x8007) && !(idx = 0x8003 && sub = 0) &&
    !(((atNat s.mgmt.blocks (r - 1)).map (·.latched)).getD false)

/-- The value of a GET that passed its checks, and the state after it: a free reading is drawn, a live counter
counts up to now, and the nonce of an attestation report is spent (15 R413). -/
def getValue (sess : Nat) (x : Session) (o : Obj) (sub : Nat) (s : State) : Val × State :=
  if isReading o.idx sub then
    let d := draw s
    (nat1 (Config.reading d.1), d.2)
  else if o.idx = 0x1008 then
    (readVal x o sub s, s.onMgmt fun m => { m with
      sessions := Tbl.upd m.sessions sess fun x => { x with nonce := none } })
  else
    let s := when (liveCounter o.idx (recOf x o) sub s) (ctrTick (recOf x o)) s
    (readVal x o sub s, s)

/-- Conditions of a GET beyond its privilege: a report needs a fresh nonce, an export the escrow key (09 R252;
15 R413). -/
def getOwn (x : Session) (o : Obj) (s : State) : EpStatus :=
  if o.idx = 0x1008 && x.nonce.isNone then .denied
  else if o.idx = 0x5331 && (s.keys.kek.isNone || s.keys.arrayKey.isNone) then .denied
  else .ok

/-- One GET: status, value and the state after it. -/
def getOne (sess idx sub : Nat) (x : Session) (s : State) : EpStatus × Option Val × State :=
  match checkGet x idx sub s with
  | (.ok, some o) =>
    let st := getOwn x o s
    if st = .ok then
      let v := getValue sess x o sub s
      (.ok, some v.1, v.2)
    else (st, none, s)
  | (st, _) => (st, none, s)

end Sys2Proof.Machine
end

