-- ==== Sys2Proof/Machine/Manage.lean ====
section
/-! DEFINITION. The management service (15 R401 to R409, R417, R418): receiving a request on a session, the six
message types, group writes, requests from and to the partner, and sessions. -/

namespace Sys2Proof.Machine

/-! ### Sessions (15 R401, R407, R410) -/

def sessionNew (path : Path) (priv : Priv) (anchor : Nat) (now : Time) : Session :=
  { path, priv, anchor, sel := [], lastMsg := now, kept := [], nonce := none, sub := none, notifySeq := 0,
    notifyQ := [], gap := false, notifyAt := [], sampleQ := [], loading := false }

/-- The session record of a path that needs no handshake; its privilege is that of the message. -/
def sessionFor (key : Nat) (path : Path) (priv : Priv) (s : State) : State :=
  s.onMgmt fun m => { m with sessions := match Tbl.get? m.sessions key with
    | some x => Tbl.put m.sessions key { x with priv, lastMsg := s.now }
    | none => Tbl.put m.sessions key (sessionNew path priv 0 s.now) }

/-- A handshake is refused: event 0x1001. -/
def sessionRefused (s : State) : State := raise 0x1001 0 (dtlsSessions s) 0x1018 0 s

/-- Privilege of a client certificate that chains to an anchor, 1 to 4, or to the factory CA, 5; none where no
session opens. -/
def sessionPriv (path : Path) (anchor : Option Nat) (s : State) : Option (Priv × Nat) :=
  if anchor = some 5 && path = .mgmtPort && inMode [.isolated, .safe] s then some (.factory, 5)
  else if !claimed s then
    if path = .mgmtPort && !(s.mgmt.sessions.any fun p => p.2.path = .mgmtPort) then some (.maintainer, 0) else none
  else match anchor with
    | some k =>
      if 1 ≤ k && k ≤ 4 && !allZero (doct 0x1020 k 0 s) then some (privOfCode (dnat 0x1021 k 0 s), k) else none
    | none => none

/-- Is the path served, and one on which DTLS runs? -/
def dtlsPath (path : Path) (s : State) : Bool := match path with
  | .mgmtPort => reachable path s
  | .inband => reachable path s && cfg 0x1016 s ≠ 0
  | .mirror | .mailbox => false

def dtlsHandshake (path : Path) (anchor : Option Nat) (ok : Bool) (s : State) : State :=
  if !dtlsPath path s then s
  else if !grants s poolMgmt 1 then refuseGranules poolMgmt s
  else match sessionPriv path anchor s with
    | some (priv, k) =>
      if !ok || 16 ≤ dtlsSessions s then sessionRefused s
      else
        let key := Tbl.freeFrom s.mgmt.sessions 1 (s.mgmt.sessions.length + 1)
        s.onMgmt fun m => { m with sessions := Tbl.put m.sessions key (sessionNew path priv k s.now) }
    | none => sessionRefused s

/-! ### Answers -/

/-- Answer a request. A pair-scope write that came over the mirror link is answered once the record that names it
is committed (15 R409). -/
def answerReq (sess trans : Nat) (req : Req) (pairScope : Bool) (r : Resp) (s : State) : State :=
  if pairScope && tunnelKey ≤ sess && sess ≠ mailboxKey && s.pair.paired && decides s then
    let n := recCycle s
    s.onMgmt fun m => { m with owed := m.owed ++ [(n, .response (sess - tunnelKey) trans r)] }
  else reply sess trans req r s

/-- Responses whose record is committed are sent. -/
def sendOwed (s : State) : State :=
  let l := s.mgmt.owed.filter fun q => q.1 ≤ s.pair.committed
  each l (fun q s => mirSend (.mirEpquin q.2) s)
    (s.onMgmt fun m => { m with owed := m.owed.filter fun q => !decide (q.1 ≤ s.pair.committed) })

/-- A message status alone. -/
def statusOnly (st : EpStatus) : Resp := { status := st, items := [] }

def staleGen (g : Nat) (s : State) : Bool := g ≠ 0 && g ≠ s.mgmt.configGen

/-! ### GET and GET_MULTI (15 R403) -/

/-- Read items in order; each stands at its position. -/
def getItems (sess : Nat) (x : Session) : Nat → List (Nat × Nat) → State → List RespItem × State
  | _, [], s => ([], s)
  | pos, (idx, sub) :: l, s =>
    let r := getOne sess idx sub x s
    let x' := (Tbl.get? r.2.2.mgmt.sessions sess).getD x
    let rest := getItems sess x' (pos + 1) l r.2.2
    ({ index := idx, sub, pos, status := r.1, val := r.2.1 } :: rest.1, rest.2)

def runGet (sess trans : Nat) (x : Session) (idx sub : Nat) (s : State) : State :=
  let r := getOne sess idx sub x s
  reply sess trans (.get idx sub) (answer idx sub 1 r.1 r.2.1) r.2.2

/-- A message of 1 to 64 items; one outside that is answered with RANGE and read no further (DESIGN CHOICE, log entry 45). -/
def runGetMulti (sess trans : Nat) (x : Session) (items : List (Nat × Nat)) (s : State) : State :=
  let req : Req := .getMulti items
  if items.isEmpty || 64 < items.length then reply sess trans req (statusOnly .range) s
  else
    let r := getItems sess x 1 items s
    reply sess trans req { status := .ok, items := r.1 } r.2

/-! ### SET and SET_GROUP (15 R405, R406) -/

/-- Is a request's answer that of a format, and so sent by it? -/
def byFormat (sess trans : Nat) (s : State) : Bool := match s.xlat.formatBy with
  | some f => f.1 = sess && f.2.1 = trans
  | none => false

def runSet (sess trans : Nat) (x : Session) (g : Nat) (it : Item) (s : State) : State :=
  let req : Req := .set g it
  let say := fun (st : EpStatus) (p : Bool) (s : State) =>
    answerReq sess trans req p (answer it.index it.sub 1 st none) s
  if forwardsTo it.index s then forward sess trans x req s
  else if staleGen g s then say .stale false s
  else match checkSet sess x it.index it.sub (some it.ty) it.val s with
    | (_, some c) =>
      let st := wholeCheck c s
      if st ≠ .ok then say st false s
      else
        let s := writeOne { c with trans, req } s
        if it.index = 0x5005 then s else say .ok (decide (scopeOf c.obj = .pair)) s
    | (st, none) => say st false s

/-- Walk the members of a group over the state left by the members before: the writes, or the first failure with
its place. -/
def groupWalk (sess : Nat) (x : Session) (trans : Nat) (req : Req) :
    Nat → List Item → State → Except (Nat × Item × EpStatus) (List WCtx)
  | _, [], _ => .ok []
  | pos, it :: l, s =>
    let x' := (Tbl.get? s.mgmt.sessions sess).getD x
    match checkSet sess x' it.index it.sub (some it.ty) it.val s with
    | (_, some c) =>
      let c := { c with trans, req }
      let st := ownCheck c s
      if st ≠ .ok then .error (pos, it, st)
      else match groupWalk sess x trans req (pos + 1) l (effectAfter c s (putValue c s)) with
        | .ok r => .ok (c :: r)
        | .error e => .error e
    | (st, none) => .error (pos, it, st)

/-- The first member that sets an object of a joint condition the whole group would break. -/
def groupJoint : Nat → List (WCtx × Item) → State → Option (Nat × Item)
  | _, [], _ => none
  | pos, (c, it) :: l, s => if jointBroken c s then some (pos, it) else groupJoint (pos + 1) l s

/-- All values of a group, in one step; one stored change. -/
def groupPut (l : List WCtx) (s : State) : State :=
  let s := each l putValue s
  match l with
  | c :: _ => if l.any (fun c => storedObj c.obj) then storedChange c.obj.idx c.sub l.length s else s
  | [] => s

/-- Apply a group: every value, then what each brings. -/
def groupApply (l : List WCtx) (s : State) : State := each l (fun c t => effectAfter c s t) (groupPut l s)

def groupFails (pos : Nat) (it : Item) (st : EpStatus) : Resp :=
  { status := .groupAborted, items := [{ index := it.index, sub := it.sub, pos, status := st, val := none }] }

def runGroup (sess trans : Nat) (x : Session) (g : Nat) (items : List Item) (s : State) : State :=
  let req : Req := .setGroup g items
  let say := fun (r : Resp) (p : Bool) (s : State) => answerReq sess trans req p r s
  if items.any (fun it => forwardsTo it.index s) then forward sess trans x req s
  else if items.isEmpty || 64 < items.length then say (statusOnly .range) false s
  else if staleGen g s then say (statusOnly .stale) false s
  else match groupWalk sess x trans req 1 items s with
    | .error (pos, it, st) => say (groupFails pos it st) false s
    | .ok l => match groupJoint 1 (l.zip items) (each l putValue s) with
      | some (pos, it) => say (groupFails pos it .range) false s
      | none =>
        let s := groupApply l s
        if items.any (fun it => it.index = 0x5005) then s
        else say (statusOnly .ok) (l.any fun c => decide (scopeOf c.obj = .pair)) s

/-! ### SUBSCRIBE and NOTIFY (15 R417, R418) -/

def subscribeStatus (x : Session) (filters : List EvFilter) (period : Nat) (samples : List (Nat × Nat)) (s : State) :
    EpStatus :=
  firstFailure ([refuseIf (8 < filters.length || 16 < samples.length) .range,
    refuseIf (!samples.isEmpty && !(100 ≤ period && period ≤ 3600000)) .range] ++
    samples.map fun q => (checkGet x q.1 q.2 s).1)

def runSubscribe (sess trans : Nat) (x : Session) (filters : List EvFilter) (period : Nat)
    (samples : List (Nat × Nat)) (s : State) : State :=
  let st := subscribeStatus x filters period samples s
  let sb : Option Subscr := if filters.isEmpty && samples.isEmpty then none else some { filters, period, samples }
  let s := if st ≠ .ok then s else s.onMgmt fun m => { m with sessions := Tbl.upd m.sessions sess fun x =>
    { x with sub := sb, notifyQ := [], gap := false, sampleQ := [] } }
  reply sess trans (.subscribe filters period samples) (statusOnly st) s

/-- A sample period ends: one value of every listed object is queued. -/
def samplePeriod (sess : Nat) (s : State) : State := match Tbl.get? s.mgmt.sessions sess with
  | none => s
  | some x => match x.sub with
    | none => s
    | some sb =>
      if sb.samples.isEmpty || !reachable x.path s then s
      else
        let r := getItems sess x 1 sb.samples s
        r.2.onMgmt fun m => { m with sessions := Tbl.upd m.sessions sess fun x =>
          { x with sampleQ := x.sampleQ ++ [r.1] } }

/-- Send one NOTIFY: up to 30 entries, or one sample when no entry waits; at most 50 in a second. -/
def notify (sess : Nat) (s : State) : State := match Tbl.get? s.mgmt.sessions sess with
  | none => s
  | some x =>
    let recent := x.notifyAt.filter fun t => s.now < t + second
    if !reachable x.path s || (x.notifyQ.isEmpty && x.sampleQ.isEmpty) || 50 ≤ recent.length then s
    else
      let entries := x.notifyQ.take 30
      let sample : List RespItem := if entries.isEmpty then x.sampleQ.head?.getD [] else []
      let gap := x.gap && !entries.isEmpty
      emit (.notify sess x.notifySeq gap entries sample) (s.onMgmt fun m => { m with
        sessions := Tbl.upd m.sessions sess fun x => { x with
          notifySeq := x.notifySeq + 1
          notifyQ := x.notifyQ.drop 30
          sampleQ := if entries.isEmpty then x.sampleQ.drop 1 else x.sampleQ
          gap := x.gap && entries.isEmpty
          notifyAt := recent ++ [s.now] } })

/-! ### Requests (15 R404, R407, R409) -/

/-- Run a request on its session. One that is addressed to the partner goes over the mirror link. -/
def runReq (sess trans : Nat) (x : Session) (req : Req) (s : State) : State := match req with
  | .get idx sub => runGet sess trans x idx sub s
  | .set g it => runSet sess trans x g it s
  | .getMulti items => runGetMulti sess trans x items s
  | .setGroup g items => runGroup sess trans x g items s
  | .subscribe filters period samples => runSubscribe sess trans x filters period samples s
  | .partner r => forwardAs sess trans x (.partner r) r s

/-- In TAKEOVER a request waits until the mode ends. -/
def runOrWait (sess trans : Nat) (x : Session) (req : Req) (s : State) : State :=
  if inMode [.takeover] s then s.onMgmt fun m => { m with waiting := m.waiting ++ [(sess, trans, req)] }
  else runReq sess trans x req s

/-- Requests that waited run, in order; one whose session has ended is dropped. -/
def runWaiting (s : State) : State :=
  if inMode [.takeover] s then s
  else
    let l := s.mgmt.waiting
    each l (fun q s => match Tbl.get? s.mgmt.sessions q.1 with
      | some x => if reachable x.path s then runReq q.1 q.2.1 x q.2.2 s else s
      | none => s) (s.onMgmt fun m => { m with waiting := [] })

/-- The request of a transaction that is still executing. -/
def executing (sess trans : Nat) (s : State) : Option Req :=
  match (s.mgmt.waiting ++ s.mgmt.forwards).find? fun q => q.1 = sess && q.2.1 = trans with
  | some q => some q.2.2
  | none => match s.xlat.formatBy with
    | some f => if f.1 = sess && f.2.1 = trans then some f.2.2 else none
    | none => none

/-- The answer to a transaction that is used again with other content. -/
def reused (req : Req) : Resp := match req with
  | .get idx sub => answer idx sub 1 .stale none
  | .set _ it => answer it.index it.sub 1 .stale none
  | _ => statusOnly .stale

/-- A request of a client: a kept response answers a repeat, one that is executing is not run twice, other content
under the same transaction is STALE; else it runs. -/
def receiveReq (sess trans : Nat) (req : Req) (s : State) : State :=
  withSession sess (fun x s =>
    match x.kept.find? fun k => k.trans = trans with
    | some k => sendReply sess trans (if k.req = req then k.resp else reused req) s
    | none => match executing sess trans s with
      | some r => if r = req then s else sendReply sess trans (reused req) s
      | none => runOrWait sess trans x req s) s

/-- A request with its FLAGS [1]. -/
def addressed (partner : Bool) (req : Req) : Req := if partner then .partner req else req

/-- A message that came over the mirror link: a request runs with the originating session's privilege and its own
selectors here; a response is passed to the session that waits for it. -/
def tunnelled (m : Tunnel) (s : State) : State := match m with
  | .request priv sess tn req =>
    let key := tunnelKey + sess
    withSession key (fun x s => runOrWait key tn x req s) (sessionFor key .mirror priv s)
  | .response sess tn r => match s.mgmt.forwards.find? fun q => q.1 = sess && q.2.1 = tn with
    | some q => reply sess tn q.2.2 r
      (s.onMgmt fun m => { m with forwards := m.forwards.filter fun f => !(f.1 = sess && f.2.1 = tn) })
    | none => s

/-- The mailbox takes one request at a time, with MAILBOX_PRIVILEGE and without a transaction (13 R362). -/
def mailbox (len : Nat) (req : Req) (s : State) : State :=
  if !endpointUp s || s.attach.mboxBusy || !(1 ≤ len && len ≤ 4096) then s
  else
    let s := sessionFor mailboxKey .mailbox (privOfCode (cfg 0x6206 s)) s
    withSession mailboxKey (fun x s =>
      runOrWait mailboxKey 0 x req (s.onAttach fun a => { a with mboxBusy := true, mboxReady := false })) s

end Sys2Proof.Machine
end

