-- ==== Sys2Proof/Machine/Replica.lean ====
section
/-! DEFINITION. What the partner does with cycle records (10 R272, R274, R277, R278, R292, R299): what a record
lacks, asking for it, and applying the record's entries, which happens when the record is confirmed: an entry of a
record that was not confirmed had no effect (10 R287 step 3). -/

namespace Sys2Proof.Machine

/-! ### Bytes of a stream that are missing -/

/-- The parts of [a, b) that no range covers. -/
def gapsFrom : Nat → Nat → Nat → List (Nat × Nat) → List (Nat × Nat)
  | 0, _, _, _ => []
  | n + 1, a, b, l =>
    let p := absorb l.length a l
    if b ≤ p then []
    else
      let e := ((l.map Prod.fst).filter fun x => p < x).foldl min b
      (p, e - p) :: gapsFrom n e b l

/-- Does this module follow connections? A cold standby holds none, and a joiner only from the hand-over on. -/
def followsConns (s : State) : Bool := !inMode [.coldStandby] s && !(inMode [.rejoin] s && s.pair.rejoinPhase < 3)

/-- Ranges of a connection that are already lacking. -/
def lackRanges (conn : Nat) (l : List Lack) : List (Nat × Nat) := l.filterMap fun k => match k.req with
  | .stream c pos len => if c = conn then some (pos, len) else none
  | .sectors .. => none

/-- Do two ranges share a byte? -/
def rangesMeet (a b : Nat × Nat) : Bool := a.1 < b.1 + b.2 && b.1 < a.1 + a.2

/-- What a position of record `n` lacks, with whether each range is asked for now: it lies below the position of
the record before, or was discarded for want of granules. -/
def streamLacks (n conn pos : Nat) (s : State) : List (Lack × Bool) := match connOf s conn with
  | none => []
  | some x =>
    if !followsConns s || x.openedIn = n then []
    else
      let l := x.ooo ++ lackRanges conn s.pair.lacks
      let gaps := gapsFrom (l.length + 1) x.rxNext pos l
      let cut := gaps.flatMap fun g =>
        if g.1 < x.recPos && x.recPos < g.1 + g.2 then [(g.1, x.recPos - g.1), (x.recPos, g.1 + g.2 - x.recPos)] else [g]
      cut.map fun g =>
        ({ cycle := n, req := .stream conn g.1 g.2, asked := false, granules := 0 },
          decide (g.1 < x.recPos) || x.missing.any (rangesMeet g))

/-! ### Ciphertext of a placed write -/

/-- Does an entry place, zero or discard a sector? -/
def coversSector (ns a : Nat) : RecEntry → Bool
  | .place _ _ m lba n _ _ _ => m = ns && lba ≤ a && a < lba + n
  | .placeZero _ _ m lba n _ => m = ns && lba ≤ a && a < lba + n
  | .discardLb m lba n => m = ns && lba ≤ a && a < lba + n
  | _ => false

/-- A sector that a later entry, or a slot placed later, has replaced is needed no more. -/
def replaced (later : List RecEntry) (ns a cycle : Nat) (s : State) : Bool :=
  later.any (coversSector ns a) || (match slotOf ns a s with
    | some (_, x) => cycleBefore cycle x.cycle
    | none => false)

/-- The slot that holds a sector of a write here: placed by the snapshot, this module's own, or a sector fill. -/
def sectorFor (conn cid ns a cycle : Nat) (s : State) : Option (Nat × Slot) :=
  let l := s.xlat.slots.filter fun p => decide (p.2.state = .received) && p.2.ns = ns && p.2.lba = a
  let placed := (slotOf ns a s).filter fun p => p.2.cycle = cycle && p.2.zlen = 0
  placed.orElse fun _ => (l.find? fun p => conn ≠ 0 && p.2.conn = conn && p.2.cid = cid).orElse fun _ =>
    (l.find? fun p => p.2.conn = 0 && p.2.cycle = cycle).orElse fun _ =>
      l.find? fun p => p.2.conn = 0 && p.2.cycle = 0

/-- Sectors of a placed write that are still needed, with the slot that holds each. -/
def placeSlots (later : List RecEntry) (conn cid ns lba n cycle : Nat) (s : State) : List (Nat × Option (Nat × Slot)) :=
  ((List.range n).map fun i => lba + i).filterMap fun a =>
    if replaced later ns a cycle s then none else some (a, sectorFor conn cid ns a cycle s)

/-- Is the ciphertext of a placed write held, with the record's CRC where no sector of it has been replaced? -/
def placeHeld (later : List RecEntry) (conn cid ns lba n cycle : Nat) (crc : BitVec 64) (s : State) : Bool :=
  let l := placeSlots later conn cid ns lba n cycle s
  l.all (fun p => p.2.isSome) &&
    (l.length ≠ n || decide (ctCrc (l.filterMap fun p => p.2.map fun q => q.2.data) = crc))

/-- Is what one entry names held here? -/
def entryHeld (later : List RecEntry) (e : RecEntry) (s : State) : Bool := match e with
  | .rxPosition conn pos _ => match connOf s conn with
    | some x => !followsConns s || decide (pos ≤ x.rxNext)
    | none => true
  | .place conn cid ns lba n _ cycle crc => placeHeld later conn cid ns lba n cycle crc s
  | _ => true

/-- Is everything that a record names held? The positions of a connection opened in the record are its own. -/
def recordHeld (n : Nat) : List RecEntry → List RecEntry → State → Bool
  | [], _, _ => true
  | e :: l, after, s =>
    let opened := match e with
      | .rxPosition conn _ _ => match connOf s conn with
        | some x => decide (x.openedIn = n)
        | none => true
      | _ => false
    (opened || entryHeld (l ++ after) e s) && recordHeld n l after s

/-- Entries of the records that wait after one. -/
def laterEntries (n : Nat) (s : State) : List RecEntry :=
  (s.pair.waiting.filter fun p => n < p.1).flatMap fun p => p.2.entries

/-! ### Asking (10 R274, R277, R278; 04 R100) -/

/-- Granules of MIRROR_IN that a fill takes. -/
def fillGranules (q : FillReq) (s : State) : Nat := match q with
  | .stream conn _ len => match connOf s conn with
    | some x => if x.info.kind = .tcp then granulesFor len else len
    | none => 0
  | .sectors _ _ n => n

/-- Ask for one lack: without a granule it is asked for later. -/
def askLack (l : Lack) (s : State) : State :=
  let n := fillGranules l.req s
  let r := request poolMirrorIn n s
  if r.1 then
    mirSend (.mirFill l.req) (r.2.onPair fun p => { p with
      lacks := p.lacks.map fun k => if k.req = l.req then { k with asked := true, granules := n } else k })
  else r.2

/-- Note a lack, once, and ask for it where it is due. -/
def noteLack (l : Lack) (now_ : Bool) (s : State) : State :=
  if s.pair.lacks.any fun k => k.req = l.req then s
  else when now_ (askLack l) (s.onPair fun p => { p with lacks := p.lacks ++ [l] })

/-- Is a lack still lacking? -/
def stillLacks (l : Lack) (s : State) : Bool := match l.req with
  | .stream conn pos len => match connOf s conn with
    | some x => !(gapsFrom (x.ooo.length + 1) (max x.rxNext pos) (pos + len) x.ooo).isEmpty
    | none => false
  | .sectors ns lba n =>
    !((List.range n).all fun i => s.xlat.slots.any fun p =>
      decide (p.2.state = .received) && p.2.conn = 0 && p.2.ns = ns && p.2.lba = lba + i)

/-- Lacks that have been filled go, and their granules return. -/
def settleLacks (s : State) : State :=
  let gone := s.pair.lacks.filter fun l => !stillLacks l s
  let s := s.onPair fun p => { p with lacks := p.lacks.filter fun l => stillLacks l s }
  each gone (fun l s => giveBack poolMirrorIn l.granules s) s

/-- Lacks that the end of a cycle makes due are asked for. -/
def askDue (ended : Nat) (s : State) : State :=
  let s := settleLacks s
  each (s.pair.lacks.filter fun l => !l.asked && decide (l.cycle + 1 ≤ ended)) askLack s

/-- Ciphertext comes without asking to a module that receives no host frames itself. -/
def sectorsCome (s : State) : Bool := inMode [.coldStandby] s || (inMode [.rejoin] s && s.pair.cold)

/-- What an entry of record `n` lacks on its arrival. An own copy with another CRC is discarded. -/
def noteEntry (n : Nat) (later : List RecEntry) (e : RecEntry) (s : State) : State := match e with
  | .rxPosition conn pos _ =>
    let s := each (streamLacks n conn pos s) (fun l s => noteLack l.1 l.2 s) s
    onConn conn (fun x => { x with recPos := max x.recPos pos }) s
  | .place conn cid ns lba k _ cycle crc =>
    if placeHeld later conn cid ns lba k cycle crc s then s
    else
      let s := when (conn ≠ 0) (dropReceived conn cid) s
      noteLack { cycle := n, req := .sectors ns lba k, asked := false, granules := 0 } (!sectorsCome s) s
  | _ => s

/-- Note what a record lacks. -/
def noteRecord (n : Nat) : List RecEntry → List RecEntry → State → State
  | [], _, s => s
  | e :: l, after, s => noteRecord n l after (noteEntry n (l ++ after) e s)

/-! ### Applying entries (10 R272) -/

/-- A connection the record opens, if it is not known here yet. -/
def followConn (n k : Nat) (info : ConnInfo) (s : State) : State :=
  if (connOf s k).isSome then s
  else s.onConns fun m => Tbl.put m k { connNew info false s with openedIn := n }

/-- Its TLS state. -/
def followTls (k : Nat) (tls : Option TlsOpen) (s : State) : State := match tls, connOf s k with
  | some o, some x => if x.tls.active then s else tlsStart k o s
  | _, _ => s

/-- Its queue and controller. -/
def followQueue (k : Nat) (q : Option QueueInfo) (s : State) : State := match q, connOf s k with
  | some q, some x =>
    if x.ctrl.isSome then s
    else
      let mine := s.conns.filterMap fun p =>
        if p.2.ctrl = some q.ctrl && p.2.qid ≠ 0 then some (p.2.qid, p.1) else none
      let s := joinQueue k q s
      when (q.qid = 0) (onCtrl q.ctrl fun c => { c with ioq := mine }) s
  | _, _ => s

/-- A connection opens, or its TLS and its queue become known; the I/O queues that name the controller of a later
admin queue are its own. -/
def followOpen (n k : Nat) (info : ConnInfo) (tls : Option TlsOpen) (q : Option QueueInfo) (s : State) : State :=
  followQueue k q (followTls k tls (followConn n k info s))

/-- A connection ends; with an admin connection its controller goes. -/
def followEnd (k reason : Nat) (s : State) : State := match connOf s k with
  | none => s
  | some x =>
    let s := endOne k reason s
    if x.qid = 0 then match x.ctrl with
      | some c => s.onCmd fun d => { d with ctrls := Tbl.del d.ctrls c }
      | none => s
    else s

/-- The completion of an event request leaves the queue, with the notice it carried. -/
def followNotice (c cid dw0 : Nat) (s : State) : State :=
  let take := fun (x : Ctrl) => { x with
    aers := x.aers.filter (· ≠ cid),
    nsNotice := x.nsNotice || decide (dw0 = nsNoticeDw), logNotice := x.logNotice || decide (dw0 = discNoticeDw) }
  onCtrl c (fun x => if x.aers.contains cid then take x else x) s

/-- A completion is planned: the command has its status, and the queue's head moves. -/
def followCompletion (k cid : Nat) (st : Status) (dw0 n : Nat) (s : State) : State := match connOf s k with
  | none => s
  | some x =>
    let s := bumpSqhd k s
    if x.qid = 0 then match x.ctrl with
      | some c => followNotice c cid dw0 s
      | none => s
    else match cmdBy k 0 cid s with
      | some p => onCommand p.1 (fun c => { c with phase := .completing, status := st, cycle := n }) s
      | none => s

/-- A write is solicited: this module expects the same data. Without granules its data is discarded as it comes, and
filled later (04 R100). -/
def followSolicit (k cid ttag : Nat) (s : State) : State := match cmdBy k 0 cid s with
  | none => s
  | some p =>
    let r := request poolWriteIn p.2.nlb s
    onCommand p.1 (fun c => { c with
      ttag, phase := if r.1 && decide (c.phase = .solicit) then .receiving else c.phase
      granules := if r.1 then c.granules + p.2.nlb else c.granules, pool := poolWriteIn }) r.2

/-- What a planned message says of the command it belongs to. -/
def followMsg (n k : Nat) (m : HostMsg) (s : State) : State := match m with
  | .completion cid st dw0 _ _ => followCompletion k cid st dw0 n s
  | .r2t cid ttag _ _ => followSolicit k cid ttag s
  | .rdmaRead cid ttag _ _ _ => followSolicit k cid ttag s
  | .keyUpdate => onConn k (fun x => { x with tls := nextTxKey x.tls }) s
  | _ => s

/-- A plan: the positions after the message, and the frame for a takeover. -/
def followPlan (n k pos tlsSeq : Nat) (checks : List (BitVec 32)) (m : HostMsg) (s : State) : State := match connOf s k with
  | none => s
  | some x =>
    let f : TxFrame :=
      { msg := m, len := bytesOf x m, sent := 0, plan := some n, cmd := 0, pos, checks
        prot := (protOf x).map fun p => { p with seq := tlsSeq } }
    let r := recordsOf x m
    let s := onConn k (fun x => { x with
      txNext := max x.txNext (pos + spanOf x m s)
      tls := { x.tls with txSeq := tlsSeq + r, txRecords := x.tls.txRecords + r } }) s
    let s := s.onPair fun p => { p with planned := p.planned ++ [{ cycle := n, conn := k, frame := f }] }
    followMsg n k m s

/-- The positions of a plan alone, and the queue head that its completion moves: what a joiner takes of it
before its snapshot. -/
def followPosition (k pos tlsSeq : Nat) (m : HostMsg) (s : State) : State := match connOf s k with
  | none => s
  | some x =>
    let s := onConn k (fun y => { y with
      txNext := max y.txNext (pos + spanOf x m s), tls := { y.tls with txSeq := tlsSeq + recordsOf x m } }) s
    match m with
    | .completion .. => bumpSqhd k s
    | _ => s

/-- A slot that held a sector for a record becomes its placed slot. -/
def settlePlaced (n conn cid cycle : Nat) (q : Nat × Slot) (s : State) : State :=
  if q.2.state ≠ .received then s
  else
    let s := supersede (fullCycle n cycle) q.2.ns q.2.lba 1 (invalidate q.2.ns q.2.lba 1 s)
    let x : Slot :=
      { q.2 with state := .placed, was := .placed, late := [], dest := noBand, cycle, seq := s.xlat.placeSeq, conn, cid }
    coverLost q.2.ns q.2.lba 1 (s.onXlat fun m =>
      { m with slots := Tbl.put m.slots q.1 x, placeSeq := m.placeSeq + 1 })

/-- A write is placed: its ciphertext takes its place, and copies that are left over are freed. -/
def followPlace (later : List RecEntry) (n conn cid ns lba k cycle : Nat) (s : State) : State :=
  let l := (placeSlots later conn cid ns lba k cycle s).filterMap Prod.snd
  let s := each l (settlePlaced n conn cid cycle) s
  let s := when (conn ≠ 0) (dropReceived conn cid) s
  let s := s.onXlat fun x => { x with slots := x.slots.filter fun p =>
    !(decide (p.2.state = .received) && p.2.conn = 0 && p.2.ns = ns && lba ≤ p.2.lba && p.2.lba < lba + k
      && (p.2.cycle = 0 || !cycleBefore cycle p.2.cycle)) }
  match cmdBy conn 0 cid s with
  | some p => if conn = 0 then s else onCommand p.1 (fun c => { c with phase := .placed, cycle := n }) s
  | none => s

/-- A zero run is placed, once. -/
def followZero (n conn cid ns lba k cycle : Nat) (s : State) : State :=
  let held := s.xlat.slots.any fun p => p.2.ns = ns && p.2.lba = lba && p.2.zlen = k && p.2.cycle = cycle
  let s := if held || ((List.range k).all fun i => replaced [] ns (lba + i) cycle s) then s
    else placeZeros ns lba k (fullCycle n cycle) conn cid s
  match cmdBy conn 0 cid s with
  | some p => if conn = 0 then s else onCommand p.1 (fun c => { c with phase := .completing, cycle := n }) s
  | none => s

/-- An LB entry: a fill is open while the entry fills and is not closed. -/
def followLb (lb : Nat) (e : LbEntry) (s : State) : State :=
  let merged := (lbAt s lb).state = .merging && e.state ≠ .merging
  let fills := if e.state = .filling && !e.fillClosed then
      (if Tbl.has s.xlat.fills lb then s.xlat.fills else Tbl.put s.xlat.fills lb { since := s.now })
    else Tbl.del s.xlat.fills lb
  let more := if merged then 1 else 0
  (putLb lb e s).onXlat fun x => { x with fills, commits := x.commits + more }

/-- A band entry: no read here holds it; a band that is a log no more has no record. -/
def followBand (b : Nat) (e : Option Band) (s : State) : State := match e with
  | none => (putBand b none s).onXlat fun x => { x with logs := Tbl.del x.logs b }
  | some e =>
    let s := putBand b (some { e with readers := 0 }) s
    let isLog := e.kind = .sharedLog || e.kind = .seqLog
    s.onXlat fun x => { x with
      logs := if isLog then x.logs else Tbl.del x.logs b, openseq := max x.openseq (e.openseq + 1) }

/-- The record of a log band, and the count of merge commits it goes with. -/
def followLog (b : Nat) (r : LogRec) (commits : Nat) (s : State) : State :=
  s.onXlat fun x => { x with logs := Tbl.put x.logs b r, commits := max x.commits commits }

/-- The slot that a state entry names: one that is gathered or programmed is the live one of the name; one that is freed
or abandoned was gathered (06 R157). -/
def slotFollowed (ns lba cycle dest : Nat) (s : State) : Option (Nat × Slot) :=
  let live := s.xlat.slots.find? fun p => p.2.live && p.2.ns = ns && p.2.lba = lba && p.2.cycle = cycle
  if dest = noBand then slotNamed (ns, lba, cycle) s else live.orElse fun _ => slotNamed (ns, lba, cycle) s

/-- The state of a slot, which a name by namespace, LBA and cycle designates. -/
def followSlot (ns lba cycle : Nat) (st : SlotState) (dest : Nat) (s : State) : State :=
  match slotFollowed ns lba cycle dest s with
  | none => s
  | some (k, x) =>
    let slots := if st = .free then Tbl.del s.xlat.slots k else Tbl.put s.xlat.slots k { x with state := st, dest }
    s.onXlat fun m => { m with slots }

/-- A whole LB is discarded. -/
def followDiscard (cycle ns lba n : Nat) (s : State) : State :=
  let s := coverLost ns lba n (supersede cycle ns lba n (invalidate ns lba n s))
  match lbOf ns lba s with
  | some (lb, _) => s.onXlat fun x => { x with
      runs := (x.runs.filter fun r => r.lb ≠ lb), fills := Tbl.del x.fills lb, mergeDue := x.mergeDue.filter (· ≠ lb) }
  | none => s

/-- An admitted carrier's books, which follow its serial number. -/
def followAdmitted (c : Nat) (d : Descr) (bad : List Nat) (s : State) : State :=
  let x := carOf s c
  let same := decide (d.serial = x.serial)
  let s := if same then s else setCount 0x5133 (c + 1) 0 s
  onCar c (fun x => { x with
    serial := d.serial, bad, descr := some (x.descr.getD d)
    wear := if same then x.wear else [], slc := if same then x.slc else []
    replace := if same then x.replace else 0, retiredAt := [], returns := [], absentBands := [] }) s

/-- An EU's wear and cell mode. -/
def followWear (c eu n fN fS : Nat) (slc : Bool) (s : State) : State :=
  let l := (carOf s c).slc
  let slcs := if slc then (if l.contains eu then l else l ++ [eu]) else l.filter (· ≠ eu)
  onCar c (fun x => { x with wear := Tbl.put x.wear eu n, fracN := fN, fracS := fS, slc := slcs }) s

/-- A retired EU. -/
def followRetire (c eu : Nat) (s : State) : State :=
  if (carOf s c).bad.contains eu then s
  else bump 0x5133 (c + 1) 1 (onCar c (fun x => { x with
    bad := x.bad ++ [eu], retiredAt := x.retiredAt ++ [s.now] }) s)

/-- A lost range: a range that has grown replaces the entry it grew from. -/
def followLost (e : Lost) (s : State) : State :=
  s.onXlat fun x => match x.lost.getLast? with
    | some o =>
      if o.ns = e.ns && o.lba = e.lba && o.band = e.band && o.stripe = e.stripe && o.detected = e.detected then
        { x with lost := x.lost.dropLast ++ [e] }
      else { x with lost := x.lost ++ [e] }
    | none => { x with lost := [e] }

/-- A namespace key: none destroys it. -/
def followNsKey (ns gen : Nat) (k : Option Key) (s : State) : State :=
  s.onKeys fun x => { x with ns := Tbl.put x.ns ns { key := k, gen, erasing := false, old := none } }

/-- A PSK: no octets clear it. -/
def followPsk (r : Nat) (v : Bytes) (s : State) : State :=
  s.onKeys fun x => { x with psk := if v.isEmpty then Tbl.del x.psk r else Tbl.put x.psk r v }

/-- The opcode of a context. -/
def opcOf : Nat → Opc
  | 0 => .flush | 1 => .write | 2 => .read | 8 => .writeZeroes | _ => .dsm

/-- A command context in use at the snapshot: this module knows the command but not the data it has had. -/
def followContext (conn cid opc ns nsid slba nlb host : Nat) (cls : Option AdmClass) (disp trump : Bool)
    (ttag : Nat) (status : Status) (sgl : Sgl) (s : State) : State :=
  if (connOf s conn).isNone || (cmdBy conn 0 cid s).isSome then s
  else
    let o := opcOf opc
    let phase : Phase := if !disp then (if cls.isSome then .waiting else .held) else match o with
      | .read => .media
      | .write => if ttag = 0 then .solicit else .receiving
      | .writeZeroes => .placing
      | .flush | .dsm => .completing
    let c : Cmd :=
      { src := .fabric conn, cid, opc := o, ns, nsid, slba, nlb, trump, host, cls, phase,
        data := List.replicate nlb none, enc := List.replicate nlb none, ttag, sgl, inCapsule := false, granules := 0,
        pool := poolWriteIn, buf := none, status, cycle := 0,
        ranges := if o = .writeZeroes then partLbs slba nlb s else [],
        orphan := false, gen := 0, bar2 := none, bmeHeld := false, waitsKey := false }
    s.onCmd fun d => { d with cmds := Tbl.put d.cmds d.nextCmd c, nextCmd := d.nextCmd + 1 }

/-- What this module had received at the end of cycle `n` beyond the active's position is discarded; what came later
stays, beyond a gap (02 R56). -/
def discardBeyond (n pos : Nat) (x : Conn) : Conn := match x.edges.find? fun e => e.1 = n with
  | some e =>
    if pos < e.2 then { x with rxNext := pos, ooo := if e.2 < x.rxNext then (e.2, x.rxNext - e.2) :: x.ooo else x.ooo }
    else x
  | none => x

/-- An entry about a connection or its commands; none for another entry. -/
def applyConn (n : Nat) (e : RecEntry) (s : State) : Option State := match e with
  | .rxPosition conn pos tlsSeq =>
    let put := fun (x : Conn) =>
      { x with rxNext := max x.rxNext pos, recPos := max x.recPos pos, tls := { x.tls with rxSeq := tlsSeq } }
    some (onConn conn (fun x => if x.openedIn = n && x.rxNext ≤ pos then put x else discardBeyond n pos x) s)
  | .txPosition conn pos tlsSeq sqhd =>
    let put := fun (x : Conn) =>
      { x with txNext := pos, txUna := pos, sqhd, tls := { x.tls with txSeq := tlsSeq } }
    some (onConn conn (fun x => if x.openedIn = n then put x else x) s)
  | .connOpen conn info tls q => some (followOpen n conn info tls q s)
  | .connEnd conn reason => some (followEnd conn reason s)
  | .admitted .. | .dispatch .. => some (followEntry e s)
  | .abort conn sqid cid _ =>
    let s := followEntry e s
    let told := fun (c : Ctrl) (a : Nat × Nat × Nat) =>
      decide (a.2.1 = sqid) && decide (a.2.2 = cid) && (conn = 0 || c.ioq.any fun q => q.2 = conn)
    let clear := fun (c : Ctrl) => { c with heldAborts := c.heldAborts.filter fun a => !told c a }
    some (s.onCmd fun d => { d with ctrls := d.ctrls.map fun p => (p.1, clear p.2) })
  | .writeFailed conn cid => some (dropReceived conn cid s)
  | .plan conn pos tlsSeq checks msg => some (followPlan n conn pos tlsSeq checks msg s)
  | .context conn cid opc ns nsid slba nlb host cls disp trump ttag status sgl =>
    some (followContext conn cid opc ns nsid slba nlb host cls disp trump ttag status sgl s)
  | _ => none

/-- A carrier enters a state on the partner: one that is lost misses the journal from here, and each return to service
counts (08 R216, R225). -/
def followCarrier (c : Nat) (st : CarState) (s : State) : State :=
  let x := carOf s c
  let away := decide (x.state = .lost) || decide (x.state = .heldOut)
  match st with
  | .lost => onCar c (fun x => { x with state := st, lostAt := s.now, absentBands := Tbl.keys s.xlat.journal }) s
  | .inService => onCar c (fun x => { x with
      state := st, absentBands := []
      returns := if away then (x.returns.filter fun t => s.now < t + 86400 * second) ++ [s.now] else x.returns }) s
  | _ => onCar c (fun x => { x with state := st }) s

/-- An entry about maps, media, configuration or keys. -/
def applyMap (later : List RecEntry) (n : Nat) (e : RecEntry) (s : State) : State := match e with
  | .place conn cid ns lba k _ cycle _ => followPlace later n conn cid ns lba k cycle s
  | .placeZero conn cid ns lba k cycle => followZero n conn cid ns lba k cycle s
  | .mapLb lb e => followLb lb e s
  | .mapBand b e => followBand b e s
  | .addRun r => putRun r s
  | .logBand b r commits => followLog b r commits s
  | .dropRuns lb e => putDropRuns lb e s
  | .discardLb ns lba k => followDiscard n ns lba k s
  | .journalAdd b e => journalEntered b e s
  | .journalDel b => putJournal (Tbl.del s.xlat.journal b) s
  | .slotState ns lba cycle st dest => followSlot ns lba cycle st dest s
  | .carrierState c st => followCarrier c st s
  | .talon c initial spent borrowed => onCar c (fun x => { x with talonInit := initial, spent, borrowed }) s
  | .retireEu c eu => followRetire c eu s
  | .carrierAdmit c d bad => followAdmitted c d bad s
  | .wear c eu k fN fS slc => followWear c eu k fN fS slc s
  | .readOnly ns cause on => setReadOnly ns cause on s
  | .lostRange ns lba count cause missing band stripe detected =>
    followLost { detected, lba, count, ns, cause, missing, band, stripe } s
  | .neighbour port addr mac => putNeighbour port addr mac s
  | .config idx sub r v => applyConfig idx sub r v s
  | .nsKey ns gen k => writeStore (followNsKey ns gen k s)
  | .psk r v => writeStore (followPsk r v s)
  | .reserve c v => s.onPair fun p => { p with reserved := Tbl.put p.reserved c v }
  | .arrayGeo id eMiB pKiB w0 euTotal talonTotal overprov =>
    s.onXlat fun x => { x with arrayId := id, geo := some { eMiB, pKiB, w0, euTotal, talonTotal, overprov } }
  | .nsLbs ns base count => s.onCmd fun d => { d with ns := Tbl.put d.ns ns { base, count, roExhaust := false, roFloor := false } }
  | _ => s

/-- One entry. A module that follows no connections leaves the entries about them. -/
def applyEntry (later : List RecEntry) (n : Nat) (e : RecEntry) (s : State) : State := match applyConn n e s with
  | some t => if followsConns s then t else s
  | none => applyMap later n e s

/-- The entries of a record in order. -/
def applyEntries (n : Nat) : List RecEntry → List RecEntry → State → State
  | [], _, s => s
  | e :: l, after, s => applyEntries n l after (applyEntry (l ++ after) n e s)

/-- Does an entry touch erase units? -/
def touchesEus : RecEntry → Bool
  | .mapBand .. | .talon .. | .retireEu .. | .carrierAdmit .. | .wear .. => true
  | _ => false

/-- A record is applied: its epoch, its entries, and the free EUs that the maps then leave. -/
def applyRecord (r : CycleRec) (s : State) : State :=
  let s := s.onPair fun p => { p with epoch := r.epoch }
  let s := applyEntries r.cycle r.entries (laterEntries r.cycle s) s
  if r.entries.any touchesEus then rebookAll s else s

/-! ### Confirming (10 R274) -/

/-- The join record takes the joiner into STANDBY: event 0x210C and the duration of the rejoin; a module that
came from COLD_STANDBY is cold no more (10 R292 step 6, R293). -/
def joins (cold : Bool) (s : State) : State :=
  let time := min (s.now - s.pair.rejoinFrom) 4294967295
  let s := raise 0x2101 0 s.pair.partnerKind 0x2103 0 s
  let s := raise 0x210C 0 time 0x2152 0 (setCount 0x2152 0 time s)
  let s := s.onPair fun p => { p with
    paired := true, cold, rejoinPhase := 0, rejoinPercent := 0, pairing := false, wasActive := false }
  goMode (if cold then .coldStandby else .standby) (s.onMode fun m => { m with restarted := false })

/-- What a confirmed record's flags bring: a handover is a takeover, a cold pair leaves a standby cold (10 R291,
R297, R299). -/
def afterConfirm (r : CycleRec) (s : State) : State :=
  if r.handover && inMode [.standby, .coldStandby] s then takeoverBegin true s
  else if r.cold && inMode [.standby] s then
    goMode .coldStandby ((dropConnections s).onPair fun p => { p with cold := true, planned := [], ahead := [] })
  else s

/-- May records be confirmed? A joiner confirms from the join record on; one that leaves COLD_STANDBY goes on
confirming throughout (10 R292 step 6, R293). -/
def mayConfirm (r : CycleRec) (s : State) : Bool :=
  inMode [.standby, .coldStandby] s || (inMode [.rejoin] s && (s.pair.cold || r.join))

/-- Apply the oldest waiting record if nothing it names is missing, and confirm it. A joiner applies the records
before the join without confirming them. -/
def confirmOne (s : State) : Option State := match s.pair.waiting with
  | [] => none
  | (n, r) :: rest =>
    if !recordHeld n r.entries (rest.flatMap fun p => p.2.entries) s then none
    else
      let s := applyRecord r s
      let gone := s.pair.lacks.filter fun l => l.cycle ≤ n
      let s := s.onPair fun p => { p with
        waiting := Tbl.del p.waiting n, lacks := p.lacks.filter fun l => n < l.cycle }
      let s := each gone (fun l s => giveBack poolMirrorIn l.granules s) s
      if !mayConfirm r s then some s
      else
        let s := if r.join && inMode [.rejoin] s then joins r.cold s else s
        let s := reapSlots (s.onPair fun p => { p with committed := max p.committed n, paired := true })
        let s := mirSend (.mirConfirm n) s
        some (afterConfirm r s)

/-- Records are taken up one after another while nothing is missing. A joiner waits for its snapshot, a module
that has left the role stops. -/
def confirmAll : Nat → State → State
  | 0, s => s
  | n + 1, s =>
    let ready := inMode [.standby, .coldStandby] s || (inMode [.rejoin] s && (s.pair.rejoinPhase = 5 || s.pair.cold))
    if !ready then s
    else match confirmOne s with
      | some t => confirmAll n t
      | none => s

def tryConfirm (s : State) : State := confirmAll (s.pair.waiting.length) (settleLacks s)

end Sys2Proof.Machine
end

