-- ==== Sys2Proof/Machine/Cycle.lean ====
section
/-! DEFINITION. The commit cycle (10 R270 to R279): what the deciding module and its partner do at a boundary,
handing connections and the snapshot to a joiner (10 R292, R293), and what a confirmation releases. -/

namespace Sys2Proof.Machine

/-! ### Handing over to a joiner (10 R292 steps 3 and 4) -/

/-- What a Connect fixed for a connection. -/
def queueOf (x : Conn) (s : State) : Option QueueInfo := x.ctrl.bind fun c =>
  (Tbl.get? s.cmd.ctrls c).map fun (y : Ctrl) =>
    { ctrl := c, qid := x.qid, sqsize := x.sqsize, subsys := y.subsys, host := y.host, hostNqn := y.hostNqn,
      discovery := y.discovery, kato := y.kato, sqFlow := x.sqFlow, lastCmd := y.lastCmd, aenConfig := y.aenConfig
      changedNs := y.changedNs, cc := y.cc, csts := y.csts }

/-- Is it the context of a command of a connection? -/
def contextOf (conn : Nat) : RecEntry → Bool
  | .context k .. => k = conn
  | _ => false

/-- Name the state of one connection. A joiner that leaves COLD_STANDBY takes no snapshot, so the contexts of
the connection's commands are named with it (DEDUCED, log entry 31). -/
def nameConn (p : Nat × Conn) (s : State) : State :=
  let x := p.2
  let s := record (.connOpen p.1 x.info (tlsOpenOf x) (queueOf x s)) s
  let s := record (.txPosition p.1 x.txNext x.tls.txSeq x.sqhd) (record (.rxPosition p.1 x.rxNext x.tls.rxSeq) s)
  if s.pair.paired then each ((contextEntries s).filter (contextOf p.1)) record s else s

/-- Name the next 512 connections; after the last the snapshot follows, which a joiner that leaves COLD_STANDBY
skips (10 R292, R293). -/
def nameConns (s : State) : State :=
  let left := s.conns.filter fun p => s.pair.handoverNext ≤ p.1
  let l := left.take 512
  let s := each l nameConn s
  let next := (l.getLast?.map Prod.fst).getD 0 + 1
  if 512 < left.length then s.onPair fun p => { p with handoverNext := next }
  else s.onPair fun p => { p with handoverNext := 1, rejoinPhase := if p.paired then 5 else 4 }

/-- The snapshot: the maps and the ciphertext first; the slots' states once all the ciphertext has gone. Without
a granule of SNAPSHOT it pauses (04 R100). -/
def sendSnapshot (s : State) : State :=
  if !s.pair.heldEntries.isEmpty || (s.pair.handoverNext = 0 && !s.pair.sectorQ.isEmpty) then s
  else
    let r := request poolSnapshot 1 s
    if !r.1 then r.2
    else
      let s := giveBack poolSnapshot 1 r.2
      if s.pair.handoverNext ≠ 0 then
        let s := mirSend (.mirSnapshot (snapshotMaps s) 0) s
        (sendSectors (snapshotSectors s) s).onPair fun p => { p with handoverNext := 0 }
      else
        (mirSend (.mirSnapshot (snapshotSlots s) 100) s).onPair fun p =>
          { p with handoverNext := 1, rejoinPhase := 5, rejoinPercent := 100 }

/-- May the joiner join with the record of this cycle? Everything sent to it is accepted. -/
def joinReady (s : State) : Bool :=
  s.pair.partnerJoining && s.pair.rejoinPhase = 5 && s.pair.unacked.isEmpty && s.pair.heldEntries.isEmpty
    && s.pair.round.isNone

/-- The pair is formed: event 0x2101; a module in SOLO becomes ACTIVE (14 R369). -/
def joinDone (s : State) : State :=
  let time := min (s.now - s.pair.rejoinFrom) 4294967295
  let s := s.onPair fun p => { p with
    partnerJoining := false, pairing := false, rejoinPhase := 0, rejoinPercent := 0, lag := .normal }
  let s := setCount 0x2152 0 time (raise 0x2101 0 s.pair.partnerKind 0x2103 0 s)
  if inMode [.solo] s then goMode .active s else s

/-! ### Releasing what a committed record plans (02 R58; 10 R275) -/

/-- Is the planned frame the completion of a durable write? -/
def endsDurable (q : Planned) (s : State) : Bool := match q.frame.msg with
  | .completion .. => ((cmdOf s q.frame.cmd).map durable).getD false
  | _ => false

/-- Plans of confirmed records, from the start of cycle n + 2. -/
def planDue (q : Planned) (s : State) : Bool := q.cycle ≤ s.pair.committed && q.cycle + 2 ≤ s.pair.cycle

/-- Does a durable completion stand before a frame, or in its place? It waits for the boundary (10 R275). -/
def behindDurable (q : Planned) (s : State) : Bool :=
  s.pair.planned.any fun d => d.conn = q.conn && d.frame.pos ≤ q.frame.pos && endsDurable d s

/-- What a boundary releases. -/
def releaseAtBoundary (s : State) : State :=
  releaseDurable s.pair.committed (sendPlans (fun q => planDue q s) s)

/-- A confirmation is late, or too late (10 R279): record n is awaited until the end of cycle n + 2, and then for
LAG_CYCLES more. -/
def lagCheck (ended : Nat) (s : State) : State :=
  if s.pair.lag = .fencing || ended ≤ s.pair.committed + 2 then s
  else
    let s := raiseLimited 0x2103 0 (s.pair.committed + 1) 0x2114 0 (bump 0x2114 0 1 s)
    let s := s.onPair fun p => { p with lag := .late }
    if s.pair.committed + 2 + cfg 0x2113 s < ended then startFencing evictLag s else s

/-! ### The boundary (10 R270, R271, R280) -/

/-- Modes that send heartbeats: the others take pairing and management frames only, or have the link off. -/
def beats (s : State) : Bool := inMode [.solo, .active, .standby, .coldStandby, .rejoin, .quiesced] s

def sendHeartbeat (s : State) : State := mirSend (.mirHeartbeat (pairTime s) (degradedModule s)) s

/-- Ciphertext of the sectors placed in the running cycle, for a partner that has none of its own (10 R299). -/
def placedNow (s : State) : List MirSector :=
  (snapshotSectors s).filter fun x => x.cycle = low32 s.pair.cycle

/-- The end of a cycle on the module that decides. -/
def boundaryDecides (s : State) : State :=
  let m := s.pair.cycle
  let join := joinReady s
  let was := s.pair.paired
  let s := if s.pair.partnerJoining && s.pair.rejoinPhase = 3 then nameConns s else s
  let s := when (was && s.pair.cold) (sendSectors (placedNow s)) s
  let cold := s.pair.partnerKind = 2 || !allConfirmed s
  let s := when join (fun s => s.onPair fun p => { p with paired := true, cold }) s
  let r := sealRecord (s.mode.handover = some m) join s
  let s := r.2.onPair fun p => { p with cycle := m + 1 }
  let s := when (s.pair.paired || s.pair.partnerJoining) (mirSend (.mirRecord r.1)) s
  let s := sendHeartbeat s
  let s := if was then releaseAtBoundary s
    else
      let s := reapSlots (s.onPair fun p => { p with paired := false, committed := m })
      let s := releaseDurable m (releaseSolo s)
      s.onPair fun p => { p with paired := join }
  let s := when join joinDone s
  let s := when s.pair.paired (lagCheck m) s
  let s := when (256 ≤ s.xlat.journalRemovals.length && mediaAllowed s) writeRemovals s
  when (s.pair.partnerJoining && s.pair.rejoinPhase = 4) sendSnapshot s

/-- The receive positions at the end of a cycle; those of the last eight are kept. -/
def noteEdges (n : Nat) (s : State) : State := s.onConns fun m => m.map fun p =>
  (p.1, { p.2 with edges := ((n, p.2.rxNext) :: p.2.edges).take 8 })

/-- The end of a cycle on any other module. -/
def boundaryFollows (s : State) : State :=
  let m := s.pair.cycle
  let s := (noteEdges m s).onPair fun p => { p with cycle := m + 1 }
  let s := when (inMode [.standby, .coldStandby, .rejoin] s) (fun s => tryConfirm (askDue m s)) s
  when (beats s) sendHeartbeat s

def execCycleBoundary (t : Time) (s : State) : Host.Outcome State Fault Refusal :=
  act t (fun s =>
    if inMode [.reset, .holdup] s then s
    else if inMode [.takeover] s then s.onPair fun p => { p with cycle := p.cycle + 1 }
    else runWaiting (sendOwed (if decides s then boundaryDecides s else boundaryFollows s))) s

/-! ### Requests made again (04 R100, R101) -/

/-- Stripes that found no granule are gathered: open fills, then each namespace. -/
def retryGather (s : State) : State :=
  each (Tbl.keys s.cmd.ns) (gatherLog · false) (each (Tbl.keys s.xlat.fills) gather s)

/-- The snapshot goes on on the sending side. -/
def retrySnapshot (s : State) : State := when (s.pair.partnerJoining && s.pair.rejoinPhase = 4) sendSnapshot s

/-- The owning stage of a pool re-requests the head of its waiting queue. The stages of TCP_RX, ROCE_RX, MGMT and
SELF_TEST keep none, and a frame that found no granule of CONTROL stands at the head of its queue, where every
selection of its port requests it again. -/
def rerequest (pool : Nat) (s : State) : State :=
  if pool = poolCarAdmin then when (adminAllowed s) adminRetryAll s
  else if !decides s then
    when (pool = poolMirrorIn && inMode [.standby, .coldStandby, .rejoin] s) (askDue (s.pair.cycle - 1)) s
  else if pool = poolPour then retryMisses (s.pot.missQ.length + 1) s
  else if pool = poolWriteIn || pool = poolAttach then solicitAll s
  else if pool = poolStripe then retryGather s
  else if pool = poolParity then retryProgs s
  else if pool = poolMerge then retryJobs s
  else if pool = poolRebuild then retryJobs (retryRecons s)
  else if pool = poolRecon then retryRecons s
  else if pool = poolSnapshot then retrySnapshot s
  else s

def execReleaseNotice (t : Time) (pool : PoolNo) (s : State) : Host.Outcome State Fault Refusal :=
  act t (rerequest pool.val) s

/-- At least every 10 µs each stage re-requests (04 R101). -/
def execRerequestTick (t : Time) (s : State) : Host.Outcome State Fault Refusal :=
  act t (each (List.range 16) rerequest) s

/-! ### Confirmations (10 R274, R275, R279) -/

/-- CONFIRM n: record n is committed. Planned sends that are due go at once, held completions at the next
boundary; a late pair is in time again when no record is late; a handover goes on. -/
def confirmed (n : Nat) (s : State) : State :=
  if !(decides s && s.pair.paired) || s.pair.lastSealed < n then s
  else
    let s := s.onPair fun p => { p with
      committed := max p.committed n
      lag := if p.lag = .late && p.cycle ≤ max p.committed n + 3 then .normal else p.lag }
    let s := reapSlots s
    let s := sendOwed (sendPlans (fun q => planDue q s && !behindDurable q s) s)
    match s.mode.handover with
    | some h => if h ≤ s.pair.committed then handoverDone s else s
    | none => s

def execConfirm (t : Time) (h : MirHdr) (n : Nat) (s : State) : Host.Outcome State Fault Refusal :=
  act t (whenFrame h fun s => when (pairedModes s) (confirmed n) s) s

/-! ### Records (10 R274; 02 R56, R79; 10 R292 steps 3 and 5) -/

/-- What a joiner takes of a record before its snapshot is complete: the connections it names and, before the
snapshot begins, the positions planned on them. -/
def joinerTakes (n : Nat) (e : RecEntry) (s : State) : State := match e with
  | .connOpen .. | .connEnd .. | .rxPosition .. | .txPosition .. => (applyConn n e s).getD s
  | .plan conn pos tlsSeq _ msg => if s.pair.rejoinPhase = 3 then followPosition conn pos tlsSeq msg s else s
  | _ => s

/-- Does this module take records: a standby, or a joiner that is being handed the connections or was in cold
standby? -/
def takesRecords (s : State) : Bool :=
  inMode [.standby, .coldStandby] s || (inMode [.rejoin] s && (3 ≤ s.pair.rejoinPhase || s.pair.cold))

/-- Record n arrives: it is stored, what it lacks is asked for, and it is applied and confirmed once nothing is
missing and the record before it is confirmed. -/
def recordArrives (r : CycleRec) (s : State) : State :=
  if !takesRecords s || r.cycle ≤ s.pair.committed && inMode [.standby, .coldStandby] s then s
  else
    let s := (ringPut r s).onPair fun p => { p with waiting := Tbl.put p.waiting r.cycle r }
    let joiner := inMode [.rejoin] s && s.pair.rejoinPhase < 5 && !s.pair.cold
    let s := when joiner (each r.entries (joinerTakes r.cycle)) s
    tryConfirm (noteRecord r.cycle r.entries (laterEntries r.cycle s) s)

def execCycleRecord (t : Time) (h : MirHdr) (r : CycleRec) (s : State) : Host.Outcome State Fault Refusal :=
  act t (whenFrame h fun s => when (pairedModes s) (recordArrives r) s) s

/-! ### Fills (10 R276 to R278) -/

/-- Bytes [pos, pos + len) of a connection from the retention ring; none where a byte has left it. -/
def retained : Nat → Nat → Nat → Nat → List (Time × Nat × Nat × Bytes) → Option Bytes
  | _, _, _, 0, _ => some []
  | 0, _, _, _ + 1, _ => none
  | fuel + 1, conn, pos, len + 1, l =>
    match l.find? fun e => e.2.1 = conn && e.2.2.1 ≤ pos && pos < e.2.2.1 + e.2.2.2.length with
    | none => none
    | some e =>
      let b := (e.2.2.2.drop (pos - e.2.2.1)).take (len + 1)
      (retained fuel conn (pos + b.length) (len + 1 - b.length) l).map fun rest => b ++ rest

/-- Send the bytes of a stream fill, or evict the partner. -/
def streamFill (conn pos len : Nat) (s : State) : State :=
  match retained (s.net.retention.length + 1) conn pos len s.net.retention with
  | some b => mirSend (.mirStream conn pos b) (bump 0x2122 0 b.length (bump 0x2120 0 1 s))
  | none => fillFails len s

/-- One sector of a sector fill: from its slot, or from media when the slot is freed. A sector that has become
zeros since is named by a later record. -/
def sectorFill (ns a : Nat) (s : State) : State := match resolve ns a s with
  | .slot k => match Tbl.get? s.xlat.slots k with
    | some x => fillSent ns a x.data s
    | none => s
  | .band b t d u =>
    readPage b t d u 1 qHostC (.fill ns a) (onBandLocal b (fun e => { e with readers := e.readers + 1 }) s)
  | .zero => s
  | .lost => fillFails 4096 s

def answerFill (r : FillReq) (s : State) : State := match r with
  | .stream conn pos len => streamFill conn pos len s
  | .sectors ns lba n => each ((List.range n).map fun i => lba + i) (sectorFill ns) s

def execFillRequest (t : Time) (h : MirHdr) (r : FillReq) (s : State) : Host.Outcome State Fault Refusal :=
  act t (whenFrame h fun s => when (pairedModes s && decides s) (answerFill r) s) s

/-- Positions that a stream fill covers: bytes, or on RoCE the packets that were asked for. -/
def fillSpan (conn pos : Nat) (b : Bytes) (s : State) : Nat :=
  let asked := s.pair.lacks.findSome? fun l => match l.req with
    | .stream c p n => if c = conn && p = pos then some n else none
    | .sectors .. => none
  match (connOf s conn).map fun x => x.info.kind with
  | some Transport.rdma => asked.getD 1
  | _ => b.length

/-- Bytes of a fill are taken as if they came from the network. The PDUs they complete reach this module as the
commands of their own rows. -/
def streamArrives (conn pos : Nat) (b : Bytes) (s : State) : State :=
  let n := fillSpan conn pos b s
  tryConfirm (onConn conn (takeBytes pos n (cfg 0x3105 s)) s)

def execStreamFill (t : Time) (h : MirHdr) (conn pos : Nat) (bytes : Bytes) (s : State) :
    Host.Outcome State Fault Refusal :=
  act t (whenFrame h fun s => when (takesRecords s) (streamArrives conn pos bytes) s) s

/-- A sector's lack is asked for again: no slot is free for it (06 R156; 10 R304). -/
def askAgain (ns a : Nat) (s : State) : State :=
  s.onPair fun p => { p with lacks := p.lacks.map fun l => match l.req with
    | .sectors m lba n => if m = ns && lba ≤ a && a < lba + n then { l with asked := false } else l
    | .stream .. => l }

/-- Is it the copy of a sector that came for the same cycle? -/
def sameCopy (x : MirSector) (y : Slot) : Bool :=
  decide (y.state = .received) && y.conn = 0 && y.ns = x.ns && y.lba = x.lba && y.cycle = x.cycle

/-- Ciphertext of one sector is stored without encrypting it again: a sector of the snapshot as placed, any other
until its record is applied. -/
def sectorArrives (x : MirSector) (s : State) : State :=
  let snap := inMode [.rejoin] s && s.pair.rejoinPhase = 4 && !s.pair.cold && x.cycle ≠ 0
  let s := s.onXlat fun m => { m with slots := m.slots.filter fun p => !sameCopy x p.2 }
  if caddyFree s = 0 then askAgain x.ns x.lba s
  else
    let k := nextSlot s
    putSlot k.1 (slotNew x.ns x.lba x.cycle (if snap then .placed else .received) x.data 0 0 0) k.2

def execSectorData (t : Time) (h : MirHdr) (sectors : List MirSector) (s : State) :
    Host.Outcome State Fault Refusal :=
  act t (whenFrame h fun s => when (takesRecords s) (fun s => tryConfirm (each sectors sectorArrives s)) s) s

/-! ### The snapshot on the joiner (10 R292 steps 4 and 5) -/

/-- The first part of a snapshot clears the maps; ciphertext received for later records stays, and records before
the snapshot's cycle are in it. -/
def snapshotStarts (cycle : Nat) (s : State) : State :=
  let keep := s.xlat.slots.filter fun p => decide (p.2.state = .received)
  let s := (clearMaps s).onXlat fun x => { x with slots := keep }
  let gone := s.pair.lacks.filter fun l => l.cycle < cycle
  let s := s.onPair fun p => { p with
    rejoinPhase := 4, rejoinPercent := 0
    waiting := p.waiting.filter fun w => cycle ≤ w.1, lacks := p.lacks.filter fun l => cycle ≤ l.cycle }
  each gone (fun l s => giveBack poolMirrorIn l.granules s) s

/-- A part of the snapshot is installed; after the last one the records are replayed. -/
def snapshotArrives (cycle : Nat) (entries : List RecEntry) (percent : Nat) (last : Bool) (s : State) : State :=
  if !inMode [.rejoin] s || s.pair.cold || (s.pair.rejoinPhase ≠ 3 && s.pair.rejoinPhase ≠ 4) then s
  else
    let s := if s.pair.rejoinPhase = 3 then snapshotStarts cycle s else s
    let s := applyEntries cycle entries [] s
    let s := s.onPair fun p => { p with rejoinPercent := min percent 100 }
    if last then tryConfirm ((rebookAll s).onPair fun p => { p with rejoinPhase := 5, rejoinPercent := 100 }) else s

/-- Without a granule of SNAPSHOT the frame is not accepted, and its sender repeats it (04 R100). -/
def execSnapshot (t : Time) (h : MirHdr) (entries : List RecEntry) (percent : Nat) (last : Bool) (s : State) :
    Host.Outcome State Fault Refusal :=
  act t (fun s =>
    let r := request poolSnapshot 1 s
    if !r.1 then r.2
    else whenFrame h (snapshotArrives h.cycle entries percent last) (giveBack poolSnapshot 1 r.2)) s

end Sys2Proof.Machine
end

