-- ==== Sys2Proof/Machine/MgmtRows.lean ====
section
/-! DEFINITION. The meanings of the management rows (13 R362; 14 R384; 15 R401 to R424). A row that is one named
request carries no transaction of its own and runs as transaction 0. -/

namespace Sys2Proof.Machine

/-! ### Requests -/

def execGet (t : Time) (sess trans : Nat) (partner : Bool) (index sub : Nat) (s : State) :
    Host.Outcome State Fault Refusal :=
  act t (fun s => receiveReq sess trans (addressed partner (.get index sub)) s) s

def execSet (t : Time) (sess trans : Nat) (partner : Bool) (ifGen : Nat) (it : Item) (s : State) :
    Host.Outcome State Fault Refusal :=
  act t (fun s => receiveReq sess trans (addressed partner (.set ifGen it)) s) s

def execGetMulti (t : Time) (sess trans : Nat) (partner : Bool) (items : List (Nat × Nat)) (s : State) :
    Host.Outcome State Fault Refusal :=
  act t (fun s => receiveReq sess trans (addressed partner (.getMulti items)) s) s

def execSetGroup (t : Time) (sess trans : Nat) (partner : Bool) (ifGen : Nat) (items : List Item) (s : State) :
    Host.Outcome State Fault Refusal :=
  act t (fun s => receiveReq sess trans (addressed partner (.setGroup ifGen items)) s) s

def execSubscribe (t : Time) (sess trans : Nat) (filters : List EvFilter) (period : Nat)
    (samples : List (Nat × Nat)) (s : State) : Host.Outcome State Fault Refusal :=
  act t (fun s => receiveReq sess trans (.subscribe filters period samples) s) s

/-- One request without a transaction. -/
def namedReq (sess : Nat) (req : Req) (s : State) : State := withSession sess (fun x s => runOrWait sess 0 x req s) s

def execConfigWrite (t : Time) (sess : Nat) (it : Item) (s : State) : Host.Outcome State Fault Refusal :=
  act t (fun s => namedReq sess (.set 0 it) s) s

def execArrayKeyExport (t : Time) (sess : Nat) (s : State) : Host.Outcome State Fault Refusal :=
  act t (fun s => namedReq sess (.get 0x5331 0) s) s

def execAttestReport (t : Time) (sess : Nat) (s : State) : Host.Outcome State Fault Refusal :=
  act t (fun s => namedReq sess (.get 0x1008 0) s) s

/-- The six counts of DEAL, as one group (14 R384). -/
def dealItems (counts : Vector Nat 6) : List Item :=
  counts.toList.zipIdx.map fun p => { index := 0x7012, sub := p.2 + 1, ty := .u8, val := .num p.1 }

def execDeal (t : Time) (sess : Nat) (counts : Vector Nat 6) (s : State) : Host.Outcome State Fault Refusal :=
  act t (fun s => namedReq sess (.setGroup 0 (dealItems counts)) s) s

def execMboxDoorbell (t : Time) (len : Nat) (req : Req) (s : State) : Host.Outcome State Fault Refusal :=
  act t (fun s => mailbox len req s) s

/-! ### Sessions -/

def execDtlsHandshake (t : Time) (path : Path) (anchor : Option (Fin 5)) (cookieOk suiteOk : Bool) (s : State) :
    Host.Outcome State Fault Refusal :=
  act t (fun s => dtlsHandshake path (anchor.map fun k => k.val + 1) (cookieOk && suiteOk) s) s

/-- A session ends after 300 s without a message. -/
def execSessionIdleTimeout (t : Time) (sess : Nat) (s : State) : Host.Outcome State Fault Refusal :=
  act t (fun s => endSome (fun k x => k = sess && decide (x.lastMsg + 300 * second ≤ s.now)) s) s

def execSamplePeriod (t : Time) (sess : Nat) (s : State) : Host.Outcome State Fault Refusal :=
  act t (fun s => samplePeriod sess s) s

def execNotify (t : Time) (sess : Nat) (s : State) : Host.Outcome State Fault Refusal :=
  act t (fun s => notify sess s) s

/-! ### Named writes -/

def execConfigReset (t : Time) (w : Write) (s : State) : Host.Outcome State Fault Refusal :=
  act t (fun s => writeObject 0xF002 configResetCheck writeOne w s) s

/-- The certificate's verdict is the row's own operand. -/
def execAnchorCert (t : Time) (w : Write) (parses : Bool) (s : State) : Host.Outcome State Fault Refusal :=
  act t (fun s => writeObject 0x1020 (fun c _ => anchorCheckWith parses c)
    (fun c s => anchorApplied c.sub (claimed s) (storeOne c s)) w s) s

def execAttestNonce (t : Time) (w : Write) (s : State) : Host.Outcome State Fault Refusal :=
  act t (fun s => writeObject 0x1007 noCheck writeOne w s) s

def execLoadSlot (t : Time) (w : Write) (s : State) : Host.Outcome State Fault Refusal :=
  act t (fun s => writeObject 0x1030 loadSlotCheck writeOne w s) s

def execLoadData (t : Time) (w : Write) (s : State) : Host.Outcome State Fault Refusal :=
  act t (fun s => writeObject 0x1032 loadDataCheck writeOne w s) s

/-- The check of the image is the row's own operand. -/
def execLoadCommit (t : Time) (w : Write) (img : ImageCheck) (s : State) : Host.Outcome State Fault Refusal :=
  act t (fun s => writeObject 0x1033 loadCommitCheck (fun c s => loadCommitWith img c s) w s) s

def execCtrSnapshot (t : Time) (w : Write) (s : State) : Host.Outcome State Fault Refusal :=
  act t (fun s => writeObject 0x8001 noCheck writeOne w s) s

def execCtrValue (t : Time) (w : Write) (s : State) : Host.Outcome State Fault Refusal :=
  act t (fun s => writeObject 0x8003 noCheck writeOne w s) s

def execCtrControl (t : Time) (w : Write) (s : State) : Host.Outcome State Fault Refusal :=
  act t (fun s => writeObject 0x8004 ctrControlCheck writeOne w s) s

/-! ### The event log and the statistics (15 R416, R419) -/

def execEventLogFlush (t : Time) (s : State) : Host.Outcome State Fault Refusal :=
  act t (fun s => if inMode [.reset] s then s else flushLog s) s

def execStatCheckpoint (t : Time) (s : State) : Host.Outcome State Fault Refusal :=
  act t (fun s => if inMode [.reset, .boot, .holdup] s then s else statCheckpoint s) s

end Sys2Proof.Machine
end

