-- ==== Sys2Proof/Machine/PairRows.lean ====
section
/-! DEFINITION. The mirror link, pairing, heartbeat and fault pair, and the rows that change the pair's roles (10
R267 to R269, R279 to R283, R292 to R303; 14 R369). -/

namespace Sys2Proof.Machine

/-! ### The link (10 R267, R269) -/

/-- The link is up: both series of SEQ start at 0; a module in ISOLATED or SOLO begins pairing. -/
def linkUp (s : State) : State :=
  if inMode [.reset, .boot, .holdup] s then s
  else
    let s := s.onPair fun p => { p with
      link := 2, txSeq := 0, rxSeq := 0, unacked := [], ackOwed := false, partnerCredit := 0 }
    when (inMode [.isolated, .solo] s && flag 0x2106 0 0 s) (sendPairing none) s

def execMirrorLinkUp (t : Time) (s : State) : Host.Outcome State Fault Refusal := act t linkUp s

/-- The link is lost: it trains again. A serving module fences its partner, a join is given up on both sides,
and a format completes without the partner (06 R142; 10 R279, R294). -/
def linkLost (s : State) : State :=
  let off := inMode [.reset, .boot, .holdup] s
  let s := s.onPair fun p => { p with
    link := if off then 0 else 1, unacked := [], ackOwed := false, sectorQ := [], partnerCredit := 0 }
  let s := if inMode [.rejoin] s then rejoinFails s else partnerGone s
  if s.xlat.formatting && s.pair.round.isNone then formatEnd .ok s else s

def execMirrorLinkDown (t : Time) (s : State) : Host.Outcome State Fault Refusal :=
  act t (fun s => if s.pair.link = 0 then s else linkLost s) s

/-- No ACK has covered a frame for 2 µs: every frame not acknowledged is sent again; one sent eight times counts
the link as down. -/
def execMirrorRetransmitTimeout (t : Time) (s : State) : Host.Outcome State Fault Refusal :=
  act t (fun s =>
    if s.pair.link ≠ 2 || s.pair.unacked.isEmpty then s
    else if s.pair.unacked.any fun u => 8 ≤ u.2 then linkLost s
    else
      emit (.mirRepeat (s.pair.unacked.map Prod.fst)) (s.onPair fun p => { p with
        unacked := p.unacked.map fun u => (u.1, u.2 + 1), ackOwed := false })) s

/-- An accepted frame is not acknowledged and nothing was sent for 1 µs. -/
def execMirrorAckIdle (t : Time) (s : State) : Host.Outcome State Fault Refusal :=
  act t (fun s => when (s.pair.ackOwed && linkMode s) sendHeartbeat s) s

/-- The frame has come. The pair clock is the later of the two modules' clocks (02 R48); a module that does not
decide counts cycles by it (10 R270). -/
def execHeartbeat (t : Time) (h : MirHdr) (clock : Time) (degraded : Bool) (s : State) :
    Host.Outcome State Fault Refusal :=
  act t (whenFrame h fun s => when (pairedModes s) (fun s => s.onPair fun p => { p with
    partnerDegraded := degraded, clockAhead := max p.clockAhead (clock - s.now)
    cycle := if decides s then p.cycle else clock / 8000 }) s) s

/-- The active fences this module (10 R279): it is no standby any more. -/
def execEvict (t : Time) (h : MirHdr) (_reason : Nat) (s : State) : Host.Outcome State Fault Refusal :=
  act t (whenFrame h fun s =>
    if inMode [.rejoin] s then rejoinFails s
    else if inMode [.standby, .coldStandby] s then enterIsolated s
    else s) s

def execEpquin (t : Time) (h : MirHdr) (m : Tunnel) (s : State) : Host.Outcome State Fault Refusal :=
  act t (whenFrame h (tunnelled m)) s

/-! ### Heartbeat and the fault pair (10 R280 to R283) -/

/-- The standby's decision when the heartbeat is lost, by the partner's fault pair. -/
def standbyDecision (s : State) : State :=
  if s.pair.faultIn = 3 then enterIsolated (raise 0x2105 0 s.pair.partnerMode 0x2130 0 s)
  else if s.pair.faultIn = 0 then takeoverBegin false (raise 0x2106 0 s.pair.faultIn.toNat 0x2130 0 s)
  else takeoverBegin false s

/-- No frame across three boundaries. -/
def heartbeatLost (s : State) : State :=
  let s := s.onPair fun p => { p with heartbeat := false }
  if inMode [.standby, .coldStandby] s then standbyDecision s
  else if inMode [.rejoin] s then rejoinFails s
  else partnerGone s

def execHeartbeatLoss (t : Time) (s : State) : Host.Outcome State Fault Refusal := act t heartbeatLost s

/-- Both fault inputs are low: event 0x2106. -/
def pairAsserted (s : State) : State :=
  let s := s.onPair fun p => { p with faultIn := 0 }
  if inMode [.reset, .boot, .holdup] s then s
  else
    let s := raise 0x2106 0 s.pair.partnerMode 0x2130 0 s
    if inMode [.rejoin] s then rejoinFails s else takeoverTrigger (partnerGone s)

def execFaultPairAsserted (t : Time) (s : State) : Host.Outcome State Fault Refusal := act t pairAsserted s

/-- One fault input is low for 100 µs and the other is high: event 0x2107; with the heartbeat lost it is a
takeover trigger. -/
def lineLow (line : Nat) (s : State) : State :=
  let s := s.onPair fun p => { p with faultIn := if line = 0 then 2 else 1 }
  if inMode [.reset, .boot, .holdup] s then s
  else
    let s := raise 0x2107 line s.pair.faultIn.toNat 0x2130 0 s
    if s.pair.heartbeat then s else takeoverTrigger s

def execFaultLineWiring (t : Time) (line : Fin 2) (s : State) : Host.Outcome State Fault Refusal :=
  act t (lineLow line.val) s

/-- The always-on domain misses the health signal for 3 µs: the fault outputs fall (10 R281). -/
def execHealthSignalMissing (t : Time) (s : State) : Host.Outcome State Fault Refusal :=
  act t (fun s => s.onMode fun m => { m with healthLost := true }) s

/-- 6 µs of fencing have passed without a majority. -/
def execFencingTimeout (t : Time) (s : State) : Host.Outcome State Fault Refusal :=
  act t (fun s => if s.pair.round = some .fencing then majorityLost s else s) s

/-! ### Pairing (10 R292 steps 1 and 2, R294, R301, R302; 06 R142; 09 R248, R250) -/

/-- The highest protocol version both modules have. -/
def commonVersion (p : PairInfo) : Option Nat :=
  let hi := min p.verHi versionHi
  if max p.verLo versionLo ≤ hi then some hi else none

/-- What step 1 checks. -/
def pairingPasses (p : PairInfo) (s : State) : Bool :=
  p.certOk && p.pairIdHigh ≠ s.ident.pairIdHigh && (commonVersion p).isSome &&
    p.groups = (List.range 8).map fun k => dnat 0x3000 (k + 1) 0 s

/-- What the partner's pairing frame says of it. The sets of group codes are compared (02 R27); the same PAIR_ID
raises event 0x2102 (01 R8). -/
def notePartner (p : PairInfo) (s : State) : State :=
  let s := s.onPair fun x => { x with
    partnerSerial := p.serial, partnerKind := p.kind, partnerGroups := p.groups, partnerMode := p.mode
    protocol := (commonVersion p).getD x.protocol }
  when (p.pairIdHigh = s.ident.pairIdHigh) (raise 0x2102 0 p.pairIdHigh.toNat 0x2101 0)
    (each (List.range 8) compareGroup s)

/-- The partner reports this module's own PAIR_ID: the module enters ISOLATED, a joiner by its failure; one that
serves answers with its own frame first, so that the partner finds the same (01 R8; log entry 37). -/
def sameId (s : State) : State :=
  if inMode [.rejoin] s then rejoinFails s
  else if inMode [.isolated] s then s
  else enterIsolated (sendPairing none s)

/-- The pair key is agreed from the partner's share (09 R248). -/
def agreeKey (p : PairInfo) (s : State) : State :=
  let d := draw s
  d.2.onKeys fun k => { k with pairKey := some (Config.pairKey p.share d.1) }

/-- This module's array key, maps and caddy contents go, and it takes the partner's key and array identity (06
R142; 09 R250). -/
def takeArray (key : BitVec 256) (id : BitVec 64) (s : State) : State :=
  let s := (clearMaps s).onPair fun p => { p with
    ring := [], waiting := [], reserved := [], committed := 0, lastSealed := 0, wasActive := false }
  (s.onXlat fun x => { x with arrayId := id }).onKeys fun k => { k with arrayKey := some key }

/-- Does a module of a mode, by its code, serve? SOLO, ACTIVE, QUIESCED. -/
def servesCode (n : Nat) : Bool := n = 3 || n = 4 || n = 9

/-- The joiner is paired and waits for the connections. -/
def joinerPaired (p : PairInfo) (s : State) : State :=
  sendPairing none ((agreeKey p s).onPair fun x => { x with rejoinPhase := 3, pairing := false, epoch := p.epoch })

/-- A joiner in step 1 or 2 hears the serving module. -/
def joinerHears (p : PairInfo) (s : State) : State :=
  if !pairingPasses p s then rejoinFails s
  else if !servesCode p.mode then s
  else if s.keys.arrayKey.isSome && s.xlat.arrayId = p.arrayId then joinerPaired p s
  else match p.arrayKey with
    | some k => joinerPaired p (takeArray k p.arrayId s)
    | none => sendPairing none (s.onPair fun x => { x with rejoinPhase := 2 })

/-- A serving module hears a joiner: the pair key, a new pair epoch, and the array key where the joiner lacks it.
A joiner that fails step 1 hears this module's frame and gives up itself. -/
def servingHears (p : PairInfo) (s : State) : State :=
  if p.mode ≠ 8 || s.pair.lag = .fencing || entropyLost s then s
  else
    let same := p.arrayId = s.xlat.arrayId
    if s.pair.partnerJoining then
      if s.pair.rejoinPhase = 2 && same then s.onPair fun x => { x with rejoinPhase := 3 } else s
    else if !pairingPasses p s then sendPairing none s
    else
      let s := (agreeKey p s).onPair fun x => { x with
        partnerJoining := true, pairing := false, rejoinPhase := if same then 3 else 2, rejoinPercent := 0
        rejoinFrom := s.now, handoverNext := 1 }
      sendPairing (if same then none else s.keys.arrayKey) (startRound .pairing s)

/-- After both have restarted: the higher committed record makes the active, on equal numbers the module that was
active (10 R302). Where both or neither was, PAIR_ID low decides (DESIGN CHOICE, log entry 37). -/
def restartWins (p : PairInfo) (s : State) : Bool :=
  if s.pair.committed ≠ p.committed then p.committed < s.pair.committed
  else if s.pair.wasActive ≠ p.wasActive then s.pair.wasActive
  else !s.ident.pairIdHigh

/-- A module in ISOLATED hears its partner: a format's key and identity are stored; after a restart of both the
role is decided. -/
def isolatedHears (p : PairInfo) (s : State) : State :=
  if p.mode ≠ 2 || !pairingPasses p s then s
  else match p.arrayKey with
    | some k => sendPairing none (takeArray k p.arrayId (agreeKey p s))
    | none =>
      if !s.mode.restarted || s.pair.round.isSome || s.keys.arrayKey.isNone || s.xlat.arrayId ≠ p.arrayId then s
      else if restartWins p s then when (mayServe s) (startRound .solo) s
      else when (mayRejoin s) rejoinBegin s

def pairingArrives (p : PairInfo) (s : State) : State :=
  if !flag 0x2106 0 0 s then s
  else
    let s := notePartner p s
    if p.pairIdHigh = s.ident.pairIdHigh then sameId s
    else if inMode [.rejoin] s then (if s.pair.rejoinPhase ≤ 2 then joinerHears p s else s)
    else if inMode [.isolated] s then isolatedHears p s
    else if inMode [.solo] s || (inMode [.active] s && s.pair.cold) then servingHears p s
    else s

def execPairing (t : Time) (h : MirHdr) (p : PairInfo) (s : State) : Host.Outcome State Fault Refusal :=
  act t (whenFrame h fun s => when (!inMode [.safe] s) (pairingArrives p) s) s

/-! ### Rejoin (10 R292, R294; 14 R369) -/

/-- A module in ISOLATED has found a partner in SOLO. -/
def execRejoinStart (t : Time) (s : State) : Host.Outcome State Fault Refusal :=
  act t (fun s => when (mayRejoin s && partnerSolo s && !s.mode.holdIsolated) rejoinBegin s) s

/-- 10 s after a rejoin that failed: another attempt, or no more within the hour. -/
def rejoinAgain (s : State) : State :=
  let l := s.pair.rejoinTries.filter fun x => s.now < x + 3600 * second
  if !inMode [.isolated] s || s.mode.holdIsolated then s
  else if cfg 0x2153 s ≤ l.length then s.onMode fun m => { m with holdIsolated := true }
  else if mayRejoin s && partnerSolo s then rejoinBegin (s.onPair fun p => { p with rejoinTries := l ++ [s.now] })
  else s

def execRejoinRetry (t : Time) (s : State) : Host.Outcome State Fault Refusal := act t rejoinAgain s

def execRejoinRequest (t : Time) (w : Write) (s : State) : Host.Outcome State Fault Refusal :=
  act t (fun s => writeObject 0x2154 rejoinRequestCheck rejoinRequestEffect w s) s

/-! ### Swaps, activation, service alone (10 R296 to R298, R303) -/

/-- The days of SWAP_REMIND have passed since the last swap or takeover: event 0x210F once a day. -/
def execSwapReminder (t : Time) (s : State) : Host.Outcome State Fault Refusal :=
  act t (fun s =>
    let day := 86400 * second
    let d := cfg 0x2143 s
    when (d ≠ 0 && s.pair.lastSwap + d * day ≤ s.now) (raiseWithin day 0x210F 0 d 0x2142 0) s) s

def execRoleSwap (t : Time) (w : Write) (s : State) : Host.Outcome State Fault Refusal :=
  act t (fun s => writeObject 0x2140 roleSwapCheck roleSwapEffect w s) s

/-- No dispatched command is left. -/
def execQuiesceDrained (t : Time) (s : State) : Host.Outcome State Fault Refusal :=
  act t (fun s => when (!(s.cmd.cmds.any fun p => dispatched p.2.phase)) drained s) s

/-- QUIESCE_LIMIT has passed. -/
def execQuiesceLimitExpiry (t : Time) (s : State) : Host.Outcome State Fault Refusal := act t drained s

def execFwActivate (t : Time) (w : Write) (s : State) : Host.Outcome State Fault Refusal :=
  act t (fun s => writeObject 0x2170 fwActivateCheck fwActivateEffect w s) s

/-- Seated carriers whose value is the one this module's caddy records as current. -/
def currentValues (s : State) : Nat :=
  ((seatedBays s).filter fun c => Tbl.get? s.pair.reserved c = some (carOf s c).value).length

/-- No partner within PAIR_WAIT after a restart: SOLO when the reservations are still this module's, else it stays
in ISOLATED, event 0x2113; without an array key event 0x5309 (09 R250). -/
def pairWaitEnds (s : State) : State :=
  if !inMode [.isolated] s || !s.mode.restarted || partnerServes s || s.pair.round.isSome then s
  else if s.keys.arrayKey.isNone then raise 0x5309 0 0 0x5333 0 s
  else if strictMajority (currentValues s) (seatedBays s).length then when (mayServe s) (startRound .solo) s
  else raise 0x2113 0 (currentValues s) 0x2160 0 (s.onMode fun m => { m with holdIsolated := true })

def execPairWaitExpiry (t : Time) (s : State) : Host.Outcome State Fault Refusal := act t pairWaitEnds s

def execForceSolo (t : Time) (w : Write) (s : State) : Host.Outcome State Fault Refusal :=
  act t (fun s => writeObject 0x2171 forceSoloCheck forceSoloEffect w s) s

end Sys2Proof.Machine
end

