-- ==== Sys2Proof/Machine/SwitchCore.lean ====
section
/-! DEFINITION. The switch core (05 R118 to R129): queues, the rule of an output, credits, cell
integrity. -/

namespace Sys2Proof.Machine

/-- Class of a message, by its kind alone; a memory controller's reply has the class of the request (05 R120). -/
def kindClass : MsgKind → Nat
  | .descriptor | .doorbell | .notice | .writeAck | .cycleRecord | .confirmation | .carrierAdmin | .epquin => 0
  | .hostRead | .plaintext | .writeData | .gapFill | .coldData | .attachData => 1
  | .stripe | .parity | .memberProgram | .mergeData => 2
  | .rebuildData | .snapshot | .selfTest | .checkpoint => 3
  | .memRead cls _ | .memReply cls => cls.val

/-- Does a message read memory? -/
def isMemRead : MsgKind → Bool
  | .memRead .. => true
  | _ => false

/-- Does a message carry data to be stored, where its output is a memory controller? -/
def isWriteKind (k : MsgKind) : Bool := match k with
  | .memRead .. | .memReply _ => false
  | k => kindClass k ≠ 0

/-- Outputs with a memory controller: the DRAM and the caddy stacks (05 R118). -/
def memoryPort (p : Nat) : Bool := 14 ≤ p && p < 20

/-- Key of the VOQ of an input for an output and a class, and its parts. -/
def voqKey (inp out cls : Nat) : Nat := (inp * 30 + out) * 4 + cls
def keyInp (k : Nat) : Nat := k / 120
def keyOut (k : Nat) : Nat := k / 4 % 30

def voqAt (k : Nat) (s : State) : Voq := (Tbl.get? s.core.voqs k).getD { cells := [], stalled := false }

/-- Cells of a message: one for each 256 bytes, and one for a message without bytes (05 R119; the last is a DESIGN
CHOICE, log entry 100). -/
def msgCells (m : CoreMsg) : Nat := max 1 ((m.bytes.length + 255) / 256)

/-- Cell `i` of a message. -/
def cellOf (m : CoreMsg) (i : Nat) : Cell :=
  { kind := m.kind, num := m.num, data := (m.bytes.drop (256 * i)).take 256, last := msgCells m ≤ i + 1, shared := false,
    poison := false }

/-- Reserved and shared cells that a VOQ uses. -/
def voqReserved (q : Voq) : Nat := (q.cells.filter fun c => !c.shared).length
def voqShared (q : Voq) : Nat := (q.cells.filter fun c => c.shared).length

/-- Is a shared cell granted to a VOQ with `own` shared cells? (05 R123) -/
def sharedGrant (own free : Nat) (a : Int) : Bool :=
  0 < free && (if 0 ≤ a then own < free * 2 ^ a.toNat else own * 2 ^ (-a).toNat < free)

/-- SHARED_ALPHA. -/
def sharedAlpha (s : State) : Int := (dval 0x4202 0 0 s).toInt

/-- Put a cell in a VOQ: a reserved cell first, a shared one under the rule, or a refusal (05 R122, R123). -/
def voqPut (k : Nat) (cell : Cell) (s : State) : Option State :=
  let q := voqAt k s
  let own := voqReserved q < 16
  if own || sharedGrant (voqShared q) s.core.sharedFree (sharedAlpha s) then
    let q' := { q with cells := q.cells ++ [{ cell with shared := !own }] }
    let free := if own then s.core.sharedFree else s.core.sharedFree - 1
    let s := s.onCore fun c => { c with voqs := Tbl.put c.voqs k q', sharedFree := free }
    let s := peak 0x4207 (keyInp k + 1) q'.cells.length s
    some (when (!own && free = 0) (raiseLimited 0x4201 0 0 0x4203 0) s)
  else none

/-- Put the cells of a message from cell `i` on; all of them or none. -/
def voqPutAll (k : Nat) (m : CoreMsg) : Nat → Nat → State → Option State
  | 0, _, s => some s
  | n + 1, i, s => (voqPut k (cellOf m i) s).bind (voqPutAll k m n (i + 1))

/-- A refusal is counted (05 R124). -/
def voqRefused (inp : Nat) (s : State) : State := bump 0x4204 (inp + 1) 1 s

/-- Does an output take no offer? A cipher cluster short of two lanes refuses every one (09 R241). -/
def outputShut (out : Nat) (s : State) : Bool := 20 ≤ out && out < 24 && !clusterTakes s (out - 20)

/-- The messages that a stage keeps for a queue. -/
def offersAt (k : Nat) (s : State) : List (CoreMsg × Nat) := (Tbl.get? s.core.offers k).getD []
def putOffers (k : Nat) (l : List (CoreMsg × Nat)) (s : State) : State :=
  s.onCore fun c => { c with offers := if l.isEmpty then Tbl.del c.offers k else Tbl.put c.offers k l }

/-- The stage offers the cells of its messages in order until one is refused; what is refused stays with it (05
R124, R125). -/
def offerCells (k : Nat) : Nat → State → State
  | 0, s => s
  | fuel + 1, s => match offersAt k s with
    | [] => s
    | (m, i) :: rest => match (if outputShut (keyOut k) s then none else voqPut k (cellOf m i) s) with
      | some s => offerCells k fuel (putOffers k (if msgCells m ≤ i + 1 then rest else (m, i + 1) :: rest) s)
      | none => voqRefused (keyInp k) s

/-- Offer what a stage keeps for a queue. -/
def offerAgain (k : Nat) (s : State) : State :=
  offerCells k ((offersAt k s).map fun p => msgCells p.1).sum s

/-- A stage has a message for an output, in the class of its kind. A write is not acknowledged yet. -/
def offerMessage (inp out : Nat) (m : CoreMsg) (s : State) : State :=
  let k := voqKey inp out (kindClass m.kind)
  let s := when (isWriteKind m.kind) (fun s => s.onCore fun c =>
    { c with acks := c.acks.filter fun a => a ≠ (inp, m.num) }) s
  let waits := !(offersAt k s).isEmpty
  let s := putOffers k (offersAt k s ++ [(m, 0)]) s
  if waits then s else offerAgain k s

/-- A message is offered. A descriptor that names a write waits for the write's acknowledgement (05 R126); an input has
no queue for its own output (05 R122). -/
def offerNew (inp out : Nat) (m : CoreMsg) (s : State) : State :=
  if inp = out then voqRefused inp s
  else match m.names with
    | some n =>
      if s.core.acks.contains (inp, n) then offerMessage inp out m s
      else s.onCore fun c => { c with waiting := c.waiting ++ [(inp, out, m)] }
    | none => offerMessage inp out m s

def execCellOffer (t : Time) (inp out : SwPort) (kind : MsgKind) (b : MsgBody) (s : State) :
    Host.Outcome State Fault Refusal :=
  act t (offerNew inp.val out.val { toMsgBody := b, kind }) s

/-! ### The choice of an output (05 R121) -/

/-- Cells that an output's receive buffer holds for each class (05 R127). -/
def receiveCells : Nat := 64

def outKey (out cls : Nat) : Nat := out * 4 + cls

/-- Cells in an output's receive buffer of a class. -/
def received (out cls : Nat) (s : State) : Nat :=
  ((List.range 30).map fun i => ((Tbl.get? s.core.inBuf (voqKey i out cls)).getD []).length).sum

/-- May the head cell of a queue be sent in a slot? A read request waits until its memory controller takes it (05
R128). -/
def headGoes (k : Nat) (s : State) : Bool := match (voqAt k s).cells with
  | c :: _ => !(memoryPort (keyOut k) && isMemRead c.kind)
  | [] => false

/-- Inputs with a head cell for an output and class, while the output's buffer has room (05 R127). -/
def readyInputs (out cls : Nat) (s : State) : List Nat :=
  if receiveCells ≤ received out cls s then [] else (List.range 30).filter fun i => headGoes (voqKey i out cls) s

def classReady (out cls : Nat) (s : State) : Bool := !(readyInputs out cls s).isEmpty

/-- Round credit of a class: CORE_WEIGHT at the start of a round. -/
def roundCredit (out cls : Nat) (s : State) : Nat :=
  (Tbl.get? s.core.credit (outKey out cls)).getD (dnat 0x4200 (cls + 1) 0 s)

/-- Key under which the served class of an output is kept. -/
def classPtr (out : Nat) : Nat := 1000 + out

/-- The next of classes 1 to 3 that is ready and has credit, after the one served last. -/
def nextClass (out : Nat) (s : State) : Option Nat :=
  let last := Tbl.count s.core.rr (classPtr out)
  ([last % 3 + 1, (last + 1) % 3 + 1, (last + 2) % 3 + 1]).find? fun c =>
    classReady out c s && 0 < roundCredit out c s

/-- All round credits are refilled. -/
def refillCredits (out : Nat) (s : State) : State :=
  s.onCore fun c => { c with
    credit := Tbl.del (Tbl.del (Tbl.del c.credit (outKey out 1)) (outKey out 2)) (outKey out 3) }

/-- The class an output sends in this slot, if any, with the credits as they then stand. -/
def slotClass (out : Nat) (s : State) : Option Nat × State :=
  let hist := (Tbl.get? s.core.hist out).getD []
  let slots0 := (hist.filter id).length
  let other := classReady out 1 s || classReady out 2 s || classReady out 3 s
  if classReady out 0 s && (slots0 < cfg 0x4201 s || !other) then (some 0, s)
  else if !other then (none, s)
  else
    let s := if (nextClass out s).isSome then s else refillCredits out s
    match nextClass out s with
    | some c =>
      let left := roundCredit out c s - 1
      (some c, s.onCore fun x => { x with
        credit := Tbl.put x.credit (outKey out c) left, rr := Tbl.put x.rr (classPtr out) c })
    | none => (none, s)

/-- The input served after the last one. -/
def nextInput (out cls : Nat) (s : State) : Option Nat :=
  let l := readyInputs out cls s
  match Tbl.get? s.core.rr (outKey out cls) with
  | some last => (l.find? fun i => last < i).orElse fun _ => l.head?
  | none => l.head?

/-- A row of the SRAM is handed to self-repair: a spare row takes its place and the repair map gets an entry, or
its cells stay withdrawn (14 R382, R388; macro 1 and spares in order are a DESIGN CHOICE, log entry 23). -/
def rowFault (row : Nat) (s : State) : State :=
  let before := s.core.sharedFree
  let s := when (0 < s.core.rowSpares)
    (addRepair 3 2 1 (row % 65536 + (Config.coreSpareRows - s.core.rowSpares) % 65536 * 65536)) s
  let s := s.onCore fun c =>
    if 0 < c.rowSpares then { c with rowSpares := c.rowSpares - 1 }
    else { c with withdrawn := c.withdrawn + Config.coreRowCells, sharedFree := c.sharedFree - Config.coreRowCells }
  let s := when (0 < before && s.core.sharedFree = 0) (raiseLimited 0x4201 0 0 0x4203 0) s
  raise 0x4203 0 row 0x4203 0 s

/-- An uncorrectable error in a row: the second within 1 s is a row fault (05 R129). -/
def rowError (row : Nat) (s : State) : State :=
  let again := match Tbl.get? s.core.rowErr row with
    | some t => s.now ≤ t + second
    | none => false
  let s := s.onCore fun c => { c with rowErr := if again then Tbl.del c.rowErr row else Tbl.put c.rowErr row s.now }
  when again (rowFault row) s

/-- The head cell leaves its queue, and the place it held is free (05 R122); the stage offers what it has kept. -/
def popCell (k : Nat) (s : State) : Option (Cell × State) := match (voqAt k s).cells with
  | [] => none
  | c :: rest =>
    let s := s.onCore fun x => { x with
      voqs := if rest.isEmpty then Tbl.del x.voqs k else Tbl.put x.voqs k { cells := rest, stalled := false }
      sharedFree := if c.shared then x.sharedFree + 1 else x.sharedFree
      rr := Tbl.put x.rr (outKey (keyOut k) (k % 4)) (keyInp k) }
    some (c, offerAgain k (bump 0x4205 (k % 4 + 1) 1 s))

/-- Send the head cell of an input to an output's receive buffer: a corrected error is counted, an uncorrectable one
leaves the poison mark (05 R129). -/
def sendCell (inp out cls ecc row : Nat) (s : State) : State :=
  let k := voqKey inp out cls
  match popCell k s with
  | none => s
  | some (c, s) =>
    let c := { c with poison := c.poison || ecc = 2 }
    let s := s.onCore fun x => { x with inBuf := Tbl.put x.inBuf k ((Tbl.get? x.inBuf k).getD [] ++ [c]) }
    if ecc = 1 then bump 0x4206 0 1 s
    else if ecc = 2 then rowError row s
    else s

/-- A slot of an output is used: was it for class 0? -/
def noteSlot (out : Nat) (class0 : Bool) (s : State) : State :=
  let h := ((Tbl.get? s.core.hist out).getD []) ++ [class0]
  s.onCore fun c => { c with hist := Tbl.put c.hist out (h.drop (h.length - 64)) }

/-- An output sends a cell of the class chosen, from the input whose turn it is. -/
def sendClass (out ecc row : Nat) (cls : Option Nat) (s : State) : State :=
  match cls, cls.bind fun c => nextInput out c s with
  | some c, some i => sendCell i out c ecc row s
  | _, _ => s

/-- A round ends when no class that is ready has credit left. -/
def endRound (out : Nat) (s : State) : State :=
  if [1, 2, 3].any fun c => classReady out c s && 0 < roundCredit out c s then s else refillCredits out s

/-- One slot of an output. -/
def cellSlot (out ecc row : Nat) (s : State) : State :=
  let r := slotClass out s
  noteSlot out (decide (r.1 = some 0)) (endRound out (sendClass out ecc row r.1 r.2))

/-- `ecc` is 0 for a sound cell, 1 for a corrected and 2 for an uncorrectable error in SRAM row `row`. -/
def execCellSlot (t : Time) (out : SwPort) (ecc : Fin 3) (row : Nat) (s : State) :
    Host.Outcome State Fault Refusal :=
  act t (cellSlot out.val ecc.val row) s

/-- A whole message that a block cannot use is sent again from where its request came: a memory read by the requester, a
media read or a descriptor from its own stage's queue (05 R129). -/
def reissueMessage (inp out : Nat) (m : CoreMsg) (s : State) : State := match m.kind with
  | .memReply cls => offerMessage out inp { kind := .memRead cls m.bytes.length, num := m.num, bytes := [], names := none } s
  | _ => offerMessage inp out m s

/-- The acknowledgement of a write reaches the writer: its descriptors that waited for it go (05 R126). -/
def ackArrives (writer num : Nat) (s : State) : State :=
  let go := s.core.waiting.filter fun w => w.1 = writer && w.2.2.names = some num
  let s := s.onCore fun c => { c with
    acks := if c.acks.contains (writer, num) then c.acks else c.acks ++ [(writer, num)]
    waiting := c.waiting.filter fun w => !(w.1 = writer && w.2.2.names = some num) }
  each go (fun w s => offerMessage w.1 w.2.1 w.2.2 s) s

/-- A block has all cells of a message: a poisoned one is discarded and reissued (05 R129). -/
def messageArrives (inp out : Nat) (cells : List Cell) (s : State) : State := match cells.getLast? with
  | none => s
  | some c =>
    let m : CoreMsg := { kind := c.kind, num := c.num, bytes := cells.flatMap (·.data), names := none }
    if cells.any (·.poison) then reissueMessage inp out m s
    else if m.kind = .writeAck then ackArrives out m.num s
    else if memoryPort out && isWriteKind m.kind then
      s.onCore fun x => { x with written := x.written ++ [(out, inp, m.num)] }
    else s

/-- A block takes the first cell of an input from the receive buffer, and the input has its credit back (05 R127). -/
def blockTakes (inp out cls ecc : Nat) (s : State) : State :=
  let k := voqKey inp out cls
  match (Tbl.get? s.core.inBuf k).getD [] with
  | [] => s
  | c :: rest =>
    let c := { c with poison := c.poison || ecc = 2 }
    let cells := (Tbl.get? s.core.taken k).getD [] ++ [c]
    let s := s.onCore fun x => { x with
      inBuf := if rest.isEmpty then Tbl.del x.inBuf k else Tbl.put x.inBuf k rest
      taken := if c.last then Tbl.del x.taken k else Tbl.put x.taken k cells }
    let s := when (ecc = 1) (bump 0x4206 0 1) s
    if c.last then messageArrives inp out cells s else s

/-- `c.ecc` is the state of the cell in the receive buffer, as at CELL_SLOT. -/
def execCreditReturn (t : Time) (out inp : SwPort) (c : TakenCell) (s : State) :
    Host.Outcome State Fault Refusal :=
  act t (blockTakes inp.val out.val c.cls.val c.ecc.val) s

/-! ### Memory (05 R126, R128) -/

/-- The cells up to the end mark leave a queue. -/
def popMessage (k : Nat) : Nat → State → State
  | 0, s => s
  | n + 1, s => match popCell k s with
    | some (c, s) => if c.last then s else popMessage k n s
    | none => s

/-- The number of the read request at the head of a queue that is there whole. -/
def readAtHead (k : Nat) (s : State) : Option Nat := match (voqAt k s).cells with
  | c :: l => if isMemRead c.kind && (c :: l).any (·.last) then some c.num else none
  | [] => none

/-- A memory controller takes a read request, against a credit and in a slot of its output, only when its own VOQ to
the requester has room for the whole reply; else the request stays where it is (05 R127, R128). `bytes` are what it has
read. -/
def memoryRead (ctl req cls : Nat) (bytes : Bytes) (s : State) : State :=
  let k := voqKey req ctl cls
  match (if memoryPort ctl && req ≠ ctl && received ctl cls s < receiveCells then readAtHead k s else none) with
  | none => s
  | some num =>
    let m : CoreMsg := { kind := .memReply (Fin.ofNat 4 cls), num, bytes, names := none }
    let back := voqKey ctl req cls
    match (if (offersAt back s).isEmpty then voqPutAll back m (msgCells m) 0 s else none) with
    | some s => noteSlot ctl (decide (cls = 0)) (popMessage k (voqAt k s).cells.length s)
    | none => s

def execMemoryReadRequest (t : Time) (ctl req : SwPort) (cls : SwClass) (bytes : Bytes) (s : State) :
    Host.Outcome State Fault Refusal :=
  act t (memoryRead ctl.val req.val cls.val bytes) s

/-- The last cell of a write that the controller has whole is visible: a class-0 acknowledgement goes to the requester,
which may then send the descriptor. -/
def writeVisible (ctl req num : Nat) (s : State) : State :=
  if s.core.written.contains (ctl, req, num) then
    offerMessage ctl req { kind := .writeAck, num, bytes := [], names := none }
      (s.onCore fun c => { c with written := c.written.erase (ctl, req, num) })
  else s

def execWriteAcknowledgement (t : Time) (ctl : SwPort) (w : WriteRef) (s : State) : Host.Outcome State Fault Refusal :=
  act t (writeVisible ctl.val w.req.val w.num) s

/-- A head cell has not moved for 1 ms: event 0x4202, once for the VOQ until it moves (05 R124). -/
def execVoqStalled (t : Time) (inp out : SwPort) (cls : SwClass) (s : State) :
    Host.Outcome State Fault Refusal :=
  act t (fun s =>
    let k := voqKey inp.val out.val cls.val
    let q := voqAt k s
    if q.cells.isEmpty || q.stalled then s
    else raise 0x4202 (inp.val + 1) k 0x4204 (inp.val + 1)
      (s.onCore fun c => { c with voqs := Tbl.put c.voqs k { q with stalled := true } })) s

end Sys2Proof.Machine
end

