-- ==== Sys2Proof/Machine/Dispatch.lean ====
section
/-! DEFINITION. One arm for each command of the opcode table. -/

namespace Sys2Proof.Machine

def exec (i : Instr) (s : State) : Host.Outcome State Fault Refusal :=
  match i with
  | .portUp t p => Sys2Proof.Machine.execPortUp t p s
  | .portDown t p => Sys2Proof.Machine.execPortDown t p s
  | .recal t w => Sys2Proof.Machine.execRecal t w s
  | .recalComplete t p => Sys2Proof.Machine.execRecalComplete t p s
  | .cageInsertion t g codes => Sys2Proof.Machine.execCageInsertion t g codes s
  | .groupConfig t w => Sys2Proof.Machine.execGroupConfig t w s
  | .groupMac t w => Sys2Proof.Machine.execGroupMac t w s
  | .frameReceive t p f => Sys2Proof.Machine.execFrameReceive t p f s
  | .arpRequest t p addr => Sys2Proof.Machine.execArpRequest t p addr s
  | .neighborSolicitation t p addr solicited => Sys2Proof.Machine.execNeighborSolicitation t p addr solicited s
  | .neighbourReply t p addr mac => Sys2Proof.Machine.execNeighbourReply t p addr mac s
  | .icmpEchoRequest t p addr => Sys2Proof.Machine.execIcmpEchoRequest t p addr s
  | .packetTooBig t conn mtu => Sys2Proof.Machine.execPacketTooBig t conn mtu s
  | .soloEntry t => Sys2Proof.Machine.execSoloEntry t s
  | .duplicateAddressDetectionEnd t svc conflict => Sys2Proof.Machine.execDuplicateAddressDetectionEnd t svc conflict s
  | .probeIntervalExpiry t => Sys2Proof.Machine.execProbeIntervalExpiry t s
  | .probeReport t h ports => Sys2Proof.Machine.execProbeReport t h ports s
  | .dualDeliveryRestored t => Sys2Proof.Machine.execDualDeliveryRestored t s
  | .tcpSyn t info => Sys2Proof.Machine.execTcpSyn t info s
  | .tcpSegment t conn seq len capsule => Sys2Proof.Machine.execTcpSegment t conn seq len capsule s
  | .tcpAck t conn a => Sys2Proof.Machine.execTcpAck t conn a s
  | .tcpRetransmissionTimeout t conn => Sys2Proof.Machine.execTcpRetransmissionTimeout t conn s
  | .tcpSendTimeout t conn => Sys2Proof.Machine.execTcpSendTimeout t conn s
  | .hostConnectionClose t conn => Sys2Proof.Machine.execHostConnectionClose t conn s
  | .tlsClientHello t conn hello => Sys2Proof.Machine.execTlsClientHello t conn hello s
  | .tlsRecord t conn ctype b => Sys2Proof.Machine.execTlsRecord t conn ctype b s
  | .keyupdateReceive t conn updateRequested => Sys2Proof.Machine.execKeyupdateReceive t conn updateRequested s
  | .keyupdateSend t conn => Sys2Proof.Machine.execKeyupdateSend t conn s
  | .closeNotify t conn => Sys2Proof.Machine.execCloseNotify t conn s
  | .roceCmRequest t info => Sys2Proof.Machine.execRoceCmRequest t info s
  | .roceSend t conn psn len => Sys2Proof.Machine.execRoceSend t conn psn len s
  | .roceInboundRdma t conn => Sys2Proof.Machine.execRoceInboundRdma t conn s
  | .roceAck t conn a => Sys2Proof.Machine.execRoceAck t conn a s
  | .roceAckTimeout t conn => Sys2Proof.Machine.execRoceAckTimeout t conn s
  | .roceReadResponse t conn ttag off sectors => Sys2Proof.Machine.execRoceReadResponse t conn ttag off sectors s
  | .ceMarkedPacket t conn => Sys2Proof.Machine.execCeMarkedPacket t conn s
  | .congestionNotification t conn => Sys2Proof.Machine.execCongestionNotification t conn s
  | .rateRecovery t conn => Sys2Proof.Machine.execRateRecovery t conn s
  | .pfcPause t p prio duration => Sys2Proof.Machine.execPfcPause t p prio duration s
  | .portPausedLong t p => Sys2Proof.Machine.execPortPausedLong t p s
  | .egressSelect t p => Sys2Proof.Machine.execEgressSelect t p s
  | .receiveGapTimeout t conn => Sys2Proof.Machine.execReceiveGapTimeout t conn s
  | .connect t conn cid subnqn hostnqn qid sq cntlid kato => Sys2Proof.Machine.execConnect t conn cid subnqn hostnqn qid sq cntlid kato s
  | .propertyGet t conn cid offset => Sys2Proof.Machine.execPropertyGet t conn cid offset s
  | .propertySet t conn cid offset value => Sys2Proof.Machine.execPropertySet t conn cid offset value s
  | .disconnect t conn cid => Sys2Proof.Machine.execDisconnect t conn cid s
  | .getLogPage t h cid lid retain => Sys2Proof.Machine.execGetLogPage t h cid lid retain s
  | .identify t h cid cns nsid => Sys2Proof.Machine.execIdentify t h cid cns nsid s
  | .abort t h cid sqid target => Sys2Proof.Machine.execAbort t h cid sqid target s
  | .setFeatures t h cid fid save dw11 => Sys2Proof.Machine.execSetFeatures t h cid fid save dw11 s
  | .getFeatures t h cid fid sel => Sys2Proof.Machine.execGetFeatures t h cid fid sel s
  | .asynchronousEventRequest t h cid => Sys2Proof.Machine.execAsynchronousEventRequest t h cid s
  | .keepAlive t h cid => Sys2Proof.Machine.execKeepAlive t h cid s
  | .invalidOpcode t src cid opc => Sys2Proof.Machine.execInvalidOpcode t src cid opc s
  | .createIoSq t cid qid size cqid => Sys2Proof.Machine.execCreateIoSq t cid qid size cqid s
  | .createIoCq t cid qid size => Sys2Proof.Machine.execCreateIoCq t cid qid size s
  | .deleteIoSq t cid qid => Sys2Proof.Machine.execDeleteIoSq t cid qid s
  | .deleteIoCq t cid qid => Sys2Proof.Machine.execDeleteIoCq t cid qid s
  | .flush t c => Sys2Proof.Machine.execFlush t c s
  | .read t c => Sys2Proof.Machine.execRead t c s
  | .write t c inCapsule => Sys2Proof.Machine.execWrite t c inCapsule s
  | .writeZeroes t c => Sys2Proof.Machine.execWriteZeroes t c s
  | .datasetManagement t c deallocate ranges => Sys2Proof.Machine.execDatasetManagement t c deallocate ranges s
  | .h2cData t conn ttag off sectors => Sys2Proof.Machine.execH2cData t conn ttag off sectors s
  | .admissionRetest t => Sys2Proof.Machine.execAdmissionRetest t s
  | .commandStart t src => Sys2Proof.Machine.execCommandStart t src s
  | .keepAliveExpired t ctrl => Sys2Proof.Machine.execKeepAliveExpired t ctrl s
  | .granuleRequest t pool n => Sys2Proof.Machine.execGranuleRequest t pool n s
  | .releaseNotice t pool => Sys2Proof.Machine.execReleaseNotice t pool s
  | .rerequestTick t => Sys2Proof.Machine.execRerequestTick t s
  | .refcountDecrement t buf => Sys2Proof.Machine.execRefcountDecrement t buf s
  | .coalesceWindowExpiry t buf => Sys2Proof.Machine.execCoalesceWindowExpiry t buf s
  | .cipherUnitComplete t unit sumA sumB tagA tagB slotOk => Sys2Proof.Machine.execCipherUnitComplete t unit sumA sumB tagA tagB slotOk s
  | .evictionHand t => Sys2Proof.Machine.execEvictionHand t s
  | .potSize t w => Sys2Proof.Machine.execPotSize t w s
  | .cellOffer t inp out kind b => Sys2Proof.Machine.execCellOffer t inp out kind b s
  | .cellSlot t out ecc row => Sys2Proof.Machine.execCellSlot t out ecc row s
  | .creditReturn t out inp c => Sys2Proof.Machine.execCreditReturn t out inp c s
  | .memoryReadRequest t ctl req cls bytes => Sys2Proof.Machine.execMemoryReadRequest t ctl req cls bytes s
  | .writeAcknowledgement t ctl w => Sys2Proof.Machine.execWriteAcknowledgement t ctl w s
  | .voqStalled t inp out cls => Sys2Proof.Machine.execVoqStalled t inp out cls s
  | .format t w => Sys2Proof.Machine.execFormat t w s
  | .formatComplete t partnerStored => Sys2Proof.Machine.execFormatComplete t partnerStored s
  | .nsEnable t sess => Sys2Proof.Machine.execNsEnable t sess s
  | .nsDisable t sess => Sys2Proof.Machine.execNsDisable t sess s
  | .nsWriteProtect t w => Sys2Proof.Machine.execNsWriteProtect t w s
  | .placementQueueReserve t => Sys2Proof.Machine.execPlacementQueueReserve t s
  | .stripeGather t lb => Sys2Proof.Machine.execStripeGather t lb s
  | .fillWaitExpiry t lb => Sys2Proof.Machine.execFillWaitExpiry t lb s
  | .logGatherWaitExpiry t ns => Sys2Proof.Machine.execLogGatherWaitExpiry t ns s
  | .caddySlotRelease t prog => Sys2Proof.Machine.execCaddySlotRelease t prog s
  | .mergeQuietExpiry t lb => Sys2Proof.Machine.execMergeQuietExpiry t lb s
  | .mergeStart t lb => Sys2Proof.Machine.execMergeStart t lb s
  | .mergeCommit t lb => Sys2Proof.Machine.execMergeCommit t lb s
  | .bandRelease t band => Sys2Proof.Machine.execBandRelease t band s
  | .checkpoint t => Sys2Proof.Machine.execCheckpoint t s
  | .journalCarrierWrite t => Sys2Proof.Machine.execJournalCarrierWrite t s
  | .reclaimVictim t => Sys2Proof.Machine.execReclaimVictim t s
  | .compactionCommit t job => Sys2Proof.Machine.execCompactionCommit t job s
  | .staticWearLevel t b => Sys2Proof.Machine.execStaticWearLevel t b s
  | .memberMoveSwitch t job => Sys2Proof.Machine.execMemberMoveSwitch t job s
  | .scrubIntervalExpiry t => Sys2Proof.Machine.execScrubIntervalExpiry t s
  | .exhaustionCleared t => Sys2Proof.Machine.execExhaustionCleared t s
  | .mediaQueueSelect t b => Sys2Proof.Machine.execMediaQueueSelect t b s
  | .carrierLinkUp t b d => Sys2Proof.Machine.execCarrierLinkUp t b d s
  | .carrierLinkDown t b => Sys2Proof.Machine.execCarrierLinkDown t b s
  | .carrierRecoveryTimeout t b => Sys2Proof.Machine.execCarrierRecoveryTimeout t b s
  | .narrowFloorCleared t => Sys2Proof.Machine.execNarrowFloorCleared t s
  | .carrierLostTimeout t b => Sys2Proof.Machine.execCarrierLostTimeout t b s
  | .carrierReadmit t w => Sys2Proof.Machine.execCarrierReadmit t w s
  | .rebuildStart t => Sys2Proof.Machine.execRebuildStart t s
  | .rebuildSwitch t job => Sys2Proof.Machine.execRebuildSwitch t job s
  | .lostClear t w => Sys2Proof.Machine.execLostClear t w s
  | .cipherRetryComplete t unit c d sumC sumD tagC tagD cEqualsA => Sys2Proof.Machine.execCipherRetryComplete t unit c d sumC sumD tagC tagD cEqualsA s
  | .laneTestComplete t l pass => Sys2Proof.Machine.execLaneTestComplete t l pass s
  | .clusterRebind t conn => Sys2Proof.Machine.execClusterRebind t conn s
  | .nsCryptoErase t w => Sys2Proof.Machine.execNsCryptoErase t w s
  | .cryptoEraseSwitch t ns => Sys2Proof.Machine.execCryptoEraseSwitch t ns s
  | .oldKeyZeroise t ns => Sys2Proof.Machine.execOldKeyZeroise t ns s
  | .escrowKek t w => Sys2Proof.Machine.execEscrowKek t w s
  | .arrayKeyExport t sess => Sys2Proof.Machine.execArrayKeyExport t sess s
  | .arrayKeyImport t w => Sys2Proof.Machine.execArrayKeyImport t w s
  | .pskValue t w => Sys2Proof.Machine.execPskValue t w s
  | .contextMiss t conn unwrapOk => Sys2Proof.Machine.execContextMiss t conn unwrapOk s
  | .entropyTestFailure t src => Sys2Proof.Machine.execEntropyTestFailure t src s
  | .entropySourceRecovery t src => Sys2Proof.Machine.execEntropySourceRecovery t src s
  | .maskReseed t => Sys2Proof.Machine.execMaskReseed t s
  | .mirrorLinkUp t => Sys2Proof.Machine.execMirrorLinkUp t s
  | .mirrorLinkDown t => Sys2Proof.Machine.execMirrorLinkDown t s
  | .heartbeat t h clock degraded => Sys2Proof.Machine.execHeartbeat t h clock degraded s
  | .cycleRecord t h r => Sys2Proof.Machine.execCycleRecord t h r s
  | .confirm t h n => Sys2Proof.Machine.execConfirm t h n s
  | .fillRequest t h r => Sys2Proof.Machine.execFillRequest t h r s
  | .evict t h reason => Sys2Proof.Machine.execEvict t h reason s
  | .streamFill t h conn pos bytes => Sys2Proof.Machine.execStreamFill t h conn pos bytes s
  | .sectorData t h sectors => Sys2Proof.Machine.execSectorData t h sectors s
  | .snapshot t h entries percent last => Sys2Proof.Machine.execSnapshot t h entries percent last s
  | .pairing t h p => Sys2Proof.Machine.execPairing t h p s
  | .epquin t h m => Sys2Proof.Machine.execEpquin t h m s
  | .mirrorRetransmitTimeout t => Sys2Proof.Machine.execMirrorRetransmitTimeout t s
  | .mirrorAckIdle t => Sys2Proof.Machine.execMirrorAckIdle t s
  | .cycleBoundary t => Sys2Proof.Machine.execCycleBoundary t s
  | .fencingTimeout t => Sys2Proof.Machine.execFencingTimeout t s
  | .heartbeatLoss t => Sys2Proof.Machine.execHeartbeatLoss t s
  | .faultPairAsserted t => Sys2Proof.Machine.execFaultPairAsserted t s
  | .faultLineWiring t line => Sys2Proof.Machine.execFaultLineWiring t line s
  | .healthSignalMissing t => Sys2Proof.Machine.execHealthSignalMissing t s
  | .reserveAnswerDeadline t => Sys2Proof.Machine.execReserveAnswerDeadline t s
  | .rejoinStart t => Sys2Proof.Machine.execRejoinStart t s
  | .rejoinRetry t => Sys2Proof.Machine.execRejoinRetry t s
  | .rejoinRequest t w => Sys2Proof.Machine.execRejoinRequest t w s
  | .swapReminder t => Sys2Proof.Machine.execSwapReminder t s
  | .roleSwap t w => Sys2Proof.Machine.execRoleSwap t w s
  | .quiesceDrained t => Sys2Proof.Machine.execQuiesceDrained t s
  | .quiesceLimitExpiry t => Sys2Proof.Machine.execQuiesceLimitExpiry t s
  | .fwActivate t w => Sys2Proof.Machine.execFwActivate t w s
  | .pairWaitExpiry t => Sys2Proof.Machine.execPairWaitExpiry t s
  | .forceSolo t w => Sys2Proof.Machine.execForceSolo t w s
  | .laneMargining t b lane millivolt milliUi => Sys2Proof.Machine.execLaneMargining t b lane millivolt milliUi s
  | .carrierLinkNarrowed t b lane => Sys2Proof.Machine.execCarrierLinkNarrowed t b lane s
  | .carrierReady t b => Sys2Proof.Machine.execCarrierReady t b s
  | .carrierAdmitTimeout t b => Sys2Proof.Machine.execCarrierAdmitTimeout t b s
  | .carrierIdentifyDone t b status inputs temp width => Sys2Proof.Machine.execCarrierIdentifyDone t b status inputs temp width s
  | .setLinkTagDone t b status => Sys2Proof.Machine.execSetLinkTagDone t b status s
  | .reserveDone t b status prior => Sys2Proof.Machine.execReserveDone t b status prior s
  | .reserveReadDone t b status value => Sys2Proof.Machine.execReserveReadDone t b status value s
  | .temperatureDone t b status die bridge => Sys2Proof.Machine.execTemperatureDone t b status die bridge s
  | .badEuListDone t b status eus => Sys2Proof.Machine.execBadEuListDone t b status eus s
  | .retryLevelsDone t b status slc levels => Sys2Proof.Machine.execRetryLevelsDone t b status slc levels s
  | .eventWaitDone t b status code => Sys2Proof.Machine.execEventWaitDone t b status code s
  | .carrierReadDone t b cid status corrected sectors => Sys2Proof.Machine.execCarrierReadDone t b cid status corrected sectors s
  | .carrierProgramDone t b cid status => Sys2Proof.Machine.execCarrierProgramDone t b cid status s
  | .carrierEraseDone t b cid status => Sys2Proof.Machine.execCarrierEraseDone t b cid status s
  | .setCellModeDone t b cid status => Sys2Proof.Machine.execSetCellModeDone t b cid status s
  | .markBadDone t b cid status => Sys2Proof.Machine.execMarkBadDone t b cid status s
  | .progressLimitExpiry t b => Sys2Proof.Machine.execProgressLimitExpiry t b s
  | .mediaAgeLimitExpiry t b cid => Sys2Proof.Machine.execMediaAgeLimitExpiry t b cid s
  | .adminCompletionLimitExpiry t b => Sys2Proof.Machine.execAdminCompletionLimitExpiry t b s
  | .tempPollExpiry t b => Sys2Proof.Machine.execTempPollExpiry t b s
  | .feedGood t f millivolt => Sys2Proof.Machine.execFeedGood t f millivolt s
  | .feedLow t f millivolt => Sys2Proof.Machine.execFeedLow t f millivolt s
  | .feedLost t f millivolt => Sys2Proof.Machine.execFeedLost t f millivolt s
  | .feedOvervoltage t f millivolt => Sys2Proof.Machine.execFeedOvervoltage t f millivolt s
  | .feedOvervoltageClear t f millivolt => Sys2Proof.Machine.execFeedOvervoltageClear t f millivolt s
  | .feedReverse t f millivolt => Sys2Proof.Machine.execFeedReverse t f millivolt s
  | .feedReverseClear t f millivolt => Sys2Proof.Machine.execFeedReverseClear t f millivolt s
  | .holdupSequenceEnd t => Sys2Proof.Machine.execHoldupSequenceEnd t s
  | .holdupRestart t => Sys2Proof.Machine.execHoldupRestart t s
  | .bayPresent t b => Sys2Proof.Machine.execBayPresent t b s
  | .baySeated t b id => Sys2Proof.Machine.execBaySeated t b id s
  | .baySeatingLost t b pins => Sys2Proof.Machine.execBaySeatingLost t b pins s
  | .bayRemoved t b => Sys2Proof.Machine.execBayRemoved t b s
  | .bayRampDone t b millivolt => Sys2Proof.Machine.execBayRampDone t b millivolt s
  | .bayStartDeadline t b => Sys2Proof.Machine.execBayStartDeadline t b s
  | .bayOvercurrent t b milliamp => Sys2Proof.Machine.execBayOvercurrent t b milliamp s
  | .bayFastTrip t b milliamp => Sys2Proof.Machine.execBayFastTrip t b milliamp s
  | .bayPassTempSample t b temp => Sys2Proof.Machine.execBayPassTempSample t b temp s
  | .bayOverBudget t b milliamp => Sys2Proof.Machine.execBayOverBudget t b milliamp s
  | .bayCooldownEnd t b => Sys2Proof.Machine.execBayCooldownEnd t b s
  | .bayDebounceEnd t b => Sys2Proof.Machine.execBayDebounceEnd t b s
  | .bayLock t w => Sys2Proof.Machine.execBayLock t w s
  | .bayClear t w => Sys2Proof.Machine.execBayClear t w s
  | .auxTrip t b => Sys2Proof.Machine.execAuxTrip t b s
  | .auxCooldownEnd t b => Sys2Proof.Machine.execAuxCooldownEnd t b s
  | .holdupTest t w => Sys2Proof.Machine.execHoldupTest t w s
  | .holdupMeasurement t microfarad => Sys2Proof.Machine.execHoldupMeasurement t microfarad s
  | .attachLinkUp t speed width => Sys2Proof.Machine.execAttachLinkUp t speed width s
  | .attachLinkDown t => Sys2Proof.Machine.execAttachLinkDown t s
  | .attPerstAssert t => Sys2Proof.Machine.execAttPerstAssert t s
  | .hotReset t => Sys2Proof.Machine.execHotReset t s
  | .functionLevelReset t => Sys2Proof.Machine.execFunctionLevelReset t s
  | .ccEnable t asqSize acqSize => Sys2Proof.Machine.execCcEnable t asqSize acqSize s
  | .ccDisable t => Sys2Proof.Machine.execCcDisable t s
  | .sqTailDoorbell t qid tail => Sys2Proof.Machine.execSqTailDoorbell t qid tail s
  | .cqHeadDoorbell t qid head => Sys2Proof.Machine.execCqHeadDoorbell t qid head s
  | .winCommit t mask shadow => Sys2Proof.Machine.execWinCommit t mask shadow s
  | .peerWrite t win off bytes => Sys2Proof.Machine.execPeerWrite t win off bytes s
  | .peerRead t win off len => Sys2Proof.Machine.execPeerRead t win off len s
  | .mboxDoorbell t len req => Sys2Proof.Machine.execMboxDoorbell t len req s
  | .bmeClear t => Sys2Proof.Machine.execBmeClear t s
  | .bmeSet t => Sys2Proof.Machine.execBmeSet t s
  | .hostReadCompletion t tag sectors => Sys2Proof.Machine.execHostReadCompletion t tag sectors s
  | .attachCompletionTimeout t tag => Sys2Proof.Machine.execAttachCompletionTimeout t tag s
  | .resetNAssert t => Sys2Proof.Machine.execResetNAssert t s
  | .resetRelease t testN s1 s2 found => Sys2Proof.Machine.execResetRelease t testN s1 s2 found s
  | .bootComplete t ownImage partnerImage journalOk => Sys2Proof.Machine.execBootComplete t ownImage partnerImage journalOk s
  | .bootWatchdog t => Sys2Proof.Machine.execBootWatchdog t s
  | .serviceEnable t w => Sys2Proof.Machine.execServiceEnable t w s
  | .restart t w => Sys2Proof.Machine.execRestart t w s
  | .junctionOvertemp t d => Sys2Proof.Machine.execJunctionOvertemp t d s
  | .supplyOutOfRange t d => Sys2Proof.Machine.execSupplyOutOfRange t d s
  | .mgmtWatchdog t => Sys2Proof.Machine.execMgmtWatchdog t s
  | .powerPolicy t w => Sys2Proof.Machine.execPowerPolicy t w s
  | .loadMeasurement t delivered received commands => Sys2Proof.Machine.execLoadMeasurement t delivered received commands s
  | .idleGateExpiry t kind inst => Sys2Proof.Machine.execIdleGateExpiry t kind inst s
  | .elementWake t kind inst => Sys2Proof.Machine.execElementWake t kind inst s
  | .managementWake t => Sys2Proof.Machine.execManagementWake t s
  | .engineItemStall t e => Sys2Proof.Machine.execEngineItemStall t e s
  | .engineSramError t e => Sys2Proof.Machine.execEngineSramError t e s
  | .engineCodeCheck t e ok okAfterReload => Sys2Proof.Machine.execEngineCodeCheck t e ok okAfterReload s
  | .engineTestComplete t e pass => Sys2Proof.Machine.execEngineTestComplete t e pass s
  | .selfTestEngine t w => Sys2Proof.Machine.execSelfTestEngine t w s
  | .selfTestLane t w => Sys2Proof.Machine.execSelfTestLane t w s
  | .selfTestBay t w => Sys2Proof.Machine.execSelfTestBay t w s
  | .selfTestDone t pass => Sys2Proof.Machine.execSelfTestDone t pass s
  | .spareTestIntervalExpiry t => Sys2Proof.Machine.execSpareTestIntervalExpiry t s
  | .supplyMonitor t d slackMillivolt => Sys2Proof.Machine.execSupplyMonitor t d slackMillivolt s
  | .slackCritical t d => Sys2Proof.Machine.execSlackCritical t d s
  | .lifeAccounting t core port => Sys2Proof.Machine.execLifeAccounting t core port s
  | .junctionHigh t d => Sys2Proof.Machine.execJunctionHigh t d s
  | .repairClear t w => Sys2Proof.Machine.execRepairClear t w s
  | .deal t sess counts => Sys2Proof.Machine.execDeal t sess counts s
  | .dtlsHandshake t path anchor cookieOk suiteOk => Sys2Proof.Machine.execDtlsHandshake t path anchor cookieOk suiteOk s
  | .sessionIdleTimeout t sess => Sys2Proof.Machine.execSessionIdleTimeout t sess s
  | .get t sess tr partner index sub => Sys2Proof.Machine.execGet t sess tr partner index sub s
  | .set t sess tr partner ifGen it => Sys2Proof.Machine.execSet t sess tr partner ifGen it s
  | .getMulti t sess tr partner items => Sys2Proof.Machine.execGetMulti t sess tr partner items s
  | .setGroup t sess tr partner ifGen items => Sys2Proof.Machine.execSetGroup t sess tr partner ifGen items s
  | .subscribe t sess tr filters period samples => Sys2Proof.Machine.execSubscribe t sess tr filters period samples s
  | .samplePeriod t sess => Sys2Proof.Machine.execSamplePeriod t sess s
  | .notify t sess => Sys2Proof.Machine.execNotify t sess s
  | .configWrite t sess it => Sys2Proof.Machine.execConfigWrite t sess it s
  | .configReset t w => Sys2Proof.Machine.execConfigReset t w s
  | .anchorCert t w parses => Sys2Proof.Machine.execAnchorCert t w parses s
  | .attestNonce t w => Sys2Proof.Machine.execAttestNonce t w s
  | .attestReport t sess => Sys2Proof.Machine.execAttestReport t sess s
  | .loadSlot t w => Sys2Proof.Machine.execLoadSlot t w s
  | .loadData t w => Sys2Proof.Machine.execLoadData t w s
  | .loadCommit t w img => Sys2Proof.Machine.execLoadCommit t w img s
  | .eventLogFlush t => Sys2Proof.Machine.execEventLogFlush t s
  | .statCheckpoint t => Sys2Proof.Machine.execStatCheckpoint t s
  | .ctrSnapshot t w => Sys2Proof.Machine.execCtrSnapshot t w s
  | .ctrValue t w => Sys2Proof.Machine.execCtrValue t w s
  | .ctrControl t w => Sys2Proof.Machine.execCtrControl t w s
  | .portEnable t w => Sys2Proof.Machine.execPortEnable t w s
  | .attachEnable t w => Sys2Proof.Machine.execAttachEnable t w s
  | .pfcPauseExpiry t p => Sys2Proof.Machine.execPfcPauseExpiry t p s
  | .caddyBlockFailure t block => Sys2Proof.Machine.execCaddyBlockFailure t block s
  | .alwaysOnDomainStop t => Sys2Proof.Machine.execAlwaysOnDomainStop t s
  | .alwaysOnDomainStart t => Sys2Proof.Machine.execAlwaysOnDomainStart t s

end Sys2Proof.Machine
end

