-- ==== Sys2Proof/WellFormed.lean ====
section
/-! DEFINITION. Which commands are well formed: operands of the widths and lengths the spec gives
them. A sender sends only well-formed commands; the meanings are total all the same. -/

namespace Sys2Proof

/-- An address of the port side is 16 octets (02 R36). -/
def addrOk (a : Bytes) : Bool := a.length = 16

/-- A sector is 4,096 bytes (03 R63). -/
def sectorOk (b : Bytes) : Bool := b.length = 4096

/-- A list of whole sectors. -/
def sectorsOk (l : List Bytes) : Bool := l.all sectorOk

/-- A number that fits in a field of `w` bits. -/
def fits (w n : Nat) : Bool := n < 2 ^ w

/-- A write names a session by number and a sub-index of 8 bits. -/
def Write.ok (w : Write) : Bool := fits 8 w.sub

/-- A dictionary item: 16-bit index and 8-bit sub-index (15 R402). -/
def Item.ok (i : Item) : Bool := fits 16 i.index && fits 8 i.sub

/-- The fields of an I/O command: CID, NSID, LBA and a count of 1 to 65,536 sectors (03 R73). -/
def IoCmd.ok (c : IoCmd) : Bool :=
  fits 16 c.cid && fits 32 c.nsid && fits 64 c.slba && 1 ≤ c.nlb && c.nlb ≤ 65536

/-- The checks by command; a command without one is well formed whatever its operands. -/
def Instr.wf : Instr → Bool
  | .arpRequest _ _ a | .neighborSolicitation _ _ a _ | .icmpEchoRequest _ _ a => addrOk a
  | .neighbourReply _ _ a _ => addrOk a
  | .tcpSyn _ i | .roceCmRequest _ i => addrOk i.src && fits 16 i.mss
  | .roceReadResponse _ _ _ _ l | .h2cData _ _ _ _ l | .hostReadCompletion _ _ l => sectorsOk l
  | .carrierReadDone _ _ _ _ _ l => sectorsOk l
  | .sectorData _ _ l => l.all fun x => sectorOk x.data
  | .read _ c | .writeZeroes _ c | .flush _ c => c.ok
  | .write _ c d => c.ok && (d.map sectorsOk).getD true
  | .datasetManagement _ c _ r => c.ok && r.length ≤ 256
  | .connect _ _ cid sub host qid sq _ _ =>
    fits 16 cid && sub.length ≤ 223 && host.length ≤ 223 && fits 16 qid && fits 16 sq.size
  | .getLogPage _ _ cid _ _ | .identify _ _ cid _ _ | .abort _ _ cid _ _ | .setFeatures _ _ cid _ _ _
  | .getFeatures _ _ cid _ _ | .asynchronousEventRequest _ _ cid | .keepAlive _ _ cid => fits 16 cid
  | .tlsRecord _ _ ctype _ => fits 8 ctype
  | .set _ _ _ _ _ it | .configWrite _ _ it => it.ok
  | .setGroup _ _ _ _ _ l => l.all (·.ok) && 1 ≤ l.length
  | .subscribe _ _ _ f _ x => f.length ≤ 16 && x.length ≤ 64
  | .peerWrite _ _ off b => fits 64 off && 1 ≤ b.length
  | .recal _ w | .groupConfig _ w | .groupMac _ w | .potSize _ w | .format _ w | .nsWriteProtect _ w
  | .carrierReadmit _ w | .lostClear _ w | .nsCryptoErase _ w | .escrowKek _ w | .arrayKeyImport _ w
  | .pskValue _ w | .rejoinRequest _ w | .roleSwap _ w | .fwActivate _ w | .forceSolo _ w
  | .bayLock _ w | .bayClear _ w | .holdupTest _ w | .serviceEnable _ w | .restart _ w
  | .powerPolicy _ w | .selfTestEngine _ w | .selfTestLane _ w | .selfTestBay _ w | .repairClear _ w
  | .configReset _ w | .anchorCert _ w _ | .attestNonce _ w | .loadSlot _ w | .loadData _ w
  | .loadCommit _ w _ | .ctrSnapshot _ w | .ctrValue _ w | .ctrControl _ w | .portEnable _ w
  | .attachEnable _ w => w.ok
  | _ => true

/-- A command is well formed. -/
abbrev Instr.WellFormed (i : Instr) : Prop := i.wf = true

end Sys2Proof
end

