-- ==== Sys2Proof/Safety.lean ====
section
/-! DEFINITION. What a safe state and a safe step are, and the terms in which the statements speak of
commands: what a command may change, when a write or a frame of the partner is taken, what the event log
holds. -/

namespace Sys2Proof.Machine

/-- The fault outputs agree with the mode and the health signal (10 R281, R282; 14 R368). -/
def FaultLinesFollowMode (s : State) : Prop :=
  s.pair.faultOut = if s.mode.mode.faulted || s.mode.healthLost then 0 else 3

/-- In a mode whose pot is empty or lost the pot holds no buffer and no granule (04 R115, 14 R368). -/
def PotFollowsMode (s : State) : Prop :=
  s.mode.mode.potEmpty = true →
    s.pot.bufs = [] ∧ s.pot.ring = [] ∧ s.pot.hand = none ∧ s.pot.mark = none ∧ s.pot.handOn = false ∧
      s.pot.missQ = [] ∧ poolUsed s poolPour = 0

/-- What holds of the fault outputs and the pot by the mode alone: what every command leaves behind. -/
def Settled (s : State) : Prop := FaultLinesFollowMode s ∧ PotFollowsMode s

/-- No bay is calibrated whose 12 V output is on or starts (12 R340). -/
def CalibratesOff (s : State) : Prop :=
  ∀ b : Bay, (bayOf s b.val).calibrating = true → (bayOf s b.val).state ≠ .ramp ∧ (bayOf s b.val).state ≠ .on

/-- The outcome is a next state of which `P` holds. -/
def Completes (o : Host.Outcome State Fault Refusal) (P : State → Prop) : Prop :=
  ∃ t, o = .next t ∧ P t

/-! ### The parts of the state, and what a command may change -/

/-- The parts of the state that commands change: all but the queue, the identity and the clock. -/
inductive Part where
  | fresh | out | mode | mgmt | dict | net | conns | cmd | pools | pot | core | egress | cipher | keys
  | xlat | media | pair | power | bays | attach | repair
deriving DecidableEq, Repr

/-- The chapter of spec/ that a command belongs to, by the rule its row names. -/
def chapter : Instr → Nat
  | .roceReadResponse .. | .read .. | .write .. => 1
  | .portUp .. | .portDown .. | .recal .. | .recalComplete .. | .cageInsertion .. | .groupConfig .. | .groupMac ..
  | .frameReceive .. | .arpRequest .. | .neighborSolicitation .. | .neighbourReply .. | .icmpEchoRequest ..
  | .packetTooBig .. | .duplicateAddressDetectionEnd .. | .probeIntervalExpiry .. | .probeReport ..
  | .dualDeliveryRestored .. | .tcpSyn .. | .tcpSegment .. | .tcpRetransmissionTimeout .. | .tcpSendTimeout ..
  | .tlsClientHello .. | .tlsRecord .. | .keyupdateSend .. | .roceCmRequest .. | .roceSend ..
  | .roceInboundRdma .. | .roceAckTimeout .. | .ceMarkedPacket .. | .congestionNotification .. | .rateRecovery ..
  | .pfcPause .. | .portEnable .. => 2
  | .hostConnectionClose .. | .connect .. | .propertyGet .. | .propertySet .. | .disconnect .. | .getLogPage ..
  | .identify .. | .abort .. | .setFeatures .. | .getFeatures .. | .asynchronousEventRequest .. | .keepAlive ..
  | .invalidOpcode .. | .flush .. | .h2cData .. | .admissionRetest .. | .commandStart .. | .keepAliveExpired ..
  | .nsWriteProtect .. => 3
  | .tcpAck .. | .roceAck .. | .granuleRequest .. | .releaseNotice .. | .rerequestTick .. | .refcountDecrement ..
  | .coalesceWindowExpiry .. | .evictionHand .. | .potSize .. => 4
  | .portPausedLong .. | .egressSelect .. | .cellOffer .. | .cellSlot .. | .creditReturn ..
  | .memoryReadRequest .. | .writeAcknowledgement .. | .voqStalled .. | .pfcPauseExpiry .. => 5
  | .writeZeroes .. | .datasetManagement .. | .format .. | .formatComplete .. | .nsEnable ..
  | .placementQueueReserve .. | .stripeGather .. | .fillWaitExpiry .. | .logGatherWaitExpiry ..
  | .caddySlotRelease .. | .mergeQuietExpiry .. | .mergeStart .. | .mergeCommit .. | .bandRelease ..
  | .checkpoint .. | .journalCarrierWrite .. | .caddyBlockFailure .. => 6
  | .reclaimVictim .. | .compactionCommit .. | .staticWearLevel .. | .memberMoveSwitch ..
  | .scrubIntervalExpiry .. | .exhaustionCleared .. | .mediaQueueSelect .. | .retryLevelsDone .. => 7
  | .narrowFloorCleared .. | .carrierLostTimeout .. | .carrierReadmit .. | .rebuildStart .. | .rebuildSwitch ..
  | .lostClear .. => 8
  | .keyupdateReceive .. | .closeNotify .. | .cipherUnitComplete .. | .nsDisable .. | .cipherRetryComplete ..
  | .laneTestComplete .. | .clusterRebind .. | .nsCryptoErase .. | .cryptoEraseSwitch .. | .oldKeyZeroise ..
  | .escrowKek .. | .arrayKeyExport .. | .arrayKeyImport .. | .pskValue .. | .contextMiss ..
  | .entropyTestFailure .. | .entropySourceRecovery .. | .maskReseed .. => 9
  | .receiveGapTimeout .. | .mirrorLinkUp .. | .mirrorLinkDown .. | .heartbeat .. | .cycleRecord .. | .confirm ..
  | .fillRequest .. | .evict .. | .streamFill .. | .sectorData .. | .snapshot .. | .pairing ..
  | .mirrorRetransmitTimeout .. | .mirrorAckIdle .. | .cycleBoundary .. | .fencingTimeout .. | .heartbeatLoss ..
  | .faultPairAsserted .. | .faultLineWiring .. | .healthSignalMissing .. | .reserveAnswerDeadline ..
  | .rejoinStart .. | .rejoinRetry .. | .rejoinRequest .. | .swapReminder .. | .roleSwap .. | .quiesceDrained ..
  | .quiesceLimitExpiry .. | .fwActivate .. | .pairWaitExpiry .. | .forceSolo .. => 10
  | .carrierLinkUp .. | .carrierLinkDown .. | .carrierRecoveryTimeout .. | .carrierLinkNarrowed ..
  | .carrierReady .. | .carrierAdmitTimeout .. | .carrierIdentifyDone .. | .setLinkTagDone .. | .reserveDone ..
  | .reserveReadDone .. | .temperatureDone .. | .badEuListDone .. | .eventWaitDone .. | .carrierReadDone ..
  | .carrierProgramDone .. | .carrierEraseDone .. | .setCellModeDone .. | .markBadDone ..
  | .progressLimitExpiry .. | .mediaAgeLimitExpiry .. | .adminCompletionLimitExpiry .. | .tempPollExpiry .. => 11
  | .feedGood .. | .feedLow .. | .feedLost .. | .feedOvervoltage .. | .feedOvervoltageClear .. | .feedReverse ..
  | .feedReverseClear .. | .holdupSequenceEnd .. | .holdupRestart .. | .bayPresent .. | .baySeated ..
  | .baySeatingLost .. | .bayRemoved .. | .bayRampDone .. | .bayStartDeadline .. | .bayOvercurrent ..
  | .bayFastTrip .. | .bayPassTempSample .. | .bayOverBudget .. | .bayCooldownEnd .. | .bayDebounceEnd ..
  | .bayLock .. | .bayClear .. | .auxTrip .. | .auxCooldownEnd .. | .holdupTest .. | .holdupMeasurement .. => 12
  | .createIoSq .. | .createIoCq .. | .deleteIoSq .. | .deleteIoCq .. | .attachLinkUp .. | .attachLinkDown ..
  | .attPerstAssert .. | .hotReset .. | .functionLevelReset .. | .ccEnable .. | .ccDisable .. | .sqTailDoorbell ..
  | .cqHeadDoorbell .. | .winCommit .. | .peerWrite .. | .peerRead .. | .mboxDoorbell .. | .bmeClear ..
  | .bmeSet .. | .hostReadCompletion .. | .attachCompletionTimeout .. | .attachEnable .. => 13
  | .soloEntry .. | .resetNAssert .. | .resetRelease .. | .bootComplete .. | .bootWatchdog .. | .serviceEnable ..
  | .restart .. | .junctionOvertemp .. | .supplyOutOfRange .. | .mgmtWatchdog .. | .powerPolicy ..
  | .loadMeasurement .. | .idleGateExpiry .. | .elementWake .. | .managementWake .. | .engineItemStall ..
  | .engineSramError .. | .engineCodeCheck .. | .engineTestComplete .. | .selfTestEngine .. | .selfTestLane ..
  | .selfTestBay .. | .selfTestDone .. | .spareTestIntervalExpiry .. | .supplyMonitor .. | .slackCritical ..
  | .lifeAccounting .. | .junctionHigh .. | .repairClear .. | .deal .. | .alwaysOnDomainStop ..
  | .alwaysOnDomainStart .. => 14
  | .epquin .. | .dtlsHandshake .. | .sessionIdleTimeout .. | .get .. | .set .. | .getMulti .. | .setGroup ..
  | .subscribe .. | .samplePeriod .. | .notify .. | .configWrite .. | .configReset .. | .anchorCert ..
  | .attestNonce .. | .attestReport .. | .loadSlot .. | .loadData .. | .loadCommit .. | .eventLogFlush ..
  | .statCheckpoint .. | .ctrSnapshot .. | .ctrValue .. | .ctrControl .. => 15
  | .laneMargining .. => 17

/-- Every part. -/
def Part.all : List Part :=
    [.fresh, .out, .mode, .mgmt, .dict, .net, .conns, .cmd, .pools, .pot, .core, .egress, .cipher, .keys,
     .xlat, .media, .pair, .power, .bays, .attach, .repair]

/-- The parts a command may change, whatever its operands and outcome: every other part is as it was. The mode
brings the pot, its pool and the fault outputs with it. -/
def mayChange : Instr → List Part
  | .portUp .. | .pfcPause .. | .pfcPauseExpiry .. =>
    [.mgmt, .net]
  | .portDown .. =>
    [.out, .mode, .mgmt, .net, .pools, .pot, .pair]
  | .recal .. =>
    [.out, .mgmt, .net, .pair, .attach]
  | .recalComplete .. =>
    [.net]
  | .cageInsertion .. | .probeReport .. =>
    [.out, .mgmt, .net, .pair]
  | .groupConfig .. | .portEnable .. =>
    [.out, .mgmt, .dict, .net, .pair, .attach]
  | .groupMac .. =>
    [.out, .mode, .mgmt, .dict, .net, .conns, .cmd, .pools, .pot, .egress, .cipher, .xlat, .pair, .attach]
  | .frameReceive .. =>
    [.fresh, .out, .mgmt, .net, .pair]
  | .arpRequest .. | .neighborSolicitation .. | .roceInboundRdma .. =>
    [.egress]
  | .neighbourReply .. =>
    [.mgmt, .net, .pair]
  | .icmpEchoRequest .. =>
    [.net, .egress]
  | .packetTooBig .. | .tcpRetransmissionTimeout .. | .congestionNotification .. | .rateRecovery ..
  | .clusterRebind .. =>
    [.conns]
  | .soloEntry .. | .carrierReady .. =>
    [.out, .mgmt, .pools, .media, .pair]
  | .duplicateAddressDetectionEnd .. =>
    [.mgmt, .net, .conns, .cmd, .egress, .pair]
  | .probeIntervalExpiry .. =>
    [.mgmt, .net, .egress, .pair]
  | .dualDeliveryRestored .. | .rejoinStart .. | .rejoinRetry .. | .rejoinRequest .. =>
    [.fresh, .out, .mode, .mgmt, .cmd, .pools, .pot, .pair, .attach]
  | .tcpSyn .. | .roceCmRequest .. =>
    [.fresh, .mgmt, .net, .conns, .egress, .cipher, .pair]
  | .tcpSegment .. =>
    [.out, .mgmt, .conns, .pools, .egress, .pair]
  | .tcpAck .. =>
    [.mode, .mgmt, .conns, .cmd, .pools, .pot, .pair, .attach]
  | .tcpSendTimeout .. | .hostConnectionClose .. | .tlsRecord .. | .closeNotify .. | .roceAckTimeout ..
  | .receiveGapTimeout .. | .connect .. | .disconnect .. | .h2cData .. | .keepAliveExpired .. | .contextMiss .. =>
    [.mode, .mgmt, .conns, .cmd, .pools, .pot, .egress, .cipher, .xlat, .pair, .attach]
  | .tlsClientHello .. =>
    [.fresh, .mode, .mgmt, .conns, .cmd, .pools, .pot, .egress, .cipher, .xlat, .pair, .attach]
  | .keyupdateReceive .. | .keyupdateSend .. =>
    [.mgmt, .conns, .egress, .pair]
  | .roceSend .. =>
    [.mgmt, .conns, .pools, .egress, .pair]
  | .roceAck .. | .propertyGet .. | .propertySet .. | .getLogPage .. | .identify .. | .abort .. | .setFeatures ..
  | .getFeatures .. | .asynchronousEventRequest .. | .keepAlive .. | .invalidOpcode .. | .createIoSq ..
  | .createIoCq .. | .deleteIoSq .. | .deleteIoCq .. | .placementQueueReserve .. | .caddySlotRelease .. =>
    [.out, .mode, .mgmt, .conns, .cmd, .pools, .pot, .egress, .cipher, .xlat, .pair, .attach]
  | .roceReadResponse .. =>
    [.cmd, .cipher, .xlat]
  | .ceMarkedPacket .. =>
    [.conns, .egress]
  | .portPausedLong .. | .swapReminder .. | .junctionHigh .. | .dtlsHandshake .. | .sessionIdleTimeout ..
  | .eventLogFlush .. | .statCheckpoint .. =>
    [.mgmt]
  | .egressSelect .. =>
    [.out, .mode, .mgmt, .net, .conns, .cmd, .pools, .pot, .egress, .cipher, .xlat, .pair, .attach]
  | .flush .. | .read .. | .write .. | .writeZeroes .. | .datasetManagement .. | .admissionRetest ..
  | .commandStart .. | .granuleRequest .. | .releaseNotice .. | .rerequestTick .. | .cipherUnitComplete ..
  | .carrierLinkDown .. | .carrierRecoveryTimeout .. | .carrierReadmit .. | .cipherRetryComplete ..
  | .carrierAdmitTimeout .. | .carrierIdentifyDone .. | .setLinkTagDone .. | .temperatureDone ..
  | .badEuListDone .. | .retryLevelsDone .. | .eventWaitDone .. | .carrierReadDone .. | .carrierProgramDone ..
  | .carrierEraseDone .. | .setCellModeDone .. | .markBadDone .. | .progressLimitExpiry ..
  | .mediaAgeLimitExpiry .. =>
    [.out, .mode, .mgmt, .conns, .cmd, .pools, .pot, .egress, .cipher, .xlat, .media, .pair, .attach]
  | .refcountDecrement .. | .roleSwap .. | .junctionOvertemp .. | .supplyOutOfRange .. | .mgmtWatchdog ..
  | .slackCritical .. =>
    [.out, .mode, .mgmt, .cmd, .pools, .pot, .pair, .attach]
  | .coalesceWindowExpiry .. =>
    [.pot]
  | .evictionHand .. =>
    [.mode, .mgmt, .pools, .pot, .pair]
  | .potSize .. =>
    [.out, .mgmt, .dict, .pot, .pair, .attach]
  | .cellOffer .. | .creditReturn .. | .memoryReadRequest .. | .writeAcknowledgement .. | .voqStalled .. =>
    [.mgmt, .core]
  | .cellSlot .. =>
    [.mgmt, .core, .repair]
  | .format .. =>
    [.out, .mgmt, .pools, .xlat, .media, .pair, .attach]
  | .formatComplete .. | .lostClear .. =>
    [.out, .mgmt, .xlat, .pair, .attach]
  | .nsEnable .. | .nsDisable .. =>
    [.fresh, .out, .mode, .mgmt, .dict, .conns, .cmd, .pools, .pot, .egress, .keys, .xlat, .pair, .attach]
  | .nsWriteProtect .. =>
    [.out, .mgmt, .dict, .conns, .cmd, .egress, .pair, .attach]
  | .stripeGather .. | .logGatherWaitExpiry .. | .mergeStart .. | .bandRelease .. | .checkpoint ..
  | .reclaimVictim .. | .compactionCommit .. | .memberMoveSwitch .. | .scrubIntervalExpiry .. | .rebuildStart ..
  | .rebuildSwitch .. =>
    [.mgmt, .pools, .xlat, .media, .pair]
  | .fillWaitExpiry .. =>
    [.mgmt, .xlat, .pair]
  | .mergeQuietExpiry .. =>
    [.xlat]
  | .mergeCommit .. =>
    [.mgmt, .pools, .xlat, .pair]
  | .journalCarrierWrite .. =>
    [.mgmt, .xlat, .media]
  | .staticWearLevel .. =>
    [.mgmt, .pools, .xlat, .media]
  | .exhaustionCleared .. | .narrowFloorCleared .. =>
    [.out, .mgmt, .conns, .cmd, .egress, .media, .pair, .attach]
  | .mediaQueueSelect .. =>
    [.out, .mgmt, .media]
  | .carrierLinkUp .. =>
    [.mgmt, .pools, .xlat, .media, .pair, .repair]
  | .carrierLostTimeout .. =>
    [.mgmt, .media]
  | .laneTestComplete .. =>
    [.mgmt, .cipher, .repair]
  | .nsCryptoErase .. | .escrowKek .. | .arrayKeyImport .. | .pskValue .. =>
    [.out, .mgmt, .keys, .pair, .attach]
  | .cryptoEraseSwitch .. =>
    [.fresh, .mode, .mgmt, .cmd, .pools, .pot, .cipher, .keys, .xlat, .pair]
  | .oldKeyZeroise .. =>
    [.keys]
  | .arrayKeyExport .. | .epquin .. | .cycleBoundary .. | .fwActivate .. | .feedLost .. | .feedOvervoltage ..
  | .holdupSequenceEnd .. | .holdupRestart .. | .mboxDoorbell .. | .resetNAssert .. | .resetRelease ..
  | .bootWatchdog .. | .restart .. | .deal .. | .get .. | .set .. | .getMulti .. | .setGroup .. | .subscribe ..
  | .configWrite .. | .configReset .. | .attestNonce .. | .attestReport .. | .loadSlot .. | .loadData ..
  | .ctrSnapshot .. | .ctrValue .. | .ctrControl .. | .alwaysOnDomainStop .. =>
    Part.all
  | .entropyTestFailure .. =>
    [.mgmt, .cipher]
  | .entropySourceRecovery .. | .maskReseed .. =>
    [.cipher]
  | .mirrorLinkUp .. =>
    [.fresh, .out, .pair]
  | .mirrorLinkDown .. | .confirm .. | .evict .. | .mirrorRetransmitTimeout .. | .fencingTimeout ..
  | .heartbeatLoss .. | .faultPairAsserted .. | .quiesceDrained .. | .quiesceLimitExpiry .. =>
    [.out, .mode, .mgmt, .net, .conns, .cmd, .pools, .pot, .egress, .cipher, .xlat, .media, .pair, .attach]
  | .heartbeat .. | .mirrorAckIdle .. =>
    [.out, .pair]
  | .cycleRecord .. | .streamFill .. | .sectorData .. | .snapshot .. =>
    [.out, .mode, .mgmt, .dict, .net, .conns, .cmd, .pools, .pot, .egress, .cipher, .keys, .xlat, .media, .pair, .bays, .attach]
  | .fillRequest .. =>
    [.out, .mgmt, .pools, .xlat, .media, .pair]
  | .pairing .. | .reserveAnswerDeadline .. | .reserveDone .. | .reserveReadDone ..
  | .adminCompletionLimitExpiry .. =>
    [.fresh, .out, .mode, .mgmt, .net, .conns, .cmd, .pools, .pot, .egress, .cipher, .keys, .xlat, .media, .pair, .attach]
  | .faultLineWiring .. =>
    [.out, .mode, .mgmt, .cmd, .pools, .pot, .media, .pair, .attach]
  | .healthSignalMissing .. | .alwaysOnDomainStart .. =>
    [.mode, .pools, .pot, .pair]
  | .pairWaitExpiry .. =>
    [.out, .mode, .mgmt, .pools, .pot, .media, .pair]
  | .forceSolo .. =>
    [.out, .mgmt, .pools, .media, .pair, .attach]
  | .laneMargining .. | .carrierLinkNarrowed .. =>
    [.out, .mode, .mgmt, .conns, .cmd, .pools, .pot, .egress, .cipher, .xlat, .media, .pair, .attach, .repair]
  | .tempPollExpiry .. =>
    [.out, .mgmt, .pools, .media]
  | .feedGood .. | .feedLow .. | .feedReverse .. =>
    [.mgmt, .power]
  | .feedOvervoltageClear .. | .feedReverseClear .. =>
    [.power]
  | .bayPresent .. | .bayRemoved .. | .bayCooldownEnd .. | .bayDebounceEnd .. | .auxCooldownEnd .. =>
    [.bays]
  | .baySeated .. =>
    [.mgmt, .media, .bays, .repair]
  | .baySeatingLost .. | .bayRampDone .. | .bayStartDeadline .. | .bayOvercurrent .. | .bayFastTrip ..
  | .bayPassTempSample .. | .bayOverBudget .. | .auxTrip .. =>
    [.mgmt, .bays]
  | .bayLock .. =>
    [.out, .mgmt, .dict, .pair, .bays, .attach]
  | .bayClear .. =>
    [.out, .mgmt, .pair, .bays, .attach]
  | .holdupTest .. =>
    [.out, .mgmt, .pair, .power, .attach]
  | .holdupMeasurement .. =>
    [.mgmt, .power, .bays, .repair]
  | .attachLinkUp .. =>
    [.mgmt, .pools, .attach]
  | .attachLinkDown .. | .ccEnable .. | .winCommit .. =>
    [.mgmt, .attach]
  | .attPerstAssert .. | .hotReset .. =>
    [.mgmt, .cmd, .pools, .pot, .attach]
  | .functionLevelReset .. | .ccDisable .. =>
    [.cmd, .pools, .pot, .attach]
  | .sqTailDoorbell .. =>
    [.attach]
  | .cqHeadDoorbell .. =>
    [.out, .attach]
  | .peerWrite .. =>
    [.out, .mgmt, .attach]
  | .peerRead .. | .notify .. =>
    [.out, .mgmt]
  | .bmeClear .. =>
    [.mgmt, .cmd, .pot, .attach]
  | .bmeSet .. | .attachCompletionTimeout .. =>
    [.out, .mgmt, .conns, .cmd, .pools, .egress, .pair, .attach]
  | .hostReadCompletion .. =>
    [.out, .mgmt, .cmd, .cipher, .xlat, .attach]
  | .bootComplete .. =>
    [.out, .mode, .mgmt, .cmd, .pools, .pot, .xlat, .media, .pair, .attach]
  | .serviceEnable .. =>
    [.out, .mode, .mgmt, .dict, .net, .conns, .cmd, .pools, .pot, .egress, .cipher, .xlat, .media, .pair, .attach]
  | .powerPolicy .. =>
    [.out, .mode, .mgmt, .dict, .pair, .attach]
  | .loadMeasurement .. =>
    [.mode, .mgmt]
  | .idleGateExpiry .. | .elementWake .. | .managementWake .. =>
    [.mode]
  | .engineItemStall .. | .engineSramError .. | .engineCodeCheck .. =>
    [.out, .mode, .mgmt, .cmd, .pools, .pot, .pair, .attach, .repair]
  | .engineTestComplete .. | .supplyMonitor .. =>
    [.mgmt, .repair]
  | .selfTestEngine .. | .selfTestLane .. | .selfTestBay .. =>
    [.out, .mode, .mgmt, .cmd, .pools, .pot, .cipher, .pair, .bays, .attach, .repair]
  | .selfTestDone .. =>
    [.mgmt, .pools, .cipher, .bays, .repair]
  | .spareTestIntervalExpiry .. =>
    [.cipher, .repair]
  | .lifeAccounting .. =>
    [.repair]
  | .repairClear .. =>
    [.out, .mgmt, .media, .pair, .attach, .repair]
  | .samplePeriod .. =>
    [.fresh, .mgmt]
  | .anchorCert .. =>
    [.out, .mgmt, .dict, .pair, .attach]
  | .loadCommit .. =>
    [.out, .mgmt, .pair, .attach]
  | .attachEnable .. =>
    [.out, .mgmt, .dict, .cmd, .pools, .pot, .pair, .attach]
  | .caddyBlockFailure .. =>
    [.mgmt, .xlat, .repair]

/-- A part is the same in two states. -/
def Part.same (p : Part) (s u : State) : Prop :=
  match p with
  | .fresh => u.fresh = s.fresh
  | .out => u.out = s.out
  | .mode => u.mode = s.mode
  | .mgmt => u.mgmt = s.mgmt
  | .dict => u.dict = s.dict
  | .net => u.net = s.net
  | .conns => u.conns = s.conns
  | .cmd => u.cmd = s.cmd
  | .pools => u.pools = s.pools
  | .pot => u.pot = s.pot
  | .core => u.core = s.core
  | .egress => u.egress = s.egress
  | .cipher => u.cipher = s.cipher
  | .keys => u.keys = s.keys
  | .xlat => u.xlat = s.xlat
  | .media => u.media = s.media
  | .pair => u.pair = s.pair
  | .power => u.power = s.power
  | .bays => u.bays = s.bays
  | .attach => u.attach = s.attach
  | .repair => u.repair = s.repair

/-- Every part but the named ones is unchanged. -/
def OnlyChanges (l : List Part) (s u : State) : Prop := ∀ p : Part, p ∉ l → p.same s u

/-! ### When a command takes effect -/

/-- The state in which a request of a session is handled: the clock at the command's time, and the
session's idle time started again (15 R401). -/
def atSession (t : Time) (sess : Nat) (s : State) : State :=
  (advance t s).onMgmt fun m => { m with sessions := Tbl.upd m.sessions sess fun x =>
                                               { x with lastMsg := (advance t s).now } }

/-- A request of session `x` is heard: the path serves management in this mode and the pool MGMT grants a
granule (15 R407, 04 R100). -/
def Heard (sess : Nat) (x : Session) (s : State) : Prop :=
  Tbl.get? s.mgmt.sessions sess = some x ∧ reachable x.path s = true ∧ grants s poolMgmt 1 = true

/-- A write of session `x` to object `idx` is taken here: it is heard, it neither waits nor goes to the
active, the checks of 15 R405 pass with context `c`, and the object's own conditions `own` hold. -/
def WriteTaken (idx : Nat) (own : WCtx → State → EpStatus) (t : Time) (w : Write) (x : Session) (c : WCtx)
    (s : State) : Prop :=
  Heard w.sess x s ∧ inMode [.takeover] s = false ∧ forwardsTo idx s = false ∧
    checkSet w.sess x idx w.sub none w.val (atSession t w.sess s) = (.ok, some c) ∧
    own c (atSession t w.sess s) = .ok

/-- A frame of the partner is accepted: the link is up, its check holds and its SEQ is the next (10
R268). -/
def FrameTaken (h : MirHdr) (s : State) : Prop :=
  s.pair.link = 2 ∧ linkMode s = true ∧ h.checkOk = true ∧ h.seq = s.pair.rxSeq

/-- The event log of `u` holds, with the next SEQ of `s`, an event of this code, instance and value (15
R416). -/
def Logged (code inst value : Nat) (s u : State) : Prop :=
  ∃ e ∈ u.mgmt.log ++ u.mgmt.pendingLog,
    e.seq = s.mgmt.eventNext ∧ e.code = code ∧ e.instNo = inst ∧ e.value = value

/-! ### What a module sends -/

/-- The control queue of a port, if there is such a port (05 R130). -/
def ctrlFrames (u : State) (p : Nat) : Option (List (Nat × FrameHdr × HostMsg)) :=
  (atNat u.egress.ports p).map (·.ctrlQ)

/-- Message `m` of connection `k`, or of none, is put last in the control queue of port `p`, with its header. -/
def Answered (p k : Nat) (m : HostMsg) (s u : State) : Prop :=
  ctrlFrames u p = (ctrlFrames s p).map fun l => l ++ [(k, ctrlHdr p k m s, m)]

/-- The messages `l` are sent on connection `k`, in order: with a partner they are planned, alone they
join the connection's queue (02 R58). The numbers from `closingBase` on are those of ended connections. -/
def SentOn (k : Nat) (l : List HostMsg) (s u : State) : Prop :=
  if s.pair.paired then
    u.pair.planned.map (fun q => (q.conn, q.frame.msg)) =
      s.pair.planned.map (fun q => (q.conn, q.frame.msg)) ++ l.map fun m => (k, m)
  else k < closingBase →
    (connOf u k).map (fun y => y.sendQ.map (·.msg)) = (connOf s k).map fun y => y.sendQ.map (·.msg) ++ l

/-- A connection opens as number `k` with message `m`: planned with a partner, first in its queue alone. -/
def OpensWith (k : Nat) (m : HostMsg) (s u : State) : Prop :=
  if s.pair.paired then
    u.pair.planned.map (fun q => (q.conn, q.frame.msg)) = s.pair.planned.map (fun q => (q.conn, q.frame.msg)) ++ [(k, m)]
  else k < closingBase → (connOf u k).map (fun y => y.sendQ.map (·.msg)) = some [m]

/-- An entry of attach submission queue `q` is completed: its completion entry is written, or held until its
queue has room (13 R356, R361). -/
def AttachAnswered (q cid : Nat) (st : Status) (dw0 : Nat) (s u : State) : Prop :=
  Emit.attachCqe q cid st dw0 ∈ u.out.drop s.out.length ∨ (q, cid, st, dw0) ∈ u.attach.heldCqes

/-- The queue head that the next completion of connection `k` carries: one further, unless the host disabled SQ
flow control (03 R69). -/
def nextHead (k : Nat) (s : State) : Option Nat := sqhdOf k (bumpSqhd k s)

/-- An admin command is answered, with its data before it: on a connection to the address of its SGL, and the
completion invalidates the SGL's key where it asks for that (02 R52). -/
def AdminAnswered (a : AdmCmd) (st : Status) (dw0 : Nat) (data : Option (Nat × Bytes)) (s u : State) : Prop :=
  match a.src with
  | .fabric k =>
    SentOn k ((data.map fun d => HostMsg.adminData a.cid (destOf k a.sgl s) d.1 d.2).toList ++
      [.completion a.cid st dw0 (nextHead k s) (data.bind fun _ => invalOf k a.sgl s)]) s u
  | .attach _ => AttachAnswered 0 a.cid st dw0 s u ∧
    ∀ d, data = some d → Emit.attachAdmin a.cid d.1 d.2 ∈ u.out.drop s.out.length

/-- A completion of I/O command `c` on connection `k`. -/
def ioCpl (k : Nat) (c : IoCmd) (st : Status) (s : State) : HostMsg :=
  .completion c.cid st 0 (nextHead k s) (invalOf k c.sgl s)

/-- The module decides and is not in TAKEOVER, in which what hosts send is held (02 R56). -/
def Deciding (s : State) : Prop := decides s = true ∧ inMode [.takeover] s = false

/-- The next entry of attach submission queue `q` can be fetched (13 R356). -/
def EntryWaits (q : Nat) (s : State) : Prop :=
  attachRuns s = true ∧ ∃ x g, Tbl.get? s.attach.sqs q = some x ∧ x.gens.head? = some g

/-- An admin command runs: without FUSE, on a connection whose Connect has opened the admin queue of controller
`k`, with room in that queue and a CID that is not outstanding there, or on the attach admin queue (03 R64, R69,
R73; 13 R356). -/
def AdminTaken (a : AdmCmd) (k : Option Nat) (s : State) : Prop :=
  a.fuse = 0 ∧ match a.src with
  | .fabric c => Deciding s ∧ ∃ x id, connOf s c = some x ∧ x.ctrl = some id ∧ k = some id ∧ x.qid = 0 ∧
      overrun c x a.cid s = false
  | .attach q => q = 0 ∧ k = none ∧ EntryWaits 0 s

/-- An I/O command that passes the checks of 03 R69 and R92 for namespace `ns`, is the only one of its queue, and
is admitted and started at once (03 R69 to R72, R84, R85). -/
def IoTaken (o : Opc) (c : IoCmd) (ns host : Nat) (dealloc : Bool) (ranges : List (Nat × Nat)) (t : Time)
    (s : State) : Prop :=
  inMode [.solo, .active] s = true ∧ contextsFull s = false ∧
    (∀ p ∈ s.cmd.cmds, p.2.src ≠ c.src ∧ p.2.phase ≠ .held) ∧
    statusOf o c (subsysOf c.src s) dealloc ranges s = (.success, ns) ∧
    admission (cmdNew o c ns host none 0 0 0 ranges) (advance t s) = some .committed ∧
    match c.src with
    | .fabric k => ∃ x id, connOf s k = some x ∧ x.ctrl = some id ∧ x.qid ≠ 0 ∧ x.host = host ∧
        overrun k x c.cid s = false
    | .attach q => q ≠ 0 ∧ EntryWaits q s ∧ host = attachHost s ∧ c.bar2 = none

/-- Nothing that is under way depends on carrier `c`: what its rings and its queue hold are neither reads nor
programs, and no copy, no stripe and no fill is under way. -/
def NoWork (c : Nat) (s : State) : Prop :=
  (∀ m ∈ Tbl.vals (carOf s c).out ++ (carOf s c).queue, m.op ≠ .read ∧ m.op ≠ .program) ∧
    s.xlat.jobs = [] ∧ s.xlat.progs = [] ∧ s.xlat.fills = []

/-- Every member that a band has on carrier `c` is good. -/
def MembersGood (c : Nat) (s : State) : Prop :=
  ∀ p ∈ s.xlat.bands, ∀ m ∈ p.2.members, m.carrier = c → m.mstate = .good

/-- No connection is open and no command is held. -/
def Idle (s : State) : Prop := s.conns = [] ∧ s.cmd.cmds = []

/-- A command puts something on a port, a link or a pin. -/
def Puts (e : Emit) (s u : State) : Prop := e ∈ u.out.drop s.out.length

/-- A frame goes to the partner. -/
def PutsFrame (e : Emit) (s u : State) : Prop := ∃ h, Puts (.mirror h e) s u

/-! ### Bays (12 R333 to R336) -/

/-- A trip in ON: a cool-down with fewer than 3 retries in the last 60 s, else a latch; in both the fault's code
is reported (12 R333, R334). -/
def Trips (b code : Nat) (s u : State) : Prop :=
  if ((bayOf s b).retries.filter fun x => u.now < x + 60 * second).length < 3 then
    (bayOf u b).state = .cooldown ∧ Logged 0x6111 (b + 1) code s u
  else (bayOf u b).state = .latched ∧ Logged 0x6113 (b + 1) code s u

/-- A start fault: the bay latches, and the fault's code is reported (12 R335). -/
def StartFails (b code : Nat) (s u : State) : Prop :=
  (bayOf u b).state = .latched ∧ (bayOf u b).lastFault = code ∧ Logged 0x6112 (b + 1) code s u

/-- What a bay that is present does once seated: it starts, or stays locked (12 R333, R337). -/
def startOf (b : Nat) (s : State) : BayState := if bayLocked b s then .locked else .ramp

/-! ### Requests (15 R403 to R406) -/

/-- A request of session `x` runs at once: it is heard, the module is not in TAKEOVER, and its transaction is
neither answered nor executing (15 R404, R407). -/
def RequestRuns (sess trans : Nat) (x : Session) (s : State) : Prop :=
  Heard sess x s ∧ sess < tunnelKey ∧ inMode [.takeover] s = false ∧ (∀ k ∈ x.kept, k.trans ≠ trans) ∧
    executing sess trans s = none

/-- A SET of an object that is stored and brings nothing else passes every check, with context `c`. -/
def SetPasses (sess trans : Nat) (x : Session) (g : Nat) (it : Item) (c : WCtx) (s : State) : Prop :=
  forwardsTo it.index s = false ∧ staleGen g s = false ∧
    checkSet sess x it.index it.sub (some it.ty) it.val s = (.ok, some c) ∧ wholeCheck c s = .ok ∧
    storedObj c.obj = true ∧ scopeOf c.obj ≠ .session ∧
    ∀ a b, effectAfter { c with trans, req := .set g it } a b = b

end Sys2Proof.Machine
end

