-- ==== Sys2Proof/Certificates/Slice0/Obligations.lean ====
section
/-! DEFINITION. The statements of this model, for the provers: one command at a time, the invariants of every
step, and what each command leaves as it was. A statement that cites a rule by number alone formalises it; the
others rest on the rules they cite and on the entries of the assumption log they name. -/

open Sys2Proof Sys2Proof.Machine

/-! ### Every command, and every step -/

/-- A step takes the command at the front of the queue and runs it with the queue's rest; on an empty queue the
block idles (the model's choice, log entry 1). -/
def Obligations.StepRunsFront : Prop :=
  (∀ (c : Instr) (rest : List Instr) (s : State),
    step { s with pending := c :: rest } = exec c { s with pending := rest }) ∧
  (∀ s : State, s.pending = [] → step s = .next s)

/-- After reset: mode RESET with the cause power on, the fault pair asserted, no command, no connection and no
buffer, the partner unknown, every bay held off, and every object at its default (00 R6; 10 R281, R305; 12 R331;
14 R369, R396; 15 R399). It rests also on choices and readings of the model, log entries 1 and 9. -/
def Obligations.ResetValues : Prop :=
  State.reset.mode.mode = .reset ∧ State.reset.mode.resetCause = 1 ∧ State.reset.pair.faultOut = 0 ∧
  State.reset.pending = [] ∧ State.reset.conns = [] ∧ State.reset.cmd.cmds = [] ∧ State.reset.pot.bufs = [] ∧
  State.reset.pair.partnerMode = 255 ∧ (∀ b : Bay, (bayOf State.reset b.val).state = .heldOff) ∧
  (∀ idx sub r o, objOf idx = some o → dval idx sub r State.reset = o.default sub)

/-- The state after reset meets the invariant of the mode. -/
def Obligations.ResetSettled : Prop := Settled State.reset

/-- 10 R281, R282; 14 R368; 04 R115: whatever command a step runs, and whatever state it starts from, the fault
outputs agree with the mode and the health signal and the pot holds nothing in a mode whose pot is empty. A
queue that is empty changes nothing. It rests also on choices and readings of the model, log entry 1. -/
def Obligations.StepKeepsSettled : Prop :=
  ∀ s u : State, Settled s → step s = .next u → Settled u

/-- Every command takes effect in every state: it answers a next state, which is settled whatever the state
before it, and leaves the rest of the queue, the identity of the module and the order of time (the clock follows
the times the commands carry: the model's choice, log entry 60). -/
def Obligations.EveryCommandCompletes : Prop :=
  ∀ (c : Instr) (s : State), Completes (exec c s) fun u =>
    Settled u ∧ u.pending = s.pending ∧ u.ident = s.ident ∧ s.now ≤ u.now

/-! ### 02: ports, frames, transports -/

/-- After 02 R27, R29 to R31 and R61, under the conditions of each clause: PORT_UP leaves the port up. PORT_DOWN
leaves it down and not paused. A RECAL write of 1 that is taken leaves the port recalibrating, and RECAL_COMPLETE
leaves it not recalibrating. CAGE_INSERTION reads the cage and lets the group's application run if the group's code
is 3 or one of the codes read, and otherwise leaves it off and the group's ports down. A GROUP_CONFIG write that is
taken is stored, the group runs the code, its ports are down, its cage is read, and where the partner holds another
code the group's service ports are unconfirmed. A PORT_ENABLE write that is taken is stored, and 0 leaves the port
down. It rests also on choices and readings of the model, log entries 42 and 43. -/
def Obligations.PortRows : Prop :=
  -- PORT_UP
  (∀ (t : Time) (p : Port) (s : State),
    lanesOn s = true → portPresent p.val s = true → flag 0x3002 (p.val + 1) 0 s = true →
    (portOf s p.val).recal = false → (portOf s p.val).up = false →
    atNat s.net.appOk (p.val / 4) = some true →
    Completes (exec (.portUp t p) s) fun u => (portOf u p.val).up = true) ∧
  -- PORT_DOWN
  (∀ (t : Time) (p : Port) (s : State), (portOf s p.val).up = true →
    Completes (exec (.portDown t p) s) fun u =>
      (portOf u p.val).up = false ∧ (portOf u p.val).pauseUntil = none) ∧
  -- RECAL
  (∀ (t : Time) (w : Write) (x : Session) (c : WCtx) (s : State),
    WriteTaken 0x3005 recalCheck t w x c s → w.val = .num 1 →
    Completes (exec (.recal t w) s) fun u => (portOf u (w.sub - 1)).recal = true) ∧
  -- RECAL_COMPLETE
  (∀ (t : Time) (p : Port) (s : State),
    Completes (exec (.recalComplete t p) s) fun u => (portOf u p.val).recal = false) ∧
  -- CAGE_INSERTION
  (∀ (t : Time) (g : Group) (codes : List Nat) (s : State),
    inMode [.reset, .holdup] s = false →
    Completes (exec (.cageInsertion t g codes) s) fun u =>
      Emit.cageRead g.val ∈ u.out ∧
      ((atNat s.net.groupRun g.val).getD 0 = 3 ∨ (atNat s.net.groupRun g.val).getD 0 ∈ codes →
        atNat u.net.appOk g.val = some true) ∧
      (¬ ((atNat s.net.groupRun g.val).getD 0 = 3 ∨ (atNat s.net.groupRun g.val).getD 0 ∈ codes) →
        atNat u.net.appOk g.val = some false ∧
        ∀ p : Port, p.val / 4 = g.val → (portOf u p.val).up = false)) ∧
  -- GROUP_CONFIG
  (∀ (t : Time) (w : Write) (x : Session) (c : WCtx) (s : State),
    WriteTaken 0x3000 noCheck t w x c s →
    Completes (exec (.groupConfig t w) s) fun u =>
      dval 0x3000 w.sub 0 u = w.val ∧ atNat u.net.groupRun (w.sub - 1) = some w.val.toNat ∧
      Emit.cageRead (w.sub - 1) ∈ u.out ∧
      ∀ p : Port, p.val / 4 = w.sub - 1 → (portOf u p.val).up = false ∧
        ∀ n, s.pair.partnerGroups[w.sub - 1]? = some n → n ≠ w.val.toNat → p.val ∈ servicePorts s →
          (portOf u p.val).dual = 2) ∧
  -- PORT_ENABLE
  (∀ (t : Time) (w : Write) (x : Session) (c : WCtx) (s : State),
    WriteTaken 0x3002 noCheck t w x c s →
    Completes (exec (.portEnable t w) s) fun u =>
      dval 0x3002 w.sub 0 u = w.val ∧ (w.val.toNat = 0 → (portOf u (w.sub - 1)).up = false))

/-- After 02 R28, R32, R34, R35, R37, R38 and 10 R276, under the conditions of each clause: a GROUP_MAC write that is
taken is stored, and the port's service addresses are served exactly when the group MAC is not all zeros and the
module is in SOLO, ACTIVE or QUIESCED. A frame that passes the checks and carries payload of a host comes first in
the retention ring. A frame over uncorrectable codewords raises 0x3007 by their number and 0x3006 by the corrected
ones; another with a bad FCS raises 0x3008 by 1. An ARP request, a Neighbor Solicitation and an ICMP echo request
for an address the port answers for put the answer last in the port's control queue: the ARP reply and the
advertisement carry the group MAC, the advertisement with Override set and Router clear. A neighbour's reply comes
first in the neighbour table. A smaller path MTU is taken for a TCP connection. It rests also on choices and readings
of the model, log entries 17, 43, 60, 76 and 81. -/
def Obligations.FrameRows : Prop :=
  -- GROUP_MAC
  (∀ (t : Time) (w : Write) (x : Session) (c : WCtx) (s : State),
    WriteTaken 0x3010 groupMacCheck t w x c s →
    Completes (exec (.groupMac t w) s) fun u => dval 0x3010 w.sub 0 u = w.val ∧
      ∀ k : Fin 64, k.val ∈ svcsOf (w.sub - 1) s → atNat u.net.svcs k.val =
        some { served := !allZero w.val.octets && inMode [.solo, .active, .quiesced] s, dad := false }) ∧
  -- FRAME_RECEIVE, a payload frame
  (∀ (t : Time) (p : Port) (f : EthFrame) (conn pos : Nat) (b : Bytes) (s : State),
    (portOf s p.val).up = true → lanesOn s = true → f.fecBad = none → f.fcsOk = true →
    f.len ≤ dnat 0x3003 (p.val + 1) 0 s → f.tags < 2 → acceptsDst p.val f.dst s = true →
    f.body = .stream conn pos b → vlanOk p.val f s = true → inMode [.solo, .active, .quiesced] s = true →
    p.val ∈ servicePorts s → b.length ≤ retentionBytes →
    Completes (exec (.frameReceive t p f) s) fun u =>
      u.net.retention.head? = some (max s.now t, conn, pos, b)) ∧
  -- FRAME_RECEIVE, errors
  (∀ (t : Time) (p : Port) (f : EthFrame) (s : State),
    (portOf s p.val).up = true → lanesOn s = true →
    (∀ n, f.fecBad = some n → Completes (exec (.frameReceive t p f) s) fun u =>
      countOf 0x3007 (p.val + 1) u = countOf 0x3007 (p.val + 1) s + n ∧
        countOf 0x3006 (p.val + 1) u = countOf 0x3006 (p.val + 1) s + f.corrected) ∧
    (f.fecBad = none → f.fcsOk = false → Completes (exec (.frameReceive t p f) s) fun u =>
      countOf 0x3008 (p.val + 1) u = countOf 0x3008 (p.val + 1) s + 1)) ∧
  -- ARP_REQUEST
  (∀ (t : Time) (p : Port) (addr : Bytes) (s : State),
    transmits s = true → isV4 addr = true → servedAt p.val addr s = true →
    Completes (exec (.arpRequest t p addr) s) (Answered p.val 0 (.arpReply addr (groupMac p.val s)) (advance t s))) ∧
  -- NEIGHBOR_SOLICITATION
  (∀ (t : Time) (p : Port) (addr : Bytes) (solicited : Bool) (s : State),
    transmits s = true → holdsV6 p.val addr s = true →
    Completes (exec (.neighborSolicitation t p addr solicited) s)
      (Answered p.val 0 (.neighborAdvert addr (groupMac p.val s) solicited true false) (advance t s))) ∧
  -- NEIGHBOUR_REPLY
  (∀ (t : Time) (p : Port) (addr : Bytes) (mac : BitVec 48) (s : State), transmits s = true →
    Completes (exec (.neighbourReply t p addr mac) s) fun u =>
      u.net.neighbours.head? = some { port := p.val, addr, mac }) ∧
  -- ICMP_ECHO_REQUEST, fewer than 1,000 answered in the running second
  (∀ (t : Time) (p : Port) (addr : Bytes) (s : State),
    transmits s = true → servedAt p.val addr s = true → (portOf s p.val).echoCount < 1000 →
    Completes (exec (.icmpEchoRequest t p addr) s) (Answered p.val 0 (.echoReply addr) (advance t s))) ∧
  -- PACKET_TOO_BIG
  (∀ (t : Time) (k mtu : Nat) (x : Conn) (s : State),
    receives s = true → connOf s k = some x → x.info.kind = .tcp → mtu < x.pmtu →
    Completes (exec (.packetTooBig t k mtu) s) fun u => (connOf u k).map (·.pmtu) = some mtu)

/-- After 14 R369 and 10 R285; 02 R32, R36, R43 and R44; 05 R134 and R140, under the conditions of each clause:
SOLO_ENTRY starts a round for SOLO that asks every seated bay, and puts on the carrier port of each whose link is up
the compare-and-set from its recorded value, or the read of its value where none is recorded. The answer that
completes such a round with more than half of the seated bays brings SOLO. The end of duplicate address detection
leaves the address served, or on a conflict not served with event 0x3020. At a probe interval every probed port that
is up sends its next probe, and a probe that is still out counts as missed, the third in a row leaving the port
lost. A PROBE_REPORT counts the receipt of the probe that is out, the third in a row leaving the port confirmed
where the group codes do not differ, and a port reported down leaves it lost. DUAL_DELIVERY_RESTORED raises event
0x3011 on the active, and a module in COLD STANDBY enters REJOIN at step 1. A pause frame sets the end of the
pause, or with a time of 0 ends it; its end leaves the port unpaused, and a pause of 100 ms raises event 0x4301. It
rests also on choices and readings of the model, log entries 60, 61, 70 and 79. -/
def Obligations.DeliveryRows : Prop :=
  -- SOLO_ENTRY
  (∀ (t : Time) (s : State),
    mayServe s = true → s.mode.restarted = false → s.mode.holdIsolated = false → partnerServes s = false →
    s.pair.round = none →
    Completes (exec (.soloEntry t) s) fun u => u.pair.round = some .solo ∧ u.pair.asked = seatedBays s ∧
      ∀ b : Bay, (bayOf s b.val).seated = true → (carOf s b.val).linkUp = true →
        match Tbl.get? s.pair.reserved b.val with
        | some v => Emit.carrier b.val .reserve 0 0 0 0 0 0 [] [] v (nextValue s) ∈ u.out
        | none => Emit.carrier b.val .reserveRead 0 0 0 0 0 0 [] [] 0 0 ∈ u.out) ∧
  -- the answers that SOLO_ENTRY waits for
  (∀ (t : Time) (b : Bay) (prior : BitVec 64) (s : State),
    s.pair.round = some .solo → s.pair.asked = [b.val] → (carOf s b.val).asking.headD (nextValue s) = nextValue s →
    b.val ∉ s.pair.won → (seatedBays s).length < 2 * (s.pair.won.length + 1) →
    (∀ k : Bay, (carOf s k.val).state ≠ .lost ∧
      ((carOf s k.val).state = .inService → sameCarrier (carOf s k.val) = true)) →
    Completes (exec (.reserveDone t b .success prior) s) fun u => u.mode.mode = .solo) ∧
  -- DUPLICATE_ADDRESS_DETECTION_END
  (∀ (t : Time) (k : Fin 64) (conflict : Bool) (s : State),
    (atNat s.net.svcs k.val).map (·.dad) = some true →
    Completes (exec (.duplicateAddressDetectionEnd t k conflict) s) fun u =>
      atNat u.net.svcs k.val = some { served := !conflict, dad := false } ∧
        (conflict = true → Logged 0x3020 (k.val + 1) 0 s u)) ∧
  -- PROBE_INTERVAL_EXPIRY
  (∀ (t : Time) (p : Nat) (s : State),
    probing s = true → p ∈ servicePorts s → groupMacSet p s = true → (portOf s p).up = true →
    Completes (exec (.probeIntervalExpiry t) s) fun u =>
      (portOf u p).probeOut = true ∧ (portOf u p).probeSeq = (portOf s p).probeSeq + 1 ∧
      (∃ h, (0, h, HostMsg.probe s.ident.serial (p + 1) (portOf s p).probeSeq) ∈ (ctrlFrames u p).getD []) ∧
      ((portOf s p).probeOut = true →
        (portOf u p).probeMiss = (portOf s p).probeMiss + 1 ∧
          (2 ≤ (portOf s p).probeMiss → (portOf u p).dual = 3))) ∧
  -- PROBE_REPORT of receipts
  (∀ (t : Time) (h : MirHdr) (ports down : List Port) (p : Port) (s : State),
    FrameTaken h s → p ∈ ports → p ∉ down → (portOf s p.val).probeOut = true →
    Completes (exec (.probeReport t h ⟨ports, down⟩) s) fun u =>
      (portOf u p.val).probeOut = false ∧ (portOf u p.val).probeMiss = 0 ∧
      (portOf u p.val).probeOk = (portOf s p.val).probeOk + 1 ∧ (portOf u p.val).partnerUp = true ∧
      (2 ≤ (portOf s p.val).probeOk → groupsDiffer (p.val / 4) s = false → (portOf u p.val).dual = 1)) ∧
  -- PROBE_REPORT of a port that has gone down
  (∀ (t : Time) (h : MirHdr) (ports down : List Port) (p : Port) (s : State),
    FrameTaken h s → p ∈ down → probing s = true → p.val ∈ servicePorts s → groupMacSet p.val s = true →
    Completes (exec (.probeReport t h ⟨ports, down⟩) s) fun u =>
      (portOf u p.val).partnerUp = false ∧ (portOf u p.val).dual = 3) ∧
  -- DUAL_DELIVERY_RESTORED
  (∀ (t : Time) (s : State),
    (s.mode.mode = .active → s.pair.cold = true → s.pair.partnerKind ≠ 2 → confirmedLong (advance t s) = true →
      Completes (exec (.dualDeliveryRestored t) s) fun u => Logged 0x3011 0 1 s u) ∧
    (s.mode.mode = .coldStandby → s.pair.partnerKind ≠ 2 → entropyState s ≠ 2 →
      Completes (exec (.dualDeliveryRestored t) s) fun u =>
        u.mode.mode = .rejoin ∧ u.pair.rejoinPhase = 1)) ∧
  -- PFC_PAUSE
  (∀ (t : Time) (p : Port) (prio duration : Nat) (s : State),
    lanesOn s = true → (portOf s p.val).up = true → prio = dnat 0x3009 (p.val + 1) 0 s → prio < 8 →
    Completes (exec (.pfcPause t p prio duration) s) fun u =>
      (portOf u p.val).pauseUntil = if duration = 0 then none else some (max s.now t + duration)) ∧
  -- PFC_PAUSE_EXPIRY
  (∀ (t : Time) (p : Port) (e : Time) (s : State),
    (portOf s p.val).pauseUntil = some e → e ≤ max s.now t →
    Completes (exec (.pfcPauseExpiry t p) s) fun u =>
      (portOf u p.val).pauseUntil = none ∧ (portOf u p.val).pausedFrom = none) ∧
  -- PORT_PAUSED_LONG
  (∀ (t : Time) (p : Port) (e : Time) (s : State),
    (portOf s p.val).pausedFrom = some e → e + 100000000 ≤ max s.now t →
    Completes (exec (.portPausedLong t p) s) fun u => Logged 0x4301 (p.val + 1) (max s.now t - e) s u)

/-- After 02 R45, R47, R49 to R52, R55 and R57, 03 R82 and 10 R290, under the conditions of each clause: a TCP SYN on a
served address and listen port, within the limits, opens a half-open connection that takes its first position from
the free value of the initial sequence number and sends the SYN-ACK with the options both sides hold. A RoCE
connection request does the same with a REP that offers no responder resources. A ClientHello without a fault makes
TLS active with its PSK record and sends the server's messages with the key exchange preferred. A KeyUpdate received
changes the receiving secret and restarts its sequence; one due to be sent is sent, the sending secret changes and its
sequence restarts. A close_notify, a host's end, a send timeout with bytes not acknowledged and a gap that a host has
not filled each end the connection. It rests also on choices and readings of the model, log entries 2, 3, 13, 19, 31,
65 and 83. -/
def Obligations.ConnectionRows : Prop :=
  -- TCP_SYN
  (∀ (t : Time) (info : ConnInfo) (s : State),
    transmits s = true → svcServes info s = true →
    (info.listen = cfg 0x3102 s ∨ info.listen = cfg 0x3103 s) → connRefused info.src s = false →
    (s.conns.filter fun p => p.2.half).length < 1024 →
    Completes (exec (.tcpSyn t info) s) fun u =>
      (connOf u (Tbl.freeFrom s.conns 1 (s.conns.length + 1))).map
          (fun x => (x.half, x.info.kind, x.info.isn, x.rxNext)) =
        some (true, .tcp, Config.isn s.fresh, info.peerIsn + 1) ∧
      OpensWith (Tbl.freeFrom s.conns 1 (s.conns.length + 1))
        (.synAck (mssOffered info s) (if info.wscale then some 4 else none) info.sack info.tstamps
          (info.ecn && flag 0x3106 0 0 s)) s u) ∧
  -- ROCE_CM_REQUEST
  (∀ (t : Time) (info : ConnInfo) (s : State),
    transmits s = true → svcServes info s = true → connRefused info.src s = false →
    Completes (exec (.roceCmRequest t info) s) fun u =>
      (connOf u (Tbl.freeFrom s.conns 1 (s.conns.length + 1))).map
          (fun x => (x.half, x.info.kind, x.info.isn, x.rxNext)) =
        some (false, .rdma, Config.isn s.fresh, info.peerIsn + 1) ∧
      OpensWith (Tbl.freeFrom s.conns 1 (s.conns.length + 1)) (.rep 0) s u) ∧
  -- TLS_CLIENT_HELLO
  (∀ (t : Time) (k : Nat) (h : Hello) (x : Conn) (s : State),
    decides s = true → connOf s k = some x → x.info.kind = .tcp → x.tls.active = false → cfg 0x3110 s ≠ 0 →
    helloFault h s = none →
    Completes (exec (.tlsClientHello t k (some h)) s) fun u =>
      (connOf u k).map (fun y => (y.tls.active, y.tls.pskRec)) = some (true, h.pskRec.getD 0) ∧
      SentOn k [.serverHello (h.pskRec.getD 0) ((keyExOf h).getD .pskKe)] s u) ∧
  -- KEYUPDATE_RECEIVE
  (∀ (t : Time) (k : Nat) (req : Bool) (x : Conn) (s : State),
    receives s = true → connOf s k = some x → x.tls.active = true →
    Completes (exec (.keyupdateReceive t k req) s) fun u =>
      (connOf u k).map (fun y => (y.tls.rxSeq, y.tls.chain.rxSecret)) =
        some (0, Config.nextSecret x.tls.chain.rxSecret)) ∧
  -- KEYUPDATE_SEND
  (∀ (t : Time) (k : Nat) (x : Conn) (s : State),
    decides s = true → connOf s k = some x → x.tls.active = true → cfg 0x3111 s ≤ x.tls.txRecords →
    x.tls.kuPlanned = false →
    Completes (exec (.keyupdateSend t k) s) fun u =>
      (connOf u k).map (fun y => (y.tls.txSeq, y.tls.kuPlanned, y.tls.chain.txSecret)) =
        some (0, true, Config.nextSecret x.tls.chain.txSecret) ∧
      SentOn k [.keyUpdate] s u) ∧
  -- CLOSE_NOTIFY
  (∀ (t : Time) (k : Nat) (x : Conn) (s : State),
    decides s = true → connOf s k = some x → x.tls.active = true →
    Completes (exec (.closeNotify t k) s) fun u => connOf u k = none) ∧
  -- HOST_CONNECTION_CLOSE
  (∀ (t : Time) (k : Nat) (x : Conn) (s : State), decides s = true → connOf s k = some x →
    Completes (exec (.hostConnectionClose t k) s) fun u => connOf u k = none) ∧
  -- TCP_SEND_TIMEOUT
  (∀ (t : Time) (k : Nat) (x : Conn) (s : State),
    transmits s = true → connOf s k = some x → x.txUna < x.txNext →
    Completes (exec (.tcpSendTimeout t k) s) fun u => connOf u k = none) ∧
  -- RECEIVE_GAP_TIMEOUT
  (∀ (t : Time) (k : Nat) (x : Conn) (s : State),
    transmits s = true → connOf s k = some x → x.missing ≠ [] →
    Completes (exec (.receiveGapTimeout t k) s) fun u => connOf u k = none)

/-- After 02 R45, R46, R49, R52 and R53, under the conditions of each clause: a TCP segment in order moves the receive
position past it, opens the connection, and is acknowledged where the module transmits. A TCP acknowledgement sets
the last position acknowledged and the host's window; a RoCE one the last position. After a RoCE NAK for a sequence
error, after a retransmission timer and after a RoCE acknowledgement timeout what follows the last position
acknowledged is first in the queue again and counts as a retry; the timer leaves a window of one segment and twice
the timeout within its limits, and the eighth RoCE timeout ends the connection. A RoCE Send in order moves the
receive position by its packets. Inbound RDMA is answered with a Remote Access Error NAK. A TLS record of 16,384
bytes or less and a known type goes to a unit of the connection's cluster; a longer one, one past the count limit
and one of another type end the connection. It rests also on choices and readings of the model, log entries 13, 15,
36, 63 and 85. -/
def Obligations.StreamRows : Prop :=
  -- TCP_SEGMENT
  (∀ (t : Time) (k len : Nat) (capsule : Bool) (x : Conn) (s : State),
    receives s = true → inMode [.takeover] s = false → connOf s k = some x → contextsFull s = false →
    grants s poolTcpRx (granulesFor len) = true → 0 < len → len ≤ cfg 0x3105 s → x.ooo = [] →
    Completes (exec (.tcpSegment t k x.rxNext len capsule) s) fun u =>
      (connOf u k).map (fun y => (y.rxNext, y.half)) = some (x.rxNext + len, false) ∧
      (transmits s = true → x.info.kind = .tcp →
        Answered x.info.port k (.ack (x.rxNext + len) []) (advance t s) u)) ∧
  -- TCP_ACK
  (∀ (t : Time) (k pos wnd : Nat) (sack : List (Nat × Nat)) (x : Conn) (s : State),
    receives s = true → connOf s k = some x → x.txUna ≤ pos → pos ≤ x.txNext →
    Completes (exec (.tcpAck t k ⟨pos, wnd, sack⟩) s) fun u =>
      (connOf u k).map (fun y => (y.txUna, y.tcp.wnd)) = some (pos, wnd)) ∧
  -- ROCE_ACK
  (∀ (t : Time) (k psn : Nat) (x : Conn) (s : State),
    receives s = true → connOf s k = some x → x.txUna ≤ psn + 1 → psn + 1 ≤ x.txNext →
    Completes (exec (.roceAck t k ⟨psn, none⟩) s) fun u => (connOf u k).map (·.txUna) = some (psn + 1)) ∧
  -- ROCE_ACK, a sequence error
  (∀ (t : Time) (k : Nat) (x : Conn) (s : State),
    decides s = true → connOf s k = some x → x.txUna < x.txNext → x.retries < 7 → (∀ r ∈ x.refs, x.txUna < r.1) →
    Completes (exec (.roceAck t k ⟨x.txUna, some .sequence⟩) s) fun u =>
      (connOf u k).map (fun y => (y.txUna, y.sendQ.head?.map (·.msg), y.retries)) =
        some (x.txUna, some (.retransmit x.txUna), x.retries + 1)) ∧
  -- TCP_RETRANSMISSION_TIMEOUT
  (∀ (t : Time) (k : Nat) (x : Conn) (e : Time) (s : State),
    transmits s = true → connOf s k = some x → x.info.kind = .tcp → x.tcp.timer = some e → e ≤ max s.now t →
    x.txUna < x.tcp.sent →
    Completes (exec (.tcpRetransmissionTimeout t k) s) fun u =>
      (connOf u k).map (fun y => (y.sendQ.head?.map (·.msg), y.retries, y.tcp.cwnd, y.tcp.rto)) =
        some (some (.retransmit x.txUna), x.retries + 1, segMax x s, rtoClamp (2 * x.tcp.rto) s)) ∧
  -- ROCE_ACK_TIMEOUT: seven retries, then the end
  (∀ (t : Time) (k : Nat) (x : Conn) (s : State),
    transmits s = true → connOf s k = some x → x.info.kind = .rdma → x.txUna < x.txNext →
    Completes (exec (.roceAckTimeout t k) s) fun u =>
      if x.retries < 7 then
        (connOf u k).map (fun y => (y.sendQ.head?.map (·.msg), y.retries)) =
          some (some (.retransmit x.txUna), x.retries + 1)
      else connOf u k = none) ∧
  -- ROCE_SEND
  (∀ (t : Time) (k len : Nat) (x : Conn) (s : State),
    receives s = true → inMode [.takeover] s = false → connOf s k = some x → x.info.kind = .rdma →
    contextsFull s = false → grants s poolRoceRx (granulesFor len) = true →
    Completes (exec (.roceSend t k x.rxNext len) s) fun u =>
      (connOf u k).map (·.rxNext) = some (x.rxNext + max 1 ((len + cfg 0x3130 s - 1) / cfg 0x3130 s))) ∧
  -- ROCE_INBOUND_RDMA
  (∀ (t : Time) (k : Nat) (x : Conn) (s : State),
    transmits s = true → connOf s k = some x → x.info.kind = .rdma →
    Completes (exec (.roceInboundRdma t k) s) (Answered x.info.port k .remoteAccessNak (advance t s))) ∧
  -- TLS_RECORD
  (∀ (t : Time) (k ctype len c : Nat) (fault : Option Nat) (x : Conn) (s : State),
    decides s = true → connOf s k = some x → x.tls.active = true →
    (len ≤ 16384 → x.tls.rxRecords < 16777216 → ctype ∈ [21, 22, 23] → clusterFrom s (tlsCluster k x) = some c →
      Completes (exec (.tlsRecord t k ctype ⟨len, fault⟩) s) fun u =>
        (Tbl.get? u.cipher.units s.cipher.nextUnit).map (·.op) = some (.ingress k ctype len fault)) ∧
    (16384 < len ∨ 16777216 ≤ x.tls.rxRecords ∨ ctype ∉ [20, 21, 22, 23] →
      Completes (exec (.tlsRecord t k ctype ⟨len, fault⟩) s) fun u => connOf u k = none))

/-- After 02 R53 and R54, 04 R100, 05 R130, R131 and R134, under the conditions of each clause: data of an RDMA Read
takes its place in its command. A congestion mark is answered with a notification packet at most once in the
interval. A notification lowers the rate cap by its percentage, and 55 µs without one raise it by a step, or end it
at port rate. A port that is up sends the first control frame that is ready; without one, a single connection with an
eligible frame sends its next frame, whole or in part, or on TLS gives it to a unit of its cluster. It rests also on
choices and readings of the model, log entries 16 and 60. -/
def Obligations.RateRows : Prop :=
  -- ROCE_READ_RESPONSE
  (∀ (t : Time) (k ttag off id i : Nat) (sectors : List Bytes) (c : Cmd) (s : State),
    receives s = true → cmdOf s id = some c →
    (s.cmd.cmds.find? fun p => p.2.src = .fabric k && p.2.ttag = ttag && p.2.phase = .receiving) = some (id, c) →
    i < sectors.length → off + i < c.data.length →
    Completes (exec (.roceReadResponse t k ttag off sectors) s) fun u =>
      (cmdOf u id).bind (fun y => y.data[off + i]?) = some sectors[i]?) ∧
  -- CE_MARKED_PACKET
  (∀ (t : Time) (k : Nat) (x : Conn) (s : State),
    transmits s = true → connOf s k = some x → x.info.kind = .rdma →
    (∀ a, x.cnpAt = some a → a + cfg 0x3133 s ≤ max s.now t) →
    Completes (exec (.ceMarkedPacket t k) s) fun u =>
      (connOf u k).map (·.cnpAt) = some (some (max s.now t)) ∧ Answered x.info.port k .cnp (advance t s) u) ∧
  -- CONGESTION_NOTIFICATION
  (∀ (t : Time) (k : Nat) (x : Conn) (s : State),
    transmits s = true → connOf s k = some x → x.info.kind = .rdma →
    (∀ a, x.cutAt = some a → a + cfg 0x3133 s ≤ max s.now t) →
    Completes (exec (.congestionNotification t k) s) fun u =>
      (connOf u k).map (fun y => (y.cap, y.cutAt)) =
        some (some (x.cap.getD (portRate x.info.port s) * (100 - cfg 0x3131 s) / 100), some (max s.now t))) ∧
  -- RATE_RECOVERY
  (∀ (t : Time) (k r : Nat) (x : Conn) (s : State), connOf s k = some x → x.cap = some r →
    Completes (exec (.rateRecovery t k) s) fun u =>
      (connOf u k).map (·.cap) = some
        (if portRate x.info.port s ≤ r + cfg 0x3132 s then none else some (r + cfg 0x3132 s))) ∧
  -- EGRESS_SELECT, a control frame
  (∀ (t : Time) (p : Port) (q : Nat × FrameHdr × HostMsg) (rest : List (Nat × FrameHdr × HostMsg)) (s : State),
    transmits s = true → (portOf s p.val).up = true → ctrlFrames s p.val = some (q :: rest) →
    ctrlReady q s = true → grants s poolControl 1 = true →
    Completes (exec (.egressSelect t p) s) fun u =>
      ctrlFrames u p.val = some rest ∧ u.out = s.out ++ [.host q.2.1 p.val q.1 q.2.2 none]) ∧
  -- EGRESS_SELECT, a frame of a connection
  (∀ (t : Time) (p : Port) (k : Nat) (x : Conn) (f : TxFrame) (rest : List TxFrame) (s : State),
    transmits s = true → (portOf s p.val).up = true → ctrlFrames s p.val = some [] →
    (atNat s.egress.ports p.val).map (·.pipeline) = some 0 → queuedOn p.val s = [(k, x)] → connOf s k = some x →
    k < closingBase → x.sendQ = f :: rest → egEligible x (advance t s) = true → grants s poolControl 1 = true →
    (f.sent = 0 → planMatches f = true) →
    (x.tls.active = false →
      Completes (exec (.egressSelect t p) s) fun u =>
        if f.len ≤ f.sent + nextBytes x f s then
          Emit.host (connHdr x.info (advance t s)) p.val k f.msg f.prot ∈ u.out
        else
          Emit.hostSegment (connHdr x.info (advance t s)) p.val k f.sent (nextBytes x f s) f.prot ∈ u.out) ∧
    (∀ c, x.tls.active = true → x.info.kind = .tcp → clusterFrom s (tlsCluster k x) = some c →
      Completes (exec (.egressSelect t p) s) fun u =>
        (Tbl.get? u.cipher.units s.cipher.nextUnit).map (·.op) =
          some (.egress p.val k f.sent (nextBytes x f s) (decide (f.len ≤ f.sent + nextBytes x f s)) f.msg
            (connHdr x.info (advance t s)) f.prot)))

/-! ### 03: commands of hosts -/

/-- After 03 R64, R65, R68, R69, R81 and R87, under the conditions of each clause: a Connect that passes the checks of
R64 and R68 joins its queue to a controller, a new one for the admin queue and the named one for an I/O queue, and
answers with its ID and the queue head. One that fails a check marks the connection, raises event 0x3201 and answers
with the status and the field. Property Get answers CAP, VS, CC and CSTS, Property Set of CC stores it, and both
refuse another offset. Disconnect ends the connection, and alone the module's last messages are its completion and a
FIN, or a DREQ on RDMA. Keep Alive starts the controller's timer again, and a controller whose timer has run out is
deleted with its admin connection. It rests also on choices and readings of the model, log entries 4, 13, 18, 19, 60,
62, 65 and 86. -/
def Obligations.ControllerRows : Prop :=
  -- CONNECT
  (∀ (t : Time) (k cid : Nat) (subnqn hostnqn : Bytes) (qid sqsize cntlid kato : Nat) (sqFlow : Bool) (x : Conn)
      (a : Assoc) (s : State),
    Deciding s → connOf s k = some x → x.ctrl = none → connectNames x.info.listen subnqn hostnqn s = .ok a →
    connectLimits a hostnqn qid sqsize cntlid s = none →
    Completes (exec (.connect t k cid subnqn hostnqn qid ⟨sqsize, sqFlow⟩ cntlid kato) s) fun u =>
      let id := if qid = 0 then Tbl.freeFrom s.cmd.ctrls 1 (s.cmd.ctrls.length + 1) else cntlid
      let head := if sqsize = 0 then 0 else 1
      (connOf u k).map (fun y => (y.ctrl, y.qid, y.sqsize, y.sqhd)) = some (some id, qid, sqsize, head) ∧
      (qid = 0 → (Tbl.get? u.cmd.ctrls id).map (fun c => (c.subsys, c.host, c.admin, c.kato)) =
        some (a.subsys, a.host, k, katoOf kato)) ∧
      (qid ≠ 0 → (Tbl.get? u.cmd.ctrls id).map (·.ioq) =
        (Tbl.get? s.cmd.ctrls id).map fun c => c.ioq ++ [(qid, k)]) ∧
      SentOn k [.connectResp cid .success id .none (if sqFlow then some head else none)] s u) ∧
  -- CONNECT that fails
  (∀ (t : Time) (k cid : Nat) (subnqn hostnqn : Bytes) (qid sqsize cntlid kato : Nat) (sqFlow : Bool) (x : Conn)
      (e : Status × ConnectField) (s : State),
    Deciding s → connOf s k = some x → x.ctrl = none →
    (connectNames x.info.listen subnqn hostnqn s = .error e ∨
      ∃ a, connectNames x.info.listen subnqn hostnqn s = .ok a ∧
        connectLimits a hostnqn qid sqsize cntlid s = some e) →
    Completes (exec (.connect t k cid subnqn hostnqn qid ⟨sqsize, sqFlow⟩ cntlid kato) s) fun u =>
      (connOf u k).map (·.connectFailed) = some true ∧ Logged 0x3201 k 0 s u ∧
      SentOn k [.connectResp cid e.1 0 e.2 (nextHead k s)] s u) ∧
  -- PROPERTY_GET
  (∀ (t : Time) (k cid id offset : Nat) (c : Ctrl) (s : State),
    AdminTaken (fabricsCmd k cid) (some id) s → Tbl.get? s.cmd.ctrls id = some c →
    (∀ v, (offset, v) ∈ [(0x00, capValue), (0x08, Config.property 8), (0x14, c.cc), (0x1C, c.csts)] →
      Completes (exec (.propertyGet t k cid offset) s) (AdminAnswered (fabricsCmd k cid) .success v none s)) ∧
    (offset ∉ [0x00, 0x08, 0x14, 0x1C] →
      Completes (exec (.propertyGet t k cid offset) s)
        (AdminAnswered (fabricsCmd k cid) .invalidField 0 none s))) ∧
  -- PROPERTY_SET
  (∀ (t : Time) (k cid id offset v : Nat) (c : Ctrl) (s : State),
    AdminTaken (fabricsCmd k cid) (some id) s → Tbl.get? s.cmd.ctrls id = some c →
    Completes (exec (.propertySet t k cid offset v) s) fun u =>
      if offset = 0x14 then
        (Tbl.get? u.cmd.ctrls id).map (·.cc) = some (BitVec.ofNat 32 v).toNat ∧
          AdminAnswered (fabricsCmd k cid) .success 0 none s u
      else AdminAnswered (fabricsCmd k cid) .invalidField 0 none s u) ∧
  -- DISCONNECT
  (∀ (t : Time) (k cid id : Nat) (x : Conn) (s : State),
    Deciding s → transmits s = true → connOf s k = some x → x.ctrl = some id → overrun k x cid s = false →
    Completes (exec (.disconnect t k cid) s) fun u =>
      connOf u k = none ∧
      (s.pair.paired = false → (∀ p ∈ s.conns, p.2.refs = [] ∧ p.1 < closingBase) →
        ∃ n c, Tbl.get? u.egress.closing n = some c ∧ c.x.sendQ.map (·.msg) = x.sendQ.map (·.msg) ++
          [.completion cid .success 0 (nextHead k s) none, if x.info.kind = .tcp then .fin else .dreq])) ∧
  -- KEEP_ALIVE
  (∀ (t : Time) (a : AdmCmd) (id : Nat) (c : Ctrl) (s : State),
    AdminTaken a (some id) s → Tbl.get? s.cmd.ctrls id = some c →
    Completes (exec (.keepAlive t a.toAdmHead a.cid) s) fun u =>
      (Tbl.get? u.cmd.ctrls id).map (·.lastCmd) = some (max s.now t) ∧ AdminAnswered a .success 0 none s u) ∧
  -- KEEP_ALIVE_EXPIRED
  (∀ (t : Time) (id : Nat) (c : Ctrl) (s : State),
    transmits s = true → Tbl.get? s.cmd.ctrls id = some c → c.kato ≠ 0 →
    c.lastCmd + c.kato * 1000000 ≤ max s.now t →
    Completes (exec (.keepAliveExpired t id) s) fun u =>
      Tbl.get? u.cmd.ctrls id = none ∧ connOf u c.admin = none)

/-- After 03 R66, R67, R78, R79, R87, R89, R90 and R91 and 13 R356 and R363, under the conditions of each clause: Get
Log Page answers a fabric controller with its error, SMART, changed-namespace and effects pages, a discovery
controller with the discovery log and the attach controller with its own pages and the ANA page; an unsupported page
and a bad descriptor fail with their status. Identify answers with the structure its CNS names or fails with the
status of the check. An Abort of a command not yet dispatched ends it and clears bit 0, of any other command sets bit
0, and beyond eight in progress fails. Set Features stores the event configuration and, on a fabric controller, the
Keep Alive Timeout, answers the number of queues, and refuses SV and any other feature. Get Features answers the
current values, the capabilities for SEL 11b, and refuses any other SEL and feature. It rests also on choices and
readings of the model, log entries 4, 13, 61, 86 and 88. -/
def Obligations.AdminRows : Prop :=
  -- GET_LOG_PAGE of a fabric controller
  (∀ (t : Time) (a : AdmCmd) (id lid : Nat) (retain : Bool) (b : Bytes) (c : Ctrl) (s : State),
    AdminTaken a (some id) s → Tbl.get? s.cmd.ctrls id = some c → c.discovery = false →
    ((lid, b) ∈ [(1, errorPage c.errLog), (2, smartPage c.subsys c.unitsRead c.unitsWritten s),
        (4, changedPage c.changedNs), (5, effectsPage)] →
      Completes (exec (.getLogPage t a.toAdmHead a.cid lid retain) s) fun u =>
        if badSgl a then AdminAnswered a .sglType 0 none s u
        else AdminAnswered a .success 0 (some (lid, b)) s u ∧
          (lid = 4 → (Tbl.get? u.cmd.ctrls id).map (·.changedNs) = some (if retain then c.changedNs else []))) ∧
    (lid ∉ [1, 2, 4, 5] → Completes (exec (.getLogPage t a.toAdmHead a.cid lid retain) s)
      (AdminAnswered a .invalidLogPage 0 none s))) ∧
  -- GET_LOG_PAGE of a discovery controller
  (∀ (t : Time) (a : AdmCmd) (id : Nat) (retain : Bool) (c : Ctrl) (s : State),
    AdminTaken a (some id) s → Tbl.get? s.cmd.ctrls id = some c → c.discovery = true → badSgl a = false →
    Completes (exec (.getLogPage t a.toAdmHead a.cid 0x70 retain) s)
      (AdminAnswered a .success 0 (some (0x70, discoveryPage c.host s)) s)) ∧
  -- GET_LOG_PAGE of the attach controller
  (∀ (t : Time) (a : AdmCmd) (lid : Nat) (retain : Bool) (b : Bytes) (s : State), AdminTaken a none s →
    (lid, b) ∈ [(1, errorPage s.attach.errLog),
      (2, smartPage (cfg 0x6203 s) s.attach.unitsRead s.attach.unitsWritten s),
      (4, changedPage s.attach.changedNs), (5, effectsPage), (0x0C, anaPage s)] →
    Completes (exec (.getLogPage t a.toAdmHead a.cid lid retain) s) (AdminAnswered a .success 0 (some (lid, b)) s)) ∧
  -- IDENTIFY
  (∀ (t : Time) (a : AdmCmd) (k : Option Nat) (cns nsid : Nat) (s : State), AdminTaken a k s →
    (∀ st, identifyPage a k cns nsid s = .error st →
      Completes (exec (.identify t a.toAdmHead a.cid cns nsid) s) (AdminAnswered a st 0 none s)) ∧
    (∀ b, identifyPage a k cns nsid s = .ok b →
      Completes (exec (.identify t a.toAdmHead a.cid cns nsid) s) fun u =>
        if badSgl a then AdminAnswered a .sglType 0 none s u
        else AdminAnswered a .success 0 (some (cns + 0x100, b)) s u)) ∧
  -- ABORT: not yet dispatched, dispatched or unknown, and beyond eight in progress
  (∀ (t : Time) (a : AdmCmd) (k id sqid target : Nat) (y : Ctrl) (q : Nat × Nat) (s : State),
    a.src = .fabric k → AdminTaken a (some id) s → Tbl.get? s.cmd.ctrls id = some y →
    y.ioq.find? (fun q => q.1 = sqid) = some q → sqid ≠ 0 →
    let mine := s.cmd.cmds.find? fun p =>
      decide (p.2.src = .fabric q.2) && p.2.cid = target && !dispatched p.2.phase
    (y.aborts + y.heldAborts.length < 8 → ∀ n c, mine = some (n, c) → cmdOf s n = some c → q.2 ≠ k →
      s.pair.paired = false → c.bmeHeld = false →
      Completes (exec (.abort t a.toAdmHead a.cid sqid target) s) fun u =>
        cmdOf u n = none ∧ AdminAnswered a .success 0 none s u) ∧
    (y.aborts + y.heldAborts.length < 8 → mine = none →
      Completes (exec (.abort t a.toAdmHead a.cid sqid target) s) (AdminAnswered a .success 1 none s)) ∧
    (8 ≤ y.aborts + y.heldAborts.length →
      Completes (exec (.abort t a.toAdmHead a.cid sqid target) s) (AdminAnswered a .abortLimit 0 none s))) ∧
  -- SET_FEATURES
  (∀ (t : Time) (a : AdmCmd) (k : Option Nat) (dw : Nat) (s : State), AdminTaken a k s →
    (∀ id c, k = some id → Tbl.get? s.cmd.ctrls id = some c →
      (Completes (exec (.setFeatures t a.toAdmHead a.cid 0x0B false dw) s) fun u =>
        (Tbl.get? u.cmd.ctrls id).map (·.aenConfig) = some dw ∧ AdminAnswered a .success 0 none s u) ∧
      (Completes (exec (.setFeatures t a.toAdmHead a.cid 0x0F false dw) s) fun u =>
        (Tbl.get? u.cmd.ctrls id).map (·.kato) = some (katoOf dw) ∧ AdminAnswered a .success 0 none s u)) ∧
    (k = none → Completes (exec (.setFeatures t a.toAdmHead a.cid 0x0B false dw) s) fun u =>
      u.attach.features = dw ∧ AdminAnswered a .success 0 none s u) ∧
    Completes (exec (.setFeatures t a.toAdmHead a.cid 0x07 false dw) s) (AdminAnswered a .success (63 + 63 * 65536) none s) ∧
    (∀ fid, Completes (exec (.setFeatures t a.toAdmHead a.cid fid true dw) s) (AdminAnswered a .notSaveable 0 none s)) ∧
    (∀ fid, fid ∉ [0x07, 0x0B, 0x0F] →
      Completes (exec (.setFeatures t a.toAdmHead a.cid fid false dw) s) (AdminAnswered a .invalidField 0 none s))) ∧
  -- GET_FEATURES
  (∀ (t : Time) (a : AdmCmd) (k : Option Nat) (fid v : Nat) (s : State), AdminTaken a k s →
    (fid, v) ∈ [(0x07, 63 + 63 * 65536),
      (0x0B, ((k.bind fun i => Tbl.get? s.cmd.ctrls i).map (·.aenConfig)).getD s.attach.features)] ∨
      (k.isSome ∧ fid = 0x0F ∧ v = ((k.bind fun i => Tbl.get? s.cmd.ctrls i).map (·.kato)).getD 0) →
    Completes (exec (.getFeatures t a.toAdmHead a.cid fid 0) s) (AdminAnswered a .success v none s) ∧
    Completes (exec (.getFeatures t a.toAdmHead a.cid fid 3) s) (AdminAnswered a .success 4 none s) ∧
    ∀ sel : BitVec 3, sel ≠ 0 → sel ≠ 3 →
      Completes (exec (.getFeatures t a.toAdmHead a.cid fid sel) s) (AdminAnswered a .invalidField 0 none s)) ∧
  (∀ (t : Time) (a : AdmCmd) (k : Option Nat) (fid : Nat) (sel : BitVec 3) (s : State), AdminTaken a k s →
    fid ∉ [0x07, 0x0B, 0x0F] →
    Completes (exec (.getFeatures t a.toAdmHead a.cid fid sel) s) (AdminAnswered a .invalidField 0 none s))

/-- After 03 R67, R87 and R88 and 13 R356 and R361, under the conditions of each clause: an Asynchronous Event Request
waits when nothing is owed to the host, completes a waiting one when a changed namespace is, and beyond four fails.
An opcode that R87 and R88 do not list completes with 01h. The attach controller creates a submission queue on a
completion queue that exists, creates a completion queue, deletes a submission queue, and deletes a completion queue
that no submission queue uses; a number or a size out of range, a queue that exists already or does not, and one that
is in use fail with their status. It rests also on choices and readings of the model, log entries 13, 54 and 61. -/
def Obligations.QueueRows : Prop :=
  -- ASYNCHRONOUS_EVENT_REQUEST of a fabric controller
  (∀ (t : Time) (a : AdmCmd) (id : Nat) (c : Ctrl) (s : State),
    AdminTaken a (some id) s → Tbl.get? s.cmd.ctrls id = some c →
    (c.aers.length < 4 → c.changedNs = [] → c.logChanged = false →
      Completes (exec (.asynchronousEventRequest t a.toAdmHead a.cid) s) fun u =>
        (Tbl.get? u.cmd.ctrls id).map (·.aers) = some (c.aers ++ [a.cid])) ∧
    (c.aers.length < 4 → c.changedNs ≠ [] → c.nsNotice = false → noticeOn c.aenConfig 8 = true →
      Completes (exec (.asynchronousEventRequest t a.toAdmHead a.cid) s) fun u =>
        (Tbl.get? u.cmd.ctrls id).map (fun y => (y.aers, y.nsNotice)) = some ((c.aers ++ [a.cid]).tail, true)) ∧
    (4 ≤ c.aers.length → Completes (exec (.asynchronousEventRequest t a.toAdmHead a.cid) s) (AdminAnswered a .aerLimit 0 none s))) ∧
  -- ASYNCHRONOUS_EVENT_REQUEST of the attach controller
  (∀ (t : Time) (a : AdmCmd) (s : State), AdminTaken a none s →
    (s.attach.aers.length < 4 → s.attach.changedNs = [] → s.attach.anaChanged = false →
      Completes (exec (.asynchronousEventRequest t a.toAdmHead a.cid) s) fun u =>
        u.attach.aers = s.attach.aers ++ [a.cid]) ∧
    (4 ≤ s.attach.aers.length →
      Completes (exec (.asynchronousEventRequest t a.toAdmHead a.cid) s) (AdminAnswered a .aerLimit 0 none s))) ∧
  -- INVALID_OPCODE
  (∀ (t : Time) (k cid id : Nat) (opc : BitVec 8) (s : State), AdminTaken (fabricsCmd k cid) (some id) s →
    Completes (exec (.invalidOpcode t (.fabric k) cid opc) s)
      (AdminAnswered (fabricsCmd k cid) .invalidOpcode 0 none s)) ∧
  (∀ (t : Time) (q cid : Nat) (opc : BitVec 8) (s : State), EntryWaits q s →
    Completes (exec (.invalidOpcode t (.attach q) cid opc) s) (AttachAnswered q cid .invalidOpcode 0 s)) ∧
  -- CREATE_IO_SQ and CREATE_IO_CQ
  (∀ (t : Time) (cid qid size cqid : Nat) (s : State), EntryWaits 0 s →
    (∀ st, queueStatus qid size = some st →
      Completes (exec (.createIoSq t cid qid size cqid) s) (AttachAnswered 0 cid st 0 s) ∧
      Completes (exec (.createIoCq t cid qid size) s) (AttachAnswered 0 cid st 0 s)) ∧
    (queueStatus qid size = none →
      (Completes (exec (.createIoSq t cid qid size cqid) s) fun u =>
        if Tbl.has s.attach.sqs qid || !Tbl.has s.attach.cqs cqid || cqid = 0 then
          AttachAnswered 0 cid .invalidQueue 0 s u
        else Tbl.get? u.attach.sqs qid = some (attQNew size cqid) ∧ AttachAnswered 0 cid .success 0 s u) ∧
      (Completes (exec (.createIoCq t cid qid size) s) fun u =>
        if Tbl.has s.attach.cqs qid then AttachAnswered 0 cid .invalidQueue 0 s u
        else (Tbl.get? u.attach.cqs qid).map (·.size) = some size ∧ AttachAnswered 0 cid .success 0 s u))) ∧
  -- DELETE_IO_SQ and DELETE_IO_CQ
  (∀ (t : Time) (cid qid : Nat) (s : State), EntryWaits 0 s →
    (Completes (exec (.deleteIoSq t cid qid) s) fun u =>
      if qid = 0 || !Tbl.has s.attach.sqs qid then AttachAnswered 0 cid .invalidQueue 0 s u
      else Tbl.get? u.attach.sqs qid = none ∧ AttachAnswered 0 cid .success 0 s u) ∧
    (Completes (exec (.deleteIoCq t cid qid) s) fun u =>
      if qid = 0 || !Tbl.has s.attach.cqs qid || (s.attach.sqs.any fun p => p.2.cq = qid) then
        AttachAnswered 0 cid .invalidQueue 0 s u
      else Tbl.get? u.attach.cqs qid = none ∧ AttachAnswered 0 cid .success 0 s u))

/-- After 03 R69, R71, R76 and R92, 04 R101, R105 and R109, 06 R156 and R173, and 13 R353 and R363, under the conditions
of each clause: a command of a connection that fails a check completes with its status. A Flush completes with
success. A Read whose buffer is not filling sends its data and then its completion; one without a buffer and without
granules joins the miss queue. A Write with granules is sent an R2T or an RDMA Read for its whole length, or on the
attach port waits for its data with its granules; one with its data in the capsule joins the placement queue. A Write
Zeroes of whole LBs is done, and one without a whole LB joins the placement queue. A deallocation is done. Data of an
R2T takes its place in its command, and for an unknown tag ends the connection. It rests also on choices and readings
of the model, log entries 16, 33 and 52. -/
def Obligations.IoRows : Prop :=
  -- a check fails
  (∀ (t : Time) (k : Nat) (c : IoCmd) (dealloc : Bool) (ranges : List (Nat × Nat)) (x : Conn) (id : Nat)
      (s : State),
    c.src = .fabric k → inMode [.solo, .active, .quiesced] s = true → connOf s k = some x → x.ctrl = some id →
    x.qid ≠ 0 → contextsFull s = false → overrun k x c.cid s = false → (∀ p ∈ s.cmd.cmds, p.2.src ≠ c.src) →
    let answers := fun (o : Opc) (d : Bool) (r : List (Nat × Nat)) (u : State) =>
      SentOn k [ioCpl k c (statusOf o c (subsysOf c.src s) d r s).1 s] s u
    let fails := fun (o : Opc) (d : Bool) (r : List (Nat × Nat)) =>
      (statusOf o c (subsysOf c.src s) d r s).1 ≠ .success
    (fails .flush false [] → Completes (exec (.flush t c) s) (answers .flush false [])) ∧
    (fails .read false [] → Completes (exec (.read t c) s) (answers .read false [])) ∧
    (fails .write false [] → Completes (exec (.write t c none) s) (answers .write false [])) ∧
    (fails .writeZeroes false [] → Completes (exec (.writeZeroes t c) s) (answers .writeZeroes false [])) ∧
    (ranges = [] ∨ dealloc = true → fails .dsm dealloc ranges →
      Completes (exec (.datasetManagement t c dealloc ranges) s) (answers .dsm dealloc ranges))) ∧
  -- FLUSH
  (∀ (t : Time) (c : IoCmd) (ns host : Nat) (s : State), IoTaken .flush c ns host false [] t s →
    Completes (exec (.flush t c) s) fun u => match c.src with
      | .fabric k => SentOn k [ioCpl k c .success s] s u
      | .attach q => AttachAnswered q c.cid .success 0 s u) ∧
  -- READ of a buffer that is not filling
  (∀ (t : Time) (c : IoCmd) (ns host k b : Nat) (buf : Buf) (s : State),
    c.src = .fabric k → IoTaken .read c ns host false [] t s →
    matching (cmdNew .read c ns host none 0 0 0 []) (advance t s) = some (b, buf) → buf.state ≠ .filling →
    (∀ q ∈ s.pair.planned, q.conn ≠ k) →
    Completes (exec (.read t c) s) fun u =>
      SentOn k [.data c.cid (destOf k c.sgl s) (buf.data.map (·.getD zeroSector)), ioCpl k c .success s] s u) ∧
  -- READ that waits for granules of the pot
  (∀ (t : Time) (c : IoCmd) (ns host : Nat) (s : State),
    IoTaken .read c ns host false [] t s →
    matching (cmdNew .read c ns host none 0 0 0 []) (advance t s) = none → grants s poolPour c.nlb = false →
    Completes (exec (.read t c) s) fun u => s.cmd.nextCmd ∈ u.pot.missQ) ∧
  -- WRITE, solicited
  (∀ (t : Time) (c : IoCmd) (ns host : Nat) (s : State),
    IoTaken .write c ns host false [] t s → exhaustedNow s = false → s.media.floorRo = false → noBand8 s = false →
    s.cmd.solicitQ = [] →
    (∀ k x, c.src = .fabric k → connOf s k = some x → (x.info.kind = .rdma → 0 < x.info.respRes) →
      grants (giveBack (rxPool x) (x.capsules.headD 0) s) poolWriteIn c.nlb = true →
      Completes (exec (.write t c none) s) fun u =>
        SentOn k [if x.info.kind = .rdma then .rdmaRead c.cid s.cmd.nextTag c.sgl.addr c.sgl.key (c.nlb * 4096)
          else .r2t c.cid s.cmd.nextTag 0 (c.nlb * 4096)] s u) ∧
    (∀ q, c.src = .attach q → grants s poolAttach c.nlb = true →
      Completes (exec (.write t c none) s) fun u =>
        (cmdOf u s.cmd.nextCmd).map (fun y => (y.phase, y.granules)) = some (.receiving, c.nlb))) ∧
  -- WRITE with its data in the capsule
  (∀ (t : Time) (c : IoCmd) (ns host k : Nat) (x : Conn) (l : List Bytes) (s : State),
    c.src = .fabric k → IoTaken .write c ns host false [] t s → exhaustedNow s = false →
    s.media.floorRo = false → noBand8 s = false → connOf s k = some x → l.length ≤ 2 →
    (x.capsules = [] → grants s (rxPool x) l.length = true) →
    Completes (exec (.write t c (some l)) s) fun u => u.xlat.placeQ = s.xlat.placeQ ++ [s.cmd.nextCmd]) ∧
  -- WRITE_ZEROES: whole LBs only, and with a part of an LB
  (∀ (t : Time) (c : IoCmd) (ns host : Nat) (s : State),
    IoTaken .writeZeroes c ns host false [] t s → exhaustedNow s = false → s.media.floorRo = false →
    noBand8 s = false →
    (partLbs c.slba c.nlb s = [] → Completes (exec (.writeZeroes t c) s) fun u =>
      (cmdOf u s.cmd.nextCmd).map (fun y => (y.phase, y.status)) = some (.completing, .success)) ∧
    (partLbs c.slba c.nlb s ≠ [] → wholeLbs ns c.slba c.nlb s = [] → Completes (exec (.writeZeroes t c) s) fun u =>
      s.cmd.nextCmd ∈ u.xlat.placeQ)) ∧
  -- DATASET_MANAGEMENT
  (∀ (t : Time) (c : IoCmd) (ns host : Nat) (ranges : List (Nat × Nat)) (s : State),
    IoTaken .dsm c ns host true ranges t s →
    Completes (exec (.datasetManagement t c true ranges) s) fun u =>
      (cmdOf u s.cmd.nextCmd).map (fun y => (y.phase, y.status)) = some (.completing, .success)) ∧
  -- H2C_DATA of an outstanding tag, and of one that is not
  (∀ (t : Time) (k ttag off : Nat) (sectors : List Bytes) (x : Conn) (s : State),
    Deciding s → connOf s k = some x →
    let hit := s.cmd.cmds.find? fun p =>
      decide (p.2.src = .fabric k) && p.2.ttag = ttag && decide (p.2.phase = .receiving)
    (∀ n c i, hit = some (n, c) → cmdOf s n = some c → off + sectors.length ≤ c.nlb → i < sectors.length →
      off + i < c.data.length →
      Completes (exec (.h2cData t k ttag off sectors) s) fun u =>
        (cmdOf u n).bind (fun y => y.data[off + i]?) = some sectors[i]?) ∧
    (hit = none → Completes (exec (.h2cData t k ttag off sectors) s) fun u => connOf u k = none))

/-- After 03 R72, R84 and R85, under the conditions of each clause: ADMISSION_RETEST admits the one held command, whose
buckets allow it and whose order lets it start, and COMMAND_START starts the one waiting command of its queue whose
order lets it start; being a Flush, it then completes with success. It rests also on choices and readings of the
model, log entries 60 and 78. -/
def Obligations.AdmissionRows : Prop :=
  -- ADMISSION_RETEST
  (∀ (t : Time) (n k : Nat) (c : Cmd) (x : Conn) (s : State),
    inMode [.solo, .active] s = true → s.cmd.cmds.filter (fun p => p.2.phase = .held) = [(n, c)] →
    cmdOf s n = some c → c.src = .fabric k → connOf s k = some x → c.opc = .flush → c.status = .success →
    c.orphan = false → c.bmeHeld = false → (admission c (advance t s)).isSome → startable n c s = true →
    Completes (exec (.admissionRetest t) s) fun u =>
      SentOn k [.completion c.cid .success 0 (nextHead k s) (invalOf k c.sgl s)] s u) ∧
  -- COMMAND_START
  (∀ (t : Time) (n k : Nat) (c : Cmd) (x : Conn) (s : State),
    inMode [.solo, .active] s = true →
    s.cmd.cmds.filter (fun p => decide (p.2.src = c.src) && decide (p.2.phase = .waiting)) = [(n, c)] →
    cmdOf s n = some c → c.src = .fabric k → connOf s k = some x → c.opc = .flush → c.status = .success →
    c.orphan = false → c.bmeHeld = false → startable n c s = true →
    Completes (exec (.commandStart t c.src) s) fun u =>
      SentOn k [.completion c.cid .success 0 (nextHead k s) (invalOf k c.sgl s)] s u)

/-! ### 04: granules and the pot -/

/-- 04 R98: a request for up to 2,048 granules that no waiting read or write stands behind is granted whole, its
pool's use then higher by it, when the pot region has as many free, or for another pool when its cap and the granules
free beyond what the other pools' kitties still claim allow it; otherwise it is refused, its pool's use unchanged and
its refusals counted. No other pool's use changes. -/
def Obligations.GranuleRequestRule : Prop :=
  ∀ (t : Time) (p : PoolNo) (n : Nat) (s : State),
    s.cmd.solicitQ = [] → s.pot.missQ = [] → s.mode.mode.potEmpty = false → 1 ≤ n → n ≤ 2048 →
    let used := fun q => poolUsed s q
    let free := 3145728 - ((List.range 15).map fun i => used (i + 1)).sum
    let reserveOther := ((List.range 15).map fun i =>
      if i + 1 = p.val then 0 else dnat 0x4000 (i + 2) 0 s - used (i + 1)).sum
    let granted : Prop := if p.val = 0 then n ≤ cfg 0x4100 s * 256 - used 0
      else used p.val + n ≤ dnat 0x4001 (p.val + 1) 0 s ∧ n + reserveOther ≤ free
    Completes (exec (.granuleRequest t p n) s) fun u =>
      (granted → poolUsed u p.val = used p.val + n ∧ u.mgmt.counts = s.mgmt.counts) ∧
      (¬ granted → poolUsed u p.val = used p.val ∧
        countOf 0x4003 (p.val + 1) u = countOf 0x4003 (p.val + 1) s + 1) ∧
      ∀ q, q ≠ p.val → poolUsed u q = used q

/-- After 04 R100 to R102, R105, R106, R112 and R114, under the conditions of each clause: GRANULE_REQUEST for the head
of a port's solicitation queue solicits its data with its granules. RELEASE_NOTICE of the pot's pool, and
REREQUEST_TICK, attach the head of the miss queue to the buffer that is being filled for it; RELEASE_NOTICE of
WRITE_IN solicits the data of the one write that waits. REFCOUNT_DECREMENT lowers a count above 1, releases a buffer
at 1 with its granules, and at 0 enters SAFE with cause 1. COALESCE_WINDOW_EXPIRY closes an entry whose window has
passed. EVICTION_HAND below both watermarks evicts the buffer at the hand that only the pot holds and whose
frequency is 0. A POT_SIZE write that is taken and that the pot fits is stored and is the pot region's size. It rests
also on choices and readings of the model, log entries 43, 60 and 77. -/
def Obligations.PotRows : Prop :=
  -- GRANULE_REQUEST: the head of a port's solicitation queue
  (∀ (t : Time) (n id k : Nat) (c : Cmd) (s : State),
    ((List.range 32).filterMap fun p => (solicitOf p s).head?).find?
      (fun id => ((cmdOf s id).map (·.nlb)) = some n) = some id →
    cmdOf s id = some c → c.src = .fabric k → grants s poolWriteIn c.nlb = true →
    Completes (exec (.granuleRequest t ⟨3, by decide⟩ n) s) fun u =>
      (cmdOf u id).map (fun y => (y.phase, y.granules)) = some (.receiving, n)) ∧
  -- RELEASE_NOTICE of the pot's pool, and REREQUEST_TICK
  (∀ (t : Time) (id b : Nat) (c : Cmd) (buf : Buf) (s : State),
    inMode [.solo, .active, .quiesced] s = true → s.pot.missQ = [id] → cmdOf s id = some c →
    matching c (advance t s) = some (b, buf) → Tbl.get? s.pot.bufs b = some buf → buf.state = .filling →
    (Completes (exec (.releaseNotice t ⟨0, by decide⟩) s) fun u =>
      u.pot.missQ = [] ∧
      (Tbl.get? u.pot.bufs b).map (fun y => (y.attached, y.count)) =
        some (buf.attached ++ [id], buf.count + 1)) ∧
    (s.cmd.solicitQ = [] → s.xlat.jobs = [] → s.xlat.progs = [] → s.media.recons = [] →
      Completes (exec (.rerequestTick t) s) fun u =>
        u.pot.missQ = [] ∧
        (Tbl.get? u.pot.bufs b).map (fun y => (y.attached, y.count)) =
          some (buf.attached ++ [id], buf.count + 1))) ∧
  -- RELEASE_NOTICE of WRITE_IN
  (∀ (t : Time) (id k : Nat) (c : Cmd) (x : Conn) (s : State),
    inMode [.solo, .active] s = true → s.cmd.solicitQ = [id] → cmdOf s id = some c → c.src = .fabric k →
    connOf s k = some x → x.info.port < 32 → maySolicit c s = true → grants s poolWriteIn c.nlb = true →
    Completes (exec (.releaseNotice t ⟨3, by decide⟩) s) fun u =>
      (cmdOf u id).map (fun y => (y.phase, y.granules)) = some (.receiving, c.nlb)) ∧
  -- REFCOUNT_DECREMENT
  (∀ (t : Time) (b : Nat) (s : State), inMode [.solo, .active, .quiesced] s = true →
    (∀ buf, Tbl.get? s.pot.bufs b = some buf → 2 ≤ buf.count →
      Completes (exec (.refcountDecrement t b) s) fun u =>
        (Tbl.get? u.pot.bufs b).map (·.count) = some (buf.count - 1)) ∧
    (∀ buf, Tbl.get? s.pot.bufs b = some buf → buf.count = 1 →
      Completes (exec (.refcountDecrement t b) s) fun u =>
        Tbl.get? u.pot.bufs b = none ∧ poolUsed u poolPour = poolUsed s poolPour - buf.len) ∧
    (∀ buf, Tbl.get? s.pot.bufs b = some buf → buf.count = 0 →
      Completes (exec (.refcountDecrement t b) s) fun u =>
        u.mode.mode = .safe ∧ u.mode.safeCause = 1)) ∧
  -- COALESCE_WINDOW_EXPIRY
  (∀ (t : Time) (b : Nat) (buf : Buf) (s : State), s.mode.mode.potEmpty = false →
    Tbl.get? s.pot.bufs b = some buf → buf.openedAt + cfg 0x4101 s ≤ max s.now t →
    Completes (exec (.coalesceWindowExpiry t b) s) fun u =>
      Tbl.get? u.pot.bufs b = some { buf with open_ := false }) ∧
  -- EVICTION_HAND
  (∀ (t : Time) (b : Nat) (buf : Buf) (s : State),
    pourFree s < cfg 0x4104 s → pourFree s < cfg 0x4105 s → s.pot.hand = some b →
    Tbl.get? s.pot.bufs b = some buf → buf.count = 1 → buf.f = 0 →
    Completes (exec (.evictionHand t) s) fun u => Tbl.get? u.pot.bufs b = none) ∧
  -- POT_SIZE
  (∀ (t : Time) (w : Write) (x : Session) (c : WCtx) (s : State),
    WriteTaken 0x4100 noCheck t w x c s → poolUsed s poolPour ≤ w.val.toNat * 256 →
    Completes (exec (.potSize t w) s) fun u =>
      dval 0x4100 w.sub 0 u = w.val ∧ u.pot.region = w.val.toNat * 256)

/-- After 02 R50, 05 R131 and 09 R242 to R245 and R249, under the conditions of each clause: a unit whose results agree
leaves the engine, and its ciphertext takes its place in the write or its plaintext its place in the read's buffer.
A record received that opens moves the receive sequence, and one with a handshake fault ends the connection. A part
of a record sent leaves the port's pipeline and the port. A unit whose key slot fails its check stays, with event
0x5307. Results that differ are counted against both lanes and the unit is held with both checksums. It rests also on
choices and readings of the model, log entries 2, 12, 63 and 64. -/
def Obligations.CipherUnitRows : Prop :=
  (∀ (t : Time) (id : Nat) (v : CUnit) (a b : BitVec 64) (ta tb : Bool) (s : State),
    Tbl.get? s.cipher.units id = some v → v.held = false → unitAgrees v a b ta tb = true →
    -- a sector of a write, others of it not yet compared
    (∀ n i j c, v.op = .write n i → cmdOf s n = some c → c.phase = .encrypting → i < c.enc.length → j ≠ i →
      c.enc[j]? = some none →
      Completes (exec (.cipherUnitComplete t id a b ta tb true) s) fun u =>
        (cmdOf u n).map (·.enc[i]?) =
          some (some (some (Config.xtsEncrypt (nsKeyOf v.ns v.oldKey s) (tweak v.ns v.lba) v.input))) ∧
        Tbl.get? u.cipher.units id = none) ∧
    -- a sector of a read
    (∀ n i j buf, v.op = .hostRead n i → Tbl.get? s.pot.bufs n = some buf → buf.state = .filling →
      i < buf.data.length → j ≠ i → buf.data[j]? = some none → s.mode.mode.potEmpty = false →
      Completes (exec (.cipherUnitComplete t id a b ta tb true) s) fun u =>
        (Tbl.get? u.pot.bufs n).map (·.data[i]?) =
          some (some (some (Config.xtsDecrypt (nsKeyOf v.ns v.oldKey s) (tweak v.ns v.lba) v.input))) ∧
        Tbl.get? u.cipher.units id = none) ∧
    -- a record received
    (∀ k ct len fault x, v.op = .ingress k ct len fault → k ∈ s.cipher.resident → recordBefore id v s = false →
      connOf s k = some x → ta = true →
      (ingressFault x ct fault = none →
        Completes (exec (.cipherUnitComplete t id a b ta tb true) s) fun u =>
          (connOf u k).map (·.tls.rxSeq) = some (x.tls.rxSeq + 1)) ∧
      (∀ code, ingressFault x ct fault = some code → decides s = true →
        Completes (exec (.cipherUnitComplete t id a b ta tb true) s) fun u => connOf u k = none)) ∧
    -- a part of a record sent
    (∀ p k off len last m h pr q x, v.op = .egress p k off len last m h pr → k ∈ s.cipher.resident →
      recordBefore id v s = false → flowOf s k = some x → transmits s = true → atNat s.egress.ports p = some q →
      Completes (exec (.cipherUnitComplete t id a b ta tb true) s) fun u =>
        (atNat u.egress.ports p).map (·.pipeline) = some (q.pipeline - 1) ∧
        (if last then Emit.host h p k m pr ∈ u.out else Emit.hostSegment h p k off len pr ∈ u.out))) ∧
  -- a key slot that fails its check
  (∀ (t : Time) (id : Nat) (v : CUnit) (a b : BitVec 64) (ta tb : Bool) (s : State),
    Tbl.get? s.cipher.units id = some v → v.held = false → unitConn v = none →
    Completes (exec (.cipherUnitComplete t id a b ta tb false) s) fun u =>
      u.cipher.units = s.cipher.units ∧ Logged 0x5307 v.ns v.ns s u) ∧
  -- results that differ
  (∀ (t : Time) (id : Nat) (v : CUnit) (a b : BitVec 64) (ta tb : Bool) (s : State),
    Tbl.get? s.cipher.units id = some v → v.held = false → unitConn v = none → v.laneA ≠ v.laneB → a ≠ b →
    2 ≤ (retryLanes v s).length →
    Completes (exec (.cipherUnitComplete t id a b ta tb true) s) fun u =>
      (Tbl.get? u.cipher.units id).map (fun y => (y.held, y.sumA, y.sumB)) = some (true, a, b) ∧
      countOf 0x5301 (v.laneA + 1) u = countOf 0x5301 (v.laneA + 1) s + 1 ∧
      countOf 0x5301 (v.laneB + 1) u = countOf 0x5301 (v.laneB + 1) s + 1)

/-- 09 R244: when both ingress lanes report a tag failure the results agree, and no mismatch is counted against either
lane: bad_record_mac is the last message of the connection, sent where the module transmits, with the RST behind it,
and the connection is ended. Early data that is being skipped, which 02 R49 rejects without an alert, is not meant. -/
def Obligations.IngressTagFailure : Prop :=
  ∀ (t : Time) (id k ct len : Nat) (fault : Option Nat) (v : CUnit) (a : BitVec 64) (x : Conn) (s : State),
    Tbl.get? s.cipher.units id = some v → v.op = .ingress k ct len fault → v.held = false →
    k ∈ s.cipher.resident → recordBefore id v s = false →
    connOf s k = some x → x.info.kind = .tcp → (x.tls.skipEarly && !x.tls.finished) = false → transmits s = true →
    (∀ p ∈ s.conns, p.2.refs = [] ∧ p.1 < closingBase) →
    unitAgrees v a a false false = true ∧
    Completes (exec (.cipherUnitComplete t id a a false false true) s) fun u =>
      connOf u k = none ∧
      (∃ n c, Tbl.get? u.egress.closing n = some c ∧ c.after = [.rst] ∧
        (s.pair.paired = false →
          c.x.sendQ.map (·.msg) = x.sendQ.map (·.msg) ++ [.alert alertBadRecordMac]) ∧
        (s.pair.paired = true →
          (n, HostMsg.alert alertBadRecordMac) ∈ u.pair.planned.map (fun q => (q.conn, q.frame.msg)))) ∧
      countOf 0x5301 (v.laneA + 1) u = countOf 0x5301 (v.laneA + 1) s ∧
      countOf 0x5301 (v.laneB + 1) u = countOf 0x5301 (v.laneB + 1) s

/-! ### 05: the switch core -/

/-- 05 R123: a cell offered to a VOQ whose 16 reserved cells are in use enters it as a shared cell only while the
VOQ's own shared use is below shared_free × 2^a, where a is the code at SHARED_ALPHA, from −3 to 3, default 0;
else the queue and the count of free shared cells stay as they are and the stage keeps the message. No cell enters
when no shared cell is free, so two VOQs never take the last one together, and alone at the default a VOQ takes a
shared cell just while it has less than half the pool. -/
def Obligations.SharedCellRule : Prop :=
  (objOf 0x4202).map (fun o => (o.min, o.max, o.dflt)) = some (-3, 3, 0) ∧
  ∀ (t : Time) (inp out : SwPort) (m : CoreMsg) (s : State),
    let k := voqKey inp.val out.val (kindClass m.kind)
    let q := voqAt k s
    let a := (dval 0x4202 0 0 s).toInt
    let free := s.core.sharedFree
    let below : Prop := if 0 ≤ a then voqShared q < free * 2 ^ a.toNat else voqShared q * 2 ^ (-a).toNat < free
    inp ≠ out → outputShut out.val s = false → m.names = none → offersAt k s = [] → 16 ≤ voqReserved q →
    Completes (exec (.cellOffer t inp out m.kind m.toMsgBody) s) fun u =>
      (below → q.cells ++ [{ cellOf m 0 with shared := true }] <+: (voqAt k u).cells ∧ u.core.sharedFree < free ∧
        (msgCells m = 1 → (voqAt k u).cells = q.cells ++ [{ cellOf m 0 with shared := true }] ∧
          u.core.sharedFree + 1 = free)) ∧
      (¬ below → (voqAt k u).cells = q.cells ∧ u.core.sharedFree = free ∧ offersAt k u = [(m, 0)]) ∧
      (free = 0 → ¬ below) ∧
      (a = 0 → voqShared q + free = 140928 → (below ↔ voqShared q < 70464))

/-- After 05 R119 to R122 and R124 to R129, under the conditions of each clause: the cells of an offered message enter
the VOQ of its class in reserved cells, a refused one is counted and kept, a descriptor waits for the
acknowledgement of the write it names, and an input's own output refuses. A slot sends the head cell of the chosen
class and input to the receive buffer, with a poison mark for an uncorrectable error, and class 0 goes first within
its share. A credit returns as the block takes a cell: an acknowledgement releases its descriptors, a write whole at a
memory controller waits for its acknowledgement, and a poisoned message is offered again. A memory controller takes a
read request only when its whole reply has room, and acknowledges a write it has whole. A stalled head raises event
0x4202 and is marked. It rests also on choices and readings of the model, log entries 23, 52 and 100. -/
def Obligations.SwitchCoreRows : Prop :=
  -- CELL_OFFER in reserved cells
  (∀ (t : Time) (inp out : SwPort) (m : CoreMsg) (s : State),
    let k := voqKey inp.val out.val (kindClass m.kind)
    inp ≠ out → outputShut out.val s = false → m.names = none → offersAt k s = [] →
    voqReserved (voqAt k s) + msgCells m ≤ 16 →
    Completes (exec (.cellOffer t inp out m.kind m.toMsgBody) s) fun u =>
      (voqAt k u).cells = (voqAt k s).cells ++ (List.range (msgCells m)).map (cellOf m) ∧
      u.core.sharedFree = s.core.sharedFree) ∧
  -- CELL_OFFER refused
  (∀ (t : Time) (inp out : SwPort) (m : CoreMsg) (s : State),
    let k := voqKey inp.val out.val (kindClass m.kind)
    inp ≠ out → m.names = none → offersAt k s = [] →
    outputShut out.val s = true ∨
      (16 ≤ voqReserved (voqAt k s) ∧ sharedGrant (voqShared (voqAt k s)) s.core.sharedFree (sharedAlpha s) = false) →
    Completes (exec (.cellOffer t inp out m.kind m.toMsgBody) s) fun u =>
      u.core.voqs = s.core.voqs ∧ offersAt k u = [(m, 0)] ∧
      countOf 0x4204 (inp.val + 1) u = countOf 0x4204 (inp.val + 1) s + 1) ∧
  -- CELL_OFFER of a descriptor that names a write not acknowledged, and of an input to its own output
  (∀ (t : Time) (inp out : SwPort) (m : CoreMsg) (n : Nat) (s : State),
    inp ≠ out → m.names = some n → (inp.val, n) ∉ s.core.acks →
    Completes (exec (.cellOffer t inp out m.kind m.toMsgBody) s) fun u =>
      u.core.waiting = s.core.waiting ++ [(inp.val, out.val, m)] ∧ u.core.voqs = s.core.voqs) ∧
  (∀ (t : Time) (p : SwPort) (m : CoreMsg) (s : State),
    Completes (exec (.cellOffer t p p m.kind m.toMsgBody) s) fun u =>
      u.core = s.core ∧ countOf 0x4204 (p.val + 1) u = countOf 0x4204 (p.val + 1) s + 1) ∧
  -- CELL_SLOT
  (∀ (t : Time) (out : SwPort) (ecc : Fin 3) (row i cls : Nat) (c : Cell) (rest : List Cell) (s : State),
    let k := voqKey i out.val cls
    (slotClass out.val s).1 = some cls → nextInput out.val cls s = some i → (voqAt k s).cells = c :: rest →
    offersAt k s = [] →
    Completes (exec (.cellSlot t out ecc row) s) fun u =>
      (voqAt k u).cells = rest ∧
      (Tbl.get? u.core.inBuf k).getD [] =
        (Tbl.get? s.core.inBuf k).getD [] ++ [{ c with poison := c.poison || ecc = 2 }] ∧
      (ecc ≠ 2 → u.core.sharedFree = if c.shared then s.core.sharedFree + 1 else s.core.sharedFree) ∧
      (ecc = 1 → countOf 0x4206 0 u = countOf 0x4206 0 s + 1) ∧
      countOf 0x4205 (cls + 1) u = countOf 0x4205 (cls + 1) s + 1) ∧
  (∀ (out : SwPort) (s : State), classReady out.val 0 s = true →
    (((Tbl.get? s.core.hist out.val).getD []).filter id).length < cfg 0x4201 s →
    (slotClass out.val s).1 = some 0) ∧
  -- CREDIT_RETURN
  (∀ (t : Time) (out inp : SwPort) (cls : SwClass) (ecc : Fin 3) (c : Cell) (rest : List Cell) (s : State),
    let k := voqKey inp.val out.val cls.val
    let cells := (Tbl.get? s.core.taken k).getD [] ++ [{ c with poison := c.poison || ecc = 2 }]
    let m : CoreMsg := { kind := c.kind, num := c.num, bytes := cells.flatMap (·.data), names := none }
    (Tbl.get? s.core.inBuf k).getD [] = c :: rest →
    Completes (exec (.creditReturn t out inp ⟨cls, ecc⟩) s) fun u =>
      (Tbl.get? u.core.inBuf k).getD [] = rest ∧
      (c.last = false → Tbl.get? u.core.taken k = some cells) ∧
      (c.last = true → Tbl.get? u.core.taken k = none ∧
        (cells.any (·.poison) = false → c.kind = .writeAck →
          ((∀ w ∈ s.core.waiting, w.2.2.num ≠ c.num) → (out.val, c.num) ∈ u.core.acks) ∧
          ∀ w ∈ u.core.waiting, w.1 ≠ out.val ∨ w.2.2.names ≠ some c.num) ∧
        (cells.any (·.poison) = false → memoryPort out.val = true → isWriteKind c.kind = true → c.kind ≠ .writeAck →
          u.core.written = s.core.written ++ [(out.val, inp.val, c.num)]) ∧
        (cells.any (·.poison) = true → (∀ r, c.kind ≠ .memReply r) → outputShut out.val s = false →
          let v := voqKey inp.val out.val (kindClass c.kind)
          offersAt v s = [] → voqReserved (voqAt v s) + msgCells m ≤ 16 →
          (voqAt v u).cells = (voqAt v s).cells ++ (List.range (msgCells m)).map (cellOf m)))) ∧
  -- MEMORY_READ_REQUEST
  (∀ (t : Time) (ctl req : SwPort) (cls : SwClass) (bytes : Bytes) (num : Nat) (s : State),
    let k := voqKey req.val ctl.val cls.val
    let r := voqKey ctl.val req.val cls.val
    let m : CoreMsg := { kind := .memReply cls, num, bytes, names := none }
    memoryPort ctl.val = true → req ≠ ctl → received ctl.val cls.val s < 64 → readAtHead k s = some num →
    offersAt k s = [] → offersAt r s = [] →
    (voqReserved (voqAt r s) + msgCells m ≤ 16 → Completes (exec (.memoryReadRequest t ctl req cls bytes) s) fun u =>
      (voqAt k u).cells = ((voqAt k s).cells.dropWhile fun c => !c.last).drop 1 ∧
      (voqAt r u).cells = (voqAt r s).cells ++ (List.range (msgCells m)).map (cellOf m)) ∧
    (16 ≤ voqReserved (voqAt r s) → sharedGrant (voqShared (voqAt r s)) s.core.sharedFree (sharedAlpha s) = false →
      Completes (exec (.memoryReadRequest t ctl req cls bytes) s) fun u => u.core = s.core)) ∧
  -- WRITE_ACKNOWLEDGEMENT
  (∀ (t : Time) (ctl req : SwPort) (num : Nat) (s : State),
    let k := voqKey ctl.val req.val 0
    (ctl.val, req.val, num) ∈ s.core.written → outputShut req.val s = false → offersAt k s = [] →
    voqReserved (voqAt k s) < 16 →
    Completes (exec (.writeAcknowledgement t ctl ⟨req, num⟩) s) fun u =>
      u.core.written = s.core.written.erase (ctl.val, req.val, num) ∧
      (voqAt k u).cells = (voqAt k s).cells ++
        [{ kind := .writeAck, num, data := [], last := true, shared := false, poison := false }]) ∧
  -- VOQ_STALLED
  (∀ (t : Time) (inp out : SwPort) (cls : SwClass) (s : State),
    let k := voqKey inp.val out.val cls.val
    (voqAt k s).cells ≠ [] → (voqAt k s).stalled = false →
    Completes (exec (.voqStalled t inp out cls) s) fun u =>
      (voqAt k u).stalled = true ∧ (voqAt k u).cells = (voqAt k s).cells ∧ Logged 0x4202 (inp.val + 1) k s u)

/-! ### 06: translation and the write path -/

/-- After 06 R141, R142 and R145, 03 R67 and 09 R251, under the conditions of each clause: a write of FORMAT that is
taken begins a reservation round over the seated carriers, and the format ends once the partner has stored it or its
link is down. NS_ENABLE 1 reserves the lowest gap of LBs, gives the namespace a key and stores the flag; NS_ENABLE 0
returns both and stores it. A write of the administrative flag is stored, and a flag other than 0 makes the namespace
READ_ONLY. It rests also on choices and readings of the model, log entries 2, 42, 43, 69, 70 and 98. -/
def Obligations.NamespaceRows : Prop :=
  -- FORMAT
  (∀ (t : Time) (w : Write) (x : Session) (c : WCtx) (s : State), WriteTaken 0x5005 formatCheck t w x c s →
    Completes (exec (.format t w) s) fun u =>
      u.xlat.formatting = true ∧ u.pair.round = some .format ∧ u.pair.asked = seatedBays s ∧ u.pair.won = []) ∧
  -- FORMAT_COMPLETE
  (∀ (t : Time) (stored : Bool) (s : State),
    s.xlat.formatting = true → s.pair.round = none → stored = true ∨ s.pair.link ≠ 2 →
    Completes (exec (.formatComplete t stored) s) fun u =>
      u.xlat.formatting = false ∧ u.xlat.formatBy = none) ∧
  -- NS_ENABLE
  (∀ (t : Time) (sess b : Nat) (x : Session) (c : WCtx) (s : State),
    WriteTaken 0x3225 nsEnableCheck t { sess, sub := 0, val := .num 1 } x c s →
    nsEnabled c.rcd s = false → lbBase c.rcd s = some b →
    Completes (exec (.nsEnable t sess) s) fun u =>
      (Tbl.get? u.cmd.ns c.rcd).map (fun n => (n.base, n.count)) = some (b, lbsFor (nsSize c.rcd s) s) ∧
      (Tbl.get? u.keys.ns c.rcd).map (·.key.isSome) = some true ∧ dval 0x3225 0 c.rcd u = .num 1) ∧
  -- NS_DISABLE
  (∀ (t : Time) (sess : Nat) (x : Session) (c : WCtx) (s : State),
    WriteTaken 0x3225 nsEnableCheck t { sess, sub := 0, val := .num 0 } x c s → nsEnabled c.rcd s = true →
    Completes (exec (.nsDisable t sess) s) fun u =>
      Tbl.get? u.cmd.ns c.rcd = none ∧ (Tbl.get? u.keys.ns c.rcd).map (·.key) = some none ∧
      dval 0x3225 0 c.rcd u = .num 0) ∧
  -- NS_WRITE_PROTECT
  (∀ (t : Time) (w : Write) (x : Session) (c : WCtx) (s : State), WriteTaken 0x3227 noCheck t w x c s →
    Completes (exec (.nsWriteProtect t w) s) fun u =>
      dval 0x3227 w.sub c.rcd u = w.val ∧ (w.val.toNat ≠ 0 → nsReadOnly c.rcd u = true))

/-- After 06 R156 to R162, under the conditions of each clause: the head of the placement queue reserves its slots once
they are free, a write then encrypts and a command that stores zeros completes; else nothing is reserved. A whole
stripe at FILL of an LB whose fill is open is gathered into its band. A fill that has waited FILL_WAIT closes when a
stripe is lacking or the caddy is above its staging mark. After LOG_GATHER_WAIT the waiting sectors form a stripe of an
open shared log. The slots of a stripe that is programmed, confirmed and read by nobody are released. It rests also on
choices and readings of the model, log entries 67, 91 and 95. -/
def Obligations.PlacementRows : Prop :=
  -- PLACEMENT_QUEUE_RESERVE
  (∀ (t : Time) (id : Nat) (rest : List Nat) (c : Cmd) (s : State),
    decides s = true → s.xlat.placeQ = id :: rest → cmdOf s id = some c →
    (slotsNeeded c + slotsPromised s ≤ caddyFree s → c.opc = .write →
      Completes (exec (.placementQueueReserve t) s) fun u =>
        u.xlat.placeQ = rest ∧ (cmdOf u id).map (·.phase) = some .encrypting) ∧
    (slotsNeeded c + slotsPromised s ≤ caddyFree s → c.opc = .writeZeroes ∨ c.opc = .dsm → c.orphan = false →
      c.bmeHeld = false →
      Completes (exec (.placementQueueReserve t) s) fun u =>
        (cmdOf u id).map (fun y => (y.phase, y.status)) = some (.completing, .success)) ∧
    (caddyFree s < slotsNeeded c + slotsPromised s →
      Completes (exec (.placementQueueReserve t) s) fun u => u.xlat = s.xlat)) ∧
  -- STRIPE_GATHER
  (∀ (t : Time) (lb ns first b : Nat) (g : Geo) (sl : List (Nat × Slot)) (bd : Band) (s : State),
    let e := lbAt s lb
    let w := setWidth lb s
    let st := stripeOf g w e.fill
    let l := locate g w e.fill
    decides s = true → s.xlat.geo = some g → nsOfLb lb s = some (ns, first) → e.state ≠ .merging → w ≠ 0 →
    e.fill < g.lbSectors → runWithin lb st.1 st.2 s = false → Tbl.has s.xlat.fills lb = true →
    (∀ p ∈ s.xlat.progs, p.2.lb = lb → p.2.dest = .direct → p.2.done = true) → resyncing lb s = false →
    stripeSlots ns first st.1 st.2 s = some sl →
    e.bands[l.i]? = some b → bandAt s b = some bd → degraded bd < 2 → bd.isOpen = true →
    grants s poolStripe (stripeSectors g w) = true →
    Completes (exec (.stripeGather t lb) s) fun u =>
      ((lbAt u lb).state, (lbAt u lb).fillClosed) = (.filling, false) ∧
      (Tbl.get? u.xlat.progs s.xlat.nextProg).map (fun p => (p.band, p.stripe, p.dest, p.lb, p.slots)) =
        some (b, l.t, .direct, lb, slotNames sl)) ∧
  -- FILL_WAIT_EXPIRY
  (∀ (t : Time) (lb : Nat) (s : State),
    decides s = true → Tbl.has s.xlat.fills lb = true → (lbAt s lb).fillClosed = false →
    stripeLacks lb s = true ∨ caddyAbove (cfg 0x5022 s) s = true →
    Completes (exec (.fillWaitExpiry t lb) s) fun u =>
      (lbAt u lb).fillClosed = true ∧ Tbl.has u.xlat.fills lb = false) ∧
  -- LOG_GATHER_WAIT_EXPIRY
  (∀ (t : Time) (ns b : Nat) (g : Geo) (e0 : Nat × Slot × Nat × Nat) (l : List (Nat × Slot × Nat × Nat))
      (bd : Band) (s : State),
    decides s = true → s.xlat.geo = some g → (waitingSlots ns s).filter (fun e => logBound e s) = e0 :: l →
    logTarget ns e0 (advance t s) = (.sharedLog, 0, some b, advance t s) → bandAt s b = some bd →
    bd.kind = .sharedLog → grants s poolStripe (stripeSectors g bd.width) = true →
    Completes (exec (.logGatherWaitExpiry t ns) s) fun u =>
      (Tbl.get? u.xlat.progs s.xlat.nextProg).map (fun p => (p.band, p.stripe, p.dest)) =
        some (b, bandNext b bd s, .log)) ∧
  -- CADDY_SLOT_RELEASE
  (∀ (t : Time) (id : Nat) (p : Prog) (s : State),
    decides s = true → s.xlat.placeQ = [] → Tbl.get? s.xlat.progs id = some p → p.done = true →
    s.pair.paired = false ∨ p.cycle ≤ s.pair.committed → replacing p.band s = false →
    (∀ n ∈ p.slots, ∀ k x, slotOfProg id n s = some (k, x) → x.readers = 0) →
    Completes (exec (.caddySlotRelease t id) s) fun u =>
      Tbl.get? u.xlat.progs id = none ∧
      ∀ n ∈ p.slots, ∀ k x, slotOfProg id n s = some (k, x) → Tbl.get? u.xlat.slots k = none)

/-- After 06 R151, R163 to R167 and R175, under the conditions of each clause: an LB whose fill is closed or whose
sequential log is full becomes due for a merge. A merge begins by switching to the sequential log, or with new bands for
a full one once MERGE has granted, and its LB is MERGING. It commits: the LB entry names the targets, STATE is MAPPED,
FILL is the end of the merge and FILL_CLOSED is clear. A log band without live runs is due for release, and a due band
that nothing reads, names or writes is released. A checkpoint keeps the maps as they stand and programs their image
into new system bands. Journal removals are written whole into the other system EU of each holder, which is erased
first. It rests also on choices and readings of the model, log entries 21, 60, 67, 93 and 94. -/
def Obligations.MergeRows : Prop :=
  -- MERGE_QUIET_EXPIRY
  (∀ (t : Time) (lb : Nat) (s : State), decides s = true → (lbAt s lb).state ≠ .merging →
    (lbAt s lb).fillClosed = true ∨ seqLogFull lb s = true →
    Completes (exec (.mergeQuietExpiry t lb) s) fun u => lb ∈ u.xlat.mergeDue) ∧
  -- MERGE_START: a switch, and a full merge
  (∀ (t : Time) (lb ns first : Nat) (g : Geo) (s : State),
    decides s = true → mergeWanted lb s = true → foldTurn lb s = true → s.xlat.geo = some g →
    nsOfLb lb s = some (ns, first) → mergeDeferred lb s = false → resyncing lb s = false →
    jobRuns (fun k => match k with
      | .merge l _ _ => l = lb
      | _ => false) s = false →
    (∀ b n, needsFull lb s = false → mergeChoice lb s = (.switch, n) → seqLogOf lb s = some b →
      Completes (exec (.mergeStart t lb) s) fun u =>
        (lbAt u lb).state = .merging ∧
        (Tbl.get? u.xlat.jobs s.xlat.nextJob).map (fun j => (j.targets, j.ready)) = some ([b], true)) ∧
    (needsFull lb s = true → widthNow s ≠ 0 →
      let n := stripeSectors g (widthNow s)
      let need := (mergeHi g lb s + n * g.stripes - 1) / (n * g.stripes)
      let fold := s.xlat.runs.any fun r => r.lb = lb && decide (r.kind = .staging)
      let queue := jobQueue (jobNew (.merge lb .full fold)) s
      grants s poolMerge n = true →
      need ≤ (fullTargets ns lb (widthNow s) need queue (request poolMerge n (advance t s)).2).1.length →
      Completes (exec (.mergeStart t lb) s) fun u => (lbAt u lb).state = .merging)) ∧
  -- MERGE_COMMIT
  (∀ (t : Time) (lb id l : Nat) (j : Job) (k : MergeKind) (fold : Bool) (s : State),
    decides s = true → mergeReady lb s = some (id, j) → (lbAt s lb).state = .merging → j.kind = .merge l k fold →
    Completes (exec (.mergeCommit t lb) s) fun u =>
      ((lbAt u lb).bands, (lbAt u lb).state, (lbAt u lb).fill, (lbAt u lb).fillClosed) =
        (j.targets, .mapped, j.hi, false)) ∧
  -- BAND_RELEASE
  (∀ (t : Time) (b : Nat) (e : Band) (s : State),
    decides s = true → bandAt s b = some e → runsIn b s = [] →
    (e.retiring = true → e.readers = 0 → (∀ p ∈ s.xlat.progs, p.2.band = b → p.2.done = true) →
      bandUnconfirmed b s = false →
      Completes (exec (.bandRelease t b) s) fun u => bandAt u b = none) ∧
    (e.kind ∈ [.sharedLog, .seqLog, .staging] → e.isOpen = false ∨ 0 < e.program →
      (∀ p ∈ s.xlat.progs, p.2.band ≠ b) → (∀ p ∈ s.xlat.jobs, b ∉ p.2.targets) →
      Completes (exec (.bandRelease t b) s) fun u => (bandAt u b).all (·.retiring) = true)) ∧
  -- CHECKPOINT
  (∀ (t : Time) (g : Geo) (s : State),
    let n := stripeSectors g (widthNow s)
    let need := ((chunks n (asSectors (imageBytes s))).length + g.stripes - 1) / g.stripes
    let r := systemBands need (advance t s)
    decides s = true → s.xlat.geo = some g → s.xlat.ckptRun = none → 0 < n → 0 < g.stripes → need ≤ r.1.length →
    Completes (exec (.checkpoint t) s) fun u =>
      u.xlat.ckptRun = some { bands := r.1, lbs := s.xlat.lbs, table := s.xlat.bands, seq := s.xlat.openseq } ∧
      ∃ p ∈ u.xlat.progs, p.2.dest = .system ∧ p.2.stripe = 0 ∧ r.1.head? = some p.2.band) ∧
  -- JOURNAL_CARRIER_WRITE
  (∀ (t : Time) (s : State), mediaAllowed s = true → s.xlat.geo.isSome = true →
    Completes (exec (.journalCarrierWrite t) s) fun u =>
      u.xlat.journalRemovals = [] ∧ u.xlat.journalCars = journalHolders s ∧
      ∀ c ∈ journalHolders s, (carOf u c).sysEu = 1 - (carOf s c).sysEu ∧
        ∃ m ∈ (carOf u c).queue, m.op = .erase ∧ m.purpose = .system)

/-! ### 07 and 08: media lifecycle, stripes -/

/-- After 07 R185, R186, R188, R192, R194, R200, R203 and R205, under the conditions of each clause: reclamation runs
between its two marks; a single victim that can be merged is chosen, and every LB with live runs in it becomes due for
a merge or begins one. A compaction stripe commits and its moved run enters the overlay. Wear levelling stops within
its spread, and beyond it moves the least worn data member to the most worn free EU. A verified move is switched in.
The scrub notes its time and reads a programmed band. Exhaustion clears with the READ_ONLY it caused once F is back at
FREE_LOW. A carrier port issues the one command that waits. It rests also on choices and readings of the model, log
entries 19, 22, 28, 60, 68, 92, 96 and 97. -/
def Obligations.LifecycleRows : Prop :=
  -- RECLAIM_VICTIM: the marks
  (∀ (t : Time) (s : State), decides s = true → s.xlat.geo.isSome = true → reclaimCandidates s = [] →
    Completes (exec (.reclaimVictim t) s) fun u =>
      u.xlat.reclaiming = (freeBelow 0x5112 s && (freeBelow 0x5111 s || s.xlat.reclaiming))) ∧
  -- RECLAIM_VICTIM: a victim
  (∀ (t : Time) (b : Nat) (e : Band) (s : State),
    decides s = true → s.xlat.geo.isSome = true → reclaimCandidates s = [(b, e)] → e.kind ≠ .sharedLog →
    e.retiring = false → runsIn b s ≠ [] → heldBack b s = false → (∀ p ∈ s.xlat.jobs, b ∉ p.2.targets) →
    s.xlat.victims = [] → freeBelow 0x5112 s = true → freeBelow 0x5111 s = true →
    Completes (exec (.reclaimVictim t) s) fun u =>
      u.xlat.victims = [b] ∧ u.xlat.reclaiming = true ∧
      ∀ lb ∈ lbsIn b s, lb ∈ u.xlat.mergeDue ∨ (lbAt u lb).state = .merging) ∧
  -- COMPACTION_COMMIT
  (∀ (t : Time) (id v b : Nat) (j : Job) (r : Run) (s : State),
    decides s = true → Tbl.get? s.xlat.jobs id = some j → j.ready = true → j.kind = .compact v →
    j.targets = [b] → replacing b s = false → movedRuns s j.src (runsPlaced b j.hi j.src 0) = [r] →
    Completes (exec (.compactionCommit t id) s) fun u => r ∈ u.xlat.runs ∧ Tbl.get? u.xlat.jobs id = none) ∧
  -- STATIC_WEAR_LEVEL
  (∀ (t : Time) (c : Bay) (lo : Nat) (s : State),
    let x := carOf s c.val
    let l := dataMembers c.val s
    let w := l.map fun m => wearOf x m.2.2.1
    let diff := w.foldl max 0 - lo
    let on := if x.moveOn then decide (cfg 0x5120 s * 10 * 80 < diff * 100) else decide (cfg 0x5120 s * 10 < diff)
    decides s = true → x.state = .inService → leastBy id w = some lo →
    (on = false → Completes (exec (.staticWearLevel t c) s) fun u =>
      (carOf u c.val).moveOn = false ∧ u.xlat = s.xlat) ∧
    (on = true → staticMove c.val s = false → ∀ m eu e,
      let least := l.filter fun m => wearOf x m.2.2.1 = lo && !movesNow m.1 m.2.1 s
      least.find? (fun m => some m.2.2.2 = leastBy id (least.map fun m => m.2.2.2)) = some m →
      mostBy (wearOf x) x.free = some eu → bandAt s m.1 = some e → memberReadable e m.2.1 = true →
      Completes (exec (.staticWearLevel t c) s) fun u =>
        (Tbl.get? u.xlat.jobs s.xlat.nextJob).map (fun j => (j.kind, j.eu)) = some (.move m.1 m.2.1, eu))) ∧
  -- MEMBER_MOVE_SWITCH
  (∀ (t : Time) (id b pos : Nat) (j : Job) (e : Band) (m : Member) (s : State),
    decides s = true → Tbl.get? s.xlat.jobs id = some j → j.ready = true → j.kind = .move b pos →
    bandAt s b = some e → memberAt e pos = some m → m.mstate = .good → m.carrier = j.car → e.program ≤ j.total →
    (∀ p ∈ s.xlat.progs, p.2.band = b → p.2.done = true) →
    Completes (exec (.memberMoveSwitch t id) s) fun u =>
      ((bandAt u b).bind fun e => memberAt e pos) = some { m with eu := j.eu }) ∧
  -- SCRUB_INTERVAL_EXPIRY
  (∀ (t : Time) (s : State), decides s = true →
    Completes (exec (.scrubIntervalExpiry t) s) fun u =>
      u.media.scrubLast = max s.now t ∧
      ∀ b e m, s.xlat.bands = [(b, e)] → 0 < e.program → e.kind ≠ .free → memberReadable e m = true → m < e.width →
        (∀ p ∈ s.xlat.jobs, p.2.kind ≠ .scrub b) →
        (Tbl.get? u.xlat.jobs s.xlat.nextJob).map (fun j => (j.kind, j.total)) = some (.scrub b, e.program)) ∧
  -- EXHAUSTION_CLEARED
  (∀ (t : Time) (s : State),
    decides s = true → s.media.exhausted = true → freeBelow 0x5111 s = false →
    Completes (exec (.exhaustionCleared t) s) fun u =>
      u.media.exhausted = false ∧
      ∀ p ∈ s.cmd.ns, p.2.roExhaust = true → (Tbl.get? u.cmd.ns p.1).map (·.roExhaust) = some false) ∧
  -- MEDIA_QUEUE_SELECT
  (∀ (t : Time) (b : Bay) (m : MediaCmd) (s : State),
    let c := carOf s b.val
    mediaAllowed s = true → c.state = .inService → c.linkUp = true → c.ready = true → c.tagBound = true →
    c.out.length < cfg 0x6043 s → c.queue = [m] → 2 ≤ m.queue → m.queue ≤ 9 →
    issuable (advance t s) c m = true →
    Completes (exec (.mediaQueueSelect t b) s) fun u =>
      (carOf u b.val).queue = [] ∧
      u.out = s.out ++ [.carrier b.val m.op (Tbl.freeFrom c.out c.nextCid (c.out.length + 1)) m.eu m.page m.sector
        m.count m.level m.data m.header 0 0])

/-- After 08 R220 to R222, R224, R228 and R230, under the conditions of each clause: the next lost member gets a target
and its rebuild begins; without one its band is to be relocated, unless its own carrier is in service. A verified
target is switched in, GOOD. LOST_CLEAR removes the entry or all of them. Once a band can be formed again after the
floor, event 0x5207 is raised and every namespace loses the READ_ONLY of the floor. It rests also on choices and
readings of the model, log entries 43, 68, 69 and 101. -/
def Obligations.RebuildRows : Prop :=
  -- REBUILD_START
  (∀ (t : Time) (b pos : Nat) (e : Band) (m : Member) (s : State),
    decides s = true → bandAt s b = some e → memberAt e pos = some m →
    (rebuildOrder s).find? (fun q => rebuildBands s < cfg 0x5205 s || jobRuns (fun k => match k with
      | .rebuild x _ => x = q.1
      | _ => false) s) = some (b, pos) →
    ((rebuildTarget e m (advance t s)).isSome = true → Completes (exec (.rebuildStart t) s) fun u =>
      (Tbl.get? u.xlat.jobs s.xlat.nextJob).map (·.kind) = some (.rebuild b pos)) ∧
    ((rebuildTarget e m (advance t s)).isNone = true → ownTarget m s = false →
      Completes (exec (.rebuildStart t) s) fun u => b ∈ u.xlat.relocate)) ∧
  -- REBUILD_SWITCH
  (∀ (t : Time) (id b pos : Nat) (j : Job) (e : Band) (s : State),
    decides s = true → Tbl.get? s.xlat.jobs id = some j → j.ready = true → j.kind = .rebuild b pos →
    bandAt s b = some e → pos < e.members.length → e.program ≤ j.total →
    Completes (exec (.rebuildSwitch t id) s) fun u =>
      ((bandAt u b).bind fun e => memberAt e pos) = some { carrier := j.car, eu := j.eu, mstate := .good }) ∧
  -- LOST_CLEAR
  (∀ (t : Time) (w : Write) (x : Session) (c : WCtx) (s : State), WriteTaken 0x5243 lostClearCheck t w x c s →
    Completes (exec (.lostClear t w) s) fun u =>
      u.xlat.lost = if w.val.toNat = 0xFFFFFFFF then [] else s.xlat.lost.eraseIdx (w.val.toNat - 1)) ∧
  -- NARROW_FLOOR_CLEARED
  (∀ (t : Time) (s : State), decides s = true → s.media.floorRo = true → widthNow s ≠ 0 →
    Completes (exec (.narrowFloorCleared t) s) fun u =>
      u.media.floorRo = false ∧ (∃ e ∈ u.mgmt.log ++ u.mgmt.pendingLog, e.code = 0x5207) ∧
      ∀ p ∈ s.cmd.ns, (Tbl.get? u.cmd.ns p.1).map (·.roFloor) = some false)

/-! ### 08 and 11: carriers -/

/-- After 08 R216 and R225, 11 R309, R310, R319, R320 and R324 and 17 R445, under the conditions of each clause: a link
that comes up keeps the descriptor, its lanes and width, and a lost carrier of the array returns to service with it. A
link that falls loses its carrier in service. A lane that fails in one half leaves the link with the other half, and a
margin too low for 10 s fails its lane. READY is noted and the reservation value is read. A carrier that does not get
ready within its time is not admitted. One lost for 600 s is to be replaced. CARRIER_READMIT takes a carrier held out
back into service. It rests also on choices and readings of the model, log entries 20, 28, 43, 60, 69 and 71. -/
def Obligations.CarrierLinkRows : Prop :=
  -- CARRIER_LINK_UP
  (∀ (t : Time) (b : Bay) (d : Descr) (s : State),
    let x := carOf s b.val
    let other : Bool := decide ((match x.descr with
      | some p => p.serial
      | none => x.serial) ≠ d.serial)
    let bad := if other then [] else x.badLanes
    inMode [.reset, .holdup] s = false → linkLanes bad ≠ 0 → x.state ≠ .lost →
    Completes (exec (.carrierLinkUp t b d) s) fun u =>
      let y := carOf u b.val
      y.linkUp = true ∧ y.width = linkLanes bad ∧ y.descr = some d ∧ y.ready = false) ∧
  -- CARRIER_LINK_UP of a lost carrier
  (∀ (t : Time) (b : Bay) (d : Descr) (s : State),
    let x := carOf s b.val
    serving s = true → x.state = .lost → x.descr = some d → x.serial = d.serial → linkLanes x.badLanes ≠ 0 →
    descrPasses x = true → (x.returns.filter fun r => max s.now t < r + 86400000000000).length < cfg 0x520A s →
    MembersGood b.val s →
    Completes (exec (.carrierLinkUp t b d) s) fun u => (carOf u b.val).state = .inService) ∧
  -- CARRIER_LINK_DOWN and CARRIER_RECOVERY_TIMEOUT
  (∀ (t : Time) (b : Bay) (s : State), (carOf s b.val).linkUp = true →
    serving s = true → (carOf s b.val).state = .inService → NoWork b.val s →
    (Completes (exec (.carrierLinkDown t b) s) fun u =>
      (carOf u b.val).linkUp = false ∧ (carOf u b.val).state = .lost) ∧
    (Completes (exec (.carrierRecoveryTimeout t b) s) fun u =>
      (carOf u b.val).linkUp = false ∧ (carOf u b.val).state = .lost)) ∧
  -- CARRIER_LINK_NARROWED
  (∀ (t : Time) (b : Bay) (lane : Fin 4) (s : State),
    let x := carOf s b.val
    lane.val ∉ x.badLanes → linkLanes (x.badLanes ++ [lane.val]) = 2 →
    Completes (exec (.carrierLinkNarrowed t b lane) s) fun u =>
      let y := carOf u b.val
      y.badLanes = x.badLanes ++ [lane.val] ∧ y.half = halfKept y.badLanes ∧
      y.width = (if x.linkUp then 2 else 0)) ∧
  -- LANE_MARGINING
  (∀ (t : Time) (b : Bay) (lane : Fin 4) (mv mui : Nat) (s : State),
    (10 ≤ mv → 80 ≤ mui → Completes (exec (.laneMargining t b lane mv mui) s) fun u =>
      Tbl.get? (carOf u b.val).marginLow lane.val = none) ∧
    (mv < 10 ∨ mui < 80 → Tbl.get? (carOf s b.val).marginLow lane.val = none →
      Completes (exec (.laneMargining t b lane mv mui) s) fun u =>
        Tbl.get? (carOf u b.val).marginLow lane.val = some (max s.now t)) ∧
    (∀ since, mv < 10 ∨ mui < 80 → Tbl.get? (carOf s b.val).marginLow lane.val = some since →
      since + 10000000000 ≤ max s.now t → lane.val ∉ (carOf s b.val).badLanes →
      linkLanes ((carOf s b.val).badLanes ++ [lane.val]) = 2 →
      Completes (exec (.laneMargining t b lane mv mui) s) fun u =>
        (carOf u b.val).badLanes = (carOf s b.val).badLanes ++ [lane.val])) ∧
  -- CARRIER_READY
  (∀ (t : Time) (b : Bay) (s : State), (carOf s b.val).linkUp = true → descrPasses (carOf s b.val) = true →
    (∀ g d, s.xlat.geo = some g → (carOf s b.val).descr = some d → geometryFits g d = true) →
    Completes (exec (.carrierReady t b) s) fun u =>
      (carOf u b.val).ready = true ∧
      (adminAllowed s = true → Puts (.carrier b.val .reserveRead 0 0 0 0 0 0 [] [] 0 0) s u)) ∧
  -- CARRIER_ADMIT_TIMEOUT
  (∀ (t : Time) (b : Bay) (s : State),
    let x := carOf s b.val
    (x.linkUp && x.ready) = false → x.linkUp = true ∨ (bayOf s b.val).state = .on → serving s = true →
    x.state = .absent ∨ x.state = .notAdmitted →
    Completes (exec (.carrierAdmitTimeout t b) s) fun u => (carOf u b.val).state = .notAdmitted) ∧
  -- CARRIER_LOST_TIMEOUT
  (∀ (t : Time) (b : Bay) (s : State), serving s = true → (carOf s b.val).state = .lost →
    Completes (exec (.carrierLostTimeout t b) s) fun u => (carOf u b.val).replace.getLsbD 5 = true) ∧
  -- CARRIER_READMIT
  (∀ (t : Time) (w : Write) (x : Session) (c : WCtx) (s : State),
    WriteTaken 0x520B readmitCheck t w x c s → w.val.toNat = 1 → sameCarrier (carOf s (w.sub - 1)) = true →
    MembersGood (w.sub - 1) s →
    Completes (exec (.carrierReadmit t w) s) fun u => (carOf u (w.sub - 1)).state = .inService)

/-- After 10 R285, R286 and R303, 11 R314, R316, R319 and R322, under the conditions of each clause: the status page,
the bound tag, the temperature, the bad-EU list and the retry orders that a carrier reports are kept. A compare-and-set
of a round that still waits counts its carrier as held, or keeps the value found, and a value read is what the
carrier's compare-and-set expects. An event of the carrier sets or clears its power input and the next wait is posted.
At the deadline of a check of the majority the mode stays with a majority held, and is ISOLATED without. A poll asks
for the temperature. It rests also on choices and readings of the model, log entries 28 and 71. -/
def Obligations.CarrierAdminRows : Prop :=
  -- CARRIER_IDENTIFY_DONE
  (∀ (t : Time) (b : Bay) (inputs : BitVec 3) (temp : Int) (width : Nat) (s : State),
    Completes (exec (.carrierIdentifyDone t b .success inputs temp width) s) fun u =>
      (carOf u b.val).inputs = inputs ∧ (carOf u b.val).temp = temp ∧
      (carOf u b.val).width = if (carOf s b.val).linkUp then width else 0) ∧
  -- SET_LINK_TAG_DONE
  (∀ (t : Time) (b : Bay) (s : State), Completes (exec (.setLinkTagDone t b .success) s) fun u =>
      (carOf u b.val).tagBound = (carOf s b.val).linkUp) ∧
  -- RESERVE_DONE and RESERVE_READ_DONE, of a round that still waits for another carrier
  (∀ (t : Time) (b : Bay) (prior : BitVec 64) (r : Round) (k : Nat) (s : State),
    s.pair.round = some r → r ≠ .fencing → b.val ∈ s.pair.asked → k ∈ s.pair.asked → k ≠ b.val →
    (b.val ∉ s.pair.won → (carOf s b.val).asking.headD (nextValue s) = nextValue s →
      Completes (exec (.reserveDone t b .success prior) s) fun u =>
        (carOf u b.val).value = nextValue s ∧ u.pair.won = s.pair.won ++ [b.val] ∧ b.val ∉ u.pair.asked) ∧
    (Completes (exec (.reserveDone t b .reserveMismatch prior) s) fun u =>
        (carOf u b.val).value = prior ∧ u.pair.won = s.pair.won ∧ b.val ∉ u.pair.asked) ∧
    (∀ v : BitVec 64, r ≠ .recheck → Completes (exec (.reserveReadDone t b .success v) s) fun u =>
        (carOf u b.val).value = v ∧ Tbl.get? u.pair.expected b.val = some v)) ∧
  -- TEMPERATURE_DONE
  (∀ (t : Time) (b : Bay) (die bridge : Int) (s : State),
    Completes (exec (.temperatureDone t b .success die bridge) s) fun u => (carOf u b.val).temp = die) ∧
  -- BAD_EU_LIST_DONE
  (∀ (t : Time) (b : Bay) (eus : List Nat) (s : State),
    Completes (exec (.badEuListDone t b .success eus) s) fun u =>
      (carOf u b.val).listsRead = true ∧ ∀ e ∈ eus, e ∈ (carOf u b.val).bad) ∧
  -- RETRY_LEVELS_DONE
  (∀ (t : Time) (b : Bay) (slc : Bool) (levels : List Nat) (s : State),
    Completes (exec (.retryLevelsDone t b .success slc levels) s) fun u =>
      (if slc then (carOf u b.val).retrySlc else (carOf u b.val).retryNative) = levels) ∧
  -- EVENT_WAIT_DONE
  (∀ (t : Time) (b : Bay) (code : BitVec 16) (s : State),
    (code = 1 → Completes (exec (.eventWaitDone t b .success code) s) fun u =>
      (carOf u b.val).inputs.getLsbD 0 = false) ∧
    (code = 2 → Completes (exec (.eventWaitDone t b .success code) s) fun u =>
      (carOf u b.val).inputs.getLsbD 0 = true) ∧
    (code = 3 → Completes (exec (.eventWaitDone t b .success code) s) fun u =>
      (carOf u b.val).inputs.getLsbD 1 = false) ∧
    (code = 4 → Completes (exec (.eventWaitDone t b .success code) s) fun u =>
      (carOf u b.val).inputs.getLsbD 1 = true) ∧
    (code.toNat ≤ 6 → adminAllowed s = true → (carOf s b.val).linkUp = true →
      Completes (exec (.eventWaitDone t b .success code) s) fun u =>
        u.out = s.out ++ [.carrier b.val .eventWait 0 0 0 0 0 0 [] [] 0 0])) ∧
  -- RESERVE_ANSWER_DEADLINE
  (∀ (t : Time) (s : State), s.pair.round = some .recheck →
    (roundWon s = true → Completes (exec (.reserveAnswerDeadline t) s) fun u =>
      u.pair.round = none ∧ u.mode = s.mode) ∧
    (roundWon s = false → Completes (exec (.reserveAnswerDeadline t) s) fun u =>
      u.mode.mode = .isolated ∧ u.pair.faultOut = 0)) ∧
  -- TEMP_POLL_EXPIRY
  (∀ (t : Time) (b : Bay) (s : State), adminAllowed s = true → (carOf s b.val).linkUp = true →
    Completes (exec (.tempPollExpiry t b) s) fun u =>
      u.out = s.out ++ [.carrier b.val .temperature 0 0 0 0 0 0 [] [] 0 0])

/-- After 07 R182, R190 and R196 and 11 R315 to R317 and R322, under the conditions of each clause: a page read for a
host goes to the cipher engine, a programmed page of a stripe is no longer awaited, an erase adds its wear, a cell mode
is set, and the completion of a mark-bad command ends it. A carrier in service that misses its progress, age or
completion limit is counted and lost. It rests also on choices and readings of the model, log entries 15, 67 and 68. -/
def Obligations.MediaDoneRows : Prop :=
  (∀ (t : Time) (b : Bay) (cid : Nat) (m : MediaCmd) (s : State),
    Tbl.get? (carOf s b.val).out cid = some m → s.xlat.sources = [] →
    -- CARRIER_READ_DONE
    (∀ buf i k corrected y, ∀ (sec : Bytes) (l : List Bytes) (ab : Nat × Nat),
      m.purpose = .hostRead buf i → m.level = 0 → needsRefresh b.val corrected s = false →
      Tbl.get? s.pot.bufs buf = some y → xtsCluster s = some k → pickLanes s k = some ab →
      Completes (exec (.carrierReadDone t b cid .success corrected (sec :: l)) s) fun u =>
        (Tbl.get? u.cipher.units s.cipher.nextUnit).map (fun v => (v.op, v.input)) =
          some (.hostRead buf i, sec)) ∧
    -- CARRIER_PROGRAM_DONE
    (∀ id pos p, m.purpose = .stripe id pos → Tbl.get? s.xlat.progs id = some p →
      (p.waiting.filter fun q => q ≠ pos) ≠ [] →
      Completes (exec (.carrierProgramDone t b cid .success) s) fun u =>
        (Tbl.get? u.xlat.progs id).map (·.waiting) = some (p.waiting.filter fun q => q ≠ pos)) ∧
    -- CARRIER_ERASE_DONE
    (∀ d, (carOf s b.val).descr = some d → m.eu ∉ (carOf s b.val).slc → d.cyclesNative ≠ 0 →
      Completes (exec (.carrierEraseDone t b cid .success) s) fun u =>
        wearOf (carOf u b.val) m.eu =
          min 65535 (wearOf (carOf s b.val) m.eu + ((carOf s b.val).fracN + 10000) / d.cyclesNative) ∧
        (carOf u b.val).fracN = ((carOf s b.val).fracN + 10000) % d.cyclesNative) ∧
    -- SET_CELL_MODE_DONE
    (Completes (exec (.setCellModeDone t b cid .success) s) fun u =>
      if m.level = 1 then m.eu ∈ (carOf u b.val).slc else m.eu ∉ (carOf u b.val).slc) ∧
    -- MARK_BAD_DONE
    (Completes (exec (.markBadDone t b cid .success) s) fun u => Tbl.get? (carOf u b.val).out cid = none)) ∧
  -- PROGRESS_LIMIT_EXPIRY, MEDIA_AGE_LIMIT_EXPIRY and ADMIN_COMPLETION_LIMIT_EXPIRY
  (∀ (t : Time) (b : Bay) (s : State),
    serving s = true → (carOf s b.val).state = .inService → NoWork b.val s →
    let lost := fun (u : State) => (carOf u b.val).state = .lost ∧
      countOf 0x600A (b.val + 1) u = countOf 0x600A (b.val + 1) s + 1
    ((carOf s b.val).out ≠ [] → Completes (exec (.progressLimitExpiry t b) s) lost) ∧
    (∀ cid, Tbl.has (carOf s b.val).out cid = true → Completes (exec (.mediaAgeLimitExpiry t b cid) s) lost) ∧
    ((carOf s b.val).linkUp = true → b.val ∉ s.pair.asked →
      Completes (exec (.adminCompletionLimitExpiry t b) s) lost))

/-! ### 09: cipher engine and keys -/

/-- After 09 R242, R245, R259, R260 and R262, under the conditions of each clause: a held record whose retry lanes
agree is opened, and a lane in service that alone disagreed goes to self-repair. A connection moves to the next cluster
that takes units. A chaining context is restored and counted, or its connection ends. A noise source that fails leaves
one source or none, with the event of either, and returns. Masks are reseeded while a source works. It rests also on
choices and readings of the model, log entries 2, 59, 63 and 64. -/
def Obligations.CipherRows : Prop :=
  -- CIPHER_RETRY_COMPLETE
  (∀ (t : Time) (id k ctype len : Nat) (fault : Option Nat) (c d : Lane) (u : CUnit) (x : Conn) (sum : BitVec 64)
      (eq : Bool) (s : State),
    Tbl.get? s.cipher.units id = some u → u.held = true → u.op = .ingress k ctype len fault →
    c ≠ d → c.val ∈ retryLanes u s → d.val ∈ retryLanes u s → connOf s k = some x →
    ingressFault x ctype fault = none →
    Completes (exec (.cipherRetryComplete t id c d sum sum true true eq) s) fun v =>
      (connOf v k).map (·.tls.rxRecords) = some (x.tls.rxRecords + 1) ∧
      (u.sumA = sum → u.sumB ≠ sum → atNat s.cipher.lanes u.laneB = some .inService →
        atNat v.cipher.lanes u.laneB = some .underTest)) ∧
  -- CLUSTER_REBIND
  (∀ (t : Time) (k c : Nat) (x : Conn) (s : State),
    connOf s k = some x → x.tls.active = true → clusterTakes s (tlsCluster k x) = false →
    (∀ p ∈ s.cipher.units, unitConn p.2 ≠ some k) → clusterFrom s (tlsCluster k x) = some c →
    Completes (exec (.clusterRebind t k) s) fun u => (connOf u k).map (tlsCluster k) = some c) ∧
  -- CONTEXT_MISS
  (∀ (t : Time) (k : Nat) (s : State), k ∈ s.cipher.spilled →
    (Completes (exec (.contextMiss t k true) s) fun u =>
      k ∈ u.cipher.resident ∧ k ∉ u.cipher.spilled ∧ countOf 0x5309 0 u = countOf 0x5309 0 s + 1) ∧
    (∀ x, connOf s k = some x → Completes (exec (.contextMiss t k false) s) fun u => connOf u k = none)) ∧
  -- ENTROPY_TEST_FAILURE
  (∀ (t : Time) (i : Fin 2) (s : State), s.cipher.sourceOk[i] = true →
    Completes (exec (.entropyTestFailure t i) s) fun u =>
      u.cipher.sourceOk[i] = false ∧
      (s.cipher.sourceOk[1 - i] = true → entropyState u = 1 ∧ Logged 0x5304 (i.val + 1) 1 s u) ∧
      (s.cipher.sourceOk[1 - i] = false → entropyState u = 2 ∧ Logged 0x5305 0 2 s u)) ∧
  -- ENTROPY_SOURCE_RECOVERY
  (∀ (t : Time) (i : Fin 2) (s : State), Completes (exec (.entropySourceRecovery t i) s) fun u =>
    u.cipher.sourceOk[i] = true ∧ u.cipher.sourceOk[1 - i] = s.cipher.sourceOk[1 - i]) ∧
  -- MASK_RESEED
  (∀ (t : Time) (s : State), Completes (exec (.maskReseed t) s) fun u =>
    u.cipher.maskSeeds = if entropyState s = 2 then s.cipher.maskSeeds else s.cipher.maskSeeds + 1)

/-- After 09 R250 to R253 and R256, under the conditions of each clause: a crypto erase that is taken marks the
namespace's key and leaves it in use; the switch puts a new key with two different halves in its place in one step,
raises its generation and keeps the old key, which goes once no read needs it. The escrow key is kept as written. An
array key that unwraps under it is taken, and one that does not is refused with RANGE. A PSK is kept in its slot and the
connections stay. It rests also on choices and readings of the model, log entries 2, 3, 43 and 64. -/
def Obligations.KeyRows : Prop :=
  -- NS_CRYPTO_ERASE
  (∀ (t : Time) (w : Write) (x : Session) (c : WCtx) (s : State), WriteTaken 0x5321 cryptoEraseCheck t w x c s →
    Completes (exec (.nsCryptoErase t w) s) fun u =>
      (Tbl.get? u.keys.ns c.rcd).map (·.erasing) = some true ∧
      (nsKeyAt c.rcd u).key = (nsKeyAt c.rcd s).key) ∧
  -- CRYPTO_ERASE_SWITCH
  (∀ (t : Time) (ns : Nat) (s : State),
    decides s = true → eraseRuns ns s = true → eraseBusy ns s = false →
    Completes (exec (.cryptoEraseSwitch t ns) s) fun u =>
      Tbl.get? u.keys.ns ns = some {
        key := some (newKey s).1
        gen := (nsKeyAt ns s).gen + 1
        erasing := false
        old := (nsKeyAt ns s).key } ∧
      ((newKey s).1.k1 ≠ (newKey s).1.k2)) ∧
  -- OLD_KEY_ZEROISE
  (∀ (t : Time) (ns : Nat) (k : NsKey) (s : State), Tbl.get? s.keys.ns ns = some k →
    Completes (exec (.oldKeyZeroise t ns) s) fun u =>
      Tbl.get? u.keys.ns ns = some (if oldKeyReads ns s then k else { k with old := none })) ∧
  -- ESCROW_KEK
  (∀ (t : Time) (w : Write) (x : Session) (c : WCtx) (s : State), WriteTaken 0x5330 noCheck t w x c s →
    Completes (exec (.escrowKek t w) s) fun u => u.keys.kek = some w.val.octets) ∧
  -- ARRAY_KEY_IMPORT
  (∀ (t : Time) (w : Write) (x : Session) (c : WCtx) (s : State),
    WriteTaken 0x5332 (fun _ s => refuseIf (!inMode [.isolated] s || s.keys.arrayKey.isSome) .mode) t w x c s →
    Completes (exec (.arrayKeyImport t w) s) fun u =>
      u.keys.arrayKey = importKey w.val.octets s ∧
      (importKey w.val.octets s = none → w.sess < tunnelKey →
        Puts (.reply w.sess 0 (answer 0x5332 w.sub 1 .range none)) s u)) ∧
  -- PSK_VALUE
  (∀ (t : Time) (w : Write) (x : Session) (c : WCtx) (s : State), WriteTaken 0x5313 noCheck t w x c s →
    Completes (exec (.pskValue t w) s) fun u =>
      Tbl.get? u.keys.psk c.rcd = some w.val.octets ∧ u.conns = s.conns)

/-! ### 10: the pair -/

/-- After 10 R267 to R269, R279 and R294, under the conditions of each clause: a link that comes up starts both series
of SEQ at 0, and in ISOLATED or SOLO with pairing on sends a pairing frame. One that goes down trains again with nothing
left to acknowledge; a serving module fences its partner, and a joining one is ISOLATED. Frames not acknowledged are
sent again, and one sent eight times takes the link down. An acknowledgement owed goes with a heartbeat. It rests also
on choices and readings of the model, log entries 28 and 73. -/
def Obligations.MirrorLinkRows : Prop :=
  -- MIRROR_LINK_UP
  (∀ (t : Time) (s : State), inMode [.reset, .boot, .holdup] s = false →
    Completes (exec (.mirrorLinkUp t) s) fun u =>
      u.pair.link = 2 ∧ u.pair.rxSeq = 0 ∧
      (inMode [.isolated, .solo] s = false ∨ flag 0x2106 0 0 s = false → u.pair.txSeq = 0 ∧ u.pair.unacked = []) ∧
      (inMode [.isolated, .solo] s = true → flag 0x2106 0 0 s = true →
        u.pair.txSeq = 1 ∧ u.pair.unacked = [(0, 1)] ∧
        PutsFrame (.mirPairing (pairInfo none s).1) s u)) ∧
  -- MIRROR_LINK_DOWN
  (∀ (t : Time) (s : State),
    s.pair.link ≠ 0 → inMode [.reset, .boot, .holdup, .rejoin] s = false → s.xlat.formatting = false →
    Completes (exec (.mirrorLinkDown t) s) fun u =>
      u.pair.link = 1 ∧ u.pair.unacked = [] ∧
      (inMode [.active, .quiesced] s = true → s.pair.paired = true →
        u.pair.lag = .fencing ∧ (s.pair.lag ≠ .fencing → u.pair.round = some .fencing))) ∧
  (∀ (t : Time) (s : State), s.pair.link ≠ 0 → s.mode.mode = .rejoin → Idle s → s.xlat.formatting = false →
    Completes (exec (.mirrorLinkDown t) s) fun u => u.mode.mode = .isolated) ∧
  -- MIRROR_RETRANSMIT_TIMEOUT
  (∀ (t : Time) (s : State),
    s.pair.link = 2 → s.pair.unacked ≠ [] → (∀ q ∈ s.pair.unacked, q.2 < 8) →
    Completes (exec (.mirrorRetransmitTimeout t) s) fun u =>
      u.out = s.out ++ [.mirRepeat (s.pair.unacked.map Prod.fst)] ∧
      u.pair.unacked = s.pair.unacked.map fun q => (q.1, q.2 + 1)) ∧
  (∀ (t : Time) (s : State),
    s.pair.link = 2 → (∃ q ∈ s.pair.unacked, 8 ≤ q.2) → inMode [.reset, .boot, .holdup, .rejoin] s = false →
    s.xlat.formatting = false →
    Completes (exec (.mirrorRetransmitTimeout t) s) fun u => u.pair.link = 1) ∧
  -- MIRROR_ACK_IDLE
  (∀ (t : Time) (s : State), s.pair.ackOwed = true → linkMode s = true → s.pair.link = 2 →
    Completes (exec (.mirrorAckIdle t) s) fun u =>
      u.pair.ackOwed = false ∧ u.pair.txSeq = s.pair.txSeq + 1 ∧
      ∃ h, h.ack = s.pair.rxSeq - 1 ∧
        Puts (.mirror h (.mirHeartbeat (pairTime (advance t s)) (degradedModule s))) s u)

/-- After 02 R48, 10 R270 to R278, R292 and 15 R409, under the conditions of each clause: an accepted heartbeat
keeps the partner's mode and DEGRADED, leads the pair clock to the later of the two and gives a module that does not
decide its cycle. A record without entries that lacks nothing is committed and confirmed, and the join record makes
the joiner the standby. A confirmation commits, and a planned frame of a record two cycles old joins its
connection's queue. A stream fill is answered from the retention ring or the partner is evicted, a sector fill from
its slot. A stream fill that comes is taken like the network's bytes, and a sector into a slot of state 6. The first
part of a snapshot clears the maps and the last takes the joiner to the replay; without a granule of SNAPSHOT the
frame is not accepted. A GET over the link is answered over it, and a forwarded request's answer reaches its
session. It rests also on choices and readings of the model, log entries 12, 24, 28, 29, 31, 33, 34 and 39. -/
def Obligations.MirrorFrameRows : Prop :=
  -- HEARTBEAT
  (∀ (t : Time) (h : MirHdr) (clock : Time) (d : Bool) (s : State), FrameTaken h s → pairedModes s = true →
    Completes (exec (.heartbeat t h clock d) s) fun u =>
      u.pair.heartbeat = true ∧ u.pair.partnerDegraded = d ∧ u.pair.partnerMode = h.mode ∧
      u.pair.rxSeq = s.pair.rxSeq + 1 ∧ (s.pair.sectorQ = [] → u.pair.ackOwed = true) ∧
      u.pair.clockAhead = max s.pair.clockAhead (clock - max s.now t) ∧
      u.pair.cycle = if decides s then s.pair.cycle else clock / 8000) ∧
  -- CYCLE_RECORD: a record with nothing missing
  (∀ (t : Time) (h : MirHdr) (r : CycleRec) (s : State),
    FrameTaken h s → s.mode.mode = .standby → s.pair.committed < r.cycle → r.entries = [] → r.handover = false →
    r.cold = false → s.pair.waiting = [] → s.pair.lacks = [] →
    Completes (exec (.cycleRecord t h r) s) fun u =>
      u.pair.committed = r.cycle ∧ u.pair.epoch = r.epoch ∧ u.pair.waiting = [] ∧
      PutsFrame (.mirConfirm r.cycle) s u) ∧
  -- CYCLE_RECORD: the record that joins
  (∀ (t : Time) (h : MirHdr) (r : CycleRec) (s : State),
    FrameTaken h s → s.mode.mode = .rejoin → s.pair.rejoinPhase = 5 → r.join = true → r.entries = [] →
    r.handover = false → r.cold = false → s.pair.waiting = [] → s.pair.lacks = [] →
    Completes (exec (.cycleRecord t h r) s) fun u =>
      u.mode.mode = .standby ∧ u.pair.paired = true ∧ PutsFrame (.mirConfirm r.cycle) s u) ∧
  -- CONFIRM
  (∀ (t : Time) (h : MirHdr) (n : Nat) (s : State),
    FrameTaken h s → pairedModes s = true → decides s = true → s.pair.paired = true → n ≤ s.pair.lastSealed →
    s.mode.handover = none →
    (s.pair.planned = [] → Completes (exec (.confirm t h n) s) fun u => u.pair.committed = max s.pair.committed n) ∧
    (∀ q cid d l x, s.pair.planned = [q] → q.frame.msg = .data cid d l → connOf s q.conn = some x →
      q.cycle ≤ n → q.cycle + 2 ≤ s.pair.cycle →
      Completes (exec (.confirm t h n) s) fun u =>
        u.pair.planned = [] ∧ (connOf u q.conn).map (·.sendQ) = some (x.sendQ ++ [q.frame]))) ∧
  -- FILL_REQUEST
  (∀ (t : Time) (h : MirHdr) (k pos len : Nat) (s : State),
    FrameTaken h s → pairedModes s = true → decides s = true →
    let kept := retained (s.net.retention.length + 1) k pos len s.net.retention
    (∀ b, kept = some b → Completes (exec (.fillRequest t h (.stream k pos len)) s) fun u =>
      PutsFrame (.mirStream k pos b) s u ∧ countOf 0x2120 0 u = countOf 0x2120 0 s + 1) ∧
    (kept = none → Completes (exec (.fillRequest t h (.stream k pos len)) s) fun u => u.pair.lag = .fencing)) ∧
  (∀ (t : Time) (h : MirHdr) (ns a k : Nat) (x : Slot) (s : State),
    FrameTaken h s → pairedModes s = true → decides s = true → resolve ns a s = .slot k →
    Tbl.get? s.xlat.slots k = some x → s.pair.sectorQ = [] → 1 ≤ h.credit →
    Completes (exec (.fillRequest t h (.sectors ns a 1)) s) fun u =>
      PutsFrame (.mirSectors [{ ns, lba := a, cycle := 0, data := x.data }]) s u) ∧
  -- STREAM_FILL and SECTOR_DATA
  (∀ (t : Time) (h : MirHdr) (k pos : Nat) (b : Bytes) (x : Conn) (s : State),
    FrameTaken h s → takesRecords s = true → s.pair.waiting = [] → connOf s k = some x → x.info.kind = .tcp →
    Completes (exec (.streamFill t h k pos b) s) fun u =>
      connOf u k = some (takeBytes pos b.length (cfg 0x3105 s) x)) ∧
  (∀ (t : Time) (h : MirHdr) (m : MirSector) (s : State),
    FrameTaken h s → inMode [.standby, .coldStandby] s = true → s.pair.waiting = [] → caddyFree s ≠ 0 →
    (∀ p ∈ s.xlat.slots, sameCopy m p.2 = false) →
    Completes (exec (.sectorData t h [m]) s) fun u =>
      ∃ y, Tbl.get? u.xlat.slots (nextSlot s).1 = some y ∧
        y.state = .received ∧ y.ns = m.ns ∧ y.lba = m.lba ∧ y.cycle = m.cycle ∧ y.data = m.data) ∧
  -- SNAPSHOT
  (∀ (t : Time) (h : MirHdr) (percent : Nat) (s : State),
    grants s poolSnapshot 1 = true → FrameTaken h s → s.mode.mode = .rejoin → s.pair.cold = false →
    (s.pair.rejoinPhase = 3 → Completes (exec (.snapshot t h [] percent false) s) fun u =>
      u.pair.rejoinPhase = 4 ∧ u.pair.rejoinPercent = min percent 100 ∧ u.xlat.runs = [] ∧ u.xlat.bands = []) ∧
    (s.pair.rejoinPhase = 4 → s.pair.waiting = [] →
      Completes (exec (.snapshot t h [] percent true) s) fun u =>
        u.pair.rejoinPhase = 5 ∧ u.pair.rejoinPercent = 100)) ∧
  (∀ (t : Time) (h : MirHdr) (l : List RecEntry) (percent : Nat) (last : Bool) (s : State),
    grants s poolSnapshot 1 = false →
    Completes (exec (.snapshot t h l percent last) s) fun u => u.pair.rxSeq = s.pair.rxSeq ∧ u.xlat = s.xlat) ∧
  -- EPQUIN
  (∀ (t : Time) (h : MirHdr) (priv : Priv) (sess trans idx sub : Nat) (s : State),
    FrameTaken h s → reachable .mirror s = true → grants s poolMgmt 1 = true → sess < 65536 →
    Completes (exec (.epquin t h (.request priv sess trans (.get idx sub))) s) fun u =>
      ∃ r, PutsFrame (.mirEpquin (.response sess trans r)) s u ∧
        r.items.map (fun i => (i.index, i.sub)) = [(idx, sub)]) ∧
  (∀ (t : Time) (h : MirHdr) (sess trans : Nat) (req : Req) (r : Resp) (s : State),
    FrameTaken h s → s.mgmt.forwards = [(sess, trans, req)] → sess < 65536 →
    Completes (exec (.epquin t h (.response sess trans r)) s) fun u =>
      u.mgmt.forwards = [] ∧ Puts (.reply sess trans r) s u)

/-- After 10 R270, R271, R274 and R280, under the conditions of each clause: alone the record of the ended cycle is
committed by itself. The active of a pair seals the record and sends it, and it is not committed yet. A standby
counts the cycle and sends a heartbeat with the pair clock. In a takeover the cycle counts and nothing is sent. It
rests also on choices and readings of the model, log entries 12, 32, 34 and 44. -/
def Obligations.BoundaryRows : Prop :=
  -- CYCLE_BOUNDARY: alone
  (∀ (t : Time) (s : State),
    s.mode.mode = .solo → s.pair.paired = false → s.pair.partnerJoining = false → s.pair.heldEntries = [] →
    s.pair.planned = [] → s.cmd.cmds = [] → s.mode.handover = none → s.mgmt.waiting = [] →
    Completes (exec (.cycleBoundary t) s) fun u =>
      u.pair.cycle = s.pair.cycle + 1 ∧ u.pair.committed = s.pair.cycle ∧ u.pair.lastSealed = s.pair.cycle ∧
      u.pair.entries = []) ∧
  -- CYCLE_BOUNDARY: the active of a pair
  (∀ (t : Time) (s : State),
    s.mode.mode = .active → s.pair.paired = true → s.pair.cold = false → s.pair.partnerJoining = false →
    s.pair.heldEntries = [] → s.pair.planned = [] → s.cmd.cmds = [] → s.mode.handover = none →
    s.mgmt.waiting = [] → s.pair.link = 2 →
    Completes (exec (.cycleBoundary t) s) fun u =>
      u.pair.cycle = s.pair.cycle + 1 ∧ u.pair.lastSealed = s.pair.cycle ∧ u.pair.committed = s.pair.committed ∧
      PutsFrame (.mirRecord (recordNow false false s)) s u) ∧
  -- CYCLE_BOUNDARY: a standby
  (∀ (t : Time) (s : State),
    s.mode.mode = .standby → s.pair.waiting = [] → s.pair.lacks = [] → s.pair.link = 2 → s.mgmt.waiting = [] →
    Completes (exec (.cycleBoundary t) s) fun u =>
      u.pair.cycle = s.pair.cycle + 1 ∧ PutsFrame (.mirHeartbeat (pairTime (advance t s)) (degradedModule s)) s u) ∧
  -- CYCLE_BOUNDARY: a takeover
  (∀ (t : Time) (s : State), s.mode.mode = .takeover → Completes (exec (.cycleBoundary t) s) fun u =>
    u.pair.cycle = s.pair.cycle + 1 ∧ u.out = s.out)

/-- After 10 R279 to R283, under the conditions of each clause: a standby that loses the heartbeat enters ISOLATED
while both fault inputs are high and takes over otherwise. An active of a pair fences its partner. Both inputs low
are reported, and a standby takes over. One input low is reported, and with the heartbeat lost a standby takes over.
A missing health signal drops the fault outputs. Fencing without a majority ends in ISOLATED, and so does an EVICT
on a partner. It rests also on choices and readings of the model, log entries 24, 26, 27, 36 and 70. -/
def Obligations.FailoverRows : Prop :=
  -- HEARTBEAT_LOSS: a standby decides by the fault pair
  (∀ (t : Time) (s : State), inMode [.standby, .coldStandby] s = true →
    (s.pair.faultIn = 3 → Completes (exec (.heartbeatLoss t) s) fun u =>
      u.mode.mode = .isolated ∧ u.pair.paired = false) ∧
    (s.pair.faultIn ≠ 3 → Completes (exec (.heartbeatLoss t) s) fun u =>
      u.mode.mode = .takeover ∧ u.pair.round = some .takeover ∧ u.pair.takeoverAt = max s.now t)) ∧
  -- HEARTBEAT_LOSS: a serving module fences
  (∀ (t : Time) (s : State),
    inMode [.active, .quiesced] s = true → s.pair.paired = true → s.pair.lag ≠ .fencing →
    Completes (exec (.heartbeatLoss t) s) fun u =>
      u.pair.heartbeat = false ∧ u.pair.lag = .fencing ∧ u.pair.round = some .fencing) ∧
  -- FAULT_PAIR_ASSERTED and FAULT_LINE_WIRING
  (∀ (t : Time) (s : State), s.mode.mode = .solo → s.pair.partnerJoining = false →
    Completes (exec (.faultPairAsserted t) s) fun u =>
      u.pair.faultIn = 0 ∧ Logged 0x2106 0 s.pair.partnerMode s u) ∧
  (∀ (t : Time) (s : State),
    inMode [.standby, .coldStandby] s = true →
    Completes (exec (.faultPairAsserted t) s) fun u =>
      u.pair.faultIn = 0 ∧ u.mode.mode = .takeover ∧ u.pair.round = some .takeover) ∧
  (∀ (t : Time) (line : Fin 2) (s : State),
    inMode [.reset, .boot, .holdup] s = false → s.pair.heartbeat = true →
    let v : BitVec 2 := if line = 0 then 2 else 1
    Completes (exec (.faultLineWiring t line) s) fun u =>
      u.pair.faultIn = v ∧ Logged 0x2107 line.val v.toNat s u) ∧
  (∀ (t : Time) (line : Fin 2) (s : State),
    inMode [.standby, .coldStandby] s = true → s.pair.heartbeat = false →
    Completes (exec (.faultLineWiring t line) s) fun u => u.mode.mode = .takeover) ∧
  -- HEALTH_SIGNAL_MISSING
  (∀ (t : Time) (s : State), Completes (exec (.healthSignalMissing t) s) fun u =>
    u.mode.healthLost = true ∧ u.pair.faultOut = 0) ∧
  -- FENCING_TIMEOUT
  (∀ (t : Time) (s : State), s.pair.round = some .fencing →
    Completes (exec (.fencingTimeout t) s) fun u =>
      u.mode.mode = .isolated ∧ u.pair.paired = false ∧ u.pair.round = none) ∧
  -- EVICT
  (∀ (t : Time) (h : MirHdr) (reason : Nat) (s : State),
    FrameTaken h s → inMode [.standby, .coldStandby, .rejoin] s = true →
    Completes (exec (.evict t h reason) s) fun u => u.mode.mode = .isolated ∧ u.pair.paired = false)

/-- After 09 R248, 10 R292 to R298, R302, R303 and 14 R369, under the conditions of each clause: a joiner that hears
the serving module agrees the pair key and waits for the connections, or enters ISOLATED where step 1 fails. The
serving module begins the join with a pairing round. A module in ISOLATED begins a rejoin, or stays there once the
hour's attempts are used up. The reminder of a swap is reported. A role swap and a service disable that is drained
go through QUIESCED to the handover, or to ISOLATED without a partner. An activation resets into the slot. Service
alone begins a round of compare-and-set, or the module stays in ISOLATED with the event of its reason. It rests also
on choices and readings of the model, log entries 2, 35, 37, 43, 70 and 75. -/
def Obligations.RoleRows : Prop :=
  -- PAIRING: a joiner hears the serving module
  (∀ (t : Time) (h : MirHdr) (p : PairInfo) (s : State),
    FrameTaken h s → flag 0x2106 0 0 s = true → s.mode.mode = .rejoin → s.pair.rejoinPhase ≤ 2 →
    (pairingPasses p s = true → servesCode p.mode = true → s.keys.arrayKey.isSome = true →
      s.xlat.arrayId = p.arrayId →
      Completes (exec (.pairing t h p) s) fun u =>
        u.pair.rejoinPhase = 3 ∧ u.pair.pairing = false ∧ u.pair.epoch = p.epoch ∧
        u.keys.pairKey = some (Config.pairKey p.share s.fresh)) ∧
    (pairingPasses p s = false → Completes (exec (.pairing t h p) s) fun u => u.mode.mode = .isolated)) ∧
  -- PAIRING: the serving module hears a joiner
  (∀ (t : Time) (h : MirHdr) (p : PairInfo) (s : State),
    FrameTaken h s → flag 0x2106 0 0 s = true → s.mode.mode = .solo → p.mode = 8 → s.pair.lag ≠ .fencing →
    entropyState s ≠ 2 → s.pair.partnerJoining = false → pairingPasses p s = true →
    Completes (exec (.pairing t h p) s) fun u =>
      u.pair.partnerJoining = true ∧ u.pair.round = some .pairing ∧
      u.pair.rejoinPhase = (if p.arrayId = s.xlat.arrayId then 3 else 2) ∧
      u.keys.pairKey = some (Config.pairKey p.share s.fresh)) ∧
  -- REJOIN_START, REJOIN_RETRY, REJOIN_REQUEST
  (∀ (t : Time) (s : State),
    mayRejoin s = true → partnerSolo s = true → s.mode.holdIsolated = false → entropyState s ≠ 2 →
    Completes (exec (.rejoinStart t) s) fun u =>
      u.mode.mode = .rejoin ∧ u.pair.rejoinPhase = 1 ∧ u.pair.pairing = true) ∧
  (∀ (t : Time) (s : State),
    let now := max s.now t
    let l := s.pair.rejoinTries.filter fun x => now < x + 3600 * second
    s.mode.mode = .isolated → s.mode.holdIsolated = false →
    (cfg 0x2153 s ≤ l.length → Completes (exec (.rejoinRetry t) s) fun u =>
      u.mode.holdIsolated = true ∧ u.mode.mode = .isolated) ∧
    (l.length < cfg 0x2153 s → mayRejoin s = true → partnerSolo s = true → entropyState s ≠ 2 →
      Completes (exec (.rejoinRetry t) s) fun u =>
        u.mode.mode = .rejoin ∧ u.pair.rejoinTries = l ++ [now])) ∧
  (∀ (t : Time) (w : Write) (x : Session) (c : WCtx) (s : State), WriteTaken 0x2154 rejoinRequestCheck t w x c s →
    w.val.toNat ≠ 0 → entropyState s ≠ 2 →
    Completes (exec (.rejoinRequest t w) s) fun u =>
      u.mode.holdIsolated = false ∧
      u.mode.mode = if mayRejoin s && partnerSolo s then .rejoin else s.mode.mode) ∧
  -- SWAP_REMINDER
  (∀ (t : Time) (s : State),
    let d := cfg 0x2143 s
    d ≠ 0 → s.pair.lastSwap + d * (86400 * second) ≤ max s.now t → s.mgmt.raisedAt = [] →
    Completes (exec (.swapReminder t) s) fun u => Logged 0x210F 0 d s u) ∧
  -- ROLE_SWAP, QUIESCE_DRAINED, QUIESCE_LIMIT_EXPIRY
  (∀ (t : Time) (w : Write) (x : Session) (c : WCtx) (s : State), WriteTaken 0x2140 roleSwapCheck t w x c s →
    Completes (exec (.roleSwap t w) s) fun u => u.mode.mode = .quiesced ∧ u.mode.quiesceBy = .roleSwap) ∧
  (∀ (t : Time) (s : State), s.mode.mode = .quiesced → s.mode.handover = none →
    (s.pair.paired = true →
      ((∀ p ∈ s.cmd.cmds, dispatched p.2.phase = false) → Completes (exec (.quiesceDrained t) s) fun u =>
        u.mode.handover = some s.pair.cycle) ∧
      Completes (exec (.quiesceLimitExpiry t) s) fun u => u.mode.handover = some s.pair.cycle) ∧
    (s.pair.paired = false → s.mode.quiesceBy = .serviceEnable → (∀ p ∈ s.cmd.cmds, dispatched p.2.phase = false) →
      (Completes (exec (.quiesceDrained t) s) fun u => u.mode.mode = .isolated) ∧
      Completes (exec (.quiesceLimitExpiry t) s) fun u => u.mode.mode = .isolated)) ∧
  -- FW_ACTIVATE, FORCE_SOLO, PAIR_WAIT_EXPIRY
  (∀ (t : Time) (w : Write) (x : Session) (c : WCtx) (s : State), WriteTaken 0x2170 fwActivateCheck t w x c s →
    Completes (exec (.fwActivate t w) s) fun u =>
      u.mode.mode = .reset ∧ u.mode.resetCause = 4 ∧ (s.conns = [] → u.mode.bootReq = w.val.toNat)) ∧
  (∀ (t : Time) (w : Write) (x : Session) (c : WCtx) (s : State), WriteTaken 0x2171 forceSoloCheck t w x c s →
    Completes (exec (.forceSolo t w) s) fun u => u.pair.round = some .force) ∧
  (∀ (t : Time) (s : State),
    s.mode.mode = .isolated → s.mode.restarted = true → partnerServes s = false → s.pair.round = none →
    let held := currentValues s
    (s.keys.arrayKey = none → Completes (exec (.pairWaitExpiry t) s) fun u => Logged 0x5309 0 0 s u) ∧
    (s.keys.arrayKey.isSome = true → strictMajority held (seatedBays s).length = true → mayServe s = true →
      Completes (exec (.pairWaitExpiry t) s) fun u => u.pair.round = some .solo) ∧
    (s.keys.arrayKey.isSome = true → strictMajority held (seatedBays s).length = false →
      Completes (exec (.pairWaitExpiry t) s) fun u => u.mode.holdIsolated = true ∧ Logged 0x2113 0 held s u))

/-! ### 12: power -/

/-- After 12 R328, R329, R342, R345 and R348, under the conditions of each clause, which include that the always-on
domain runs: a feed takes the state its measurement brings and the node follows the higher enabled feed less 20 mV;
entering GOOD from ABSENT or LOST, LOW, REVERSE, LOST and OVERVOLTAGE are reported, and the loss of one feed changes
no mode. With the other feed LOST or in OVERVOLTAGE the module enters HOLDUP, drops the fault outputs and holds
every bay off. The sequence ends with the caddy closed, and a RESET_N that is low takes effect. A feed within range
starts BOOT, or SAFE with code 8 where no image passes. It rests also on choices and readings of the model, log
entries 56, 58 and 60. -/
def Obligations.FeedRows : Prop :=
  -- FEED_GOOD, FEED_LOW, FEED_OVERVOLTAGE_CLEAR, FEED_REVERSE, FEED_REVERSE_CLEAR
  (∀ (t : Time) (f : Feed) (mv : Nat) (s : State), s.mode.alwaysOn = true →
    let st := (feedOf s f.val).state
    let other := feedOf s (1 - f.val)
    let node := (if other.enabled then max mv other.mv else mv) - 20
    (st = .absent ∨ st = .lost → Completes (exec (.feedGood t f mv) s) fun u =>
      feedOf u f.val = { state := .good, mv } ∧ u.power.nodeMv = node ∧ Logged 0x6102 (f.val + 1) mv s u) ∧
    (st = .low → Completes (exec (.feedGood t f mv) s) fun u =>
      feedOf u f.val = { state := .good, mv } ∧ u.power.nodeMv = node) ∧
    (st = .good → Completes (exec (.feedLow t f mv) s) fun u =>
      feedOf u f.val = { state := .low, mv } ∧ u.power.nodeMv = node ∧ Logged 0x6103 (f.val + 1) mv s u) ∧
    (st = .overvoltage → Completes (exec (.feedOvervoltageClear t f mv) s) fun u =>
      feedOf u f.val = { state := .good, mv } ∧ u.power.nodeMv = node) ∧
    (st = .good ∨ st = .low → Completes (exec (.feedReverse t f mv) s) fun u =>
      (feedOf u f.val).state = .reverse ∧ Logged 0x6105 (f.val + 1) mv s u) ∧
    (st = .reverse → Completes (exec (.feedReverseClear t f mv) s) fun u =>
      (feedOf u f.val).state = if mv < 10600 then .low else .good)) ∧
  -- FEED_LOST and FEED_OVERVOLTAGE: of one feed, and of both
  (∀ (t : Time) (f : Feed) (mv : Nat) (s : State), s.mode.alwaysOn = true →
    let st := (feedOf s f.val).state
    let other := (feedOf s (1 - f.val)).state
    (other ≠ .lost → other ≠ .overvoltage →
      (st = .good ∨ st = .low → Completes (exec (.feedLost t f mv) s) fun u =>
        (feedOf u f.val).state = .lost ∧ u.mode = s.mode ∧ Logged 0x6101 (f.val + 1) mv s u) ∧
      (st ≠ .overvoltage → Completes (exec (.feedOvervoltage t f mv) s) fun u =>
        (feedOf u f.val).state = .overvoltage ∧ u.mode = s.mode ∧ Logged 0x6104 (f.val + 1) mv s u)) ∧
    (other = .lost ∨ other = .overvoltage → inMode [.reset, .holdup] s = false →
      (st = .good ∨ st = .low → Completes (exec (.feedLost t f mv) s) fun u =>
        u.mode.mode = .holdup ∧ u.power.holdRunning = true ∧ u.power.lossAt = some (max s.now t) ∧
        u.pair.faultOut = 0 ∧ ∀ b : Bay, (bayOf u b.val).state = .heldOff) ∧
      (st ≠ .overvoltage → Completes (exec (.feedOvervoltage t f mv) s) fun u =>
        u.mode.mode = .holdup ∧ u.power.holdRunning = true))) ∧
  -- HOLDUP_SEQUENCE_END
  (∀ (t : Time) (s : State), s.mode.mode = .holdup → s.power.holdRunning = true →
    Completes (exec (.holdupSequenceEnd t) s) fun u =>
      u.power.holdRunning = false ∧ u.power.caddyOpen = false ∧
      u.mode.mode = (if s.mode.resetN then .holdup else .reset) ∧
      (s.mode.resetN = false → u.mode.resetCause = 2)) ∧
  -- HOLDUP_RESTART
  (∀ (t : Time) (f : Feed) (s : State),
    s.mode.mode = .holdup → s.power.holdRunning = false → s.mode.alwaysOn = true →
    (feedOf s f.val).state = .good → 10800 ≤ (feedOf s f.val).mv → (feedOf s f.val).mv ≤ 13200 →
    (slotRuns 1 s = true ∨ slotRuns 2 s = true → (∀ e : Engine, (engineOf s e.val).state ≠ .retired) → s.mgmt.store = [] →
      s.pair.ring = [] → Completes (exec (.holdupRestart t) s) fun u =>
        u.mode.mode = .boot ∧ u.mode.resetCause = 6 ∧ u.conns = [] ∧ u.power.lossAt = none) ∧
    (slotRuns 1 s = false → slotRuns 2 s = false → Completes (exec (.holdupRestart t) s) fun u =>
      u.mode.mode = .safe ∧ u.mode.safeCause = 8))

/-- After 12 R331 to R337 and R348, under the conditions of each clause: a present bay powers its auxiliary output
and a seated one starts, or stays locked. A seating pin that rises switches it off, a removal empties it. A ramp
within 200 mV of the node is ON, and a start that is late latches. Overcurrent, a fast trip and the pass temperature
trip in ON and fault a start in RAMP as they are armed; a bay over its budget is reported only. The end of a
cool-down retries, debounces after a reseat, or locks. A lock switches off a bay that is ON or ramps and its removal
ramps a seated one. A clear releases the latch into the debounce. It rests also on choices and readings of the
model, log entries 43 and 55. -/
def Obligations.BayRows : Prop :=
  -- BAY_PRESENT, BAY_SEATED, BAY_SEATING_LOST, BAY_REMOVED
  (∀ (t : Time) (b : Bay) (s : State), s.mode.alwaysOn = true → baysRun s = true → (bayOf s b.val).state = .empty →
    Completes (exec (.bayPresent t b) s) fun u =>
      (bayOf u b.val).prsnt = true ∧ (bayOf u b.val).aux = .on ∧
      (bayOf u b.val).state = if (bayOf s b.val).seated then startOf b.val s else .present) ∧
  (∀ (t : Time) (b : Bay) (i : Sideband) (s : State),
    s.mode.alwaysOn = true → baysRun s = true → (bayOf s b.val).state = .present →
    Completes (exec (.baySeated t b i) s) fun u =>
      (bayOf u b.val).seated = true ∧ (bayOf u b.val).state = startOf b.val s) ∧
  (∀ (t : Time) (b : Bay) (pins : BitVec 2) (s : State),
    s.mode.alwaysOn = true → baysRun s = true → pins ≠ 0 → (bayOf s b.val).seated = true →
    (bayOf s b.val).state ≠ .empty →
    Completes (exec (.baySeatingLost t b pins) s) fun u =>
      (bayOf u b.val).seated = false ∧ (bayOf u b.val).retries = [] ∧
      (bayOf u b.val).state = (if (bayOf s b.val).state = .cooldown then .cooldown else .present) ∧
      Logged 0x6116 (b.val + 1) pins.toNat s u) ∧
  (∀ (t : Time) (b : Bay) (s : State), s.mode.alwaysOn = true → baysRun s = true →
    Completes (exec (.bayRemoved t b) s) fun u =>
      (bayOf u b.val).state = .empty ∧ (bayOf u b.val).prsnt = false ∧ (bayOf u b.val).aux = .off) ∧
  -- BAY_RAMP_DONE and BAY_START_DEADLINE
  (∀ (t : Time) (b : Bay) (mv : Nat) (s : State), (bayOf s b.val).state = .ramp → s.power.nodeMv ≤ mv + 200 →
    Completes (exec (.bayRampDone t b mv) s) fun u =>
      (bayOf u b.val).state = .on ∧ (bayOf u b.val).mv = mv ∧ Logged 0x6110 (b.val + 1) mv s u) ∧
  (∀ (t : Time) (b : Bay) (s : State), (bayOf s b.val).state = .ramp →
    Completes (exec (.bayStartDeadline t b) s) (StartFails b.val 4 s)) ∧
  -- BAY_OVERCURRENT, BAY_FAST_TRIP, BAY_OVER_BUDGET, BAY_PASS_TEMP_SAMPLE
  (∀ (t : Time) (b : Bay) (mA : Nat) (s : State), (bayOf s b.val).state = .on →
    (3800 < mA → Completes (exec (.bayOvercurrent t b mA) s) (Trips b.val 1 s)) ∧
    (12000 ≤ mA → Completes (exec (.bayFastTrip t b mA) s) (Trips b.val 2 s)) ∧
    (2500 < mA → Completes (exec (.bayOverBudget t b mA) s) fun u =>
      (bayOf u b.val).state = .on ∧ Logged 0x6114 (b.val + 1) mA s u)) ∧
  (∀ (t : Time) (b : Bay) (mA : Nat) (s : State), (bayOf s b.val).state = .ramp → 12000 ≤ mA →
    Completes (exec (.bayFastTrip t b mA) s) (StartFails b.val 5 s)) ∧
  (∀ (t : Time) (b : Bay) (temp : Int) (s : State),
    (temp < 1400 → Completes (exec (.bayPassTempSample t b temp) s) fun u =>
      bayOf u b.val = { bayOf s b.val with temp }) ∧
    (1400 ≤ temp → (bayOf s b.val).state = .on →
      Completes (exec (.bayPassTempSample t b temp) s) (Trips b.val 3 s)) ∧
    (1400 ≤ temp → (bayOf s b.val).state = .ramp →
      Completes (exec (.bayPassTempSample t b temp) s) (StartFails b.val 6 s))) ∧
  -- BAY_COOLDOWN_END and BAY_DEBOUNCE_END
  (∀ (t : Time) (b : Bay) (s : State), (bayOf s b.val).state = .cooldown → (bayOf s b.val).temp < 1000 →
    Completes (exec (.bayCooldownEnd t b) s) fun u =>
      (bayOf u b.val).state =
        if (bayOf s b.val).reseat then (if (bayOf s b.val).seated then .debounce else .present)
        else startOf b.val s) ∧
  (∀ (t : Time) (b : Bay) (s : State), (bayOf s b.val).state = .debounce → (bayOf s b.val).seated = true →
    Completes (exec (.bayDebounceEnd t b) s) fun u => (bayOf u b.val).state = startOf b.val s) ∧
  -- BAY_LOCK and BAY_CLEAR
  (∀ (t : Time) (w : Write) (x : Session) (c : WCtx) (s : State), WriteTaken 0x6111 noCheck t w x c s →
    let st := (bayOf s (w.sub - 1)).state
    (w.val.toNat ≠ 0 → st = .on ∨ st = .ramp → Completes (exec (.bayLock t w) s) fun u =>
      (bayOf u (w.sub - 1)).state = .locked) ∧
    (w.val.toNat = 0 → st = .locked → (bayOf s (w.sub - 1)).seated = true →
      Completes (exec (.bayLock t w) s) fun u => (bayOf u (w.sub - 1)).state = .ramp)) ∧
  (∀ (t : Time) (w : Write) (x : Session) (c : WCtx) (s : State), WriteTaken 0x6112 bayClearCheck t w x c s →
    w.val.toNat = 1 → Completes (exec (.bayClear t w) s) fun u =>
      (bayOf u (w.sub - 1)).state = .debounce ∧ (bayOf u (w.sub - 1)).retries = [])

/-- After 12 R339, R346 and R347, under the conditions of each clause: a trip of an auxiliary output starts its
cool-down, the fourth within 60 s latches it, and the 12 V output stays as it is; the end of the cool-down switches
it on again at a present bay. A request starts the measurement. Each of the first seven readings is kept, and the
eighth gives the median as the capacitance and the degraded reason below 1,867 µF. It rests also on choices and
readings of the model, log entries 43, 55, 56 and 60. -/
def Obligations.AuxAndHoldupRows : Prop :=
  -- AUX_TRIP and AUX_COOLDOWN_END
  (∀ (t : Time) (b : Bay) (s : State), (bayOf s b.val).aux = .on →
    let l := (bayOf s b.val).auxTrips.filter fun x => max s.now t < x + 60 * second
    Completes (exec (.auxTrip t b) s) fun u =>
      (bayOf u b.val).aux = (if 3 ≤ l.length then .latched else .cooldown) ∧
      (bayOf u b.val).state = (bayOf s b.val).state ∧ Logged 0x6115 (b.val + 1) (l.length + 1) s u) ∧
  (∀ (t : Time) (b : Bay) (s : State), (bayOf s b.val).aux = .cooldown → (bayOf s b.val).prsnt = true →
    Completes (exec (.auxCooldownEnd t b) s) fun u => (bayOf u b.val).aux = .on) ∧
  -- HOLDUP_TEST and HOLDUP_MEASUREMENT
  (∀ (t : Time) (w : Write) (x : Session) (c : WCtx) (s : State), WriteTaken 0x6105 holdupTestCheck t w x c s →
    w.val.toNat = 1 → Completes (exec (.holdupTest t w) s) fun u =>
      u.power.measuring = true ∧ u.power.samples = []) ∧
  (∀ (t : Time) (uF : Nat) (f : Feed) (s : State), s.power.measuring = true → (feedOf s f.val).state = .good →
    (s.power.samples.length < 7 → Completes (exec (.holdupMeasurement t uF) s) fun u =>
      u.power.samples = s.power.samples ++ [uF] ∧ u.power.measuring = true) ∧
    (s.power.samples.length = 7 →
      let cap := median8 (s.power.samples ++ [uF])
      Completes (exec (.holdupMeasurement t uF) s) fun u =>
        u.power.cap = cap ∧ u.power.measuring = false ∧ (cap < 1867 → u.repair.reason.getLsbD 3 = true)))

/-- 12 R340: the calibration of a bay's current sense runs only while its 12 V output is off, whatever command a
step runs; a request starts it; one for a bay in RAMP, ON or COOLDOWN is refused with BUSY_IN_SERVICE and
changes nothing. -/
def Obligations.CalibrationRule : Prop :=
  (∀ s u : State, CalibratesOff s → step s = .next u → CalibratesOff u) ∧
  (∀ (t : Time) (w : Write) (x : Session) (c : WCtx) (b : Bay) (s : State),
    WriteTaken 0x7100 selfTestCheck t w x c s → testOf c.nat = some (3, b.val + 1) →
    Completes (exec (.selfTestBay t w) s) fun u => (bayOf u b.val).calibrating = true) ∧
  (∀ (t : Time) (w : Write) (x : Session) (c : WCtx) (b : Bay) (s : State),
    WriteTaken 0x7100 noCheck t w x c s → testOf c.nat = some (3, b.val + 1) →
    (bayOf s b.val).state ∈ [.ramp, .on, .cooldown] →
    Completes (exec (.selfTestBay t w) s) fun u =>
      u.bays = s.bays ∧ u.repair = s.repair ∧ u.pools = s.pools ∧
      (w.sess < tunnelKey → Puts (.reply w.sess 0 (answer 0x7100 w.sub 1 .busyInService none)) s u))

/-! ### 13: the attach port -/

/-- After 13 R351, R357 and R361, under the conditions of each clause: a link that trains takes its speed and width,
and the window store where ATTACH_IN grants it. The loss of the link keeps the controller, PERST# and a hot reset
clear it with the windows and the store, and a function level reset clears it with the link kept. ATTACH_ENABLE is
stored, and 0 takes the link down. A clear of Bus Master Enable holds an open transfer with 04h, and a set sends the
interrupts that wait. It rests also on choices and readings of the model, log entries 43, 54 and 73. -/
def Obligations.AttachLinkRows : Prop :=
  -- ATTACH_LINK_UP
  (∀ (t : Time) (speed width : Nat) (s : State),
    cfg 0x6200 s ≠ 0 → s.ident.noAttach = false → inMode [.reset, .boot, .holdup] s = false →
    Completes (exec (.attachLinkUp t speed width) s) fun u =>
      u.attach.speed = speed ∧ u.attach.width = width ∧ u.attach.perst = false ∧
      (s.attach.storeSize = 0 → cfg 0x6205 s ≠ 0 → grants s poolAttach (cfg 0x6205 s) = true →
        u.attach.storeSize = cfg 0x6205 s ∧ u.attach.store = []) ∧
      (s.attach.storeSize = 0 → cfg 0x6205 s ≠ 0 → grants s poolAttach (cfg 0x6205 s) = false →
        u.attach.storeSize = 0) ∧
      (s.attach.storeSize ≠ 0 → Logged 0x6201 0 (width * 16 + speed) s u)) ∧
  -- ATTACH_LINK_DOWN, ATT_PERST_ASSERT, HOT_RESET
  (∀ (t : Time) (s : State), s.attach.speed ≠ 0 →
    (Completes (exec (.attachLinkDown t) s) fun u =>
      u.attach.speed = 0 ∧ u.attach.width = 0 ∧ u.attach.ccEn = s.attach.ccEn ∧ Logged 0x6202 0 0 s u) ∧
    (Completes (exec (.attPerstAssert t) s) fun u =>
      u.attach.speed = 0 ∧ u.attach.perst = true ∧ u.attach.ccEn = false ∧ u.attach.bme = false ∧
      u.attach.storeSize = 0 ∧ u.attach.sqs = []) ∧
    (Completes (exec (.hotReset t) s) fun u =>
      u.attach.speed = 0 ∧ u.attach.ccEn = false ∧ u.attach.bme = false ∧ u.attach.storeSize = 0 ∧
      u.attach.active = Vector.replicate 16 Win.reset)) ∧
  -- FUNCTION_LEVEL_RESET and ATTACH_ENABLE
  (∀ (t : Time) (s : State), Completes (exec (.functionLevelReset t) s) fun u =>
    u.attach.ccEn = false ∧ u.attach.bme = false ∧ u.attach.storeSize = 0 ∧ u.attach.store = [] ∧
    u.attach.tags = [] ∧ (s.cmd.cmds = [] → s.attach.sqs = [] → u.attach.speed = s.attach.speed)) ∧
  (∀ (t : Time) (w : Write) (x : Session) (c : WCtx) (s : State), WriteTaken 0x6200 attachEnableCheck t w x c s →
    Completes (exec (.attachEnable t w) s) fun u =>
      cfg 0x6200 u = w.val.toNat ∧ (w.val.toNat = 0 → u.attach.speed = 0 ∧ u.attach.ccEn = false)) ∧
  -- BME_CLEAR and BME_SET
  (∀ (t : Time) (s : State), s.attach.bme = true →
    Completes (exec (.bmeClear t) s) fun u =>
      u.attach.bme = false ∧ Logged 0x6203 0 (countOf 0x6208 0 s + 1) s u ∧
      ∀ id c, s.cmd.cmds = [(id, c)] → isAttach c = true → transferOpen c = true →
        u.cmd.cmds = [(id, { c with bmeHeld := true, phase := .completing, status := .dataTransfer })]) ∧
  (∀ (t : Time) (s : State), s.attach.bme = false → endpointUp s = true →
    s.cmd.cmds = [] → s.attach.heldCqes = [] →
    Completes (exec (.bmeSet t) s) fun u =>
      u.attach.bme = true ∧ u.attach.pba = [] ∧ u.out = s.out ++ s.attach.pba.map .msix)

/-- After 13 R354, R356 and R360, under the conditions of each clause: CC.EN with admin queues of at most 32 entries
enables the controller with those queues, and larger ones set CSTS.CFS; its clearing drops every queue and held
completion. A submission doorbell moves the tail and gives each new command the window generation, which it counts;
a completion doorbell moves the head. It rests also on choices and readings of the model, log entry 54. -/
def Obligations.AttachQueueRows : Prop :=
  -- CC_ENABLE and CC_DISABLE
  (∀ (t : Time) (a c : Nat) (s : State), endpointUp s = true → s.attach.ccEn = false →
    (a ≤ 32 → c ≤ 32 → Completes (exec (.ccEnable t a c) s) fun u =>
      u.attach.ccEn = true ∧ u.attach.cfs = s.attach.cfs ∧ u.attach.sqs = [(0, attQNew a 0)] ∧
      u.attach.cqs = [(0, attQNew c 0)]) ∧
    (32 < a ∨ 32 < c → Completes (exec (.ccEnable t a c) s) fun u =>
      u.attach.cfs = true ∧ u.attach.sqs = s.attach.sqs ∧ Logged 0x6205 0 a s u)) ∧
  (∀ (t : Time) (s : State), endpointUp s = true → Completes (exec (.ccDisable t) s) fun u =>
    u.attach.ccEn = false ∧ u.attach.sqs = [] ∧ u.attach.cqs = [] ∧ u.attach.heldCqes = []) ∧
  -- SQ_TAIL_DOORBELL and CQ_HEAD_DOORBELL
  (∀ (t : Time) (qid tail : Nat) (q : AttQ) (s : State),
    endpointUp s = true → s.attach.ccEn = true → s.attach.cfs = false → Tbl.get? s.attach.sqs qid = some q →
    let n := (tail + q.size - q.tail) % q.size
    tail < q.size → n ≠ 0 → Completes (exec (.sqTailDoorbell t qid tail) s) fun u =>
      Tbl.get? u.attach.sqs qid = some { q with
        tail := tail
        gens := q.gens ++ List.replicate n s.attach.gen } ∧
      Tbl.count u.attach.genUsers s.attach.gen = Tbl.count s.attach.genUsers s.attach.gen + n) ∧
  (∀ (t : Time) (qid head : Nat) (q : AttQ) (s : State),
    endpointUp s = true → s.attach.ccEn = true → Tbl.get? s.attach.cqs qid = some q → head < q.size →
    s.attach.heldCqes = [] → Completes (exec (.cqHeadDoorbell t qid head) s) fun u =>
      Tbl.get? u.attach.cqs qid = some { q with head := head })

/-- After 13 R353, R357 to R359 and R362, under the conditions of each clause: a commit that passes makes the masked
windows active in one step and raises the generation, another changes none and is reported. A peer write stores its
bytes and a peer read answers them, or the transaction is refused and counted. A mailbox GET is answered, and in
TAKEOVER it waits. A read completion fills its command's data and the write goes on to placement; without Bus Master
Enable it is dropped. A read that times out completes its command with 04h. It rests also on choices and readings of
the model, log entries 43, 44, 53 and 54. -/
def Obligations.WindowRows : Prop :=
  -- WIN_COMMIT, PEER_WRITE, PEER_READ
  (∀ (t : Time) (mask : BitVec 16) (l : List (Fin 16 × Win)) (s : State), endpointUp s = true →
    let sh := l.foldl (fun v p => v.set p.1.val p.2 p.1.isLt) s.attach.shadow
    let r := commitResult mask { s.attach with shadow := sh }
    Completes (exec (.winCommit t mask l) s) fun u =>
      u.attach.shadow = sh ∧ u.attach.commitResult = r ∧
      (r = 0 → u.attach.gen = s.attach.gen + 1 ∧
        ∀ w : Fin 16, u.attach.active[w] = if mask.getLsbD w.val then sh[w] else s.attach.active[w]) ∧
      (r ≠ 0 → u.attach.gen = s.attach.gen ∧ u.attach.active = s.attach.active ∧ Logged 0x6204 0 r s u)) ∧
  (∀ (t : Time) (w : Fin 16) (off : Nat) (b : Bytes) (s : State), endpointUp s = true →
    Completes (exec (.peerWrite t w off b) s) fun u => match peerAt true w off b.length s.attach with
      | some p => u.attach = { s.attach with store := storeBytes p b s.attach.store } ∧ u.out = s.out
      | none => u.attach = s.attach ∧ u.out = s.out ++ [.attachAer false] ∧
        countOf 0x620A 0 u = countOf 0x620A 0 s + 1) ∧
  (∀ (t : Time) (w : Fin 16) (off len : Nat) (s : State), endpointUp s = true →
    Completes (exec (.peerRead t w off len) s) fun u => u.attach = s.attach ∧
      match peerAt false w off len s.attach with
      | some p => u.out = s.out ++ [.attachCpl (storeRead s.attach.store p len)]
      | none => u.out = s.out ++ [.attachAer false, .attachUr] ∧ countOf 0x620A 0 u = countOf 0x620A 0 s + 1) ∧
  -- MBOX_DOORBELL
  (∀ (t : Time) (len idx sub : Nat) (s : State),
    endpointUp s = true → s.attach.mboxBusy = false → 1 ≤ len → len ≤ 4096 → reachable .mailbox s = true →
    grants s poolMgmt 1 = true →
    (inMode [.takeover] s = false → Completes (exec (.mboxDoorbell t len (.get idx sub)) s) fun u =>
      ∃ r, Puts (.mailboxReply r) s u ∧ r.items.map (fun i => (i.index, i.sub)) = [(idx, sub)] ∧
        u.attach.mboxBusy = false ∧ u.attach.mboxReady = true ∧ u.attach.mboxLen = respLen r) ∧
    (inMode [.takeover] s = true → Completes (exec (.mboxDoorbell t len (.get idx sub)) s) fun u =>
      u.attach.mboxBusy = true ∧ u.mgmt.waiting = s.mgmt.waiting ++ [(mailboxKey, 0, .get idx sub)])) ∧
  -- HOST_READ_COMPLETION and ATTACH_COMPLETION_TIMEOUT
  (∀ (t : Time) (tag id : Nat) (b : Bytes) (rest : List Bytes) (c : Cmd) (s : State),
    Tbl.get? s.attach.tags tag = some (id * 65536) →
    (s.attach.bme = false → Completes (exec (.hostReadCompletion t tag (b :: rest)) s) fun u =>
      u.attach.tags = Tbl.del s.attach.tags tag ∧ u.cmd = s.cmd) ∧
    (s.attach.bme = true → decides s = true → s.cmd.cmds = [(id, c)] → c.phase = .receiving → c.data = [none] →
      Completes (exec (.hostReadCompletion t tag (b :: rest)) s) fun u =>
        u.attach.tags = Tbl.del s.attach.tags tag ∧
        u.cmd.cmds = [(id, { c with data := [some b], phase := .placing })] ∧ id ∈ u.xlat.placeQ)) ∧
  (∀ (t : Time) (tag id q : Nat) (c : Cmd) (s : State),
    Tbl.get? s.attach.tags tag = some (id * 65536) → s.cmd.cmds = [(id, c)] → c.src = .attach q →
    c.bmeHeld = false → c.orphan = false → s.attach.bme = true → s.attach.ccEn = true →
    Completes (exec (.attachCompletionTimeout t tag) s) fun u =>
      Puts (.attachAer true) s u ∧ AttachAnswered q c.cid .dataTransfer 0 s u ∧ u.cmd.cmds = [] ∧
      Logged 0x6206 0 tag s u)

/-! ### 14: modes, clocks, self-repair -/

/-- After 02 R30, 06 R152, 14 R369, R374 and R379 to R381, under the conditions of each clause: RESET_N resets the
module at once, and during the hold-up sequence after it. With TEST_N high and a feed GOOD the release starts BOOT
from the first of the two slots whose image passes, requested slot first, and reads the seated modules; with none it
is SAFE with code 8. The end of BOOT is ISOLATED with the map source, the resynchronisation and the security counter
that its findings give. The watchdog tries the other slot once. The always-on domain stops with every feed absent
and every bay held off, and starts in RESET. It rests also on choices and readings of the model, log entries 57, 58,
60 and 99. -/
def Obligations.BootRows : Prop :=
  -- RESET_N_ASSERT
  (∀ (t : Time) (s : State), s.mode.mode ≠ .reset →
    (¬ (s.mode.mode = .holdup ∧ s.power.holdRunning = true) → Completes (exec (.resetNAssert t) s) fun u =>
      u.mode.mode = .reset ∧ u.mode.resetCause = 2) ∧
    (s.mode.mode = .holdup → s.power.holdRunning = true → Completes (exec (.resetNAssert t) s) fun u =>
      u.mode.mode = .holdup ∧ u.mode.resetN = false)) ∧
  -- RESET_RELEASE
  (∀ (t : Time) (a b : ImageCheck) (l : List Engine) (cages : List (Group × List Nat)) (s : State),
    let runs := fun (i : ImageCheck) => i.digestOk && i.sigOk && decide (s.mode.secVersion ≤ i.version)
    s.mode.mode = .reset → s.mode.alwaysOn = true →
    (Completes (exec (.resetRelease t false a b ⟨l, cages⟩) s) fun u => u.mode.mode = .reset ∧ u.mode.testN = false) ∧
    (feedIsGood s = true → runs a = true ∨ runs b = true → (∀ e : Engine, e ∈ l) →
      (∀ e : Engine, (engineOf s e.val).state ≠ .retired) → s.mgmt.store = [] → s.pair.ring = [] →
      Completes (exec (.resetRelease t true a b ⟨l, cages⟩) s) fun u =>
        u.mode.mode = .boot ∧ u.mode.resetCause = s.mode.resetCause ∧
        u.mode.bootSlot = (if s.mode.bootReq = 2 then (if runs b then 2 else 1) else (if runs a then 1 else 2)) ∧
        u.mgmt.images = #v[some a, some b] ∧ ∀ g ∈ cages, Puts (.cageRead g.1.val) s u) ∧
    (feedIsGood s = true → runs a = false → runs b = false →
      Completes (exec (.resetRelease t true a b ⟨l, cages⟩) s) fun u => u.mode.mode = .safe ∧ u.mode.safeCause = 8)) ∧
  -- BOOT_COMPLETE and BOOT_WATCHDOG
  (∀ (t : Time) (own partner journal : Bool) (s : State), s.mode.mode = .boot → s.power.measuring = false →
    Completes (exec (.bootComplete t own partner journal) s) fun u =>
      u.mode.mode = .isolated ∧ u.xlat.mapSource = mapSourceOf own partner ∧
      u.xlat.resyncKind = (if journal then s.xlat.resyncKind else 2) ∧
      u.mode.secVersion = max s.mode.secVersion s.mode.imageVersion ∧
      u.mode.bootDuration = max s.now t - s.mode.since ∧ (s.pair.link = 0 → u.pair.link = 1)) ∧
  (∀ (t : Time) (s : State), s.mode.mode = .boot →
    (s.mode.bootRetried = true → Completes (exec (.bootWatchdog t) s) fun u =>
      u.mode.mode = .safe ∧ u.mode.safeCause = 8) ∧
    (s.mode.bootRetried = false → s.conns = [] → slotRuns 1 s = true ∨ slotRuns 2 s = true →
      (∀ e : Engine, (engineOf s e.val).state ≠ .retired) → s.mgmt.store = [] → s.pair.ring = [] →
      Completes (exec (.bootWatchdog t) s) fun u =>
        u.mode.mode = .boot ∧ u.mode.resetCause = 5 ∧ u.mode.bootRetried = true)) ∧
  -- ALWAYS_ON_DOMAIN_STOP and ALWAYS_ON_DOMAIN_START
  (∀ (t : Time) (s : State), s.mode.alwaysOn = true → s.conns = [] →
    Completes (exec (.alwaysOnDomainStop t) s) fun u =>
      u.mode.mode = .reset ∧ u.mode.alwaysOn = false ∧ u.power.nodeMv = 0 ∧
      (∀ f : Feed, (feedOf u f.val).state = .absent) ∧
      ∀ b : Bay, (bayOf u b.val).state = .heldOff ∧ (bayOf u b.val).prsnt = false ∧ (bayOf u b.val).seated = false) ∧
  (∀ (t : Time) (s : State), s.mode.alwaysOn = false → Completes (exec (.alwaysOnDomainStart t) s) fun u =>
    u.mode.alwaysOn = true ∧ u.mode.mode = .reset ∧ u.mode.resetCause = 1)

/-- After 14 R369 to R373, R391 and R392, under the conditions of each clause: SERVICE_ENABLE is stored and a write
of 0 quiesces a serving module and isolates a standby. RESTART resets with its cause. Each trigger takes a module
that is not in RESET, BOOT, HOLDUP or SAFE to SAFE with the trigger's code. It rests also on choices and readings of
the model, log entries 43, 44, 58, 59 and 72. -/
def Obligations.ModeRows : Prop :=
  -- SERVICE_ENABLE and RESTART
  (∀ (t : Time) (w : Write) (x : Session) (c : WCtx) (s : State), WriteTaken 0x2001 serviceEnableCheck t w x c s →
    Completes (exec (.serviceEnable t w) s) fun u =>
      cfg 0x2001 u = w.val.toNat ∧
      (w.val.toNat ≠ 0 → u.mode.mode = s.mode.mode) ∧
      (w.val.toNat = 0 →
        (s.mode.mode = .solo ∨ (s.mode.mode = .active ∧ s.pair.partnerMode = 5) →
          u.mode.mode = .quiesced ∧ u.mode.quiesceBy = .serviceEnable) ∧
        (inMode [.standby, .coldStandby] s = true → u.mode.mode = .isolated))) ∧
  (∀ (t : Time) (w : Write) (x : Session) (c : WCtx) (s : State), WriteTaken 0x2005 restartCheck t w x c s →
    Completes (exec (.restart t w) s) fun u => u.mode.mode = .reset ∧ u.mode.resetCause = 3) ∧
  -- JUNCTION_OVERTEMP, SUPPLY_OUT_OF_RANGE, MGMT_WATCHDOG, SLACK_CRITICAL, ENGINE_CODE_CHECK
  (∀ (t : Time) (s : State), inMode [.reset, .boot, .holdup, .safe] s = false →
    (∀ d, Completes (exec (.junctionOvertemp t d) s) fun u => u.mode.mode = .safe ∧ u.mode.safeCause = 4) ∧
    (∀ d, Completes (exec (.supplyOutOfRange t d) s) fun u => u.mode.mode = .safe ∧ u.mode.safeCause = 5) ∧
    (Completes (exec (.mgmtWatchdog t) s) fun u =>
      u.mode.mode = .safe ∧ u.mode.safeCause = 7 ∧ u.mgmt.sessions = []) ∧
    (∀ d : Domain, (domOf s d.val).supply = maxSupply d.val → (domOf s d.val).slack < 5 →
      Completes (exec (.slackCritical t d) s) fun u => u.mode.mode = .safe ∧ u.mode.safeCause = 3) ∧
    (∀ e : Engine, (engineOf s e.val).state = .inService →
      Completes (exec (.engineCodeCheck t e false false) s) fun u => u.mode.mode = .safe))

/-- After 14 R375 to R377, under the conditions of each clause: POWER_POLICY is stored and takes effect in the modes
whose power state it chooses. Under automatic policy a second of load counts towards trimmed, or raises the state at
once. An idle element that may be gated is gated, demand wakes it, and link energy on the management port wakes the
management engines. It rests also on choices and readings of the model, log entries 43 and 66. -/
def Obligations.PowerStateRows : Prop :=
  -- POWER_POLICY and LOAD_MEASUREMENT
  (∀ (t : Time) (w : Write) (x : Session) (c : WCtx) (s : State), WriteTaken 0x2003 noCheck t w x c s →
    Completes (exec (.powerPolicy t w) s) fun u =>
      cfg 0x2003 u = w.val.toNat ∧
      u.mode.power = if policyModes s then powerOn s.mode.mode w.val.toNat s.mode.power else s.mode.power) ∧
  (∀ (t : Time) (d r n : Nat) (s : State), policyModes s = true → cfg 0x2003 s = 3 →
    let at_ := fun (idx : Nat) => loadAt (cfg idx s) d r n
    (s.mode.power = .full → at_ 0x2011 = false → Completes (exec (.loadMeasurement t d r n) s) fun u =>
      if s.mode.loadDown < 59 then u.mode.power = .full ∧ u.mode.loadDown = s.mode.loadDown + 1
      else u.mode.power = .trimmed ∧ u.mode.loadDown = 0) ∧
    (s.mode.power = .full → at_ 0x2011 = true → Completes (exec (.loadMeasurement t d r n) s) fun u =>
      u.mode.power = .full ∧ u.mode.loadDown = 0) ∧
    (s.mode.power = .trimmed → at_ 0x2010 = true → Completes (exec (.loadMeasurement t d r n) s) fun u =>
      u.mode.power = .full ∧ u.mode.gated = []) ∧
    (s.mode.power = .dormant → at_ 0x2013 = true → Completes (exec (.loadMeasurement t d r n) s) fun u =>
      u.mode.power = .trimmed)) ∧
  -- IDLE_GATE_EXPIRY, ELEMENT_WAKE, MANAGEMENT_WAKE
  (∀ (t : Time) (k : Fin 4) (i : Nat) (s : State), 1 ≤ i → mayGate k.val i s = true → (k.val, i) ∉ s.mode.gated →
    Completes (exec (.idleGateExpiry t k i) s) fun u => u.mode.gated = s.mode.gated ++ [(k.val, i)]) ∧
  (∀ (t : Time) (k : Fin 4) (i : Nat) (s : State), Completes (exec (.elementWake t k i) s) fun u =>
    (k.val, i) ∉ u.mode.gated ∧ ∀ g ∈ s.mode.gated, g ≠ (k.val, i) → g ∈ u.mode.gated) ∧
  (∀ (t : Time) (s : State), Completes (exec (.managementWake t) s) fun u =>
    ∀ g ∈ u.mode.gated, g.1 = 0 → (engineOf s (g.2 - 1)).stage ≠ 6)

/-- After 09 R247 and 14 R384 to R390, under the conditions of each clause: a suspect engine goes to the test and a
spare takes its stage, and a code check that fails twice is SAFE with code 6 besides. A code check that holds
changes nothing. A test that passes gives an engine the first stage that lacks one, or makes it a spare, and a lane
a place in its cluster; one that fails retires it. A requested test that is taken runs on its instance with its
granule and ends with its result. The interval of the spares tests every spare engine and lane. It rests also on
choices and readings of the model, log entries 43 and 59. -/
def Obligations.SelfRepairRows : Prop :=
  -- ENGINE_ITEM_STALL, ENGINE_SRAM_ERROR, ENGINE_CODE_CHECK
  (∀ (t : Time) (e : Engine) (i : Nat) (s : State),
    inMode [.reset, .holdup] s = false → (engineOf s e.val).state = .inService → engineSpare e.val s = some i →
    let P := fun (u : State) =>
      (engineOf u e.val).state = .underTest ∧ engineOf u i = { state := .inService, stage := (engineOf s e.val).stage } ∧
        countOf 0x7014 (e.val + 1) u = countOf 0x7014 (e.val + 1) s + 1
    Completes (exec (.engineItemStall t e) s) P ∧ Completes (exec (.engineSramError t e) s) P ∧
    (inMode [.boot, .safe] s = false → Completes (exec (.engineCodeCheck t e false false) s) fun u =>
      P u ∧ u.mode.mode = .safe ∧ u.mode.safeCause = 6)) ∧
  (∀ (t : Time) (e : Engine) (a b : Bool) (s : State), a = true ∨ b = true →
    Completes (exec (.engineCodeCheck t e a b) s) fun u => u.repair = s.repair ∧ u.mode = s.mode) ∧
  -- ENGINE_TEST_COMPLETE
  (∀ (t : Time) (e : Engine) (s : State),
    (engineOf s e.val).state = .underTest → testing 1 (e.val + 1) s = false →
    (Completes (exec (.engineTestComplete t e true) s) fun u =>
      engineOf u e.val = match [1, 2, 3, 4, 5, 6].find? fun k => stageRuns k s < stageDeal k s with
        | some k => { state := .inService, stage := k }
        | none => { state := .spare, stage := 0 }) ∧
    (Completes (exec (.engineTestComplete t e false) s) fun u => (engineOf u e.val).state = .retired)) ∧
  -- LANE_TEST_COMPLETE
  (∀ (t : Time) (l : Lane) (s : State), laneOf s l.val = .underTest → testing 2 (l.val + 1) s = false →
    (Completes (exec (.laneTestComplete t l true) s) fun u =>
      laneOf u l.val = if (clusterLanes s (l.val / 26)).length < 24 then .inService else .spare) ∧
    (Completes (exec (.laneTestComplete t l false) s) fun u => laneOf u l.val = .retired)) ∧
  -- SELF_TEST_ENGINE, SELF_TEST_LANE, SELF_TEST_BAY, SELF_TEST_DONE, SPARE_TEST_INTERVAL_EXPIRY
  (∀ (t : Time) (w : Write) (x : Session) (c : WCtx) (kind i : Nat) (s : State),
    WriteTaken 0x7100 selfTestCheck t w x c s → testOf w.val.toNat = some (kind, i) →
    let P := fun (u : State) =>
      u.repair.tests = [{ kind, inst := i }] ∧ u.repair.testResult = 1 ∧
      poolUsed u poolSelfTest = poolUsed s poolSelfTest + 1 ∧
      (kind = 1 → (engineOf u (i - 1)).state = .underTest) ∧ (kind = 2 → laneOf u (i - 1) = .underTest) ∧
      (kind = 3 → (bayOf u (i - 1)).calibrating = true)
    (kind = 1 → Completes (exec (.selfTestEngine t w) s) P) ∧
    (kind = 2 → Completes (exec (.selfTestLane t w) s) P) ∧
    (kind = 3 → Completes (exec (.selfTestBay t w) s) P)) ∧
  (∀ (t : Time) (kind i : Nat) (pass : Bool) (s : State), s.repair.tests = [{ kind, inst := i }] →
    Completes (exec (.selfTestDone t pass) s) fun u =>
      u.repair.tests = [] ∧ u.repair.testResult = (if pass then 2 else 3) ∧
      (kind = 3 → (bayOf u (i - 1)).calibrating = false) ∧
      (kind = 1 → i ≤ 36 → 1 ≤ i → pass = false → (engineOf u (i - 1)).state = .retired)) ∧
  (∀ (t : Time) (s : State), inMode [.reset, .boot, .holdup] s = false →
    Completes (exec (.spareTestIntervalExpiry t) s) fun u =>
      (∀ e : Engine, (engineOf s e.val).state = .spare → (engineOf u e.val).state = .underTest) ∧
      ∀ l : Lane, laneOf s l.val = .spare → laneOf u l.val = .underTest)

/-- After 06 R153 and 14 R382 to R384 and R391 to R394, under the conditions of each clause: a supply reading steps
its domain, and headroom below 100 mV is a degraded reason. The life account adds the weight of the hotter die and
keeps the peaks. A hot die is reported. A repair entry of kind 7 is cleared. A failed caddy block takes a spare, and
from the last on it is a degraded reason. A deal that keeps every minimum is stored whole and answered. It rests
also on choices and readings of the model, log entries 11, 43, 51 and 57. -/
def Obligations.AgeingRows : Prop :=
  -- SUPPLY_MONITOR, LIFE_ACCOUNTING, JUNCTION_HIGH
  (∀ (t : Time) (d : Domain) (mv : Int) (s : State), inMode [.reset, .holdup] s = false →
    Completes (exec (.supplyMonitor t d mv) s) fun u =>
      domOf u d.val = domStep d.val mv (max s.now t) (domOf s d.val) ∧
      (headroom d.val u < 100 → 100 ≤ headroom d.val s → u.repair.reason.getLsbD 2 = true)) ∧
  (∀ (t : Time) (core port : Int) (s : State), Completes (exec (.lifeAccounting t core port) s) fun u =>
    u.repair.temp = #v[core, port] ∧ u.repair.peak = #v[max s.repair.peak[0] core, max s.repair.peak[1] port] ∧
    u.repair.life = s.repair.life + lifeWeight (max core port)) ∧
  (∀ (t : Time) (d : Die) (s : State), Completes (exec (.junctionHigh t d) s) fun u =>
    Logged 0x7008 (d.val + 1) (s.repair.temp[d.val]).toNat s u) ∧
  -- REPAIR_CLEAR, CADDY_BLOCK_FAILURE, DEAL
  (∀ (t : Time) (w : Write) (x : Session) (c : WCtx) (e : Repair) (s : State),
    WriteTaken 0x7043 repairClearCheck t w x c s → repairAt w.val.toNat s = some e →
    Completes (exec (.repairClear t w) s) fun u =>
      e.kind = 7 ∧ u.repair.field = s.repair.field.eraseIdx (w.val.toNat - 1) ∧
      (e.instNo - 1 < 24 → (carOf u (e.instNo - 1)).badLanes = [])) ∧
  (∀ (t : Time) (b : Nat) (s : State), Completes (exec (.caddyBlockFailure t b) s) fun u =>
    u.xlat.spareUsed = (if s.xlat.spareUsed < 5376 then s.xlat.spareUsed + 1 else s.xlat.spareUsed) ∧
    (5375 ≤ s.xlat.spareUsed → u.repair.reason.getLsbD 5 = true)) ∧
  (∀ (t : Time) (sess : Nat) (x : Session) (n : Vector Nat 6) (s : State),
    Heard sess x s → sess < 65536 → s.mode.mode = .isolated → 2 ≤ privRank x.priv →
    accessDenied x 0x7012 s = false →
    6 ≤ n[0] → 6 ≤ n[1] → 6 ≤ n[2] → 3 ≤ n[3] → n[4] = 2 → n[5] = 2 → n.toList.sum = 32 →
    Completes (exec (.deal t sess n) s) fun u =>
      (∀ k : Fin 6, stageDeal (k.val + 1) u = n[k]) ∧ u.mgmt.configGen = s.mgmt.configGen + 1 ∧
      Puts (.reply sess 0 (statusOnly .ok)) s u)

/-! ### 15: management -/

/-- After 09 R252, 15 R401 to R406, R409 and R413, under the conditions of each clause: a GET is answered with what
is read, to the partner it goes over the link, and a repeat is answered from the kept response. A SET of an object
that is stored and brings nothing else is stored, raises the generation and is answered OK, and a stale one changes
nothing. A group whose members all pass is stored whole, and one with a failing member changes nothing and names it.
The array key is exported wrapped, or DENIED without an escrow key. A report is signed over the session's nonce,
which it uses up, or DENIED without one. It rests also on choices and readings of the model, log entries 2, 42, 43
and 46. -/
def Obligations.RequestRows : Prop :=
  -- GET and GET_MULTI
  (∀ (t : Time) (sess trans idx sub : Nat) (x : Session) (s : State), RequestRuns sess trans x s →
    let s' := atSession t sess s
    let r := getOne sess idx sub x s'
    (Completes (exec (.get t sess trans false idx sub) s) fun u =>
        Puts (.reply sess trans (answer idx sub 1 r.1 r.2.1)) s u ∧ u.dict = s.dict) ∧
    ((checkGet x 0x2000 0 s').1 = .ok → Completes (exec (.get t sess trans false 0x2000 0) s) fun u =>
      Puts (.reply sess trans (answer 0x2000 0 1 .ok (some (.num s.mode.mode.code)))) s u) ∧
    (s.pair.link = 2 → Completes (exec (.get t sess trans true idx sub) s) fun u =>
      PutsFrame (.mirEpquin (.request x.priv sess trans (.get idx sub))) s u) ∧
    (∀ l : List (Nat × Nat), l ≠ [] → l.length ≤ 64 →
      Completes (exec (.getMulti t sess trans false l) s) fun u =>
        Puts (.reply sess trans { status := .ok, items := (getItems sess x 1 l s').1 }) s u)) ∧
  -- GET: a repeat
  (∀ (t : Time) (sess trans idx sub : Nat) (x : Session) (k : Kept) (s : State),
    Heard sess x s → sess < tunnelKey → x.kept.find? (fun k => k.trans = trans) = some k →
    k.req = .get idx sub → Completes (exec (.get t sess trans false idx sub) s) fun u =>
      u.out = s.out ++ [.reply sess trans k.resp]) ∧
  -- SET and CONFIG_WRITE
  (∀ (t : Time) (sess trans g : Nat) (it : Item) (x : Session) (c : WCtx) (s : State),
    let s' := atSession t sess s
    (RequestRuns sess trans x s → SetPasses sess trans x g it c s' → it.index ≠ 0x5005 →
      Completes (exec (.set t sess trans false g it) s) fun u =>
        dval it.index it.sub c.rcd u = it.val ∧ u.mgmt.configGen = s.mgmt.configGen + 1 ∧
        Puts (.reply sess trans (answer it.index it.sub 1 .ok none)) s u) ∧
    (RequestRuns sess trans x s → forwardsTo it.index s = false → staleGen g s = true →
      Completes (exec (.set t sess trans false g it) s) fun u =>
        u.dict = s.dict ∧ Puts (.reply sess trans (answer it.index it.sub 1 .stale none)) s u) ∧
    (Heard sess x s → sess < tunnelKey → inMode [.takeover] s = false → SetPasses sess 0 x 0 it c s' →
      it.index ≠ 0x5005 → Completes (exec (.configWrite t sess it) s) fun u =>
        dval it.index it.sub c.rcd u = it.val ∧ u.mgmt.configGen = s.mgmt.configGen + 1 ∧
        Puts (.reply sess 0 (answer it.index it.sub 1 .ok none)) s u)) ∧
  -- SET_GROUP, whole or not at all
  (∀ (t : Time) (sess trans g : Nat) (l : List Item) (x : Session) (s : State), RequestRuns sess trans x s →
    let s' := atSession t sess s
    l.any (fun it => forwardsTo it.index s) = false → l ≠ [] → l.length ≤ 64 → staleGen g s = false →
    (∀ cs, groupWalk sess x trans (.setGroup g l) 1 l s' = .ok cs →
      groupJoint 1 (cs.zip l) (each cs putValue s') = none → (∀ it ∈ l, it.index ≠ 0x5005) →
      (∀ c ∈ cs, ∀ a b, effectAfter c a b = b) →
      Completes (exec (.setGroup t sess trans false g l) s) fun u =>
        u.dict = (each cs putValue s').dict ∧ Puts (.reply sess trans (statusOnly .ok)) s u) ∧
    (∀ pos it st, groupWalk sess x trans (.setGroup g l) 1 l s' = .error (pos, it, st) →
      Completes (exec (.setGroup t sess trans false g l) s) fun u =>
        u.dict = s.dict ∧ Puts (.reply sess trans (groupFails pos it st)) s u)) ∧
  -- ARRAY_KEY_EXPORT and ATTEST_REPORT
  (∀ (t : Time) (sess : Nat) (x : Session) (s : State), Heard sess x s → sess < tunnelKey →
    inMode [.takeover] s = false → (checkGet x 0x5331 0 (atSession t sess s)).1 = .ok →
    (∀ k kek, s.keys.arrayKey = some k → s.keys.kek = some kek →
      Completes (exec (.arrayKeyExport t sess) s) fun u =>
        Puts (.reply sess 0 (answer 0x5331 0 1 .ok (some (oct1 40 (Config.wrap kek k))))) s u) ∧
    (s.keys.kek = none → Completes (exec (.arrayKeyExport t sess) s) fun u =>
      Puts (.reply sess 0 (answer 0x5331 0 1 .denied none)) s u)) ∧
  (∀ (t : Time) (sess : Nat) (x : Session) (s : State), Heard sess x s → sess < tunnelKey →
    inMode [.takeover] s = false → (checkGet x 0x1008 0 (atSession t sess s)).1 = .ok →
    (∀ n, x.nonce = some n → Completes (exec (.attestReport t sess) s) fun u =>
      Puts (.reply sess 0 (answer 0x1008 0 1 .ok (some (oct1 352 (attestReport n (atSession t sess s)))))) s u ∧
      (Tbl.get? u.mgmt.sessions sess).map (·.nonce) = some none) ∧
    (x.nonce = none → Completes (exec (.attestReport t sess) s) fun u =>
      Puts (.reply sess 0 (answer 0x1008 0 1 .denied none)) s u))

/-- After 15 R401, R410, R417 and R418, under the conditions of each clause: a handshake with a certificate that
gives a privilege opens a session, and another is reported. A session idle for 300 s ends. A subscription whose
checks pass is kept and every one is answered with its status. A sample period queues one value of the listed
object. A notification carries up to 30 entries and takes them from the queue. It rests also on choices and readings
of the model, log entries 19, 45, 46 and 60. -/
def Obligations.SessionRows : Prop :=
  -- DTLS_HANDSHAKE and SESSION_IDLE_TIMEOUT
  (∀ (t : Time) (path : Path) (anchor : Option (Fin 5)) (a b : Bool) (s : State),
    dtlsPath path s = true → grants s poolMgmt 1 = true →
    let who := sessionPriv path (anchor.map fun k => k.val + 1) s
    let key := Tbl.freeFrom s.mgmt.sessions 1 (s.mgmt.sessions.length + 1)
    (∀ priv k, who = some (priv, k) → a = true → b = true → dtlsSessions s < 16 →
      Completes (exec (.dtlsHandshake t path anchor a b) s) fun u =>
        Tbl.get? u.mgmt.sessions key = some (sessionNew path priv k (max s.now t))) ∧
    (who = none ∨ a = false ∨ b = false ∨ 16 ≤ dtlsSessions s →
      Completes (exec (.dtlsHandshake t path anchor a b) s) fun u =>
        Tbl.keys u.mgmt.sessions = Tbl.keys s.mgmt.sessions ∧ Logged 0x1001 0 (dtlsSessions s) s u)) ∧
  (∀ (t : Time) (sess : Nat) (x : Session) (s : State), Tbl.get? s.mgmt.sessions sess = some x →
    Tbl.wf s.mgmt.sessions = true →
    Completes (exec (.sessionIdleTimeout t sess) s) fun u =>
      Tbl.get? u.mgmt.sessions sess = if x.lastMsg + 300 * second ≤ max s.now t then none else some x) ∧
  -- SUBSCRIBE, SAMPLE_PERIOD, NOTIFY
  (∀ (t : Time) (sess trans period : Nat) (fs : List EvFilter) (l : List (Nat × Nat)) (x : Session) (s : State),
    RequestRuns sess trans x s →
    let st := subscribeStatus x fs period l (atSession t sess s)
    Completes (exec (.subscribe t sess trans fs period l) s) fun u =>
      Puts (.reply sess trans (statusOnly st)) s u ∧
      (st = .ok → fs ≠ [] ∨ l ≠ [] → (Tbl.get? u.mgmt.sessions sess).map (·.sub) =
        some (some { filters := fs, period, samples := l }))) ∧
  (∀ (t : Time) (sess idx sub : Nat) (x : Session) (sb : Subscr) (s : State),
    Tbl.get? s.mgmt.sessions sess = some x → x.sub = some sb → sb.samples = [(idx, sub)] →
    reachable x.path s = true → Completes (exec (.samplePeriod t sess) s) fun u =>
      (Tbl.get? u.mgmt.sessions sess).map (·.sampleQ) =
        some (x.sampleQ ++ [(getItems sess x 1 [(idx, sub)] (advance t s)).1])) ∧
  (∀ (t : Time) (sess : Nat) (x : Session) (s : State),
    Tbl.get? s.mgmt.sessions sess = some x → reachable x.path s = true → x.notifyQ ≠ [] →
    (x.notifyAt.filter fun y => max s.now t < y + second).length < 50 →
    Completes (exec (.notify t sess) s) fun u =>
      u.out = s.out ++ [.notify sess x.notifySeq x.gap (x.notifyQ.take 30) []] ∧
      (Tbl.get? u.mgmt.sessions sess).map (fun y => (y.notifySeq, y.notifyQ)) =
        some (x.notifySeq + 1, x.notifyQ.drop 30))

/-- After 15 R400, R411, R413 to R416 and R419 to R424, under the conditions of each clause: a configuration reset
keeps the objects that survive it and the keys. An anchor is stored and the sessions of its subindex end, with every
session of the management port once the module is claimed. A nonce is kept in its session. A load is selected, its
chunks are put at their offset, and its commit keeps the checked image or none, with the event of either. The log is
flushed and bounded, and the statistics are copied. A counter snapshot latches its block, a value write resets a
counter, and a control write is stored. It rests also on choices and readings of the model, log entries 6, 8, 43,
47, 48 and 69. -/
def Obligations.ManagementRows : Prop :=
  -- CONFIG_RESET, ANCHOR_CERT, ATTEST_NONCE
  (∀ (t : Time) (w : Write) (x : Session) (c : WCtx) (s : State), WriteTaken 0xF002 configResetCheck t w x c s →
    Completes (exec (.configReset t w) s) fun u =>
      u.dict = (s.dict.filter fun p => keptAtReset (p.1 / 1048576)) ∧ u.keys = s.keys) ∧
  (∀ (t : Time) (w : Write) (p : Bool) (x : Session) (c : WCtx) (s : State),
    WriteTaken 0x1020 (fun c _ => anchorCheckWith p c) t w x c s →
    Completes (exec (.anchorCert t w p) s) fun u =>
      doct 0x1020 w.sub 0 u = w.val.octets ∧ (∀ q ∈ u.mgmt.sessions, q.2.anchor ≠ w.sub) ∧
      (claimed s = false → claimed u = true → ∀ q ∈ u.mgmt.sessions, q.2.path ≠ .mgmtPort)) ∧
  (∀ (t : Time) (w : Write) (x : Session) (c : WCtx) (s : State), WriteTaken 0x1007 noCheck t w x c s →
    Completes (exec (.attestNonce t w) s) fun u =>
      (Tbl.get? u.mgmt.sessions w.sess).map (·.nonce) = some (some w.val.octets)) ∧
  -- LOAD_SLOT, LOAD_DATA, LOAD_COMMIT
  (∀ (t : Time) (w : Write) (x : Session) (c : WCtx) (s : State), WriteTaken 0x1030 loadSlotCheck t w x c s →
    Completes (exec (.loadSlot t w) s) fun u =>
      u.mgmt.loadSlot = w.val.toNat ∧ u.mgmt.loadState = 1 ∧
      (Tbl.get? u.mgmt.sessions w.sess).map (·.loading) = some true) ∧
  (∀ (t : Time) (w : Write) (x : Session) (c : WCtx) (s : State), WriteTaken 0x1032 loadDataCheck t w x c s →
    let off := s.mgmt.loadOffset
    let k := s.mgmt.loadSlot - 1
    Completes (exec (.loadData t w) s) fun u =>
      u.mgmt.loadOffset = off + w.val.octets.length ∧ u.mgmt.loadState = 1 ∧
      atNat u.mgmt.slots k = (atNat s.mgmt.slots k).map (fun b => putChunk off w.val.octets (if off = 0 then [] else b)) ∧
      atNat u.mgmt.images k = (atNat s.mgmt.images k).map fun _ => none) ∧
  (∀ (t : Time) (w : Write) (img : ImageCheck) (x : Session) (c : WCtx) (s : State),
    WriteTaken 0x1033 loadCommitCheck t w x c s →
    let k := s.mgmt.loadSlot
    let ok := img.digestOk && img.sigOk && decide (s.mode.secVersion ≤ img.version)
    Completes (exec (.loadCommit t w img) s) fun u =>
      u.mgmt.loadState = (if ok then 2 else 3) ∧
      atNat u.mgmt.images (k - 1) = (atNat s.mgmt.images (k - 1)).map (fun _ => if ok then some img else none) ∧
      Logged (if ok then 0x1004 else 0x1005) k (if ok then 2 else 3) s u) ∧
  -- EVENT_LOG_FLUSH and STAT_CHECKPOINT
  (∀ (t : Time) (s : State), s.mode.mode ≠ .reset → Completes (exec (.eventLogFlush t) s) fun u =>
    let l := s.mgmt.log ++ s.mgmt.pendingLog
    u.mgmt.pendingLog = [] ∧ u.mgmt.log = l.drop (l.length - 196608)) ∧
  (∀ (t : Time) (s : State), inMode [.reset, .boot, .holdup] s = false →
    Completes (exec (.statCheckpoint t) s) fun u => u.mgmt.ckpt = s.mgmt.counts) ∧
  -- CTR_SNAPSHOT, CTR_VALUE, CTR_CONTROL
  (∀ (t : Time) (w : Write) (x : Session) (c : WCtx) (k : CtrBlock) (s : State), WriteTaken 0x8001 noCheck t w x c s →
    w.val.toNat = 1 → atNat s.mgmt.blocks (c.rcd - 1) = some k → Completes (exec (.ctrSnapshot t w) s) fun u =>
      ∃ k', atNat u.mgmt.blocks (c.rcd - 1) = some k' ∧ k'.latched = true ∧ k'.cyclesLatch = k'.cycles ∧
        ∀ i : Fin 8, k'.ctrs[i].latch = k'.ctrs[i].value) ∧
  (∀ (t : Time) (w : Write) (x : Session) (c : WCtx) (k : CtrBlock) (s : State), WriteTaken 0x8003 noCheck t w x c s →
    atNat s.mgmt.blocks (c.rcd - 1) = some k → 1 ≤ w.sub → w.sub ≤ 8 → Completes (exec (.ctrValue t w) s) fun u =>
      ((atNat u.mgmt.blocks (c.rcd - 1)).bind fun k => atNat k.ctrs (w.sub - 1)) = some Ctr.reset) ∧
  (∀ (t : Time) (w : Write) (x : Session) (c : WCtx) (s : State), WriteTaken 0x8004 ctrControlCheck t w x c s →
    Completes (exec (.ctrControl t w) s) fun u =>
      u.mgmt.ctrGen = s.mgmt.ctrGen + 1 ∧ dval 0x8004 w.sub c.rcd u = w.val)

/-! ### Frames: what a command leaves as it was -/

/-- The commands of 01 to 03 leave every part of a settled state but those that mayChange names for them as it was.
-/
def Obligations.HostFrame : Prop :=
  ∀ (c : Instr) (s u : State), chapter c ≤ 3 → Settled s → exec c s = .next u → OnlyChanges (mayChange c) s u

/-- The commands of 04 to 09 leave every part of a settled state but those that mayChange names for them as it was.
-/
def Obligations.DataFrame : Prop :=
  ∀ (c : Instr) (s u : State),
    4 ≤ chapter c → chapter c ≤ 9 → Settled s → exec c s = .next u → OnlyChanges (mayChange c) s u

/-- The commands of 10 and 11 leave every part of a settled state but those that mayChange names for them as it was.
-/
def Obligations.PairFrame : Prop :=
  ∀ (c : Instr) (s u : State),
    chapter c = 10 ∨ chapter c = 11 → Settled s → exec c s = .next u → OnlyChanges (mayChange c) s u

/-- The commands of 12 to 17 leave every part of a settled state but those that mayChange names for them as it was.
-/
def Obligations.PlatformFrame : Prop :=
  ∀ (c : Instr) (s u : State), 12 ≤ chapter c → Settled s → exec c s = .next u → OnlyChanges (mayChange c) s u

/-- After 02 R31 and R32: PORT_UP, PORT_DOWN, RECAL_COMPLETE, PFC_PAUSE, PFC_PAUSE_EXPIRY and PORT_PAUSED_LONG leave
every other port as it was. -/
def Obligations.PortFrame : Prop :=
  ∀ (t : Time) (p : Port) (prio duration : Nat) (s u : State),
    ∀ c ∈ [Instr.portUp t p, .portDown t p, .recalComplete t p, .pfcPause t p prio duration, .pfcPauseExpiry t p,
      .portPausedLong t p],
    exec c s = .next u → ∀ q : Nat, q ≠ p.val → portOf u q = portOf s q

/-- After 02 R38, R45, R52, R53 and 09 R242: PACKET_TOO_BIG, TCP_RETRANSMISSION_TIMEOUT, CONGESTION_NOTIFICATION,
RATE_RECOVERY, CLUSTER_REBIND and CE_MARKED_PACKET leave every other connection as it was. -/
def Obligations.ConnectionFrame : Prop :=
  ∀ (t : Time) (k mtu : Nat) (s u : State),
    ∀ c ∈ [Instr.packetTooBig t k mtu, .tcpRetransmissionTimeout t k, .congestionNotification t k, .rateRecovery t k,
      .clusterRebind t k, .ceMarkedPacket t k],
    exec c s = .next u → ∀ j : Nat, j ≠ k → connOf u j = connOf s j

/-- After 12 R334 and R341: the fourteen events of one bay leave the mode, the feeds, the maps, every other bay and
every carrier's state of membership as they were. It rests also on choices and readings of the model, log entry 55.
-/
def Obligations.BayFrame : Prop :=
  ∀ (t : Time) (b : Bay) (n : Nat) (temp : Int) (pins : BitVec 2) (i : Sideband) (s u : State),
    ∀ c ∈ [Instr.bayPresent t b, .baySeated t b i, .baySeatingLost t b pins, .bayRemoved t b, .bayRampDone t b n,
      .bayStartDeadline t b, .bayOvercurrent t b n, .bayFastTrip t b n, .bayPassTempSample t b temp,
      .bayOverBudget t b n, .bayCooldownEnd t b, .bayDebounceEnd t b, .auxTrip t b, .auxCooldownEnd t b],
    exec c s = .next u →
      u.mode = s.mode ∧ u.power = s.power ∧ u.xlat = s.xlat ∧ (∀ k : Nat, k ≠ b.val → bayOf u k = bayOf s k) ∧
      ∀ k : Nat, (carOf u k).state = (carOf s k).state

/-- 12 R330: whatever one feed does, the other feed's state is as it was; and while the other feed is GOOD or
LOW, no mode and no bay changes. -/
def Obligations.FeedFrame : Prop :=
  ∀ (t : Time) (f : Feed) (mv : Nat) (s u : State),
    ∀ c ∈ [Instr.feedGood t f mv, .feedLow t f mv, .feedLost t f mv, .feedOvervoltage t f mv,
      .feedOvervoltageClear t f mv, .feedReverse t f mv, .feedReverseClear t f mv],
    exec c s = .next u →
      feedOf u (1 - f.val) = feedOf s (1 - f.val) ∧
      ((feedOf s (1 - f.val)).enabled = true → u.mode = s.mode ∧ u.bays = s.bays)
end

