-- ==== Sys2Proof/Laws/State.lean ====
section
/-! SUPPORT. One lemma for each part of the state under each update of one part, so that no later
proof unfolds a record update. -/

namespace Sys2Proof.Machine

section
variable (s : State) (f : ModeSt → ModeSt)

@[simp] theorem State.onMode_ident : (s.onMode f).ident = s.ident := (rfl)
@[simp] theorem State.onMode_now : (s.onMode f).now = s.now := (rfl)
@[simp] theorem State.onMode_fresh : (s.onMode f).fresh = s.fresh := (rfl)
@[simp] theorem State.onMode_out : (s.onMode f).out = s.out := (rfl)
@[simp] theorem State.onMode_mode : (s.onMode f).mode = f s.mode := (rfl)
@[simp] theorem State.onMode_mgmt : (s.onMode f).mgmt = s.mgmt := (rfl)
@[simp] theorem State.onMode_dict : (s.onMode f).dict = s.dict := (rfl)
@[simp] theorem State.onMode_net : (s.onMode f).net = s.net := (rfl)
@[simp] theorem State.onMode_conns : (s.onMode f).conns = s.conns := (rfl)
@[simp] theorem State.onMode_cmd : (s.onMode f).cmd = s.cmd := (rfl)
@[simp] theorem State.onMode_pools : (s.onMode f).pools = s.pools := (rfl)
@[simp] theorem State.onMode_pot : (s.onMode f).pot = s.pot := (rfl)
@[simp] theorem State.onMode_core : (s.onMode f).core = s.core := (rfl)
@[simp] theorem State.onMode_egress : (s.onMode f).egress = s.egress := (rfl)
@[simp] theorem State.onMode_cipher : (s.onMode f).cipher = s.cipher := (rfl)
@[simp] theorem State.onMode_keys : (s.onMode f).keys = s.keys := (rfl)
@[simp] theorem State.onMode_xlat : (s.onMode f).xlat = s.xlat := (rfl)
@[simp] theorem State.onMode_media : (s.onMode f).media = s.media := (rfl)
@[simp] theorem State.onMode_pair : (s.onMode f).pair = s.pair := (rfl)
@[simp] theorem State.onMode_power : (s.onMode f).power = s.power := (rfl)
@[simp] theorem State.onMode_bays : (s.onMode f).bays = s.bays := (rfl)
@[simp] theorem State.onMode_attach : (s.onMode f).attach = s.attach := (rfl)
@[simp] theorem State.onMode_repair : (s.onMode f).repair = s.repair := (rfl)
@[simp] theorem State.onMode_pending : (s.onMode f).pending = s.pending := (rfl)

end

section
variable (s : State) (f : Mgmt → Mgmt)

@[simp] theorem State.onMgmt_ident : (s.onMgmt f).ident = s.ident := (rfl)
@[simp] theorem State.onMgmt_now : (s.onMgmt f).now = s.now := (rfl)
@[simp] theorem State.onMgmt_fresh : (s.onMgmt f).fresh = s.fresh := (rfl)
@[simp] theorem State.onMgmt_out : (s.onMgmt f).out = s.out := (rfl)
@[simp] theorem State.onMgmt_mode : (s.onMgmt f).mode = s.mode := (rfl)
@[simp] theorem State.onMgmt_mgmt : (s.onMgmt f).mgmt = f s.mgmt := (rfl)
@[simp] theorem State.onMgmt_dict : (s.onMgmt f).dict = s.dict := (rfl)
@[simp] theorem State.onMgmt_net : (s.onMgmt f).net = s.net := (rfl)
@[simp] theorem State.onMgmt_conns : (s.onMgmt f).conns = s.conns := (rfl)
@[simp] theorem State.onMgmt_cmd : (s.onMgmt f).cmd = s.cmd := (rfl)
@[simp] theorem State.onMgmt_pools : (s.onMgmt f).pools = s.pools := (rfl)
@[simp] theorem State.onMgmt_pot : (s.onMgmt f).pot = s.pot := (rfl)
@[simp] theorem State.onMgmt_core : (s.onMgmt f).core = s.core := (rfl)
@[simp] theorem State.onMgmt_egress : (s.onMgmt f).egress = s.egress := (rfl)
@[simp] theorem State.onMgmt_cipher : (s.onMgmt f).cipher = s.cipher := (rfl)
@[simp] theorem State.onMgmt_keys : (s.onMgmt f).keys = s.keys := (rfl)
@[simp] theorem State.onMgmt_xlat : (s.onMgmt f).xlat = s.xlat := (rfl)
@[simp] theorem State.onMgmt_media : (s.onMgmt f).media = s.media := (rfl)
@[simp] theorem State.onMgmt_pair : (s.onMgmt f).pair = s.pair := (rfl)
@[simp] theorem State.onMgmt_power : (s.onMgmt f).power = s.power := (rfl)
@[simp] theorem State.onMgmt_bays : (s.onMgmt f).bays = s.bays := (rfl)
@[simp] theorem State.onMgmt_attach : (s.onMgmt f).attach = s.attach := (rfl)
@[simp] theorem State.onMgmt_repair : (s.onMgmt f).repair = s.repair := (rfl)
@[simp] theorem State.onMgmt_pending : (s.onMgmt f).pending = s.pending := (rfl)

end

section
variable (s : State) (f : Net → Net)

@[simp] theorem State.onNet_ident : (s.onNet f).ident = s.ident := (rfl)
@[simp] theorem State.onNet_now : (s.onNet f).now = s.now := (rfl)
@[simp] theorem State.onNet_fresh : (s.onNet f).fresh = s.fresh := (rfl)
@[simp] theorem State.onNet_out : (s.onNet f).out = s.out := (rfl)
@[simp] theorem State.onNet_mode : (s.onNet f).mode = s.mode := (rfl)
@[simp] theorem State.onNet_mgmt : (s.onNet f).mgmt = s.mgmt := (rfl)
@[simp] theorem State.onNet_dict : (s.onNet f).dict = s.dict := (rfl)
@[simp] theorem State.onNet_net : (s.onNet f).net = f s.net := (rfl)
@[simp] theorem State.onNet_conns : (s.onNet f).conns = s.conns := (rfl)
@[simp] theorem State.onNet_cmd : (s.onNet f).cmd = s.cmd := (rfl)
@[simp] theorem State.onNet_pools : (s.onNet f).pools = s.pools := (rfl)
@[simp] theorem State.onNet_pot : (s.onNet f).pot = s.pot := (rfl)
@[simp] theorem State.onNet_core : (s.onNet f).core = s.core := (rfl)
@[simp] theorem State.onNet_egress : (s.onNet f).egress = s.egress := (rfl)
@[simp] theorem State.onNet_cipher : (s.onNet f).cipher = s.cipher := (rfl)
@[simp] theorem State.onNet_keys : (s.onNet f).keys = s.keys := (rfl)
@[simp] theorem State.onNet_xlat : (s.onNet f).xlat = s.xlat := (rfl)
@[simp] theorem State.onNet_media : (s.onNet f).media = s.media := (rfl)
@[simp] theorem State.onNet_pair : (s.onNet f).pair = s.pair := (rfl)
@[simp] theorem State.onNet_power : (s.onNet f).power = s.power := (rfl)
@[simp] theorem State.onNet_bays : (s.onNet f).bays = s.bays := (rfl)
@[simp] theorem State.onNet_attach : (s.onNet f).attach = s.attach := (rfl)
@[simp] theorem State.onNet_repair : (s.onNet f).repair = s.repair := (rfl)
@[simp] theorem State.onNet_pending : (s.onNet f).pending = s.pending := (rfl)

end

section
variable (s : State) (f : CmdSt → CmdSt)

@[simp] theorem State.onCmd_ident : (s.onCmd f).ident = s.ident := (rfl)
@[simp] theorem State.onCmd_now : (s.onCmd f).now = s.now := (rfl)
@[simp] theorem State.onCmd_fresh : (s.onCmd f).fresh = s.fresh := (rfl)
@[simp] theorem State.onCmd_out : (s.onCmd f).out = s.out := (rfl)
@[simp] theorem State.onCmd_mode : (s.onCmd f).mode = s.mode := (rfl)
@[simp] theorem State.onCmd_mgmt : (s.onCmd f).mgmt = s.mgmt := (rfl)
@[simp] theorem State.onCmd_dict : (s.onCmd f).dict = s.dict := (rfl)
@[simp] theorem State.onCmd_net : (s.onCmd f).net = s.net := (rfl)
@[simp] theorem State.onCmd_conns : (s.onCmd f).conns = s.conns := (rfl)
@[simp] theorem State.onCmd_cmd : (s.onCmd f).cmd = f s.cmd := (rfl)
@[simp] theorem State.onCmd_pools : (s.onCmd f).pools = s.pools := (rfl)
@[simp] theorem State.onCmd_pot : (s.onCmd f).pot = s.pot := (rfl)
@[simp] theorem State.onCmd_core : (s.onCmd f).core = s.core := (rfl)
@[simp] theorem State.onCmd_egress : (s.onCmd f).egress = s.egress := (rfl)
@[simp] theorem State.onCmd_cipher : (s.onCmd f).cipher = s.cipher := (rfl)
@[simp] theorem State.onCmd_keys : (s.onCmd f).keys = s.keys := (rfl)
@[simp] theorem State.onCmd_xlat : (s.onCmd f).xlat = s.xlat := (rfl)
@[simp] theorem State.onCmd_media : (s.onCmd f).media = s.media := (rfl)
@[simp] theorem State.onCmd_pair : (s.onCmd f).pair = s.pair := (rfl)
@[simp] theorem State.onCmd_power : (s.onCmd f).power = s.power := (rfl)
@[simp] theorem State.onCmd_bays : (s.onCmd f).bays = s.bays := (rfl)
@[simp] theorem State.onCmd_attach : (s.onCmd f).attach = s.attach := (rfl)
@[simp] theorem State.onCmd_repair : (s.onCmd f).repair = s.repair := (rfl)
@[simp] theorem State.onCmd_pending : (s.onCmd f).pending = s.pending := (rfl)

end

section
variable (s : State) (f : Pot → Pot)

@[simp] theorem State.onPot_ident : (s.onPot f).ident = s.ident := (rfl)
@[simp] theorem State.onPot_now : (s.onPot f).now = s.now := (rfl)
@[simp] theorem State.onPot_fresh : (s.onPot f).fresh = s.fresh := (rfl)
@[simp] theorem State.onPot_out : (s.onPot f).out = s.out := (rfl)
@[simp] theorem State.onPot_mode : (s.onPot f).mode = s.mode := (rfl)
@[simp] theorem State.onPot_mgmt : (s.onPot f).mgmt = s.mgmt := (rfl)
@[simp] theorem State.onPot_dict : (s.onPot f).dict = s.dict := (rfl)
@[simp] theorem State.onPot_net : (s.onPot f).net = s.net := (rfl)
@[simp] theorem State.onPot_conns : (s.onPot f).conns = s.conns := (rfl)
@[simp] theorem State.onPot_cmd : (s.onPot f).cmd = s.cmd := (rfl)
@[simp] theorem State.onPot_pools : (s.onPot f).pools = s.pools := (rfl)
@[simp] theorem State.onPot_pot : (s.onPot f).pot = f s.pot := (rfl)
@[simp] theorem State.onPot_core : (s.onPot f).core = s.core := (rfl)
@[simp] theorem State.onPot_egress : (s.onPot f).egress = s.egress := (rfl)
@[simp] theorem State.onPot_cipher : (s.onPot f).cipher = s.cipher := (rfl)
@[simp] theorem State.onPot_keys : (s.onPot f).keys = s.keys := (rfl)
@[simp] theorem State.onPot_xlat : (s.onPot f).xlat = s.xlat := (rfl)
@[simp] theorem State.onPot_media : (s.onPot f).media = s.media := (rfl)
@[simp] theorem State.onPot_pair : (s.onPot f).pair = s.pair := (rfl)
@[simp] theorem State.onPot_power : (s.onPot f).power = s.power := (rfl)
@[simp] theorem State.onPot_bays : (s.onPot f).bays = s.bays := (rfl)
@[simp] theorem State.onPot_attach : (s.onPot f).attach = s.attach := (rfl)
@[simp] theorem State.onPot_repair : (s.onPot f).repair = s.repair := (rfl)
@[simp] theorem State.onPot_pending : (s.onPot f).pending = s.pending := (rfl)

end

section
variable (s : State) (f : Core → Core)

@[simp] theorem State.onCore_ident : (s.onCore f).ident = s.ident := (rfl)
@[simp] theorem State.onCore_now : (s.onCore f).now = s.now := (rfl)
@[simp] theorem State.onCore_fresh : (s.onCore f).fresh = s.fresh := (rfl)
@[simp] theorem State.onCore_out : (s.onCore f).out = s.out := (rfl)
@[simp] theorem State.onCore_mode : (s.onCore f).mode = s.mode := (rfl)
@[simp] theorem State.onCore_mgmt : (s.onCore f).mgmt = s.mgmt := (rfl)
@[simp] theorem State.onCore_dict : (s.onCore f).dict = s.dict := (rfl)
@[simp] theorem State.onCore_net : (s.onCore f).net = s.net := (rfl)
@[simp] theorem State.onCore_conns : (s.onCore f).conns = s.conns := (rfl)
@[simp] theorem State.onCore_cmd : (s.onCore f).cmd = s.cmd := (rfl)
@[simp] theorem State.onCore_pools : (s.onCore f).pools = s.pools := (rfl)
@[simp] theorem State.onCore_pot : (s.onCore f).pot = s.pot := (rfl)
@[simp] theorem State.onCore_core : (s.onCore f).core = f s.core := (rfl)
@[simp] theorem State.onCore_egress : (s.onCore f).egress = s.egress := (rfl)
@[simp] theorem State.onCore_cipher : (s.onCore f).cipher = s.cipher := (rfl)
@[simp] theorem State.onCore_keys : (s.onCore f).keys = s.keys := (rfl)
@[simp] theorem State.onCore_xlat : (s.onCore f).xlat = s.xlat := (rfl)
@[simp] theorem State.onCore_media : (s.onCore f).media = s.media := (rfl)
@[simp] theorem State.onCore_pair : (s.onCore f).pair = s.pair := (rfl)
@[simp] theorem State.onCore_power : (s.onCore f).power = s.power := (rfl)
@[simp] theorem State.onCore_bays : (s.onCore f).bays = s.bays := (rfl)
@[simp] theorem State.onCore_attach : (s.onCore f).attach = s.attach := (rfl)
@[simp] theorem State.onCore_repair : (s.onCore f).repair = s.repair := (rfl)
@[simp] theorem State.onCore_pending : (s.onCore f).pending = s.pending := (rfl)

end

section
variable (s : State) (f : Egress → Egress)

@[simp] theorem State.onEgress_ident : (s.onEgress f).ident = s.ident := (rfl)
@[simp] theorem State.onEgress_now : (s.onEgress f).now = s.now := (rfl)
@[simp] theorem State.onEgress_fresh : (s.onEgress f).fresh = s.fresh := (rfl)
@[simp] theorem State.onEgress_out : (s.onEgress f).out = s.out := (rfl)
@[simp] theorem State.onEgress_mode : (s.onEgress f).mode = s.mode := (rfl)
@[simp] theorem State.onEgress_mgmt : (s.onEgress f).mgmt = s.mgmt := (rfl)
@[simp] theorem State.onEgress_dict : (s.onEgress f).dict = s.dict := (rfl)
@[simp] theorem State.onEgress_net : (s.onEgress f).net = s.net := (rfl)
@[simp] theorem State.onEgress_conns : (s.onEgress f).conns = s.conns := (rfl)
@[simp] theorem State.onEgress_cmd : (s.onEgress f).cmd = s.cmd := (rfl)
@[simp] theorem State.onEgress_pools : (s.onEgress f).pools = s.pools := (rfl)
@[simp] theorem State.onEgress_pot : (s.onEgress f).pot = s.pot := (rfl)
@[simp] theorem State.onEgress_core : (s.onEgress f).core = s.core := (rfl)
@[simp] theorem State.onEgress_egress : (s.onEgress f).egress = f s.egress := (rfl)
@[simp] theorem State.onEgress_cipher : (s.onEgress f).cipher = s.cipher := (rfl)
@[simp] theorem State.onEgress_keys : (s.onEgress f).keys = s.keys := (rfl)
@[simp] theorem State.onEgress_xlat : (s.onEgress f).xlat = s.xlat := (rfl)
@[simp] theorem State.onEgress_media : (s.onEgress f).media = s.media := (rfl)
@[simp] theorem State.onEgress_pair : (s.onEgress f).pair = s.pair := (rfl)
@[simp] theorem State.onEgress_power : (s.onEgress f).power = s.power := (rfl)
@[simp] theorem State.onEgress_bays : (s.onEgress f).bays = s.bays := (rfl)
@[simp] theorem State.onEgress_attach : (s.onEgress f).attach = s.attach := (rfl)
@[simp] theorem State.onEgress_repair : (s.onEgress f).repair = s.repair := (rfl)
@[simp] theorem State.onEgress_pending : (s.onEgress f).pending = s.pending := (rfl)

end

section
variable (s : State) (f : Cipher → Cipher)

@[simp] theorem State.onCipher_ident : (s.onCipher f).ident = s.ident := (rfl)
@[simp] theorem State.onCipher_now : (s.onCipher f).now = s.now := (rfl)
@[simp] theorem State.onCipher_fresh : (s.onCipher f).fresh = s.fresh := (rfl)
@[simp] theorem State.onCipher_out : (s.onCipher f).out = s.out := (rfl)
@[simp] theorem State.onCipher_mode : (s.onCipher f).mode = s.mode := (rfl)
@[simp] theorem State.onCipher_mgmt : (s.onCipher f).mgmt = s.mgmt := (rfl)
@[simp] theorem State.onCipher_dict : (s.onCipher f).dict = s.dict := (rfl)
@[simp] theorem State.onCipher_net : (s.onCipher f).net = s.net := (rfl)
@[simp] theorem State.onCipher_conns : (s.onCipher f).conns = s.conns := (rfl)
@[simp] theorem State.onCipher_cmd : (s.onCipher f).cmd = s.cmd := (rfl)
@[simp] theorem State.onCipher_pools : (s.onCipher f).pools = s.pools := (rfl)
@[simp] theorem State.onCipher_pot : (s.onCipher f).pot = s.pot := (rfl)
@[simp] theorem State.onCipher_core : (s.onCipher f).core = s.core := (rfl)
@[simp] theorem State.onCipher_egress : (s.onCipher f).egress = s.egress := (rfl)
@[simp] theorem State.onCipher_cipher : (s.onCipher f).cipher = f s.cipher := (rfl)
@[simp] theorem State.onCipher_keys : (s.onCipher f).keys = s.keys := (rfl)
@[simp] theorem State.onCipher_xlat : (s.onCipher f).xlat = s.xlat := (rfl)
@[simp] theorem State.onCipher_media : (s.onCipher f).media = s.media := (rfl)
@[simp] theorem State.onCipher_pair : (s.onCipher f).pair = s.pair := (rfl)
@[simp] theorem State.onCipher_power : (s.onCipher f).power = s.power := (rfl)
@[simp] theorem State.onCipher_bays : (s.onCipher f).bays = s.bays := (rfl)
@[simp] theorem State.onCipher_attach : (s.onCipher f).attach = s.attach := (rfl)
@[simp] theorem State.onCipher_repair : (s.onCipher f).repair = s.repair := (rfl)
@[simp] theorem State.onCipher_pending : (s.onCipher f).pending = s.pending := (rfl)

end

section
variable (s : State) (f : Keys → Keys)

@[simp] theorem State.onKeys_ident : (s.onKeys f).ident = s.ident := (rfl)
@[simp] theorem State.onKeys_now : (s.onKeys f).now = s.now := (rfl)
@[simp] theorem State.onKeys_fresh : (s.onKeys f).fresh = s.fresh := (rfl)
@[simp] theorem State.onKeys_out : (s.onKeys f).out = s.out := (rfl)
@[simp] theorem State.onKeys_mode : (s.onKeys f).mode = s.mode := (rfl)
@[simp] theorem State.onKeys_mgmt : (s.onKeys f).mgmt = s.mgmt := (rfl)
@[simp] theorem State.onKeys_dict : (s.onKeys f).dict = s.dict := (rfl)
@[simp] theorem State.onKeys_net : (s.onKeys f).net = s.net := (rfl)
@[simp] theorem State.onKeys_conns : (s.onKeys f).conns = s.conns := (rfl)
@[simp] theorem State.onKeys_cmd : (s.onKeys f).cmd = s.cmd := (rfl)
@[simp] theorem State.onKeys_pools : (s.onKeys f).pools = s.pools := (rfl)
@[simp] theorem State.onKeys_pot : (s.onKeys f).pot = s.pot := (rfl)
@[simp] theorem State.onKeys_core : (s.onKeys f).core = s.core := (rfl)
@[simp] theorem State.onKeys_egress : (s.onKeys f).egress = s.egress := (rfl)
@[simp] theorem State.onKeys_cipher : (s.onKeys f).cipher = s.cipher := (rfl)
@[simp] theorem State.onKeys_keys : (s.onKeys f).keys = f s.keys := (rfl)
@[simp] theorem State.onKeys_xlat : (s.onKeys f).xlat = s.xlat := (rfl)
@[simp] theorem State.onKeys_media : (s.onKeys f).media = s.media := (rfl)
@[simp] theorem State.onKeys_pair : (s.onKeys f).pair = s.pair := (rfl)
@[simp] theorem State.onKeys_power : (s.onKeys f).power = s.power := (rfl)
@[simp] theorem State.onKeys_bays : (s.onKeys f).bays = s.bays := (rfl)
@[simp] theorem State.onKeys_attach : (s.onKeys f).attach = s.attach := (rfl)
@[simp] theorem State.onKeys_repair : (s.onKeys f).repair = s.repair := (rfl)
@[simp] theorem State.onKeys_pending : (s.onKeys f).pending = s.pending := (rfl)

end

section
variable (s : State) (f : Xlat → Xlat)

@[simp] theorem State.onXlat_ident : (s.onXlat f).ident = s.ident := (rfl)
@[simp] theorem State.onXlat_now : (s.onXlat f).now = s.now := (rfl)
@[simp] theorem State.onXlat_fresh : (s.onXlat f).fresh = s.fresh := (rfl)
@[simp] theorem State.onXlat_out : (s.onXlat f).out = s.out := (rfl)
@[simp] theorem State.onXlat_mode : (s.onXlat f).mode = s.mode := (rfl)
@[simp] theorem State.onXlat_mgmt : (s.onXlat f).mgmt = s.mgmt := (rfl)
@[simp] theorem State.onXlat_dict : (s.onXlat f).dict = s.dict := (rfl)
@[simp] theorem State.onXlat_net : (s.onXlat f).net = s.net := (rfl)
@[simp] theorem State.onXlat_conns : (s.onXlat f).conns = s.conns := (rfl)
@[simp] theorem State.onXlat_cmd : (s.onXlat f).cmd = s.cmd := (rfl)
@[simp] theorem State.onXlat_pools : (s.onXlat f).pools = s.pools := (rfl)
@[simp] theorem State.onXlat_pot : (s.onXlat f).pot = s.pot := (rfl)
@[simp] theorem State.onXlat_core : (s.onXlat f).core = s.core := (rfl)
@[simp] theorem State.onXlat_egress : (s.onXlat f).egress = s.egress := (rfl)
@[simp] theorem State.onXlat_cipher : (s.onXlat f).cipher = s.cipher := (rfl)
@[simp] theorem State.onXlat_keys : (s.onXlat f).keys = s.keys := (rfl)
@[simp] theorem State.onXlat_xlat : (s.onXlat f).xlat = f s.xlat := (rfl)
@[simp] theorem State.onXlat_media : (s.onXlat f).media = s.media := (rfl)
@[simp] theorem State.onXlat_pair : (s.onXlat f).pair = s.pair := (rfl)
@[simp] theorem State.onXlat_power : (s.onXlat f).power = s.power := (rfl)
@[simp] theorem State.onXlat_bays : (s.onXlat f).bays = s.bays := (rfl)
@[simp] theorem State.onXlat_attach : (s.onXlat f).attach = s.attach := (rfl)
@[simp] theorem State.onXlat_repair : (s.onXlat f).repair = s.repair := (rfl)
@[simp] theorem State.onXlat_pending : (s.onXlat f).pending = s.pending := (rfl)

end

section
variable (s : State) (f : Media → Media)

@[simp] theorem State.onMedia_ident : (s.onMedia f).ident = s.ident := (rfl)
@[simp] theorem State.onMedia_now : (s.onMedia f).now = s.now := (rfl)
@[simp] theorem State.onMedia_fresh : (s.onMedia f).fresh = s.fresh := (rfl)
@[simp] theorem State.onMedia_out : (s.onMedia f).out = s.out := (rfl)
@[simp] theorem State.onMedia_mode : (s.onMedia f).mode = s.mode := (rfl)
@[simp] theorem State.onMedia_mgmt : (s.onMedia f).mgmt = s.mgmt := (rfl)
@[simp] theorem State.onMedia_dict : (s.onMedia f).dict = s.dict := (rfl)
@[simp] theorem State.onMedia_net : (s.onMedia f).net = s.net := (rfl)
@[simp] theorem State.onMedia_conns : (s.onMedia f).conns = s.conns := (rfl)
@[simp] theorem State.onMedia_cmd : (s.onMedia f).cmd = s.cmd := (rfl)
@[simp] theorem State.onMedia_pools : (s.onMedia f).pools = s.pools := (rfl)
@[simp] theorem State.onMedia_pot : (s.onMedia f).pot = s.pot := (rfl)
@[simp] theorem State.onMedia_core : (s.onMedia f).core = s.core := (rfl)
@[simp] theorem State.onMedia_egress : (s.onMedia f).egress = s.egress := (rfl)
@[simp] theorem State.onMedia_cipher : (s.onMedia f).cipher = s.cipher := (rfl)
@[simp] theorem State.onMedia_keys : (s.onMedia f).keys = s.keys := (rfl)
@[simp] theorem State.onMedia_xlat : (s.onMedia f).xlat = s.xlat := (rfl)
@[simp] theorem State.onMedia_media : (s.onMedia f).media = f s.media := (rfl)
@[simp] theorem State.onMedia_pair : (s.onMedia f).pair = s.pair := (rfl)
@[simp] theorem State.onMedia_power : (s.onMedia f).power = s.power := (rfl)
@[simp] theorem State.onMedia_bays : (s.onMedia f).bays = s.bays := (rfl)
@[simp] theorem State.onMedia_attach : (s.onMedia f).attach = s.attach := (rfl)
@[simp] theorem State.onMedia_repair : (s.onMedia f).repair = s.repair := (rfl)
@[simp] theorem State.onMedia_pending : (s.onMedia f).pending = s.pending := (rfl)

end

section
variable (s : State) (f : Pair → Pair)

@[simp] theorem State.onPair_ident : (s.onPair f).ident = s.ident := (rfl)
@[simp] theorem State.onPair_now : (s.onPair f).now = s.now := (rfl)
@[simp] theorem State.onPair_fresh : (s.onPair f).fresh = s.fresh := (rfl)
@[simp] theorem State.onPair_out : (s.onPair f).out = s.out := (rfl)
@[simp] theorem State.onPair_mode : (s.onPair f).mode = s.mode := (rfl)
@[simp] theorem State.onPair_mgmt : (s.onPair f).mgmt = s.mgmt := (rfl)
@[simp] theorem State.onPair_dict : (s.onPair f).dict = s.dict := (rfl)
@[simp] theorem State.onPair_net : (s.onPair f).net = s.net := (rfl)
@[simp] theorem State.onPair_conns : (s.onPair f).conns = s.conns := (rfl)
@[simp] theorem State.onPair_cmd : (s.onPair f).cmd = s.cmd := (rfl)
@[simp] theorem State.onPair_pools : (s.onPair f).pools = s.pools := (rfl)
@[simp] theorem State.onPair_pot : (s.onPair f).pot = s.pot := (rfl)
@[simp] theorem State.onPair_core : (s.onPair f).core = s.core := (rfl)
@[simp] theorem State.onPair_egress : (s.onPair f).egress = s.egress := (rfl)
@[simp] theorem State.onPair_cipher : (s.onPair f).cipher = s.cipher := (rfl)
@[simp] theorem State.onPair_keys : (s.onPair f).keys = s.keys := (rfl)
@[simp] theorem State.onPair_xlat : (s.onPair f).xlat = s.xlat := (rfl)
@[simp] theorem State.onPair_media : (s.onPair f).media = s.media := (rfl)
@[simp] theorem State.onPair_pair : (s.onPair f).pair = f s.pair := (rfl)
@[simp] theorem State.onPair_power : (s.onPair f).power = s.power := (rfl)
@[simp] theorem State.onPair_bays : (s.onPair f).bays = s.bays := (rfl)
@[simp] theorem State.onPair_attach : (s.onPair f).attach = s.attach := (rfl)
@[simp] theorem State.onPair_repair : (s.onPair f).repair = s.repair := (rfl)
@[simp] theorem State.onPair_pending : (s.onPair f).pending = s.pending := (rfl)

end

section
variable (s : State) (f : Power → Power)

@[simp] theorem State.onPower_ident : (s.onPower f).ident = s.ident := (rfl)
@[simp] theorem State.onPower_now : (s.onPower f).now = s.now := (rfl)
@[simp] theorem State.onPower_fresh : (s.onPower f).fresh = s.fresh := (rfl)
@[simp] theorem State.onPower_out : (s.onPower f).out = s.out := (rfl)
@[simp] theorem State.onPower_mode : (s.onPower f).mode = s.mode := (rfl)
@[simp] theorem State.onPower_mgmt : (s.onPower f).mgmt = s.mgmt := (rfl)
@[simp] theorem State.onPower_dict : (s.onPower f).dict = s.dict := (rfl)
@[simp] theorem State.onPower_net : (s.onPower f).net = s.net := (rfl)
@[simp] theorem State.onPower_conns : (s.onPower f).conns = s.conns := (rfl)
@[simp] theorem State.onPower_cmd : (s.onPower f).cmd = s.cmd := (rfl)
@[simp] theorem State.onPower_pools : (s.onPower f).pools = s.pools := (rfl)
@[simp] theorem State.onPower_pot : (s.onPower f).pot = s.pot := (rfl)
@[simp] theorem State.onPower_core : (s.onPower f).core = s.core := (rfl)
@[simp] theorem State.onPower_egress : (s.onPower f).egress = s.egress := (rfl)
@[simp] theorem State.onPower_cipher : (s.onPower f).cipher = s.cipher := (rfl)
@[simp] theorem State.onPower_keys : (s.onPower f).keys = s.keys := (rfl)
@[simp] theorem State.onPower_xlat : (s.onPower f).xlat = s.xlat := (rfl)
@[simp] theorem State.onPower_media : (s.onPower f).media = s.media := (rfl)
@[simp] theorem State.onPower_pair : (s.onPower f).pair = s.pair := (rfl)
@[simp] theorem State.onPower_power : (s.onPower f).power = f s.power := (rfl)
@[simp] theorem State.onPower_bays : (s.onPower f).bays = s.bays := (rfl)
@[simp] theorem State.onPower_attach : (s.onPower f).attach = s.attach := (rfl)
@[simp] theorem State.onPower_repair : (s.onPower f).repair = s.repair := (rfl)
@[simp] theorem State.onPower_pending : (s.onPower f).pending = s.pending := (rfl)

end

section
variable (s : State) (f : Attach → Attach)

@[simp] theorem State.onAttach_ident : (s.onAttach f).ident = s.ident := (rfl)
@[simp] theorem State.onAttach_now : (s.onAttach f).now = s.now := (rfl)
@[simp] theorem State.onAttach_fresh : (s.onAttach f).fresh = s.fresh := (rfl)
@[simp] theorem State.onAttach_out : (s.onAttach f).out = s.out := (rfl)
@[simp] theorem State.onAttach_mode : (s.onAttach f).mode = s.mode := (rfl)
@[simp] theorem State.onAttach_mgmt : (s.onAttach f).mgmt = s.mgmt := (rfl)
@[simp] theorem State.onAttach_dict : (s.onAttach f).dict = s.dict := (rfl)
@[simp] theorem State.onAttach_net : (s.onAttach f).net = s.net := (rfl)
@[simp] theorem State.onAttach_conns : (s.onAttach f).conns = s.conns := (rfl)
@[simp] theorem State.onAttach_cmd : (s.onAttach f).cmd = s.cmd := (rfl)
@[simp] theorem State.onAttach_pools : (s.onAttach f).pools = s.pools := (rfl)
@[simp] theorem State.onAttach_pot : (s.onAttach f).pot = s.pot := (rfl)
@[simp] theorem State.onAttach_core : (s.onAttach f).core = s.core := (rfl)
@[simp] theorem State.onAttach_egress : (s.onAttach f).egress = s.egress := (rfl)
@[simp] theorem State.onAttach_cipher : (s.onAttach f).cipher = s.cipher := (rfl)
@[simp] theorem State.onAttach_keys : (s.onAttach f).keys = s.keys := (rfl)
@[simp] theorem State.onAttach_xlat : (s.onAttach f).xlat = s.xlat := (rfl)
@[simp] theorem State.onAttach_media : (s.onAttach f).media = s.media := (rfl)
@[simp] theorem State.onAttach_pair : (s.onAttach f).pair = s.pair := (rfl)
@[simp] theorem State.onAttach_power : (s.onAttach f).power = s.power := (rfl)
@[simp] theorem State.onAttach_bays : (s.onAttach f).bays = s.bays := (rfl)
@[simp] theorem State.onAttach_attach : (s.onAttach f).attach = f s.attach := (rfl)
@[simp] theorem State.onAttach_repair : (s.onAttach f).repair = s.repair := (rfl)
@[simp] theorem State.onAttach_pending : (s.onAttach f).pending = s.pending := (rfl)

end

section
variable (s : State) (f : RepairSt → RepairSt)

@[simp] theorem State.onRepair_ident : (s.onRepair f).ident = s.ident := (rfl)
@[simp] theorem State.onRepair_now : (s.onRepair f).now = s.now := (rfl)
@[simp] theorem State.onRepair_fresh : (s.onRepair f).fresh = s.fresh := (rfl)
@[simp] theorem State.onRepair_out : (s.onRepair f).out = s.out := (rfl)
@[simp] theorem State.onRepair_mode : (s.onRepair f).mode = s.mode := (rfl)
@[simp] theorem State.onRepair_mgmt : (s.onRepair f).mgmt = s.mgmt := (rfl)
@[simp] theorem State.onRepair_dict : (s.onRepair f).dict = s.dict := (rfl)
@[simp] theorem State.onRepair_net : (s.onRepair f).net = s.net := (rfl)
@[simp] theorem State.onRepair_conns : (s.onRepair f).conns = s.conns := (rfl)
@[simp] theorem State.onRepair_cmd : (s.onRepair f).cmd = s.cmd := (rfl)
@[simp] theorem State.onRepair_pools : (s.onRepair f).pools = s.pools := (rfl)
@[simp] theorem State.onRepair_pot : (s.onRepair f).pot = s.pot := (rfl)
@[simp] theorem State.onRepair_core : (s.onRepair f).core = s.core := (rfl)
@[simp] theorem State.onRepair_egress : (s.onRepair f).egress = s.egress := (rfl)
@[simp] theorem State.onRepair_cipher : (s.onRepair f).cipher = s.cipher := (rfl)
@[simp] theorem State.onRepair_keys : (s.onRepair f).keys = s.keys := (rfl)
@[simp] theorem State.onRepair_xlat : (s.onRepair f).xlat = s.xlat := (rfl)
@[simp] theorem State.onRepair_media : (s.onRepair f).media = s.media := (rfl)
@[simp] theorem State.onRepair_pair : (s.onRepair f).pair = s.pair := (rfl)
@[simp] theorem State.onRepair_power : (s.onRepair f).power = s.power := (rfl)
@[simp] theorem State.onRepair_bays : (s.onRepair f).bays = s.bays := (rfl)
@[simp] theorem State.onRepair_attach : (s.onRepair f).attach = s.attach := (rfl)
@[simp] theorem State.onRepair_repair : (s.onRepair f).repair = f s.repair := (rfl)
@[simp] theorem State.onRepair_pending : (s.onRepair f).pending = s.pending := (rfl)

end

section
variable (s : State) (f : Tbl Conn → Tbl Conn)

@[simp] theorem State.onConns_ident : (s.onConns f).ident = s.ident := (rfl)
@[simp] theorem State.onConns_now : (s.onConns f).now = s.now := (rfl)
@[simp] theorem State.onConns_fresh : (s.onConns f).fresh = s.fresh := (rfl)
@[simp] theorem State.onConns_out : (s.onConns f).out = s.out := (rfl)
@[simp] theorem State.onConns_mode : (s.onConns f).mode = s.mode := (rfl)
@[simp] theorem State.onConns_mgmt : (s.onConns f).mgmt = s.mgmt := (rfl)
@[simp] theorem State.onConns_dict : (s.onConns f).dict = s.dict := (rfl)
@[simp] theorem State.onConns_net : (s.onConns f).net = s.net := (rfl)
@[simp] theorem State.onConns_conns : (s.onConns f).conns = f s.conns := (rfl)
@[simp] theorem State.onConns_cmd : (s.onConns f).cmd = s.cmd := (rfl)
@[simp] theorem State.onConns_pools : (s.onConns f).pools = s.pools := (rfl)
@[simp] theorem State.onConns_pot : (s.onConns f).pot = s.pot := (rfl)
@[simp] theorem State.onConns_core : (s.onConns f).core = s.core := (rfl)
@[simp] theorem State.onConns_egress : (s.onConns f).egress = s.egress := (rfl)
@[simp] theorem State.onConns_cipher : (s.onConns f).cipher = s.cipher := (rfl)
@[simp] theorem State.onConns_keys : (s.onConns f).keys = s.keys := (rfl)
@[simp] theorem State.onConns_xlat : (s.onConns f).xlat = s.xlat := (rfl)
@[simp] theorem State.onConns_media : (s.onConns f).media = s.media := (rfl)
@[simp] theorem State.onConns_pair : (s.onConns f).pair = s.pair := (rfl)
@[simp] theorem State.onConns_power : (s.onConns f).power = s.power := (rfl)
@[simp] theorem State.onConns_bays : (s.onConns f).bays = s.bays := (rfl)
@[simp] theorem State.onConns_attach : (s.onConns f).attach = s.attach := (rfl)
@[simp] theorem State.onConns_repair : (s.onConns f).repair = s.repair := (rfl)
@[simp] theorem State.onConns_pending : (s.onConns f).pending = s.pending := (rfl)

end

section
variable (s : State) (f : Vector PoolSt 16 → Vector PoolSt 16)

@[simp] theorem State.onPools_ident : (s.onPools f).ident = s.ident := (rfl)
@[simp] theorem State.onPools_now : (s.onPools f).now = s.now := (rfl)
@[simp] theorem State.onPools_fresh : (s.onPools f).fresh = s.fresh := (rfl)
@[simp] theorem State.onPools_out : (s.onPools f).out = s.out := (rfl)
@[simp] theorem State.onPools_mode : (s.onPools f).mode = s.mode := (rfl)
@[simp] theorem State.onPools_mgmt : (s.onPools f).mgmt = s.mgmt := (rfl)
@[simp] theorem State.onPools_dict : (s.onPools f).dict = s.dict := (rfl)
@[simp] theorem State.onPools_net : (s.onPools f).net = s.net := (rfl)
@[simp] theorem State.onPools_conns : (s.onPools f).conns = s.conns := (rfl)
@[simp] theorem State.onPools_cmd : (s.onPools f).cmd = s.cmd := (rfl)
@[simp] theorem State.onPools_pools : (s.onPools f).pools = f s.pools := (rfl)
@[simp] theorem State.onPools_pot : (s.onPools f).pot = s.pot := (rfl)
@[simp] theorem State.onPools_core : (s.onPools f).core = s.core := (rfl)
@[simp] theorem State.onPools_egress : (s.onPools f).egress = s.egress := (rfl)
@[simp] theorem State.onPools_cipher : (s.onPools f).cipher = s.cipher := (rfl)
@[simp] theorem State.onPools_keys : (s.onPools f).keys = s.keys := (rfl)
@[simp] theorem State.onPools_xlat : (s.onPools f).xlat = s.xlat := (rfl)
@[simp] theorem State.onPools_media : (s.onPools f).media = s.media := (rfl)
@[simp] theorem State.onPools_pair : (s.onPools f).pair = s.pair := (rfl)
@[simp] theorem State.onPools_power : (s.onPools f).power = s.power := (rfl)
@[simp] theorem State.onPools_bays : (s.onPools f).bays = s.bays := (rfl)
@[simp] theorem State.onPools_attach : (s.onPools f).attach = s.attach := (rfl)
@[simp] theorem State.onPools_repair : (s.onPools f).repair = s.repair := (rfl)
@[simp] theorem State.onPools_pending : (s.onPools f).pending = s.pending := (rfl)

end

section
variable (s : State) (f : Vector BaySt 24 → Vector BaySt 24)

@[simp] theorem State.onBays_ident : (s.onBays f).ident = s.ident := (rfl)
@[simp] theorem State.onBays_now : (s.onBays f).now = s.now := (rfl)
@[simp] theorem State.onBays_fresh : (s.onBays f).fresh = s.fresh := (rfl)
@[simp] theorem State.onBays_out : (s.onBays f).out = s.out := (rfl)
@[simp] theorem State.onBays_mode : (s.onBays f).mode = s.mode := (rfl)
@[simp] theorem State.onBays_mgmt : (s.onBays f).mgmt = s.mgmt := (rfl)
@[simp] theorem State.onBays_dict : (s.onBays f).dict = s.dict := (rfl)
@[simp] theorem State.onBays_net : (s.onBays f).net = s.net := (rfl)
@[simp] theorem State.onBays_conns : (s.onBays f).conns = s.conns := (rfl)
@[simp] theorem State.onBays_cmd : (s.onBays f).cmd = s.cmd := (rfl)
@[simp] theorem State.onBays_pools : (s.onBays f).pools = s.pools := (rfl)
@[simp] theorem State.onBays_pot : (s.onBays f).pot = s.pot := (rfl)
@[simp] theorem State.onBays_core : (s.onBays f).core = s.core := (rfl)
@[simp] theorem State.onBays_egress : (s.onBays f).egress = s.egress := (rfl)
@[simp] theorem State.onBays_cipher : (s.onBays f).cipher = s.cipher := (rfl)
@[simp] theorem State.onBays_keys : (s.onBays f).keys = s.keys := (rfl)
@[simp] theorem State.onBays_xlat : (s.onBays f).xlat = s.xlat := (rfl)
@[simp] theorem State.onBays_media : (s.onBays f).media = s.media := (rfl)
@[simp] theorem State.onBays_pair : (s.onBays f).pair = s.pair := (rfl)
@[simp] theorem State.onBays_power : (s.onBays f).power = s.power := (rfl)
@[simp] theorem State.onBays_bays : (s.onBays f).bays = f s.bays := (rfl)
@[simp] theorem State.onBays_attach : (s.onBays f).attach = s.attach := (rfl)
@[simp] theorem State.onBays_repair : (s.onBays f).repair = s.repair := (rfl)
@[simp] theorem State.onBays_pending : (s.onBays f).pending = s.pending := (rfl)

end

end Sys2Proof.Machine
end

