-- ==== Sys2Proof/Laws/Same.lean ====
section
/-! SUPPORT. When a field of the state is the same in two states, and how that passes through the updates and the
control of the operations. What an operation leaves unchanged is one lemma over every field it does not touch. -/

namespace Sys2Proof.Machine

/-- A field of the state. -/
inductive Field where
  | ident | now | fresh | out | mode | mgmt | dict | net | conns | cmd | pools | pot | core | egress
  | cipher | keys | xlat | media | pair | power | bays | attach | repair | pending
deriving DecidableEq, Repr

/-- A field is the same in two states. -/
def Same (p : Field) (a b : State) : Prop :=
  match p with
  | .ident => a.ident = b.ident
  | .now => a.now = b.now
  | .fresh => a.fresh = b.fresh
  | .out => a.out = b.out
  | .mode => a.mode = b.mode
  | .mgmt => a.mgmt = b.mgmt
  | .dict => a.dict = b.dict
  | .net => a.net = b.net
  | .conns => a.conns = b.conns
  | .cmd => a.cmd = b.cmd
  | .pools => a.pools = b.pools
  | .pot => a.pot = b.pot
  | .core => a.core = b.core
  | .egress => a.egress = b.egress
  | .cipher => a.cipher = b.cipher
  | .keys => a.keys = b.keys
  | .xlat => a.xlat = b.xlat
  | .media => a.media = b.media
  | .pair => a.pair = b.pair
  | .power => a.power = b.power
  | .bays => a.bays = b.bays
  | .attach => a.attach = b.attach
  | .repair => a.repair = b.repair
  | .pending => a.pending = b.pending

/-- The field a part is. -/
def Part.field : Part → Field
  | .fresh => .fresh
  | .out => .out
  | .mode => .mode
  | .mgmt => .mgmt
  | .dict => .dict
  | .net => .net
  | .conns => .conns
  | .cmd => .cmd
  | .pools => .pools
  | .pot => .pot
  | .core => .core
  | .egress => .egress
  | .cipher => .cipher
  | .keys => .keys
  | .xlat => .xlat
  | .media => .media
  | .pair => .pair
  | .power => .power
  | .bays => .bays
  | .attach => .attach
  | .repair => .repair

/-- States with every field the same are one state. -/
theorem eq_of_same {a b : State} (h : ∀ p, Same p a b) : a = b := by
  cases a; cases b; rw [State.mk.injEq]
  exact ⟨h .ident, h .now, h .fresh, h .out, h .mode, h .mgmt, h .dict, h .net, h .conns, h .cmd, h .pools, h .pot,
    h .core, h .egress, h .cipher, h .keys, h .xlat, h .media, h .pair, h .power, h .bays, h .attach, h .repair, h .pending⟩

theorem Part.same_iff (p : Part) (s u : State) : p.same s u ↔ Same p.field u s := by
  cases p <;> rfl

@[simp] theorem same_refl (p : Field) (s : State) : Same p s s := by
  cases p <;> rfl

theorem Same.symm {p : Field} {a b : State} (h : Same p a b) : Same p b a := by
  cases p <;> exact Eq.symm h

theorem Same.trans {p : Field} {a b c : State} (h : Same p a b) (k : Same p b c) : Same p a c := by
  cases p <;> exact Eq.trans h k

/-- A state that agrees with another on a field stands for it there. -/
theorem same_congr {p : Field} {a b : State} (h : Same p a b) (t : State) : Same p a t ↔ Same p b t :=
  ⟨h.symm.trans, h.trans⟩

theorem Same.ident_eq {a b : State} (h : Same .ident a b) : a.ident = b.ident := h
theorem Same.now_eq {a b : State} (h : Same .now a b) : a.now = b.now := h
theorem Same.fresh_eq {a b : State} (h : Same .fresh a b) : a.fresh = b.fresh := h
theorem Same.out_eq {a b : State} (h : Same .out a b) : a.out = b.out := h
theorem Same.mode_eq {a b : State} (h : Same .mode a b) : a.mode = b.mode := h
theorem Same.mgmt_eq {a b : State} (h : Same .mgmt a b) : a.mgmt = b.mgmt := h
theorem Same.dict_eq {a b : State} (h : Same .dict a b) : a.dict = b.dict := h
theorem Same.net_eq {a b : State} (h : Same .net a b) : a.net = b.net := h
theorem Same.conns_eq {a b : State} (h : Same .conns a b) : a.conns = b.conns := h
theorem Same.cmd_eq {a b : State} (h : Same .cmd a b) : a.cmd = b.cmd := h
theorem Same.pools_eq {a b : State} (h : Same .pools a b) : a.pools = b.pools := h
theorem Same.pot_eq {a b : State} (h : Same .pot a b) : a.pot = b.pot := h
theorem Same.core_eq {a b : State} (h : Same .core a b) : a.core = b.core := h
theorem Same.egress_eq {a b : State} (h : Same .egress a b) : a.egress = b.egress := h
theorem Same.cipher_eq {a b : State} (h : Same .cipher a b) : a.cipher = b.cipher := h
theorem Same.keys_eq {a b : State} (h : Same .keys a b) : a.keys = b.keys := h
theorem Same.xlat_eq {a b : State} (h : Same .xlat a b) : a.xlat = b.xlat := h
theorem Same.media_eq {a b : State} (h : Same .media a b) : a.media = b.media := h
theorem Same.pair_eq {a b : State} (h : Same .pair a b) : a.pair = b.pair := h
theorem Same.power_eq {a b : State} (h : Same .power a b) : a.power = b.power := h
theorem Same.bays_eq {a b : State} (h : Same .bays a b) : a.bays = b.bays := h
theorem Same.attach_eq {a b : State} (h : Same .attach a b) : a.attach = b.attach := h
theorem Same.repair_eq {a b : State} (h : Same .repair a b) : a.repair = b.repair := h
theorem Same.pending_eq {a b : State} (h : Same .pending a b) : a.pending = b.pending := h

/-! ### Updates of one field -/

section
variable (s t : State) {p : Field}

@[simp] theorem State.onMode_same (f : ModeSt → ModeSt) (hp : p ≠ .mode) :
    Same p (s.onMode f) t ↔ Same p s t := by
  cases p <;> first | exact Iff.rfl | exact absurd rfl hp

@[simp] theorem State.onMgmt_same (f : Mgmt → Mgmt) (hp : p ≠ .mgmt) :
    Same p (s.onMgmt f) t ↔ Same p s t := by
  cases p <;> first | exact Iff.rfl | exact absurd rfl hp

@[simp] theorem State.onNet_same (f : Net → Net) (hp : p ≠ .net) :
    Same p (s.onNet f) t ↔ Same p s t := by
  cases p <;> first | exact Iff.rfl | exact absurd rfl hp

@[simp] theorem State.onCmd_same (f : CmdSt → CmdSt) (hp : p ≠ .cmd) :
    Same p (s.onCmd f) t ↔ Same p s t := by
  cases p <;> first | exact Iff.rfl | exact absurd rfl hp

@[simp] theorem State.onPot_same (f : Pot → Pot) (hp : p ≠ .pot) :
    Same p (s.onPot f) t ↔ Same p s t := by
  cases p <;> first | exact Iff.rfl | exact absurd rfl hp

@[simp] theorem State.onCore_same (f : Core → Core) (hp : p ≠ .core) :
    Same p (s.onCore f) t ↔ Same p s t := by
  cases p <;> first | exact Iff.rfl | exact absurd rfl hp

@[simp] theorem State.onEgress_same (f : Egress → Egress) (hp : p ≠ .egress) :
    Same p (s.onEgress f) t ↔ Same p s t := by
  cases p <;> first | exact Iff.rfl | exact absurd rfl hp

@[simp] theorem State.onCipher_same (f : Cipher → Cipher) (hp : p ≠ .cipher) :
    Same p (s.onCipher f) t ↔ Same p s t := by
  cases p <;> first | exact Iff.rfl | exact absurd rfl hp

@[simp] theorem State.onKeys_same (f : Keys → Keys) (hp : p ≠ .keys) :
    Same p (s.onKeys f) t ↔ Same p s t := by
  cases p <;> first | exact Iff.rfl | exact absurd rfl hp

@[simp] theorem State.onXlat_same (f : Xlat → Xlat) (hp : p ≠ .xlat) :
    Same p (s.onXlat f) t ↔ Same p s t := by
  cases p <;> first | exact Iff.rfl | exact absurd rfl hp

@[simp] theorem State.onMedia_same (f : Media → Media) (hp : p ≠ .media) :
    Same p (s.onMedia f) t ↔ Same p s t := by
  cases p <;> first | exact Iff.rfl | exact absurd rfl hp

@[simp] theorem State.onPair_same (f : Pair → Pair) (hp : p ≠ .pair) :
    Same p (s.onPair f) t ↔ Same p s t := by
  cases p <;> first | exact Iff.rfl | exact absurd rfl hp

@[simp] theorem State.onPower_same (f : Power → Power) (hp : p ≠ .power) :
    Same p (s.onPower f) t ↔ Same p s t := by
  cases p <;> first | exact Iff.rfl | exact absurd rfl hp

@[simp] theorem State.onAttach_same (f : Attach → Attach) (hp : p ≠ .attach) :
    Same p (s.onAttach f) t ↔ Same p s t := by
  cases p <;> first | exact Iff.rfl | exact absurd rfl hp

@[simp] theorem State.onRepair_same (f : RepairSt → RepairSt) (hp : p ≠ .repair) :
    Same p (s.onRepair f) t ↔ Same p s t := by
  cases p <;> first | exact Iff.rfl | exact absurd rfl hp

@[simp] theorem State.onConns_same (f : Tbl Conn → Tbl Conn) (hp : p ≠ .conns) :
    Same p (s.onConns f) t ↔ Same p s t := by
  cases p <;> first | exact Iff.rfl | exact absurd rfl hp

@[simp] theorem State.onPools_same (f : Vector PoolSt 16 → Vector PoolSt 16) (hp : p ≠ .pools) :
    Same p (s.onPools f) t ↔ Same p s t := by
  cases p <;> first | exact Iff.rfl | exact absurd rfl hp

@[simp] theorem State.onBays_same (f : Vector BaySt 24 → Vector BaySt 24) (hp : p ≠ .bays) :
    Same p (s.onBays f) t ↔ Same p s t := by
  cases p <;> first | exact Iff.rfl | exact absurd rfl hp

@[simp] theorem with_ident_same (x) (hp : p ≠ .ident) : Same p { s with ident := x } t ↔ Same p s t := by
  cases p <;> first | exact Iff.rfl | exact absurd rfl hp

@[simp] theorem with_now_same (x) (hp : p ≠ .now) : Same p { s with now := x } t ↔ Same p s t := by
  cases p <;> first | exact Iff.rfl | exact absurd rfl hp

@[simp] theorem with_fresh_same (x) (hp : p ≠ .fresh) : Same p { s with fresh := x } t ↔ Same p s t := by
  cases p <;> first | exact Iff.rfl | exact absurd rfl hp

@[simp] theorem with_out_same (x) (hp : p ≠ .out) : Same p { s with out := x } t ↔ Same p s t := by
  cases p <;> first | exact Iff.rfl | exact absurd rfl hp

@[simp] theorem with_mode_same (x) (hp : p ≠ .mode) : Same p { s with mode := x } t ↔ Same p s t := by
  cases p <;> first | exact Iff.rfl | exact absurd rfl hp

@[simp] theorem with_mgmt_same (x) (hp : p ≠ .mgmt) : Same p { s with mgmt := x } t ↔ Same p s t := by
  cases p <;> first | exact Iff.rfl | exact absurd rfl hp

@[simp] theorem with_dict_same (x) (hp : p ≠ .dict) : Same p { s with dict := x } t ↔ Same p s t := by
  cases p <;> first | exact Iff.rfl | exact absurd rfl hp

@[simp] theorem with_net_same (x) (hp : p ≠ .net) : Same p { s with net := x } t ↔ Same p s t := by
  cases p <;> first | exact Iff.rfl | exact absurd rfl hp

@[simp] theorem with_conns_same (x) (hp : p ≠ .conns) : Same p { s with conns := x } t ↔ Same p s t := by
  cases p <;> first | exact Iff.rfl | exact absurd rfl hp

@[simp] theorem with_cmd_same (x) (hp : p ≠ .cmd) : Same p { s with cmd := x } t ↔ Same p s t := by
  cases p <;> first | exact Iff.rfl | exact absurd rfl hp

@[simp] theorem with_pools_same (x) (hp : p ≠ .pools) : Same p { s with pools := x } t ↔ Same p s t := by
  cases p <;> first | exact Iff.rfl | exact absurd rfl hp

@[simp] theorem with_pot_same (x) (hp : p ≠ .pot) : Same p { s with pot := x } t ↔ Same p s t := by
  cases p <;> first | exact Iff.rfl | exact absurd rfl hp

@[simp] theorem with_core_same (x) (hp : p ≠ .core) : Same p { s with core := x } t ↔ Same p s t := by
  cases p <;> first | exact Iff.rfl | exact absurd rfl hp

@[simp] theorem with_egress_same (x) (hp : p ≠ .egress) : Same p { s with egress := x } t ↔ Same p s t := by
  cases p <;> first | exact Iff.rfl | exact absurd rfl hp

@[simp] theorem with_cipher_same (x) (hp : p ≠ .cipher) : Same p { s with cipher := x } t ↔ Same p s t := by
  cases p <;> first | exact Iff.rfl | exact absurd rfl hp

@[simp] theorem with_keys_same (x) (hp : p ≠ .keys) : Same p { s with keys := x } t ↔ Same p s t := by
  cases p <;> first | exact Iff.rfl | exact absurd rfl hp

@[simp] theorem with_xlat_same (x) (hp : p ≠ .xlat) : Same p { s with xlat := x } t ↔ Same p s t := by
  cases p <;> first | exact Iff.rfl | exact absurd rfl hp

@[simp] theorem with_media_same (x) (hp : p ≠ .media) : Same p { s with media := x } t ↔ Same p s t := by
  cases p <;> first | exact Iff.rfl | exact absurd rfl hp

@[simp] theorem with_pair_same (x) (hp : p ≠ .pair) : Same p { s with pair := x } t ↔ Same p s t := by
  cases p <;> first | exact Iff.rfl | exact absurd rfl hp

@[simp] theorem with_power_same (x) (hp : p ≠ .power) : Same p { s with power := x } t ↔ Same p s t := by
  cases p <;> first | exact Iff.rfl | exact absurd rfl hp

@[simp] theorem with_bays_same (x) (hp : p ≠ .bays) : Same p { s with bays := x } t ↔ Same p s t := by
  cases p <;> first | exact Iff.rfl | exact absurd rfl hp

@[simp] theorem with_attach_same (x) (hp : p ≠ .attach) : Same p { s with attach := x } t ↔ Same p s t := by
  cases p <;> first | exact Iff.rfl | exact absurd rfl hp

@[simp] theorem with_repair_same (x) (hp : p ≠ .repair) : Same p { s with repair := x } t ↔ Same p s t := by
  cases p <;> first | exact Iff.rfl | exact absurd rfl hp

@[simp] theorem with_pending_same (x) (hp : p ≠ .pending) : Same p { s with pending := x } t ↔ Same p s t := by
  cases p <;> first | exact Iff.rfl | exact absurd rfl hp

end

/-! ### Control -/

@[simp] theorem ite_same {p : Field} (c : Prop) [Decidable c] (a b t : State) :
    Same p (if c then a else b) t ↔ if c then Same p a t else Same p b t := by
  split <;> rfl

@[simp] theorem iteSnd_same {p : Field} {β : Type} (c : Prop) [Decidable c] (a b : β × State) (t : State) :
    Same p (if c then a else b).2 t ↔ if c then Same p a.2 t else Same p b.2 t := by
  split <;> rfl

@[simp] theorem when_same {p : Field} (b : Bool) (f : State → State) (s t : State)
    (h : Same p (f s) t ↔ Same p s t) : Same p (when b f s) t ↔ Same p s t := by
  unfold when; split
  · exact h
  · exact Iff.rfl

@[simp] theorem each_same {p : Field} {α : Type} (l : List α) (f : α → State → State) (s t : State)
    (h : ∀ a u, Same p (f a u) t ↔ Same p u t) : Same p (each l f s) t ↔ Same p s t := by
  unfold each
  induction l generalizing s with
  | nil => exact Iff.rfl
  | cons a l ih => rw [List.foldl_cons, ih, h]

@[simp] theorem fold_same {p : Field} {α : Type} (l : List α) (f : State → α → State) (s t : State)
    (h : ∀ u a, Same p (f u a) t ↔ Same p u t) : Same p (l.foldl f s) t ↔ Same p s t := by
  induction l generalizing s with
  | nil => exact Iff.rfl
  | cons a l ih => rw [List.foldl_cons, ih, h]

@[simp] theorem foldSnd_same {p : Field} {α β : Type} (l : List α) (f : β × State → α → β × State) (i : β × State)
    (t : State) (h : ∀ i a, Same p (f i a).2 t ↔ Same p i.2 t) : Same p (l.foldl f i).2 t ↔ Same p i.2 t := by
  induction l generalizing i with
  | nil => exact Iff.rfl
  | cons a l ih => rw [List.foldl_cons, ih, h]

end Sys2Proof.Machine
end

