-- ==== Sys2Proof/Laws/FrameOps.lean ====
section
/-! SUPPORT. What each operation of Ops.lean leaves unchanged: of every field it does not touch, and as an equation. -/

namespace Sys2Proof.Machine

@[simp] theorem flushLog_same (s : State) {p : Field} (t : State) (hp : p ∉ [.mgmt]) : Same p (flushLog s) t ↔
    Same p s t := by
  simp at hp
  simp [hp, flushLog]

@[simp] theorem advance_same (t : Time) (s : State) {p : Field} (u : State) (hp : p ∉ [.now]) :
    Same p (advance t s) u ↔ Same p s u := by
  simp at hp
  simp [hp, advance]

@[simp] theorem emit_same (e : Emit) (s : State) {p : Field} (t : State) (hp : p ∉ [.out]) :
    Same p (emit e s) t ↔ Same p s t := by
  simp at hp
  simp [hp, emit]

@[simp] theorem draw_same (s : State) {p : Field} (t : State) (hp : p ∉ [.fresh]) : Same p (draw s).2 t ↔
    Same p s t := by
  simp at hp
  simp [hp, draw]

@[simp] theorem onConn_same (c : Nat) (f : Conn → Conn) (s : State) {p : Field} (t : State)
    (hp : p ∉ [.conns]) : Same p (onConn c f s) t ↔ Same p s t := by
  simp at hp
  simp [hp, onConn]

@[simp] theorem onCommand_same (id : Nat) (f : Cmd → Cmd) (s : State) {p : Field} (t : State)
    (hp : p ∉ [.cmd]) : Same p (onCommand id f s) t ↔ Same p s t := by
  simp at hp
  simp [hp, onCommand]

@[simp] theorem onCtrl_same (id : Nat) (f : Ctrl → Ctrl) (s : State) {p : Field} (t : State) (hp : p ∉ [.cmd]) :
    Same p (onCtrl id f s) t ↔ Same p s t := by
  simp at hp
  simp [hp, onCtrl]

@[simp] theorem onPort_same (p : Nat) (f : PortSt → PortSt) (s : State) {q : Field} (t : State)
    (hp : q ∉ [.net]) : Same q (onPort p f s) t ↔ Same q s t := by
  simp at hp
  simp [hp, onPort]

@[simp] theorem onCar_same (b : Nat) (f : Car → Car) (s : State) {p : Field} (t : State) (hp : p ∉ [.media]) :
    Same p (onCar b f s) t ↔ Same p s t := by
  simp at hp
  simp [hp, onCar]

@[simp] theorem onBay_same (b : Nat) (f : BaySt → BaySt) (s : State) {p : Field} (t : State)
    (hp : p ∉ [.bays]) : Same p (onBay b f s) t ↔ Same p s t := by
  simp at hp
  simp [hp, onBay]

@[simp] theorem putDict_same (idx : Nat) (sub : Nat) (rec : Nat) (v : Val) (s : State) {p : Field} (t : State)
    (hp : p ∉ [.dict]) : Same p (putDict idx sub rec v s) t ↔ Same p s t := by
  simp at hp
  simp [hp, putDict]

@[simp] theorem bump_same (idx : Nat) (sub : Nat) (n : Nat) (s : State) {p : Field} (t : State)
    (hp : p ∉ [.mgmt]) : Same p (bump idx sub n s) t ↔ Same p s t := by
  simp at hp
  simp [hp, bump]

@[simp] theorem peak_same (idx : Nat) (sub : Nat) (v : Nat) (s : State) {p : Field} (t : State)
    (hp : p ∉ [.mgmt]) : Same p (peak idx sub v s) t ↔ Same p s t := by
  simp at hp
  simp [hp, peak]

@[simp] theorem setCount_same (idx : Nat) (sub : Nat) (v : Nat) (s : State) {p : Field} (t : State)
    (hp : p ∉ [.mgmt]) : Same p (setCount idx sub v s) t ↔ Same p s t := by
  simp at hp
  simp [hp, setCount]

@[simp] theorem raiseAt_same (time : Time) (rom : Bool) (code : Nat) (inst : Nat) (value : Nat) (idx : Nat)
    (sub : Nat) (s : State) {p : Field} (t : State) (hp : p ∉ [.mgmt]) :
    Same p (raiseAt time rom code inst value idx sub s) t ↔ Same p s t := by
  simp at hp
  unfold raiseAt; dsimp only; (repeat' split) <;> simp [hp]

@[simp] theorem raise_same (code : Nat) (inst : Nat) (value : Nat) (idx : Nat) (sub : Nat) (s : State)
    {p : Field} (t : State) (hp : p ∉ [.mgmt]) : Same p (raise code inst value idx sub s) t ↔ Same p s t := by
  simp at hp
  simp [hp, raise]

@[simp] theorem raiseWithin_same (span : Nat) (code : Nat) (inst : Nat) (value : Nat) (idx : Nat) (sub : Nat)
    (s : State) {p : Field} (t : State) (hp : p ∉ [.mgmt]) :
    Same p (raiseWithin span code inst value idx sub s) t ↔ Same p s t := by
  simp at hp
  simp only [raiseWithin]; (repeat' split) <;> simp [hp]

@[simp] theorem raiseLimited_same (code : Nat) (inst : Nat) (value : Nat) (idx : Nat) (sub : Nat) (s : State)
    {p : Field} (t : State) (hp : p ∉ [.mgmt]) : Same p (raiseLimited code inst value idx sub s) t ↔
    Same p s t := by
  simp at hp
  simp [hp, raiseLimited]

@[simp] theorem setPower_same (p : PowerState) (s : State) {q : Field} (t : State) (hp : q ∉ [.mode, .mgmt]) :
    Same q (setPower p s) t ↔ Same q s t := by
  simp at hp
  simp [hp, setPower]

@[simp] theorem emptyPot_same (s : State) {p : Field} (t : State) (hp : p ∉ [.pools, .pot]) :
    Same p (emptyPot s) t ↔ Same p s t := by
  simp at hp
  simp [hp, emptyPot]

@[simp] theorem settle_same (s : State) {p : Field} (t : State) (hp : p ∉ [.pools, .pot, .pair]) :
    Same p (settle s) t ↔ Same p s t := by
  simp at hp
  simp [hp, settle]

@[simp] theorem mixCounters_same (m : Mode) (s : State) {p : Field} (t : State) (hp : p ∉ [.mgmt]) :
    Same p (mixCounters m s) t ↔ Same p s t := by
  simp at hp
  simp only [mixCounters]; (repeat' split) <;> simp [hp]

@[simp] theorem enterMode_same (m : Mode) (s : State) {p : Field} (t : State) (hp : p ∉ [.mode, .mgmt]) :
    Same p (enterMode m s) t ↔ Same p s t := by
  simp at hp
  simp [hp, enterMode]

@[simp] theorem endSome_same (gone : Nat → Session → Bool) (s : State) {p : Field} (t : State)
    (hp : p ∉ [.mgmt]) : Same p (endSome gone s) t ↔ Same p s t := by
  simp at hp
  simp [hp, endSome]

@[simp] theorem endSessions_same (s : State) {p : Field} (t : State) (hp : p ∉ [.mgmt]) :
    Same p (endSessions s) t ↔ Same p s t := by
  simp at hp
  simp [hp, endSessions]

@[simp] theorem enterSafe_same (cause : Nat) (s : State) {p : Field} (t : State) (hp : p ∉ [.mode, .mgmt]) :
    Same p (enterSafe cause s) t ↔ Same p s t := by
  simp at hp
  simp [hp, enterSafe]

@[simp] theorem record_same (e : RecEntry) (s : State) {p : Field} (t : State) (hp : p ∉ [.mgmt, .pair]) :
    Same p (record e s) t ↔ Same p s t := by
  simp at hp
  simp [hp, record]

@[simp] theorem takeGranules_same (p : Nat) (n : Nat) (s : State) {q : Field} (t : State) (hp : q ∉ [.pools]) :
    Same q (takeGranules p n s) t ↔ Same q s t := by
  simp at hp
  simp [hp, takeGranules]

@[simp] theorem refuseGranules_same (p : Nat) (s : State) {q : Field} (t : State) (hp : q ∉ [.mgmt]) :
    Same q (refuseGranules p s) t ↔ Same q s t := by
  simp at hp
  simp [hp, refuseGranules]

@[simp] theorem request_same (p : Nat) (n : Nat) (s : State) {q : Field} (t : State)
    (hp : q ∉ [.mgmt, .pools]) : Same q (request p n s).2 t ↔ Same q s t := by
  simp at hp
  simp only [request]; (repeat' split) <;> simp [hp]

@[simp] theorem giveBack_same (p : Nat) (n : Nat) (s : State) {q : Field} (t : State) (hp : q ∉ [.pools]) :
    Same q (giveBack p n s) t ↔ Same q s t := by
  simp at hp
  simp [hp, giveBack]

@[simp] theorem setRegion_same (n : Nat) (s : State) {p : Field} (t : State) (hp : p ∉ [.pot]) :
    Same p (setRegion n s) t ↔ Same p s t := by
  simp at hp
  simp [hp, setRegion]

@[simp] theorem addRepair_same (kind : Nat) (source : Nat) (inst : Nat) (detail : Nat) (s : State) {p : Field}
    (t : State) (hp : p ∉ [.mgmt, .repair]) : Same p (addRepair kind source inst detail s) t ↔ Same p s t := by
  simp at hp
  simp [hp, addRepair]

@[simp] theorem addReason_same (k : Nat) (s : State) {p : Field} (t : State) (hp : p ∉ [.mgmt, .repair]) :
    Same p (addReason k s) t ↔ Same p s t := by
  simp at hp
  simp [hp, addReason]

@[simp] theorem mirSend_same (e : Emit) (s : State) {p : Field} (t : State) (hp : p ∉ [.out, .pair]) :
    Same p (mirSend e s) t ↔ Same p s t := by
  simp at hp
  simp [hp, mirSend]

/-! The same as equations, for rewriting: what the operation leaves of a state is that state's. -/

theorem with_mgmt_of_same {a s : State} (h : ∀ p, p ∉ [Field.mgmt] → Same p a s) :
    a = { s with mgmt := a.mgmt } :=
  eq_of_same fun p => by have e := h p; cases p <;> first | rfl | exact e (by simp)

theorem with_now_of_same {a s : State} (h : ∀ p, p ∉ [Field.now] → Same p a s) :
    a = { s with now := a.now } :=
  eq_of_same fun p => by have e := h p; cases p <;> first | rfl | exact e (by simp)

theorem with_out_of_same {a s : State} (h : ∀ p, p ∉ [Field.out] → Same p a s) :
    a = { s with out := a.out } :=
  eq_of_same fun p => by have e := h p; cases p <;> first | rfl | exact e (by simp)

theorem with_fresh_of_same {a s : State} (h : ∀ p, p ∉ [Field.fresh] → Same p a s) :
    a = { s with fresh := a.fresh } :=
  eq_of_same fun p => by have e := h p; cases p <;> first | rfl | exact e (by simp)

theorem with_conns_of_same {a s : State} (h : ∀ p, p ∉ [Field.conns] → Same p a s) :
    a = { s with conns := a.conns } :=
  eq_of_same fun p => by have e := h p; cases p <;> first | rfl | exact e (by simp)

theorem with_cmd_of_same {a s : State} (h : ∀ p, p ∉ [Field.cmd] → Same p a s) :
    a = { s with cmd := a.cmd } :=
  eq_of_same fun p => by have e := h p; cases p <;> first | rfl | exact e (by simp)

theorem with_net_of_same {a s : State} (h : ∀ p, p ∉ [Field.net] → Same p a s) :
    a = { s with net := a.net } :=
  eq_of_same fun p => by have e := h p; cases p <;> first | rfl | exact e (by simp)

theorem with_media_of_same {a s : State} (h : ∀ p, p ∉ [Field.media] → Same p a s) :
    a = { s with media := a.media } :=
  eq_of_same fun p => by have e := h p; cases p <;> first | rfl | exact e (by simp)

theorem with_bays_of_same {a s : State} (h : ∀ p, p ∉ [Field.bays] → Same p a s) :
    a = { s with bays := a.bays } :=
  eq_of_same fun p => by have e := h p; cases p <;> first | rfl | exact e (by simp)

theorem with_dict_of_same {a s : State} (h : ∀ p, p ∉ [Field.dict] → Same p a s) :
    a = { s with dict := a.dict } :=
  eq_of_same fun p => by have e := h p; cases p <;> first | rfl | exact e (by simp)

theorem with_mode_mgmt_of_same {a s : State} (h : ∀ p, p ∉ [Field.mode, Field.mgmt] → Same p a s) :
    a = { s with mode := a.mode, mgmt := a.mgmt } :=
  eq_of_same fun p => by have e := h p; cases p <;> first | rfl | exact e (by simp)

theorem with_pools_pot_of_same {a s : State} (h : ∀ p, p ∉ [Field.pools, Field.pot] → Same p a s) :
    a = { s with pools := a.pools, pot := a.pot } :=
  eq_of_same fun p => by have e := h p; cases p <;> first | rfl | exact e (by simp)

theorem with_pools_pot_pair_of_same {a s : State}
    (h : ∀ p, p ∉ [Field.pools, Field.pot, Field.pair] → Same p a s) :
    a = { s with pools := a.pools, pot := a.pot, pair := a.pair } :=
  eq_of_same fun p => by have e := h p; cases p <;> first | rfl | exact e (by simp)

theorem with_mgmt_pair_of_same {a s : State} (h : ∀ p, p ∉ [Field.mgmt, Field.pair] → Same p a s) :
    a = { s with mgmt := a.mgmt, pair := a.pair } :=
  eq_of_same fun p => by have e := h p; cases p <;> first | rfl | exact e (by simp)

theorem with_pools_of_same {a s : State} (h : ∀ p, p ∉ [Field.pools] → Same p a s) :
    a = { s with pools := a.pools } :=
  eq_of_same fun p => by have e := h p; cases p <;> first | rfl | exact e (by simp)

theorem with_mgmt_pools_of_same {a s : State} (h : ∀ p, p ∉ [Field.mgmt, Field.pools] → Same p a s) :
    a = { s with mgmt := a.mgmt, pools := a.pools } :=
  eq_of_same fun p => by have e := h p; cases p <;> first | rfl | exact e (by simp)

theorem with_mgmt_repair_of_same {a s : State} (h : ∀ p, p ∉ [Field.mgmt, Field.repair] → Same p a s) :
    a = { s with mgmt := a.mgmt, repair := a.repair } :=
  eq_of_same fun p => by have e := h p; cases p <;> first | rfl | exact e (by simp)

theorem with_out_pair_of_same {a s : State} (h : ∀ p, p ∉ [Field.out, Field.pair] → Same p a s) :
    a = { s with out := a.out, pair := a.pair } :=
  eq_of_same fun p => by have e := h p; cases p <;> first | rfl | exact e (by simp)

theorem flushLog_with (s : State) :
    flushLog s = { s with mgmt := (flushLog s).mgmt } :=
  with_mgmt_of_same fun _ hp => (flushLog_same _ _ hp).2 (same_refl _ _)

theorem advance_with (t : Time) (s : State) :
    advance t s = { s with now := (advance t s).now } :=
  with_now_of_same fun _ hp => (advance_same _ _ _ hp).2 (same_refl _ _)

theorem emit_with (e : Emit) (s : State) :
    emit e s = { s with out := (emit e s).out } :=
  with_out_of_same fun _ hp => (emit_same _ _ _ hp).2 (same_refl _ _)

theorem draw_with (s : State) :
    (draw s).2 = { s with fresh := (draw s).2.fresh } :=
  with_fresh_of_same fun _ hp => (draw_same _ _ hp).2 (same_refl _ _)

theorem onConn_with (c : Nat) (f : Conn → Conn) (s : State) :
    onConn c f s = { s with conns := (onConn c f s).conns } :=
  with_conns_of_same fun _ hp => (onConn_same _ _ _ _ hp).2 (same_refl _ _)

theorem onCommand_with (id : Nat) (f : Cmd → Cmd) (s : State) :
    onCommand id f s = { s with cmd := (onCommand id f s).cmd } :=
  with_cmd_of_same fun _ hp => (onCommand_same _ _ _ _ hp).2 (same_refl _ _)

theorem onCtrl_with (id : Nat) (f : Ctrl → Ctrl) (s : State) :
    onCtrl id f s = { s with cmd := (onCtrl id f s).cmd } :=
  with_cmd_of_same fun _ hp => (onCtrl_same _ _ _ _ hp).2 (same_refl _ _)

theorem onPort_with (p : Nat) (f : PortSt → PortSt) (s : State) :
    onPort p f s = { s with net := (onPort p f s).net } :=
  with_net_of_same fun _ hp => (onPort_same _ _ _ _ hp).2 (same_refl _ _)

theorem onCar_with (b : Nat) (f : Car → Car) (s : State) :
    onCar b f s = { s with media := (onCar b f s).media } :=
  with_media_of_same fun _ hp => (onCar_same _ _ _ _ hp).2 (same_refl _ _)

theorem onBay_with (b : Nat) (f : BaySt → BaySt) (s : State) :
    onBay b f s = { s with bays := (onBay b f s).bays } :=
  with_bays_of_same fun _ hp => (onBay_same _ _ _ _ hp).2 (same_refl _ _)

theorem putDict_with (idx : Nat) (sub : Nat) (rec : Nat) (v : Val) (s : State) :
    putDict idx sub rec v s = { s with dict := (putDict idx sub rec v s).dict } :=
  with_dict_of_same fun _ hp => (putDict_same _ _ _ _ _ _ hp).2 (same_refl _ _)

theorem bump_with (idx : Nat) (sub : Nat) (n : Nat) (s : State) :
    bump idx sub n s = { s with mgmt := (bump idx sub n s).mgmt } :=
  with_mgmt_of_same fun _ hp => (bump_same _ _ _ _ _ hp).2 (same_refl _ _)

theorem peak_with (idx : Nat) (sub : Nat) (v : Nat) (s : State) :
    peak idx sub v s = { s with mgmt := (peak idx sub v s).mgmt } :=
  with_mgmt_of_same fun _ hp => (peak_same _ _ _ _ _ hp).2 (same_refl _ _)

theorem setCount_with (idx : Nat) (sub : Nat) (v : Nat) (s : State) :
    setCount idx sub v s = { s with mgmt := (setCount idx sub v s).mgmt } :=
  with_mgmt_of_same fun _ hp => (setCount_same _ _ _ _ _ hp).2 (same_refl _ _)

theorem raiseAt_with (time : Time) (rom : Bool) (code : Nat) (inst : Nat) (value : Nat) (idx : Nat)
    (sub : Nat) (s : State) :
    raiseAt time rom code inst value idx sub s =
      { s with mgmt := (raiseAt time rom code inst value idx sub s).mgmt } :=
  with_mgmt_of_same fun _ hp => (raiseAt_same _ _ _ _ _ _ _ _ _ hp).2 (same_refl _ _)

theorem raise_with (code : Nat) (inst : Nat) (value : Nat) (idx : Nat) (sub : Nat) (s : State)  :
    raise code inst value idx sub s = { s with mgmt := (raise code inst value idx sub s).mgmt } :=
  with_mgmt_of_same fun _ hp => (raise_same _ _ _ _ _ _ _ hp).2 (same_refl _ _)

theorem raiseWithin_with (span : Nat) (code : Nat) (inst : Nat) (value : Nat) (idx : Nat) (sub : Nat) (s : State) :
    raiseWithin span code inst value idx sub s =
      { s with mgmt := (raiseWithin span code inst value idx sub s).mgmt } :=
  with_mgmt_of_same fun _ hp => (raiseWithin_same _ _ _ _ _ _ _ _ hp).2 (same_refl _ _)

theorem raiseLimited_with (code : Nat) (inst : Nat) (value : Nat) (idx : Nat) (sub : Nat) (s : State)  :
    raiseLimited code inst value idx sub s = { s with mgmt := (raiseLimited code inst value idx sub s).mgmt } :=
  with_mgmt_of_same fun _ hp => (raiseLimited_same _ _ _ _ _ _ _ hp).2 (same_refl _ _)

theorem setPower_with (p : PowerState) (s : State) :
    setPower p s = { s with mode := (setPower p s).mode, mgmt := (setPower p s).mgmt } :=
  with_mode_mgmt_of_same fun _ hp => (setPower_same _ _ _ hp).2 (same_refl _ _)

theorem emptyPot_with (s : State) :
    emptyPot s = { s with pools := (emptyPot s).pools, pot := (emptyPot s).pot } :=
  with_pools_pot_of_same fun _ hp => (emptyPot_same _ _ hp).2 (same_refl _ _)

theorem settle_with (s : State) :
    settle s = { s with pools := (settle s).pools, pot := (settle s).pot, pair := (settle s).pair } :=
  with_pools_pot_pair_of_same fun _ hp => (settle_same _ _ hp).2 (same_refl _ _)

theorem mixCounters_with (m : Mode) (s : State) :
    mixCounters m s = { s with mgmt := (mixCounters m s).mgmt } :=
  with_mgmt_of_same fun _ hp => (mixCounters_same _ _ _ hp).2 (same_refl _ _)

theorem enterMode_with (m : Mode) (s : State) :
    enterMode m s = { s with mode := (enterMode m s).mode, mgmt := (enterMode m s).mgmt } :=
  with_mode_mgmt_of_same fun _ hp => (enterMode_same _ _ _ hp).2 (same_refl _ _)

theorem endSome_with (gone : Nat → Session → Bool) (s : State) :
    endSome gone s = { s with mgmt := (endSome gone s).mgmt } :=
  with_mgmt_of_same fun _ hp => (endSome_same _ _ _ hp).2 (same_refl _ _)

theorem endSessions_with (s : State) :
    endSessions s = { s with mgmt := (endSessions s).mgmt } :=
  with_mgmt_of_same fun _ hp => (endSessions_same _ _ hp).2 (same_refl _ _)

theorem enterSafe_with (cause : Nat) (s : State) :
    enterSafe cause s = { s with mode := (enterSafe cause s).mode, mgmt := (enterSafe cause s).mgmt } :=
  with_mode_mgmt_of_same fun _ hp => (enterSafe_same _ _ _ hp).2 (same_refl _ _)

theorem record_with (e : RecEntry) (s : State) :
    record e s = { s with mgmt := (record e s).mgmt, pair := (record e s).pair } :=
  with_mgmt_pair_of_same fun _ hp => (record_same _ _ _ hp).2 (same_refl _ _)

theorem takeGranules_with (p : Nat) (n : Nat) (s : State) :
    takeGranules p n s = { s with pools := (takeGranules p n s).pools } :=
  with_pools_of_same fun _ hp => (takeGranules_same _ _ _ _ hp).2 (same_refl _ _)

theorem refuseGranules_with (p : Nat) (s : State) :
    refuseGranules p s = { s with mgmt := (refuseGranules p s).mgmt } :=
  with_mgmt_of_same fun _ hp => (refuseGranules_same _ _ _ hp).2 (same_refl _ _)

theorem request_with (p : Nat) (n : Nat) (s : State) :
    (request p n s).2 = { s with mgmt := (request p n s).2.mgmt, pools := (request p n s).2.pools } :=
  with_mgmt_pools_of_same fun _ hp => (request_same _ _ _ _ hp).2 (same_refl _ _)

theorem giveBack_with (p : Nat) (n : Nat) (s : State) :
    giveBack p n s = { s with pools := (giveBack p n s).pools } :=
  with_pools_of_same fun _ hp => (giveBack_same _ _ _ _ hp).2 (same_refl _ _)

theorem addRepair_with (kind : Nat) (source : Nat) (inst : Nat) (detail : Nat) (s : State) :
    addRepair kind source inst detail s =
      { s with mgmt := (addRepair kind source inst detail s).mgmt,
               repair := (addRepair kind source inst detail s).repair } :=
  with_mgmt_repair_of_same fun _ hp => (addRepair_same _ _ _ _ _ _ hp).2 (same_refl _ _)

theorem addReason_with (k : Nat) (s : State) :
    addReason k s = { s with mgmt := (addReason k s).mgmt, repair := (addReason k s).repair } :=
  with_mgmt_repair_of_same fun _ hp => (addReason_same _ _ _ hp).2 (same_refl _ _)

theorem mirSend_with (e : Emit) (s : State) :
    mirSend e s = { s with out := (mirSend e s).out, pair := (mirSend e s).pair } :=
  with_out_pair_of_same fun _ hp => (mirSend_same _ _ _ hp).2 (same_refl _ _)

end Sys2Proof.Machine
end

