-- ==== Sys2Proof/Laws/Exec.lean ====
section
/-! SUPPORT. The meaning each command is dispatched to, one lemma a command, and from them: every command
is an effect between the coming of its time and the settling of the outputs. -/

namespace Sys2Proof.Machine

theorem exec_portUp {t} {p} (s : State) :
    exec (.portUp t p) s = execPortUp t p s := (rfl)

theorem exec_portDown {t} {p} (s : State) :
    exec (.portDown t p) s = execPortDown t p s := (rfl)

theorem exec_recal {t} {w} (s : State) :
    exec (.recal t w) s = execRecal t w s := (rfl)

theorem exec_recalComplete {t} {p} (s : State) :
    exec (.recalComplete t p) s = execRecalComplete t p s := (rfl)

theorem exec_cageInsertion {t} {g} {codes} (s : State) :
    exec (.cageInsertion t g codes) s = execCageInsertion t g codes s := (rfl)

theorem exec_groupConfig {t} {w} (s : State) :
    exec (.groupConfig t w) s = execGroupConfig t w s := (rfl)

theorem exec_groupMac {t} {w} (s : State) :
    exec (.groupMac t w) s = execGroupMac t w s := (rfl)

theorem exec_frameReceive {t} {p} {f} (s : State) :
    exec (.frameReceive t p f) s = execFrameReceive t p f s := (rfl)

theorem exec_arpRequest {t} {p} {addr} (s : State) :
    exec (.arpRequest t p addr) s = execArpRequest t p addr s := (rfl)

theorem exec_neighborSolicitation {t} {p} {addr} {solicited} (s : State) :
    exec (.neighborSolicitation t p addr solicited) s = execNeighborSolicitation t p addr solicited s := (rfl)

theorem exec_neighbourReply {t} {p} {addr} {mac} (s : State) :
    exec (.neighbourReply t p addr mac) s = execNeighbourReply t p addr mac s := (rfl)

theorem exec_icmpEchoRequest {t} {p} {addr} (s : State) :
    exec (.icmpEchoRequest t p addr) s = execIcmpEchoRequest t p addr s := (rfl)

theorem exec_packetTooBig {t} {conn} {mtu} (s : State) :
    exec (.packetTooBig t conn mtu) s = execPacketTooBig t conn mtu s := (rfl)

theorem exec_soloEntry {t} (s : State) :
    exec (.soloEntry t) s = execSoloEntry t s := (rfl)

theorem exec_duplicateAddressDetectionEnd {t} {svc} {conflict} (s : State) :
    exec (.duplicateAddressDetectionEnd t svc conflict) s =
      execDuplicateAddressDetectionEnd t svc conflict s := (rfl)

theorem exec_probeIntervalExpiry {t} (s : State) :
    exec (.probeIntervalExpiry t) s = execProbeIntervalExpiry t s := (rfl)

theorem exec_probeReport {t} {h} {ports} (s : State) :
    exec (.probeReport t h ports) s = execProbeReport t h ports s := (rfl)

theorem exec_dualDeliveryRestored {t} (s : State) :
    exec (.dualDeliveryRestored t) s = execDualDeliveryRestored t s := (rfl)

theorem exec_tcpSyn {t} {info} (s : State) :
    exec (.tcpSyn t info) s = execTcpSyn t info s := (rfl)

theorem exec_tcpSegment {t} {conn} {seq} {len} {capsule} (s : State) :
    exec (.tcpSegment t conn seq len capsule) s = execTcpSegment t conn seq len capsule s := (rfl)

theorem exec_tcpAck {t} {conn} {a} (s : State) :
    exec (.tcpAck t conn a) s = execTcpAck t conn a s := (rfl)

theorem exec_tcpRetransmissionTimeout {t} {conn} (s : State) :
    exec (.tcpRetransmissionTimeout t conn) s = execTcpRetransmissionTimeout t conn s := (rfl)

theorem exec_tcpSendTimeout {t} {conn} (s : State) :
    exec (.tcpSendTimeout t conn) s = execTcpSendTimeout t conn s := (rfl)

theorem exec_hostConnectionClose {t} {conn} (s : State) :
    exec (.hostConnectionClose t conn) s = execHostConnectionClose t conn s := (rfl)

theorem exec_tlsClientHello {t} {conn} {hello} (s : State) :
    exec (.tlsClientHello t conn hello) s = execTlsClientHello t conn hello s := (rfl)

theorem exec_tlsRecord {t} {conn} {ctype} {b} (s : State) :
    exec (.tlsRecord t conn ctype b) s = execTlsRecord t conn ctype b s := (rfl)

theorem exec_keyupdateReceive {t} {conn} {updateRequested} (s : State) :
    exec (.keyupdateReceive t conn updateRequested) s = execKeyupdateReceive t conn updateRequested s := (rfl)

theorem exec_keyupdateSend {t} {conn} (s : State) :
    exec (.keyupdateSend t conn) s = execKeyupdateSend t conn s := (rfl)

theorem exec_closeNotify {t} {conn} (s : State) :
    exec (.closeNotify t conn) s = execCloseNotify t conn s := (rfl)

theorem exec_roceCmRequest {t} {info} (s : State) :
    exec (.roceCmRequest t info) s = execRoceCmRequest t info s := (rfl)

theorem exec_roceSend {t} {conn} {psn} {len} (s : State) :
    exec (.roceSend t conn psn len) s = execRoceSend t conn psn len s := (rfl)

theorem exec_roceInboundRdma {t} {conn} (s : State) :
    exec (.roceInboundRdma t conn) s = execRoceInboundRdma t conn s := (rfl)

theorem exec_roceAck {t} {conn} {a} (s : State) :
    exec (.roceAck t conn a) s = execRoceAck t conn a s := (rfl)

theorem exec_roceAckTimeout {t} {conn} (s : State) :
    exec (.roceAckTimeout t conn) s = execRoceAckTimeout t conn s := (rfl)

theorem exec_roceReadResponse {t} {conn} {ttag} {off} {sectors} (s : State) :
    exec (.roceReadResponse t conn ttag off sectors) s =
      execRoceReadResponse t conn ttag off sectors s := (rfl)

theorem exec_ceMarkedPacket {t} {conn} (s : State) :
    exec (.ceMarkedPacket t conn) s = execCeMarkedPacket t conn s := (rfl)

theorem exec_congestionNotification {t} {conn} (s : State) :
    exec (.congestionNotification t conn) s = execCongestionNotification t conn s := (rfl)

theorem exec_rateRecovery {t} {conn} (s : State) :
    exec (.rateRecovery t conn) s = execRateRecovery t conn s := (rfl)

theorem exec_pfcPause {t} {p} {prio} {duration} (s : State) :
    exec (.pfcPause t p prio duration) s = execPfcPause t p prio duration s := (rfl)

theorem exec_portPausedLong {t} {p} (s : State) :
    exec (.portPausedLong t p) s = execPortPausedLong t p s := (rfl)

theorem exec_egressSelect {t} {p} (s : State) :
    exec (.egressSelect t p) s = execEgressSelect t p s := (rfl)

theorem exec_receiveGapTimeout {t} {conn} (s : State) :
    exec (.receiveGapTimeout t conn) s = execReceiveGapTimeout t conn s := (rfl)

theorem exec_connect {t} {conn} {cid} {subnqn} {hostnqn} {qid} {sq} {cntlid} {kato} (s : State) :
    exec (.connect t conn cid subnqn hostnqn qid sq cntlid kato) s = execConnect t conn cid subnqn hostnqn qid sq cntlid kato s := (rfl)

theorem exec_propertyGet {t} {conn} {cid} {offset} (s : State) :
    exec (.propertyGet t conn cid offset) s = execPropertyGet t conn cid offset s := (rfl)

theorem exec_propertySet {t} {conn} {cid} {offset} {value} (s : State) :
    exec (.propertySet t conn cid offset value) s = execPropertySet t conn cid offset value s := (rfl)

theorem exec_disconnect {t} {conn} {cid} (s : State) :
    exec (.disconnect t conn cid) s = execDisconnect t conn cid s := (rfl)

theorem exec_getLogPage {t} {h} {cid} {lid} {retain} (s : State) :
    exec (.getLogPage t h cid lid retain) s = execGetLogPage t h cid lid retain s := (rfl)

theorem exec_identify {t} {h} {cid} {cns} {nsid} (s : State) :
    exec (.identify t h cid cns nsid) s = execIdentify t h cid cns nsid s := (rfl)

theorem exec_abort {t} {h} {cid} {sqid} {target} (s : State) :
    exec (.abort t h cid sqid target) s = execAbort t h cid sqid target s := (rfl)

theorem exec_setFeatures {t} {h} {cid} {fid} {save} {dw11} (s : State) :
    exec (.setFeatures t h cid fid save dw11) s = execSetFeatures t h cid fid save dw11 s := (rfl)

theorem exec_getFeatures {t} {h} {cid} {fid} {sel} (s : State) :
    exec (.getFeatures t h cid fid sel) s = execGetFeatures t h cid fid sel s := (rfl)

theorem exec_asynchronousEventRequest {t} {h} {cid} (s : State) :
    exec (.asynchronousEventRequest t h cid) s = execAsynchronousEventRequest t h cid s := (rfl)

theorem exec_keepAlive {t} {h} {cid} (s : State) :
    exec (.keepAlive t h cid) s = execKeepAlive t h cid s := (rfl)

theorem exec_invalidOpcode {t} {src} {cid} {opc} (s : State) :
    exec (.invalidOpcode t src cid opc) s = execInvalidOpcode t src cid opc s := (rfl)

theorem exec_createIoSq {t} {cid} {qid} {size} {cqid} (s : State) :
    exec (.createIoSq t cid qid size cqid) s = execCreateIoSq t cid qid size cqid s := (rfl)

theorem exec_createIoCq {t} {cid} {qid} {size} (s : State) :
    exec (.createIoCq t cid qid size) s = execCreateIoCq t cid qid size s := (rfl)

theorem exec_deleteIoSq {t} {cid} {qid} (s : State) :
    exec (.deleteIoSq t cid qid) s = execDeleteIoSq t cid qid s := (rfl)

theorem exec_deleteIoCq {t} {cid} {qid} (s : State) :
    exec (.deleteIoCq t cid qid) s = execDeleteIoCq t cid qid s := (rfl)

theorem exec_flush {t} {c} (s : State) :
    exec (.flush t c) s = execFlush t c s := (rfl)

theorem exec_read {t} {c} (s : State) :
    exec (.read t c) s = execRead t c s := (rfl)

theorem exec_write {t} {c} {inCapsule} (s : State) :
    exec (.write t c inCapsule) s = execWrite t c inCapsule s := (rfl)

theorem exec_writeZeroes {t} {c} (s : State) :
    exec (.writeZeroes t c) s = execWriteZeroes t c s := (rfl)

theorem exec_datasetManagement {t} {c} {deallocate} {ranges} (s : State) :
    exec (.datasetManagement t c deallocate ranges) s = execDatasetManagement t c deallocate ranges s := (rfl)

theorem exec_h2cData {t} {conn} {ttag} {off} {sectors} (s : State) :
    exec (.h2cData t conn ttag off sectors) s = execH2cData t conn ttag off sectors s := (rfl)

theorem exec_admissionRetest {t} (s : State) :
    exec (.admissionRetest t) s = execAdmissionRetest t s := (rfl)

theorem exec_commandStart {t} {src} (s : State) :
    exec (.commandStart t src) s = execCommandStart t src s := (rfl)

theorem exec_keepAliveExpired {t} {ctrl} (s : State) :
    exec (.keepAliveExpired t ctrl) s = execKeepAliveExpired t ctrl s := (rfl)

theorem exec_granuleRequest {t} {pool} {n} (s : State) :
    exec (.granuleRequest t pool n) s = execGranuleRequest t pool n s := (rfl)

theorem exec_releaseNotice {t} {pool} (s : State) :
    exec (.releaseNotice t pool) s = execReleaseNotice t pool s := (rfl)

theorem exec_rerequestTick {t} (s : State) :
    exec (.rerequestTick t) s = execRerequestTick t s := (rfl)

theorem exec_refcountDecrement {t} {buf} (s : State) :
    exec (.refcountDecrement t buf) s = execRefcountDecrement t buf s := (rfl)

theorem exec_coalesceWindowExpiry {t} {buf} (s : State) :
    exec (.coalesceWindowExpiry t buf) s = execCoalesceWindowExpiry t buf s := (rfl)

theorem exec_cipherUnitComplete {t} {unit} {sumA} {sumB} {tagA} {tagB} {slotOk} (s : State) :
    exec (.cipherUnitComplete t unit sumA sumB tagA tagB slotOk) s =
      execCipherUnitComplete t unit sumA sumB tagA tagB slotOk s := (rfl)

theorem exec_evictionHand {t} (s : State) :
    exec (.evictionHand t) s = execEvictionHand t s := (rfl)

theorem exec_potSize {t} {w} (s : State) :
    exec (.potSize t w) s = execPotSize t w s := (rfl)

theorem exec_cellOffer {t} {inp} {out} {kind} {b} (s : State) :
    exec (.cellOffer t inp out kind b) s = execCellOffer t inp out kind b s := (rfl)

theorem exec_cellSlot {t} {out} {ecc} {row} (s : State) :
    exec (.cellSlot t out ecc row) s = execCellSlot t out ecc row s := (rfl)

theorem exec_creditReturn {t} {out} {inp} {c} (s : State) :
    exec (.creditReturn t out inp c) s = execCreditReturn t out inp c s := (rfl)

theorem exec_memoryReadRequest {t} {ctl} {req} {cls} {bytes} (s : State) :
    exec (.memoryReadRequest t ctl req cls bytes) s = execMemoryReadRequest t ctl req cls bytes s := (rfl)

theorem exec_writeAcknowledgement {t} {ctl} {w} (s : State) :
    exec (.writeAcknowledgement t ctl w) s = execWriteAcknowledgement t ctl w s := (rfl)

theorem exec_voqStalled {t} {inp} {out} {cls} (s : State) :
    exec (.voqStalled t inp out cls) s = execVoqStalled t inp out cls s := (rfl)

theorem exec_format {t} {w} (s : State) :
    exec (.format t w) s = execFormat t w s := (rfl)

theorem exec_formatComplete {t} {partnerStored} (s : State) :
    exec (.formatComplete t partnerStored) s = execFormatComplete t partnerStored s := (rfl)

theorem exec_nsEnable {t} {sess} (s : State) :
    exec (.nsEnable t sess) s = execNsEnable t sess s := (rfl)

theorem exec_nsDisable {t} {sess} (s : State) :
    exec (.nsDisable t sess) s = execNsDisable t sess s := (rfl)

theorem exec_nsWriteProtect {t} {w} (s : State) :
    exec (.nsWriteProtect t w) s = execNsWriteProtect t w s := (rfl)

theorem exec_placementQueueReserve {t} (s : State) :
    exec (.placementQueueReserve t) s = execPlacementQueueReserve t s := (rfl)

theorem exec_stripeGather {t} {lb} (s : State) :
    exec (.stripeGather t lb) s = execStripeGather t lb s := (rfl)

theorem exec_fillWaitExpiry {t} {lb} (s : State) :
    exec (.fillWaitExpiry t lb) s = execFillWaitExpiry t lb s := (rfl)

theorem exec_logGatherWaitExpiry {t} {ns} (s : State) :
    exec (.logGatherWaitExpiry t ns) s = execLogGatherWaitExpiry t ns s := (rfl)

theorem exec_caddySlotRelease {t} {prog} (s : State) :
    exec (.caddySlotRelease t prog) s = execCaddySlotRelease t prog s := (rfl)

theorem exec_mergeQuietExpiry {t} {lb} (s : State) :
    exec (.mergeQuietExpiry t lb) s = execMergeQuietExpiry t lb s := (rfl)

theorem exec_mergeStart {t} {lb} (s : State) :
    exec (.mergeStart t lb) s = execMergeStart t lb s := (rfl)

theorem exec_mergeCommit {t} {lb} (s : State) :
    exec (.mergeCommit t lb) s = execMergeCommit t lb s := (rfl)

theorem exec_bandRelease {t} {band} (s : State) :
    exec (.bandRelease t band) s = execBandRelease t band s := (rfl)

theorem exec_checkpoint {t} (s : State) :
    exec (.checkpoint t) s = execCheckpoint t s := (rfl)

theorem exec_journalCarrierWrite {t} (s : State) :
    exec (.journalCarrierWrite t) s = execJournalCarrierWrite t s := (rfl)

theorem exec_reclaimVictim {t} (s : State) :
    exec (.reclaimVictim t) s = execReclaimVictim t s := (rfl)

theorem exec_compactionCommit {t} {job} (s : State) :
    exec (.compactionCommit t job) s = execCompactionCommit t job s := (rfl)

theorem exec_staticWearLevel {t} {b} (s : State) :
    exec (.staticWearLevel t b) s = execStaticWearLevel t b s := (rfl)

theorem exec_memberMoveSwitch {t} {job} (s : State) :
    exec (.memberMoveSwitch t job) s = execMemberMoveSwitch t job s := (rfl)

theorem exec_scrubIntervalExpiry {t} (s : State) :
    exec (.scrubIntervalExpiry t) s = execScrubIntervalExpiry t s := (rfl)

theorem exec_exhaustionCleared {t} (s : State) :
    exec (.exhaustionCleared t) s = execExhaustionCleared t s := (rfl)

theorem exec_mediaQueueSelect {t} {b} (s : State) :
    exec (.mediaQueueSelect t b) s = execMediaQueueSelect t b s := (rfl)

theorem exec_carrierLinkUp {t} {b} {d} (s : State) :
    exec (.carrierLinkUp t b d) s = execCarrierLinkUp t b d s := (rfl)

theorem exec_carrierLinkDown {t} {b} (s : State) :
    exec (.carrierLinkDown t b) s = execCarrierLinkDown t b s := (rfl)

theorem exec_carrierRecoveryTimeout {t} {b} (s : State) :
    exec (.carrierRecoveryTimeout t b) s = execCarrierRecoveryTimeout t b s := (rfl)

theorem exec_narrowFloorCleared {t} (s : State) :
    exec (.narrowFloorCleared t) s = execNarrowFloorCleared t s := (rfl)

theorem exec_carrierLostTimeout {t} {b} (s : State) :
    exec (.carrierLostTimeout t b) s = execCarrierLostTimeout t b s := (rfl)

theorem exec_carrierReadmit {t} {w} (s : State) :
    exec (.carrierReadmit t w) s = execCarrierReadmit t w s := (rfl)

theorem exec_rebuildStart {t} (s : State) :
    exec (.rebuildStart t) s = execRebuildStart t s := (rfl)

theorem exec_rebuildSwitch {t} {job} (s : State) :
    exec (.rebuildSwitch t job) s = execRebuildSwitch t job s := (rfl)

theorem exec_lostClear {t} {w} (s : State) :
    exec (.lostClear t w) s = execLostClear t w s := (rfl)

theorem exec_cipherRetryComplete {t} {unit} {c} {d} {sumC} {sumD} {tagC} {tagD} {cEqualsA} (s : State) :
    exec (.cipherRetryComplete t unit c d sumC sumD tagC tagD cEqualsA) s =
      execCipherRetryComplete t unit c d sumC sumD tagC tagD cEqualsA s := (rfl)

theorem exec_laneTestComplete {t} {l} {pass} (s : State) :
    exec (.laneTestComplete t l pass) s = execLaneTestComplete t l pass s := (rfl)

theorem exec_clusterRebind {t} {conn} (s : State) :
    exec (.clusterRebind t conn) s = execClusterRebind t conn s := (rfl)

theorem exec_nsCryptoErase {t} {w} (s : State) :
    exec (.nsCryptoErase t w) s = execNsCryptoErase t w s := (rfl)

theorem exec_cryptoEraseSwitch {t} {ns} (s : State) :
    exec (.cryptoEraseSwitch t ns) s = execCryptoEraseSwitch t ns s := (rfl)

theorem exec_oldKeyZeroise {t} {ns} (s : State) :
    exec (.oldKeyZeroise t ns) s = execOldKeyZeroise t ns s := (rfl)

theorem exec_escrowKek {t} {w} (s : State) :
    exec (.escrowKek t w) s = execEscrowKek t w s := (rfl)

theorem exec_arrayKeyExport {t} {sess} (s : State) :
    exec (.arrayKeyExport t sess) s = execArrayKeyExport t sess s := (rfl)

theorem exec_arrayKeyImport {t} {w} (s : State) :
    exec (.arrayKeyImport t w) s = execArrayKeyImport t w s := (rfl)

theorem exec_pskValue {t} {w} (s : State) :
    exec (.pskValue t w) s = execPskValue t w s := (rfl)

theorem exec_contextMiss {t} {conn} {unwrapOk} (s : State) :
    exec (.contextMiss t conn unwrapOk) s = execContextMiss t conn unwrapOk s := (rfl)

theorem exec_entropyTestFailure {t} {src} (s : State) :
    exec (.entropyTestFailure t src) s = execEntropyTestFailure t src s := (rfl)

theorem exec_entropySourceRecovery {t} {src} (s : State) :
    exec (.entropySourceRecovery t src) s = execEntropySourceRecovery t src s := (rfl)

theorem exec_maskReseed {t} (s : State) :
    exec (.maskReseed t) s = execMaskReseed t s := (rfl)

theorem exec_mirrorLinkUp {t} (s : State) :
    exec (.mirrorLinkUp t) s = execMirrorLinkUp t s := (rfl)

theorem exec_mirrorLinkDown {t} (s : State) :
    exec (.mirrorLinkDown t) s = execMirrorLinkDown t s := (rfl)

theorem exec_heartbeat {t} {h} {clock} {degraded} (s : State) :
    exec (.heartbeat t h clock degraded) s = execHeartbeat t h clock degraded s := (rfl)

theorem exec_cycleRecord {t} {h} {r} (s : State) :
    exec (.cycleRecord t h r) s = execCycleRecord t h r s := (rfl)

theorem exec_confirm {t} {h} {n} (s : State) :
    exec (.confirm t h n) s = execConfirm t h n s := (rfl)

theorem exec_fillRequest {t} {h} {r} (s : State) :
    exec (.fillRequest t h r) s = execFillRequest t h r s := (rfl)

theorem exec_evict {t} {h} {reason} (s : State) :
    exec (.evict t h reason) s = execEvict t h reason s := (rfl)

theorem exec_streamFill {t} {h} {conn} {pos} {bytes} (s : State) :
    exec (.streamFill t h conn pos bytes) s = execStreamFill t h conn pos bytes s := (rfl)

theorem exec_sectorData {t} {h} {sectors} (s : State) :
    exec (.sectorData t h sectors) s = execSectorData t h sectors s := (rfl)

theorem exec_snapshot {t} {h} {entries} {percent} {last} (s : State) :
    exec (.snapshot t h entries percent last) s = execSnapshot t h entries percent last s := (rfl)

theorem exec_pairing {t} {h} {p} (s : State) :
    exec (.pairing t h p) s = execPairing t h p s := (rfl)

theorem exec_epquin {t} {h} {m} (s : State) :
    exec (.epquin t h m) s = execEpquin t h m s := (rfl)

theorem exec_mirrorRetransmitTimeout {t} (s : State) :
    exec (.mirrorRetransmitTimeout t) s = execMirrorRetransmitTimeout t s := (rfl)

theorem exec_mirrorAckIdle {t} (s : State) :
    exec (.mirrorAckIdle t) s = execMirrorAckIdle t s := (rfl)

theorem exec_cycleBoundary {t} (s : State) :
    exec (.cycleBoundary t) s = execCycleBoundary t s := (rfl)

theorem exec_fencingTimeout {t} (s : State) :
    exec (.fencingTimeout t) s = execFencingTimeout t s := (rfl)

theorem exec_heartbeatLoss {t} (s : State) :
    exec (.heartbeatLoss t) s = execHeartbeatLoss t s := (rfl)

theorem exec_faultPairAsserted {t} (s : State) :
    exec (.faultPairAsserted t) s = execFaultPairAsserted t s := (rfl)

theorem exec_faultLineWiring {t} {line} (s : State) :
    exec (.faultLineWiring t line) s = execFaultLineWiring t line s := (rfl)

theorem exec_healthSignalMissing {t} (s : State) :
    exec (.healthSignalMissing t) s = execHealthSignalMissing t s := (rfl)

theorem exec_reserveAnswerDeadline {t} (s : State) :
    exec (.reserveAnswerDeadline t) s = execReserveAnswerDeadline t s := (rfl)

theorem exec_rejoinStart {t} (s : State) :
    exec (.rejoinStart t) s = execRejoinStart t s := (rfl)

theorem exec_rejoinRetry {t} (s : State) :
    exec (.rejoinRetry t) s = execRejoinRetry t s := (rfl)

theorem exec_rejoinRequest {t} {w} (s : State) :
    exec (.rejoinRequest t w) s = execRejoinRequest t w s := (rfl)

theorem exec_swapReminder {t} (s : State) :
    exec (.swapReminder t) s = execSwapReminder t s := (rfl)

theorem exec_roleSwap {t} {w} (s : State) :
    exec (.roleSwap t w) s = execRoleSwap t w s := (rfl)

theorem exec_quiesceDrained {t} (s : State) :
    exec (.quiesceDrained t) s = execQuiesceDrained t s := (rfl)

theorem exec_quiesceLimitExpiry {t} (s : State) :
    exec (.quiesceLimitExpiry t) s = execQuiesceLimitExpiry t s := (rfl)

theorem exec_fwActivate {t} {w} (s : State) :
    exec (.fwActivate t w) s = execFwActivate t w s := (rfl)

theorem exec_pairWaitExpiry {t} (s : State) :
    exec (.pairWaitExpiry t) s = execPairWaitExpiry t s := (rfl)

theorem exec_forceSolo {t} {w} (s : State) :
    exec (.forceSolo t w) s = execForceSolo t w s := (rfl)

theorem exec_laneMargining {t} {b} {lane} {millivolt} {milliUi} (s : State) :
    exec (.laneMargining t b lane millivolt milliUi) s =
      execLaneMargining t b lane millivolt milliUi s := (rfl)

theorem exec_carrierLinkNarrowed {t} {b} {lane} (s : State) :
    exec (.carrierLinkNarrowed t b lane) s = execCarrierLinkNarrowed t b lane s := (rfl)

theorem exec_carrierReady {t} {b} (s : State) :
    exec (.carrierReady t b) s = execCarrierReady t b s := (rfl)

theorem exec_carrierAdmitTimeout {t} {b} (s : State) :
    exec (.carrierAdmitTimeout t b) s = execCarrierAdmitTimeout t b s := (rfl)

theorem exec_carrierIdentifyDone {t} {b} {status} {inputs} {temp} {width} (s : State) :
    exec (.carrierIdentifyDone t b status inputs temp width) s =
      execCarrierIdentifyDone t b status inputs temp width s := (rfl)

theorem exec_setLinkTagDone {t} {b} {status} (s : State) :
    exec (.setLinkTagDone t b status) s = execSetLinkTagDone t b status s := (rfl)

theorem exec_reserveDone {t} {b} {status} {prior} (s : State) :
    exec (.reserveDone t b status prior) s = execReserveDone t b status prior s := (rfl)

theorem exec_reserveReadDone {t} {b} {status} {value} (s : State) :
    exec (.reserveReadDone t b status value) s = execReserveReadDone t b status value s := (rfl)

theorem exec_temperatureDone {t} {b} {status} {die} {bridge} (s : State) :
    exec (.temperatureDone t b status die bridge) s = execTemperatureDone t b status die bridge s := (rfl)

theorem exec_badEuListDone {t} {b} {status} {eus} (s : State) :
    exec (.badEuListDone t b status eus) s = execBadEuListDone t b status eus s := (rfl)

theorem exec_retryLevelsDone {t} {b} {status} {slc} {levels} (s : State) :
    exec (.retryLevelsDone t b status slc levels) s = execRetryLevelsDone t b status slc levels s := (rfl)

theorem exec_eventWaitDone {t} {b} {status} {code} (s : State) :
    exec (.eventWaitDone t b status code) s = execEventWaitDone t b status code s := (rfl)

theorem exec_carrierReadDone {t} {b} {cid} {status} {corrected} {sectors} (s : State) :
    exec (.carrierReadDone t b cid status corrected sectors) s =
      execCarrierReadDone t b cid status corrected sectors s := (rfl)

theorem exec_carrierProgramDone {t} {b} {cid} {status} (s : State) :
    exec (.carrierProgramDone t b cid status) s = execCarrierProgramDone t b cid status s := (rfl)

theorem exec_carrierEraseDone {t} {b} {cid} {status} (s : State) :
    exec (.carrierEraseDone t b cid status) s = execCarrierEraseDone t b cid status s := (rfl)

theorem exec_setCellModeDone {t} {b} {cid} {status} (s : State) :
    exec (.setCellModeDone t b cid status) s = execSetCellModeDone t b cid status s := (rfl)

theorem exec_markBadDone {t} {b} {cid} {status} (s : State) :
    exec (.markBadDone t b cid status) s = execMarkBadDone t b cid status s := (rfl)

theorem exec_progressLimitExpiry {t} {b} (s : State) :
    exec (.progressLimitExpiry t b) s = execProgressLimitExpiry t b s := (rfl)

theorem exec_mediaAgeLimitExpiry {t} {b} {cid} (s : State) :
    exec (.mediaAgeLimitExpiry t b cid) s = execMediaAgeLimitExpiry t b cid s := (rfl)

theorem exec_adminCompletionLimitExpiry {t} {b} (s : State) :
    exec (.adminCompletionLimitExpiry t b) s = execAdminCompletionLimitExpiry t b s := (rfl)

theorem exec_tempPollExpiry {t} {b} (s : State) :
    exec (.tempPollExpiry t b) s = execTempPollExpiry t b s := (rfl)

theorem exec_feedGood {t} {f} {millivolt} (s : State) :
    exec (.feedGood t f millivolt) s = execFeedGood t f millivolt s := (rfl)

theorem exec_feedLow {t} {f} {millivolt} (s : State) :
    exec (.feedLow t f millivolt) s = execFeedLow t f millivolt s := (rfl)

theorem exec_feedLost {t} {f} {millivolt} (s : State) :
    exec (.feedLost t f millivolt) s = execFeedLost t f millivolt s := (rfl)

theorem exec_feedOvervoltage {t} {f} {millivolt} (s : State) :
    exec (.feedOvervoltage t f millivolt) s = execFeedOvervoltage t f millivolt s := (rfl)

theorem exec_feedOvervoltageClear {t} {f} {millivolt} (s : State) :
    exec (.feedOvervoltageClear t f millivolt) s = execFeedOvervoltageClear t f millivolt s := (rfl)

theorem exec_feedReverse {t} {f} {millivolt} (s : State) :
    exec (.feedReverse t f millivolt) s = execFeedReverse t f millivolt s := (rfl)

theorem exec_feedReverseClear {t} {f} {millivolt} (s : State) :
    exec (.feedReverseClear t f millivolt) s = execFeedReverseClear t f millivolt s := (rfl)

theorem exec_holdupSequenceEnd {t} (s : State) :
    exec (.holdupSequenceEnd t) s = execHoldupSequenceEnd t s := (rfl)

theorem exec_holdupRestart {t} (s : State) :
    exec (.holdupRestart t) s = execHoldupRestart t s := (rfl)

theorem exec_bayPresent {t} {b} (s : State) :
    exec (.bayPresent t b) s = execBayPresent t b s := (rfl)

theorem exec_baySeated {t} {b} {id} (s : State) :
    exec (.baySeated t b id) s = execBaySeated t b id s := (rfl)

theorem exec_baySeatingLost {t} {b} {pins} (s : State) :
    exec (.baySeatingLost t b pins) s = execBaySeatingLost t b pins s := (rfl)

theorem exec_bayRemoved {t} {b} (s : State) :
    exec (.bayRemoved t b) s = execBayRemoved t b s := (rfl)

theorem exec_bayRampDone {t} {b} {millivolt} (s : State) :
    exec (.bayRampDone t b millivolt) s = execBayRampDone t b millivolt s := (rfl)

theorem exec_bayStartDeadline {t} {b} (s : State) :
    exec (.bayStartDeadline t b) s = execBayStartDeadline t b s := (rfl)

theorem exec_bayOvercurrent {t} {b} {milliamp} (s : State) :
    exec (.bayOvercurrent t b milliamp) s = execBayOvercurrent t b milliamp s := (rfl)

theorem exec_bayFastTrip {t} {b} {milliamp} (s : State) :
    exec (.bayFastTrip t b milliamp) s = execBayFastTrip t b milliamp s := (rfl)

theorem exec_bayPassTempSample {t} {b} {temp} (s : State) :
    exec (.bayPassTempSample t b temp) s = execBayPassTempSample t b temp s := (rfl)

theorem exec_bayOverBudget {t} {b} {milliamp} (s : State) :
    exec (.bayOverBudget t b milliamp) s = execBayOverBudget t b milliamp s := (rfl)

theorem exec_bayCooldownEnd {t} {b} (s : State) :
    exec (.bayCooldownEnd t b) s = execBayCooldownEnd t b s := (rfl)

theorem exec_bayDebounceEnd {t} {b} (s : State) :
    exec (.bayDebounceEnd t b) s = execBayDebounceEnd t b s := (rfl)

theorem exec_bayLock {t} {w} (s : State) :
    exec (.bayLock t w) s = execBayLock t w s := (rfl)

theorem exec_bayClear {t} {w} (s : State) :
    exec (.bayClear t w) s = execBayClear t w s := (rfl)

theorem exec_auxTrip {t} {b} (s : State) :
    exec (.auxTrip t b) s = execAuxTrip t b s := (rfl)

theorem exec_auxCooldownEnd {t} {b} (s : State) :
    exec (.auxCooldownEnd t b) s = execAuxCooldownEnd t b s := (rfl)

theorem exec_holdupTest {t} {w} (s : State) :
    exec (.holdupTest t w) s = execHoldupTest t w s := (rfl)

theorem exec_holdupMeasurement {t} {microfarad} (s : State) :
    exec (.holdupMeasurement t microfarad) s = execHoldupMeasurement t microfarad s := (rfl)

theorem exec_attachLinkUp {t} {speed} {width} (s : State) :
    exec (.attachLinkUp t speed width) s = execAttachLinkUp t speed width s := (rfl)

theorem exec_attachLinkDown {t} (s : State) :
    exec (.attachLinkDown t) s = execAttachLinkDown t s := (rfl)

theorem exec_attPerstAssert {t} (s : State) :
    exec (.attPerstAssert t) s = execAttPerstAssert t s := (rfl)

theorem exec_hotReset {t} (s : State) :
    exec (.hotReset t) s = execHotReset t s := (rfl)

theorem exec_functionLevelReset {t} (s : State) :
    exec (.functionLevelReset t) s = execFunctionLevelReset t s := (rfl)

theorem exec_ccEnable {t} {asqSize} {acqSize} (s : State) :
    exec (.ccEnable t asqSize acqSize) s = execCcEnable t asqSize acqSize s := (rfl)

theorem exec_ccDisable {t} (s : State) :
    exec (.ccDisable t) s = execCcDisable t s := (rfl)

theorem exec_sqTailDoorbell {t} {qid} {tail} (s : State) :
    exec (.sqTailDoorbell t qid tail) s = execSqTailDoorbell t qid tail s := (rfl)

theorem exec_cqHeadDoorbell {t} {qid} {head} (s : State) :
    exec (.cqHeadDoorbell t qid head) s = execCqHeadDoorbell t qid head s := (rfl)

theorem exec_winCommit {t} {mask} {shadow} (s : State) :
    exec (.winCommit t mask shadow) s = execWinCommit t mask shadow s := (rfl)

theorem exec_peerWrite {t} {win} {off} {bytes} (s : State) :
    exec (.peerWrite t win off bytes) s = execPeerWrite t win off bytes s := (rfl)

theorem exec_peerRead {t} {win} {off} {len} (s : State) :
    exec (.peerRead t win off len) s = execPeerRead t win off len s := (rfl)

theorem exec_mboxDoorbell {t} {len} {req} (s : State) :
    exec (.mboxDoorbell t len req) s = execMboxDoorbell t len req s := (rfl)

theorem exec_bmeClear {t} (s : State) :
    exec (.bmeClear t) s = execBmeClear t s := (rfl)

theorem exec_bmeSet {t} (s : State) :
    exec (.bmeSet t) s = execBmeSet t s := (rfl)

theorem exec_hostReadCompletion {t} {tag} {sectors} (s : State) :
    exec (.hostReadCompletion t tag sectors) s = execHostReadCompletion t tag sectors s := (rfl)

theorem exec_attachCompletionTimeout {t} {tag} (s : State) :
    exec (.attachCompletionTimeout t tag) s = execAttachCompletionTimeout t tag s := (rfl)

theorem exec_resetNAssert {t} (s : State) :
    exec (.resetNAssert t) s = execResetNAssert t s := (rfl)

theorem exec_resetRelease {t} {testN} {s1} {s2} {found} (s : State) :
    exec (.resetRelease t testN s1 s2 found) s = execResetRelease t testN s1 s2 found s := (rfl)

theorem exec_bootComplete {t} {ownImage} {partnerImage} {journalOk} (s : State) :
    exec (.bootComplete t ownImage partnerImage journalOk) s =
      execBootComplete t ownImage partnerImage journalOk s := (rfl)

theorem exec_bootWatchdog {t} (s : State) :
    exec (.bootWatchdog t) s = execBootWatchdog t s := (rfl)

theorem exec_serviceEnable {t} {w} (s : State) :
    exec (.serviceEnable t w) s = execServiceEnable t w s := (rfl)

theorem exec_restart {t} {w} (s : State) :
    exec (.restart t w) s = execRestart t w s := (rfl)

theorem exec_junctionOvertemp {t} {d} (s : State) :
    exec (.junctionOvertemp t d) s = execJunctionOvertemp t d s := (rfl)

theorem exec_supplyOutOfRange {t} {d} (s : State) :
    exec (.supplyOutOfRange t d) s = execSupplyOutOfRange t d s := (rfl)

theorem exec_mgmtWatchdog {t} (s : State) :
    exec (.mgmtWatchdog t) s = execMgmtWatchdog t s := (rfl)

theorem exec_powerPolicy {t} {w} (s : State) :
    exec (.powerPolicy t w) s = execPowerPolicy t w s := (rfl)

theorem exec_loadMeasurement {t} {delivered} {received} {commands} (s : State) :
    exec (.loadMeasurement t delivered received commands) s =
      execLoadMeasurement t delivered received commands s := (rfl)

theorem exec_idleGateExpiry {t} {kind} {inst} (s : State) :
    exec (.idleGateExpiry t kind inst) s = execIdleGateExpiry t kind inst s := (rfl)

theorem exec_elementWake {t} {kind} {inst} (s : State) :
    exec (.elementWake t kind inst) s = execElementWake t kind inst s := (rfl)

theorem exec_managementWake {t} (s : State) :
    exec (.managementWake t) s = execManagementWake t s := (rfl)

theorem exec_engineItemStall {t} {e} (s : State) :
    exec (.engineItemStall t e) s = execEngineItemStall t e s := (rfl)

theorem exec_engineSramError {t} {e} (s : State) :
    exec (.engineSramError t e) s = execEngineSramError t e s := (rfl)

theorem exec_engineCodeCheck {t} {e} {ok} {okAfterReload} (s : State) :
    exec (.engineCodeCheck t e ok okAfterReload) s = execEngineCodeCheck t e ok okAfterReload s := (rfl)

theorem exec_engineTestComplete {t} {e} {pass} (s : State) :
    exec (.engineTestComplete t e pass) s = execEngineTestComplete t e pass s := (rfl)

theorem exec_selfTestEngine {t} {w} (s : State) :
    exec (.selfTestEngine t w) s = execSelfTestEngine t w s := (rfl)

theorem exec_selfTestLane {t} {w} (s : State) :
    exec (.selfTestLane t w) s = execSelfTestLane t w s := (rfl)

theorem exec_selfTestBay {t} {w} (s : State) :
    exec (.selfTestBay t w) s = execSelfTestBay t w s := (rfl)

theorem exec_selfTestDone {t} {pass} (s : State) :
    exec (.selfTestDone t pass) s = execSelfTestDone t pass s := (rfl)

theorem exec_spareTestIntervalExpiry {t} (s : State) :
    exec (.spareTestIntervalExpiry t) s = execSpareTestIntervalExpiry t s := (rfl)

theorem exec_supplyMonitor {t} {d} {slackMillivolt} (s : State) :
    exec (.supplyMonitor t d slackMillivolt) s = execSupplyMonitor t d slackMillivolt s := (rfl)

theorem exec_slackCritical {t} {d} (s : State) :
    exec (.slackCritical t d) s = execSlackCritical t d s := (rfl)

theorem exec_lifeAccounting {t} {core} {port} (s : State) :
    exec (.lifeAccounting t core port) s = execLifeAccounting t core port s := (rfl)

theorem exec_junctionHigh {t} {d} (s : State) :
    exec (.junctionHigh t d) s = execJunctionHigh t d s := (rfl)

theorem exec_repairClear {t} {w} (s : State) :
    exec (.repairClear t w) s = execRepairClear t w s := (rfl)

theorem exec_deal {t} {sess} {counts} (s : State) :
    exec (.deal t sess counts) s = execDeal t sess counts s := (rfl)

theorem exec_dtlsHandshake {t} {path} {anchor} {cookieOk} {suiteOk} (s : State) :
    exec (.dtlsHandshake t path anchor cookieOk suiteOk) s =
      execDtlsHandshake t path anchor cookieOk suiteOk s := (rfl)

theorem exec_sessionIdleTimeout {t} {sess} (s : State) :
    exec (.sessionIdleTimeout t sess) s = execSessionIdleTimeout t sess s := (rfl)

theorem exec_get {t} {sess} {trans} {partner} {index} {sub} (s : State) :
    exec (.get t sess trans partner index sub) s = execGet t sess trans partner index sub s := (rfl)

theorem exec_set {t} {sess} {trans} {partner} {ifGen} {it} (s : State) :
    exec (.set t sess trans partner ifGen it) s = execSet t sess trans partner ifGen it s := (rfl)

theorem exec_getMulti {t} {sess} {trans} {partner} {items} (s : State) :
    exec (.getMulti t sess trans partner items) s = execGetMulti t sess trans partner items s := (rfl)

theorem exec_setGroup {t} {sess} {trans} {partner} {ifGen} {items} (s : State) :
    exec (.setGroup t sess trans partner ifGen items) s =
      execSetGroup t sess trans partner ifGen items s := (rfl)

theorem exec_subscribe {t} {sess} {trans} {filters} {period} {samples} (s : State) :
    exec (.subscribe t sess trans filters period samples) s =
      execSubscribe t sess trans filters period samples s := (rfl)

theorem exec_samplePeriod {t} {sess} (s : State) :
    exec (.samplePeriod t sess) s = execSamplePeriod t sess s := (rfl)

theorem exec_notify {t} {sess} (s : State) :
    exec (.notify t sess) s = execNotify t sess s := (rfl)

theorem exec_configWrite {t} {sess} {it} (s : State) :
    exec (.configWrite t sess it) s = execConfigWrite t sess it s := (rfl)

theorem exec_configReset {t} {w} (s : State) :
    exec (.configReset t w) s = execConfigReset t w s := (rfl)

theorem exec_anchorCert {t} {w} {parses} (s : State) :
    exec (.anchorCert t w parses) s = execAnchorCert t w parses s := (rfl)

theorem exec_attestNonce {t} {w} (s : State) :
    exec (.attestNonce t w) s = execAttestNonce t w s := (rfl)

theorem exec_attestReport {t} {sess} (s : State) :
    exec (.attestReport t sess) s = execAttestReport t sess s := (rfl)

theorem exec_loadSlot {t} {w} (s : State) :
    exec (.loadSlot t w) s = execLoadSlot t w s := (rfl)

theorem exec_loadData {t} {w} (s : State) :
    exec (.loadData t w) s = execLoadData t w s := (rfl)

theorem exec_loadCommit {t} {w} {img} (s : State) :
    exec (.loadCommit t w img) s = execLoadCommit t w img s := (rfl)

theorem exec_eventLogFlush {t} (s : State) :
    exec (.eventLogFlush t) s = execEventLogFlush t s := (rfl)

theorem exec_statCheckpoint {t} (s : State) :
    exec (.statCheckpoint t) s = execStatCheckpoint t s := (rfl)

theorem exec_ctrSnapshot {t} {w} (s : State) :
    exec (.ctrSnapshot t w) s = execCtrSnapshot t w s := (rfl)

theorem exec_ctrValue {t} {w} (s : State) :
    exec (.ctrValue t w) s = execCtrValue t w s := (rfl)

theorem exec_ctrControl {t} {w} (s : State) :
    exec (.ctrControl t w) s = execCtrControl t w s := (rfl)

theorem exec_portEnable {t} {w} (s : State) :
    exec (.portEnable t w) s = execPortEnable t w s := (rfl)

theorem exec_attachEnable {t} {w} (s : State) :
    exec (.attachEnable t w) s = execAttachEnable t w s := (rfl)

theorem exec_pfcPauseExpiry {t} {p} (s : State) :
    exec (.pfcPauseExpiry t p) s = execPfcPauseExpiry t p s := (rfl)

theorem exec_caddyBlockFailure {t} {block} (s : State) :
    exec (.caddyBlockFailure t block) s = execCaddyBlockFailure t block s := (rfl)

theorem exec_alwaysOnDomainStop {t} (s : State) :
    exec (.alwaysOnDomainStop t) s = execAlwaysOnDomainStop t s := (rfl)

theorem exec_alwaysOnDomainStart {t} (s : State) :
    exec (.alwaysOnDomainStart t) s = execAlwaysOnDomainStart t s := (rfl)

/-- Every command is `act` of some effect. -/
theorem exec_act (c : Instr) (s : State) : ∃ t f, exec c s = act t f s := by
  cases c with
  | portUp => rw [exec_portUp]; unfold execPortUp; exact ⟨_, _, rfl⟩
  | portDown => rw [exec_portDown]; unfold execPortDown; exact ⟨_, _, rfl⟩
  | recal => rw [exec_recal]; unfold execRecal; exact ⟨_, _, rfl⟩
  | recalComplete => rw [exec_recalComplete]; unfold execRecalComplete; exact ⟨_, _, rfl⟩
  | cageInsertion => rw [exec_cageInsertion]; unfold execCageInsertion; exact ⟨_, _, rfl⟩
  | groupConfig => rw [exec_groupConfig]; unfold execGroupConfig; exact ⟨_, _, rfl⟩
  | groupMac => rw [exec_groupMac]; unfold execGroupMac; exact ⟨_, _, rfl⟩
  | frameReceive => rw [exec_frameReceive]; unfold execFrameReceive; exact ⟨_, _, rfl⟩
  | arpRequest => rw [exec_arpRequest]; unfold execArpRequest; exact ⟨_, _, rfl⟩
  | neighborSolicitation => rw [exec_neighborSolicitation]; unfold execNeighborSolicitation; exact ⟨_, _, rfl⟩
  | neighbourReply => rw [exec_neighbourReply]; unfold execNeighbourReply; exact ⟨_, _, rfl⟩
  | icmpEchoRequest => rw [exec_icmpEchoRequest]; unfold execIcmpEchoRequest; exact ⟨_, _, rfl⟩
  | packetTooBig => rw [exec_packetTooBig]; unfold execPacketTooBig; exact ⟨_, _, rfl⟩
  | soloEntry => rw [exec_soloEntry]; unfold execSoloEntry; exact ⟨_, _, rfl⟩
  | duplicateAddressDetectionEnd => rw [exec_duplicateAddressDetectionEnd]; unfold execDuplicateAddressDetectionEnd; exact ⟨_, _, rfl⟩
  | probeIntervalExpiry => rw [exec_probeIntervalExpiry]; unfold execProbeIntervalExpiry; exact ⟨_, _, rfl⟩
  | probeReport => rw [exec_probeReport]; unfold execProbeReport; exact ⟨_, _, rfl⟩
  | dualDeliveryRestored => rw [exec_dualDeliveryRestored]; unfold execDualDeliveryRestored; exact ⟨_, _, rfl⟩
  | tcpSyn => rw [exec_tcpSyn]; unfold execTcpSyn; exact ⟨_, _, rfl⟩
  | tcpSegment => rw [exec_tcpSegment]; unfold execTcpSegment; exact ⟨_, _, rfl⟩
  | tcpAck => rw [exec_tcpAck]; unfold execTcpAck; exact ⟨_, _, rfl⟩
  | tcpRetransmissionTimeout => rw [exec_tcpRetransmissionTimeout]; unfold execTcpRetransmissionTimeout; exact ⟨_, _, rfl⟩
  | tcpSendTimeout => rw [exec_tcpSendTimeout]; unfold execTcpSendTimeout; exact ⟨_, _, rfl⟩
  | hostConnectionClose => rw [exec_hostConnectionClose]; unfold execHostConnectionClose; exact ⟨_, _, rfl⟩
  | tlsClientHello => rw [exec_tlsClientHello]; unfold execTlsClientHello; exact ⟨_, _, rfl⟩
  | tlsRecord => rw [exec_tlsRecord]; unfold execTlsRecord; exact ⟨_, _, rfl⟩
  | keyupdateReceive => rw [exec_keyupdateReceive]; unfold execKeyupdateReceive; exact ⟨_, _, rfl⟩
  | keyupdateSend => rw [exec_keyupdateSend]; unfold execKeyupdateSend; exact ⟨_, _, rfl⟩
  | closeNotify => rw [exec_closeNotify]; unfold execCloseNotify; exact ⟨_, _, rfl⟩
  | roceCmRequest => rw [exec_roceCmRequest]; unfold execRoceCmRequest; exact ⟨_, _, rfl⟩
  | roceSend => rw [exec_roceSend]; unfold execRoceSend; exact ⟨_, _, rfl⟩
  | roceInboundRdma => rw [exec_roceInboundRdma]; unfold execRoceInboundRdma; exact ⟨_, _, rfl⟩
  | roceAck => rw [exec_roceAck]; unfold execRoceAck; exact ⟨_, _, rfl⟩
  | roceAckTimeout => rw [exec_roceAckTimeout]; unfold execRoceAckTimeout; exact ⟨_, _, rfl⟩
  | roceReadResponse => rw [exec_roceReadResponse]; unfold execRoceReadResponse; exact ⟨_, _, rfl⟩
  | ceMarkedPacket => rw [exec_ceMarkedPacket]; unfold execCeMarkedPacket; exact ⟨_, _, rfl⟩
  | congestionNotification => rw [exec_congestionNotification]; unfold execCongestionNotification; exact ⟨_, _, rfl⟩
  | rateRecovery => rw [exec_rateRecovery]; unfold execRateRecovery; exact ⟨_, _, rfl⟩
  | pfcPause => rw [exec_pfcPause]; unfold execPfcPause; exact ⟨_, _, rfl⟩
  | portPausedLong => rw [exec_portPausedLong]; unfold execPortPausedLong; exact ⟨_, _, rfl⟩
  | egressSelect => rw [exec_egressSelect]; unfold execEgressSelect; exact ⟨_, _, rfl⟩
  | receiveGapTimeout => rw [exec_receiveGapTimeout]; unfold execReceiveGapTimeout; exact ⟨_, _, rfl⟩
  | connect => rw [exec_connect]; unfold execConnect; exact ⟨_, _, rfl⟩
  | propertyGet => rw [exec_propertyGet]; unfold execPropertyGet; exact ⟨_, _, rfl⟩
  | propertySet => rw [exec_propertySet]; unfold execPropertySet; exact ⟨_, _, rfl⟩
  | disconnect => rw [exec_disconnect]; unfold execDisconnect; exact ⟨_, _, rfl⟩
  | getLogPage => rw [exec_getLogPage]; unfold execGetLogPage; exact ⟨_, _, rfl⟩
  | identify => rw [exec_identify]; unfold execIdentify; exact ⟨_, _, rfl⟩
  | abort => rw [exec_abort]; unfold execAbort; exact ⟨_, _, rfl⟩
  | setFeatures => rw [exec_setFeatures]; unfold execSetFeatures; exact ⟨_, _, rfl⟩
  | getFeatures => rw [exec_getFeatures]; unfold execGetFeatures; exact ⟨_, _, rfl⟩
  | asynchronousEventRequest => rw [exec_asynchronousEventRequest]; unfold execAsynchronousEventRequest; exact ⟨_, _, rfl⟩
  | keepAlive => rw [exec_keepAlive]; unfold execKeepAlive; exact ⟨_, _, rfl⟩
  | invalidOpcode => rw [exec_invalidOpcode]; unfold execInvalidOpcode; exact ⟨_, _, rfl⟩
  | createIoSq => rw [exec_createIoSq]; unfold execCreateIoSq; exact ⟨_, _, rfl⟩
  | createIoCq => rw [exec_createIoCq]; unfold execCreateIoCq; exact ⟨_, _, rfl⟩
  | deleteIoSq => rw [exec_deleteIoSq]; unfold execDeleteIoSq; exact ⟨_, _, rfl⟩
  | deleteIoCq => rw [exec_deleteIoCq]; unfold execDeleteIoCq; exact ⟨_, _, rfl⟩
  | flush => rw [exec_flush]; unfold execFlush; exact ⟨_, _, rfl⟩
  | read => rw [exec_read]; unfold execRead; exact ⟨_, _, rfl⟩
  | write => rw [exec_write]; unfold execWrite; exact ⟨_, _, rfl⟩
  | writeZeroes => rw [exec_writeZeroes]; unfold execWriteZeroes; exact ⟨_, _, rfl⟩
  | datasetManagement => rw [exec_datasetManagement]; unfold execDatasetManagement; exact ⟨_, _, rfl⟩
  | h2cData => rw [exec_h2cData]; unfold execH2cData; exact ⟨_, _, rfl⟩
  | admissionRetest => rw [exec_admissionRetest]; unfold execAdmissionRetest; exact ⟨_, _, rfl⟩
  | commandStart => rw [exec_commandStart]; unfold execCommandStart; exact ⟨_, _, rfl⟩
  | keepAliveExpired => rw [exec_keepAliveExpired]; unfold execKeepAliveExpired; exact ⟨_, _, rfl⟩
  | granuleRequest => rw [exec_granuleRequest]; unfold execGranuleRequest; exact ⟨_, _, rfl⟩
  | releaseNotice => rw [exec_releaseNotice]; unfold execReleaseNotice; exact ⟨_, _, rfl⟩
  | rerequestTick => rw [exec_rerequestTick]; unfold execRerequestTick; exact ⟨_, _, rfl⟩
  | refcountDecrement => rw [exec_refcountDecrement]; unfold execRefcountDecrement; exact ⟨_, _, rfl⟩
  | coalesceWindowExpiry => rw [exec_coalesceWindowExpiry]; unfold execCoalesceWindowExpiry; exact ⟨_, _, rfl⟩
  | cipherUnitComplete => rw [exec_cipherUnitComplete]; unfold execCipherUnitComplete; exact ⟨_, _, rfl⟩
  | evictionHand => rw [exec_evictionHand]; unfold execEvictionHand; exact ⟨_, _, rfl⟩
  | potSize => rw [exec_potSize]; unfold execPotSize; exact ⟨_, _, rfl⟩
  | cellOffer => rw [exec_cellOffer]; unfold execCellOffer; exact ⟨_, _, rfl⟩
  | cellSlot => rw [exec_cellSlot]; unfold execCellSlot; exact ⟨_, _, rfl⟩
  | creditReturn => rw [exec_creditReturn]; unfold execCreditReturn; exact ⟨_, _, rfl⟩
  | memoryReadRequest => rw [exec_memoryReadRequest]; unfold execMemoryReadRequest; exact ⟨_, _, rfl⟩
  | writeAcknowledgement => rw [exec_writeAcknowledgement]; unfold execWriteAcknowledgement; exact ⟨_, _, rfl⟩
  | voqStalled => rw [exec_voqStalled]; unfold execVoqStalled; exact ⟨_, _, rfl⟩
  | format => rw [exec_format]; unfold execFormat; exact ⟨_, _, rfl⟩
  | formatComplete => rw [exec_formatComplete]; unfold execFormatComplete; exact ⟨_, _, rfl⟩
  | nsEnable => rw [exec_nsEnable]; unfold execNsEnable; exact ⟨_, _, rfl⟩
  | nsDisable => rw [exec_nsDisable]; unfold execNsDisable; exact ⟨_, _, rfl⟩
  | nsWriteProtect => rw [exec_nsWriteProtect]; unfold execNsWriteProtect; exact ⟨_, _, rfl⟩
  | placementQueueReserve => rw [exec_placementQueueReserve]; unfold execPlacementQueueReserve; exact ⟨_, _, rfl⟩
  | stripeGather => rw [exec_stripeGather]; unfold execStripeGather; exact ⟨_, _, rfl⟩
  | fillWaitExpiry => rw [exec_fillWaitExpiry]; unfold execFillWaitExpiry; exact ⟨_, _, rfl⟩
  | logGatherWaitExpiry => rw [exec_logGatherWaitExpiry]; unfold execLogGatherWaitExpiry; exact ⟨_, _, rfl⟩
  | caddySlotRelease => rw [exec_caddySlotRelease]; unfold execCaddySlotRelease; exact ⟨_, _, rfl⟩
  | mergeQuietExpiry => rw [exec_mergeQuietExpiry]; unfold execMergeQuietExpiry; exact ⟨_, _, rfl⟩
  | mergeStart => rw [exec_mergeStart]; unfold execMergeStart; exact ⟨_, _, rfl⟩
  | mergeCommit => rw [exec_mergeCommit]; unfold execMergeCommit; exact ⟨_, _, rfl⟩
  | bandRelease => rw [exec_bandRelease]; unfold execBandRelease; exact ⟨_, _, rfl⟩
  | checkpoint => rw [exec_checkpoint]; unfold execCheckpoint; exact ⟨_, _, rfl⟩
  | journalCarrierWrite => rw [exec_journalCarrierWrite]; unfold execJournalCarrierWrite; exact ⟨_, _, rfl⟩
  | reclaimVictim => rw [exec_reclaimVictim]; unfold execReclaimVictim; exact ⟨_, _, rfl⟩
  | compactionCommit => rw [exec_compactionCommit]; unfold execCompactionCommit; exact ⟨_, _, rfl⟩
  | staticWearLevel => rw [exec_staticWearLevel]; unfold execStaticWearLevel; exact ⟨_, _, rfl⟩
  | memberMoveSwitch => rw [exec_memberMoveSwitch]; unfold execMemberMoveSwitch; exact ⟨_, _, rfl⟩
  | scrubIntervalExpiry => rw [exec_scrubIntervalExpiry]; unfold execScrubIntervalExpiry; exact ⟨_, _, rfl⟩
  | exhaustionCleared => rw [exec_exhaustionCleared]; unfold execExhaustionCleared; exact ⟨_, _, rfl⟩
  | mediaQueueSelect => rw [exec_mediaQueueSelect]; unfold execMediaQueueSelect; exact ⟨_, _, rfl⟩
  | carrierLinkUp => rw [exec_carrierLinkUp]; unfold execCarrierLinkUp; exact ⟨_, _, rfl⟩
  | carrierLinkDown => rw [exec_carrierLinkDown]; unfold execCarrierLinkDown; exact ⟨_, _, rfl⟩
  | carrierRecoveryTimeout => rw [exec_carrierRecoveryTimeout]; unfold execCarrierRecoveryTimeout; exact ⟨_, _, rfl⟩
  | narrowFloorCleared => rw [exec_narrowFloorCleared]; unfold execNarrowFloorCleared; exact ⟨_, _, rfl⟩
  | carrierLostTimeout => rw [exec_carrierLostTimeout]; unfold execCarrierLostTimeout; exact ⟨_, _, rfl⟩
  | carrierReadmit => rw [exec_carrierReadmit]; unfold execCarrierReadmit; exact ⟨_, _, rfl⟩
  | rebuildStart => rw [exec_rebuildStart]; unfold execRebuildStart; exact ⟨_, _, rfl⟩
  | rebuildSwitch => rw [exec_rebuildSwitch]; unfold execRebuildSwitch; exact ⟨_, _, rfl⟩
  | lostClear => rw [exec_lostClear]; unfold execLostClear; exact ⟨_, _, rfl⟩
  | cipherRetryComplete => rw [exec_cipherRetryComplete]; unfold execCipherRetryComplete; exact ⟨_, _, rfl⟩
  | laneTestComplete => rw [exec_laneTestComplete]; unfold execLaneTestComplete; exact ⟨_, _, rfl⟩
  | clusterRebind => rw [exec_clusterRebind]; unfold execClusterRebind; exact ⟨_, _, rfl⟩
  | nsCryptoErase => rw [exec_nsCryptoErase]; unfold execNsCryptoErase; exact ⟨_, _, rfl⟩
  | cryptoEraseSwitch => rw [exec_cryptoEraseSwitch]; unfold execCryptoEraseSwitch; exact ⟨_, _, rfl⟩
  | oldKeyZeroise => rw [exec_oldKeyZeroise]; unfold execOldKeyZeroise; exact ⟨_, _, rfl⟩
  | escrowKek => rw [exec_escrowKek]; unfold execEscrowKek; exact ⟨_, _, rfl⟩
  | arrayKeyExport => rw [exec_arrayKeyExport]; unfold execArrayKeyExport; exact ⟨_, _, rfl⟩
  | arrayKeyImport => rw [exec_arrayKeyImport]; unfold execArrayKeyImport; exact ⟨_, _, rfl⟩
  | pskValue => rw [exec_pskValue]; unfold execPskValue; exact ⟨_, _, rfl⟩
  | contextMiss => rw [exec_contextMiss]; unfold execContextMiss; exact ⟨_, _, rfl⟩
  | entropyTestFailure => rw [exec_entropyTestFailure]; unfold execEntropyTestFailure; exact ⟨_, _, rfl⟩
  | entropySourceRecovery => rw [exec_entropySourceRecovery]; unfold execEntropySourceRecovery; exact ⟨_, _, rfl⟩
  | maskReseed => rw [exec_maskReseed]; unfold execMaskReseed; exact ⟨_, _, rfl⟩
  | mirrorLinkUp => rw [exec_mirrorLinkUp]; unfold execMirrorLinkUp; exact ⟨_, _, rfl⟩
  | mirrorLinkDown => rw [exec_mirrorLinkDown]; unfold execMirrorLinkDown; exact ⟨_, _, rfl⟩
  | heartbeat => rw [exec_heartbeat]; unfold execHeartbeat; exact ⟨_, _, rfl⟩
  | cycleRecord => rw [exec_cycleRecord]; unfold execCycleRecord; exact ⟨_, _, rfl⟩
  | confirm => rw [exec_confirm]; unfold execConfirm; exact ⟨_, _, rfl⟩
  | fillRequest => rw [exec_fillRequest]; unfold execFillRequest; exact ⟨_, _, rfl⟩
  | evict => rw [exec_evict]; unfold execEvict; exact ⟨_, _, rfl⟩
  | streamFill => rw [exec_streamFill]; unfold execStreamFill; exact ⟨_, _, rfl⟩
  | sectorData => rw [exec_sectorData]; unfold execSectorData; exact ⟨_, _, rfl⟩
  | snapshot => rw [exec_snapshot]; unfold execSnapshot; exact ⟨_, _, rfl⟩
  | pairing => rw [exec_pairing]; unfold execPairing; exact ⟨_, _, rfl⟩
  | epquin => rw [exec_epquin]; unfold execEpquin; exact ⟨_, _, rfl⟩
  | mirrorRetransmitTimeout => rw [exec_mirrorRetransmitTimeout]; unfold execMirrorRetransmitTimeout; exact ⟨_, _, rfl⟩
  | mirrorAckIdle => rw [exec_mirrorAckIdle]; unfold execMirrorAckIdle; exact ⟨_, _, rfl⟩
  | cycleBoundary => rw [exec_cycleBoundary]; unfold execCycleBoundary; exact ⟨_, _, rfl⟩
  | fencingTimeout => rw [exec_fencingTimeout]; unfold execFencingTimeout; exact ⟨_, _, rfl⟩
  | heartbeatLoss => rw [exec_heartbeatLoss]; unfold execHeartbeatLoss; exact ⟨_, _, rfl⟩
  | faultPairAsserted => rw [exec_faultPairAsserted]; unfold execFaultPairAsserted; exact ⟨_, _, rfl⟩
  | faultLineWiring => rw [exec_faultLineWiring]; unfold execFaultLineWiring; exact ⟨_, _, rfl⟩
  | healthSignalMissing => rw [exec_healthSignalMissing]; unfold execHealthSignalMissing; exact ⟨_, _, rfl⟩
  | reserveAnswerDeadline => rw [exec_reserveAnswerDeadline]; unfold execReserveAnswerDeadline; exact ⟨_, _, rfl⟩
  | rejoinStart => rw [exec_rejoinStart]; unfold execRejoinStart; exact ⟨_, _, rfl⟩
  | rejoinRetry => rw [exec_rejoinRetry]; unfold execRejoinRetry; exact ⟨_, _, rfl⟩
  | rejoinRequest => rw [exec_rejoinRequest]; unfold execRejoinRequest; exact ⟨_, _, rfl⟩
  | swapReminder => rw [exec_swapReminder]; unfold execSwapReminder; exact ⟨_, _, rfl⟩
  | roleSwap => rw [exec_roleSwap]; unfold execRoleSwap; exact ⟨_, _, rfl⟩
  | quiesceDrained => rw [exec_quiesceDrained]; unfold execQuiesceDrained; exact ⟨_, _, rfl⟩
  | quiesceLimitExpiry => rw [exec_quiesceLimitExpiry]; unfold execQuiesceLimitExpiry; exact ⟨_, _, rfl⟩
  | fwActivate => rw [exec_fwActivate]; unfold execFwActivate; exact ⟨_, _, rfl⟩
  | pairWaitExpiry => rw [exec_pairWaitExpiry]; unfold execPairWaitExpiry; exact ⟨_, _, rfl⟩
  | forceSolo => rw [exec_forceSolo]; unfold execForceSolo; exact ⟨_, _, rfl⟩
  | laneMargining => rw [exec_laneMargining]; unfold execLaneMargining; exact ⟨_, _, rfl⟩
  | carrierLinkNarrowed => rw [exec_carrierLinkNarrowed]; unfold execCarrierLinkNarrowed; exact ⟨_, _, rfl⟩
  | carrierReady => rw [exec_carrierReady]; unfold execCarrierReady; exact ⟨_, _, rfl⟩
  | carrierAdmitTimeout => rw [exec_carrierAdmitTimeout]; unfold execCarrierAdmitTimeout; exact ⟨_, _, rfl⟩
  | carrierIdentifyDone => rw [exec_carrierIdentifyDone]; unfold execCarrierIdentifyDone; exact ⟨_, _, rfl⟩
  | setLinkTagDone => rw [exec_setLinkTagDone]; unfold execSetLinkTagDone; exact ⟨_, _, rfl⟩
  | reserveDone => rw [exec_reserveDone]; unfold execReserveDone; exact ⟨_, _, rfl⟩
  | reserveReadDone => rw [exec_reserveReadDone]; unfold execReserveReadDone; exact ⟨_, _, rfl⟩
  | temperatureDone => rw [exec_temperatureDone]; unfold execTemperatureDone; exact ⟨_, _, rfl⟩
  | badEuListDone => rw [exec_badEuListDone]; unfold execBadEuListDone; exact ⟨_, _, rfl⟩
  | retryLevelsDone => rw [exec_retryLevelsDone]; unfold execRetryLevelsDone; exact ⟨_, _, rfl⟩
  | eventWaitDone => rw [exec_eventWaitDone]; unfold execEventWaitDone; exact ⟨_, _, rfl⟩
  | carrierReadDone => rw [exec_carrierReadDone]; unfold execCarrierReadDone; exact ⟨_, _, rfl⟩
  | carrierProgramDone => rw [exec_carrierProgramDone]; unfold execCarrierProgramDone; exact ⟨_, _, rfl⟩
  | carrierEraseDone => rw [exec_carrierEraseDone]; unfold execCarrierEraseDone; exact ⟨_, _, rfl⟩
  | setCellModeDone => rw [exec_setCellModeDone]; unfold execSetCellModeDone; exact ⟨_, _, rfl⟩
  | markBadDone => rw [exec_markBadDone]; unfold execMarkBadDone; exact ⟨_, _, rfl⟩
  | progressLimitExpiry => rw [exec_progressLimitExpiry]; unfold execProgressLimitExpiry; exact ⟨_, _, rfl⟩
  | mediaAgeLimitExpiry => rw [exec_mediaAgeLimitExpiry]; unfold execMediaAgeLimitExpiry; exact ⟨_, _, rfl⟩
  | adminCompletionLimitExpiry => rw [exec_adminCompletionLimitExpiry]; unfold execAdminCompletionLimitExpiry; exact ⟨_, _, rfl⟩
  | tempPollExpiry => rw [exec_tempPollExpiry]; unfold execTempPollExpiry; exact ⟨_, _, rfl⟩
  | feedGood => rw [exec_feedGood]; unfold execFeedGood; exact ⟨_, _, rfl⟩
  | feedLow => rw [exec_feedLow]; unfold execFeedLow; exact ⟨_, _, rfl⟩
  | feedLost => rw [exec_feedLost]; unfold execFeedLost; exact ⟨_, _, rfl⟩
  | feedOvervoltage => rw [exec_feedOvervoltage]; unfold execFeedOvervoltage; exact ⟨_, _, rfl⟩
  | feedOvervoltageClear => rw [exec_feedOvervoltageClear]; unfold execFeedOvervoltageClear; exact ⟨_, _, rfl⟩
  | feedReverse => rw [exec_feedReverse]; unfold execFeedReverse; exact ⟨_, _, rfl⟩
  | feedReverseClear => rw [exec_feedReverseClear]; unfold execFeedReverseClear; exact ⟨_, _, rfl⟩
  | holdupSequenceEnd => rw [exec_holdupSequenceEnd]; unfold execHoldupSequenceEnd; exact ⟨_, _, rfl⟩
  | holdupRestart => rw [exec_holdupRestart]; unfold execHoldupRestart; exact ⟨_, _, rfl⟩
  | bayPresent => rw [exec_bayPresent]; unfold execBayPresent; exact ⟨_, _, rfl⟩
  | baySeated => rw [exec_baySeated]; unfold execBaySeated; exact ⟨_, _, rfl⟩
  | baySeatingLost => rw [exec_baySeatingLost]; unfold execBaySeatingLost; exact ⟨_, _, rfl⟩
  | bayRemoved => rw [exec_bayRemoved]; unfold execBayRemoved; exact ⟨_, _, rfl⟩
  | bayRampDone => rw [exec_bayRampDone]; unfold execBayRampDone; exact ⟨_, _, rfl⟩
  | bayStartDeadline => rw [exec_bayStartDeadline]; unfold execBayStartDeadline; exact ⟨_, _, rfl⟩
  | bayOvercurrent => rw [exec_bayOvercurrent]; unfold execBayOvercurrent; exact ⟨_, _, rfl⟩
  | bayFastTrip => rw [exec_bayFastTrip]; unfold execBayFastTrip; exact ⟨_, _, rfl⟩
  | bayPassTempSample => rw [exec_bayPassTempSample]; unfold execBayPassTempSample; exact ⟨_, _, rfl⟩
  | bayOverBudget => rw [exec_bayOverBudget]; unfold execBayOverBudget; exact ⟨_, _, rfl⟩
  | bayCooldownEnd => rw [exec_bayCooldownEnd]; unfold execBayCooldownEnd; exact ⟨_, _, rfl⟩
  | bayDebounceEnd => rw [exec_bayDebounceEnd]; unfold execBayDebounceEnd; exact ⟨_, _, rfl⟩
  | bayLock => rw [exec_bayLock]; unfold execBayLock; exact ⟨_, _, rfl⟩
  | bayClear => rw [exec_bayClear]; unfold execBayClear; exact ⟨_, _, rfl⟩
  | auxTrip => rw [exec_auxTrip]; unfold execAuxTrip; exact ⟨_, _, rfl⟩
  | auxCooldownEnd => rw [exec_auxCooldownEnd]; unfold execAuxCooldownEnd; exact ⟨_, _, rfl⟩
  | holdupTest => rw [exec_holdupTest]; unfold execHoldupTest; exact ⟨_, _, rfl⟩
  | holdupMeasurement => rw [exec_holdupMeasurement]; unfold execHoldupMeasurement; exact ⟨_, _, rfl⟩
  | attachLinkUp => rw [exec_attachLinkUp]; unfold execAttachLinkUp; exact ⟨_, _, rfl⟩
  | attachLinkDown => rw [exec_attachLinkDown]; unfold execAttachLinkDown; exact ⟨_, _, rfl⟩
  | attPerstAssert => rw [exec_attPerstAssert]; unfold execAttPerstAssert; exact ⟨_, _, rfl⟩
  | hotReset => rw [exec_hotReset]; unfold execHotReset; exact ⟨_, _, rfl⟩
  | functionLevelReset => rw [exec_functionLevelReset]; unfold execFunctionLevelReset; exact ⟨_, _, rfl⟩
  | ccEnable => rw [exec_ccEnable]; unfold execCcEnable; exact ⟨_, _, rfl⟩
  | ccDisable => rw [exec_ccDisable]; unfold execCcDisable; exact ⟨_, _, rfl⟩
  | sqTailDoorbell => rw [exec_sqTailDoorbell]; unfold execSqTailDoorbell; exact ⟨_, _, rfl⟩
  | cqHeadDoorbell => rw [exec_cqHeadDoorbell]; unfold execCqHeadDoorbell; exact ⟨_, _, rfl⟩
  | winCommit => rw [exec_winCommit]; unfold execWinCommit; exact ⟨_, _, rfl⟩
  | peerWrite => rw [exec_peerWrite]; unfold execPeerWrite; exact ⟨_, _, rfl⟩
  | peerRead => rw [exec_peerRead]; unfold execPeerRead; exact ⟨_, _, rfl⟩
  | mboxDoorbell => rw [exec_mboxDoorbell]; unfold execMboxDoorbell; exact ⟨_, _, rfl⟩
  | bmeClear => rw [exec_bmeClear]; unfold execBmeClear; exact ⟨_, _, rfl⟩
  | bmeSet => rw [exec_bmeSet]; unfold execBmeSet; exact ⟨_, _, rfl⟩
  | hostReadCompletion => rw [exec_hostReadCompletion]; unfold execHostReadCompletion; exact ⟨_, _, rfl⟩
  | attachCompletionTimeout => rw [exec_attachCompletionTimeout]; unfold execAttachCompletionTimeout; exact ⟨_, _, rfl⟩
  | resetNAssert => rw [exec_resetNAssert]; unfold execResetNAssert; exact ⟨_, _, rfl⟩
  | resetRelease => rw [exec_resetRelease]; unfold execResetRelease; exact ⟨_, _, rfl⟩
  | bootComplete => rw [exec_bootComplete]; unfold execBootComplete; exact ⟨_, _, rfl⟩
  | bootWatchdog => rw [exec_bootWatchdog]; unfold execBootWatchdog; exact ⟨_, _, rfl⟩
  | serviceEnable => rw [exec_serviceEnable]; unfold execServiceEnable; exact ⟨_, _, rfl⟩
  | restart => rw [exec_restart]; unfold execRestart; exact ⟨_, _, rfl⟩
  | junctionOvertemp => rw [exec_junctionOvertemp]; unfold execJunctionOvertemp; exact ⟨_, _, rfl⟩
  | supplyOutOfRange => rw [exec_supplyOutOfRange]; unfold execSupplyOutOfRange; exact ⟨_, _, rfl⟩
  | mgmtWatchdog => rw [exec_mgmtWatchdog]; unfold execMgmtWatchdog; exact ⟨_, _, rfl⟩
  | powerPolicy => rw [exec_powerPolicy]; unfold execPowerPolicy; exact ⟨_, _, rfl⟩
  | loadMeasurement => rw [exec_loadMeasurement]; unfold execLoadMeasurement; exact ⟨_, _, rfl⟩
  | idleGateExpiry => rw [exec_idleGateExpiry]; unfold execIdleGateExpiry; exact ⟨_, _, rfl⟩
  | elementWake => rw [exec_elementWake]; unfold execElementWake; exact ⟨_, _, rfl⟩
  | managementWake => rw [exec_managementWake]; unfold execManagementWake; exact ⟨_, _, rfl⟩
  | engineItemStall => rw [exec_engineItemStall]; unfold execEngineItemStall; exact ⟨_, _, rfl⟩
  | engineSramError => rw [exec_engineSramError]; unfold execEngineSramError; exact ⟨_, _, rfl⟩
  | engineCodeCheck => rw [exec_engineCodeCheck]; unfold execEngineCodeCheck; exact ⟨_, _, rfl⟩
  | engineTestComplete => rw [exec_engineTestComplete]; unfold execEngineTestComplete; exact ⟨_, _, rfl⟩
  | selfTestEngine => rw [exec_selfTestEngine]; unfold execSelfTestEngine; exact ⟨_, _, rfl⟩
  | selfTestLane => rw [exec_selfTestLane]; unfold execSelfTestLane; exact ⟨_, _, rfl⟩
  | selfTestBay => rw [exec_selfTestBay]; unfold execSelfTestBay; exact ⟨_, _, rfl⟩
  | selfTestDone => rw [exec_selfTestDone]; unfold execSelfTestDone; exact ⟨_, _, rfl⟩
  | spareTestIntervalExpiry => rw [exec_spareTestIntervalExpiry]; unfold execSpareTestIntervalExpiry; exact ⟨_, _, rfl⟩
  | supplyMonitor => rw [exec_supplyMonitor]; unfold execSupplyMonitor; exact ⟨_, _, rfl⟩
  | slackCritical => rw [exec_slackCritical]; unfold execSlackCritical; exact ⟨_, _, rfl⟩
  | lifeAccounting => rw [exec_lifeAccounting]; unfold execLifeAccounting; exact ⟨_, _, rfl⟩
  | junctionHigh => rw [exec_junctionHigh]; unfold execJunctionHigh; exact ⟨_, _, rfl⟩
  | repairClear => rw [exec_repairClear]; unfold execRepairClear; exact ⟨_, _, rfl⟩
  | deal => rw [exec_deal]; unfold execDeal; exact ⟨_, _, rfl⟩
  | dtlsHandshake => rw [exec_dtlsHandshake]; unfold execDtlsHandshake; exact ⟨_, _, rfl⟩
  | sessionIdleTimeout => rw [exec_sessionIdleTimeout]; unfold execSessionIdleTimeout; exact ⟨_, _, rfl⟩
  | get => rw [exec_get]; unfold execGet; exact ⟨_, _, rfl⟩
  | set => rw [exec_set]; unfold execSet; exact ⟨_, _, rfl⟩
  | getMulti => rw [exec_getMulti]; unfold execGetMulti; exact ⟨_, _, rfl⟩
  | setGroup => rw [exec_setGroup]; unfold execSetGroup; exact ⟨_, _, rfl⟩
  | subscribe => rw [exec_subscribe]; unfold execSubscribe; exact ⟨_, _, rfl⟩
  | samplePeriod => rw [exec_samplePeriod]; unfold execSamplePeriod; exact ⟨_, _, rfl⟩
  | notify => rw [exec_notify]; unfold execNotify; exact ⟨_, _, rfl⟩
  | configWrite => rw [exec_configWrite]; unfold execConfigWrite; exact ⟨_, _, rfl⟩
  | configReset => rw [exec_configReset]; unfold execConfigReset; exact ⟨_, _, rfl⟩
  | anchorCert => rw [exec_anchorCert]; unfold execAnchorCert; exact ⟨_, _, rfl⟩
  | attestNonce => rw [exec_attestNonce]; unfold execAttestNonce; exact ⟨_, _, rfl⟩
  | attestReport => rw [exec_attestReport]; unfold execAttestReport; exact ⟨_, _, rfl⟩
  | loadSlot => rw [exec_loadSlot]; unfold execLoadSlot; exact ⟨_, _, rfl⟩
  | loadData => rw [exec_loadData]; unfold execLoadData; exact ⟨_, _, rfl⟩
  | loadCommit => rw [exec_loadCommit]; unfold execLoadCommit; exact ⟨_, _, rfl⟩
  | eventLogFlush => rw [exec_eventLogFlush]; unfold execEventLogFlush; exact ⟨_, _, rfl⟩
  | statCheckpoint => rw [exec_statCheckpoint]; unfold execStatCheckpoint; exact ⟨_, _, rfl⟩
  | ctrSnapshot => rw [exec_ctrSnapshot]; unfold execCtrSnapshot; exact ⟨_, _, rfl⟩
  | ctrValue => rw [exec_ctrValue]; unfold execCtrValue; exact ⟨_, _, rfl⟩
  | ctrControl => rw [exec_ctrControl]; unfold execCtrControl; exact ⟨_, _, rfl⟩
  | portEnable => rw [exec_portEnable]; unfold execPortEnable; exact ⟨_, _, rfl⟩
  | attachEnable => rw [exec_attachEnable]; unfold execAttachEnable; exact ⟨_, _, rfl⟩
  | pfcPauseExpiry => rw [exec_pfcPauseExpiry]; unfold execPfcPauseExpiry; exact ⟨_, _, rfl⟩
  | caddyBlockFailure => rw [exec_caddyBlockFailure]; unfold execCaddyBlockFailure; exact ⟨_, _, rfl⟩
  | alwaysOnDomainStop => rw [exec_alwaysOnDomainStop]; unfold execAlwaysOnDomainStop; exact ⟨_, _, rfl⟩
  | alwaysOnDomainStart => rw [exec_alwaysOnDomainStart]; unfold execAlwaysOnDomainStart; exact ⟨_, _, rfl⟩

end Sys2Proof.Machine
end

