-- ==== Sys2Proof/Laws/Act.lean ====
section
/-! SUPPORT. What a command does around its effect, and what settling leaves: once, for every command. -/

namespace Sys2Proof.Machine

theorem completes_act (t : Time) (f : State → State) (s : State) (P : State → Prop) :
    Completes (act t f s) P ↔
      P (finish t s (f (advance t s))) := by
  simp [Completes, act]

theorem act_next {t : Time} {f : State → State} {s u : State} (h : act t f s = .next u) :
    u = finish t s (f (advance t s)) := by
  simpa [act] using h.symm

@[simp] theorem advance_now' (t : Time) (s : State) : (advance t s).now = max s.now t := (rfl)

theorem emptyPot_used (s : State) : poolUsed (emptyPot s) poolPour = 0 := by
  simp [emptyPot, poolUsed, poolPour, atNat, updNat, updAt]

theorem settle_faultOut (s : State) :
    (settle s).pair.faultOut = if s.mode.mode.faulted || s.mode.healthLost then 0 else 3 := by
  unfold settle; dsimp only; split <;> rfl

@[simp] theorem settle_mode (s : State) : (settle s).mode = s.mode := by
  unfold settle; dsimp only; split <;> rfl

theorem settle_settled (s : State) : Settled (settle s) := by
  refine ⟨?_, ?_⟩
  · unfold FaultLinesFollowMode; rw [settle_faultOut]; simp
  · intro h
    have hm : s.mode.mode.potEmpty = true := by simpa using h
    unfold settle; dsimp only; rw [if_pos hm]
    refine ⟨?_, ?_, ?_, ?_, ?_, ?_, ?_⟩ <;> first | (simp [emptyPot]; done) | exact emptyPot_used s

section
variable (t : Time) (s x : State)

@[simp] theorem finish_fresh : (finish t s x).fresh = x.fresh := by
  unfold finish settle; dsimp only; split <;> rfl
@[simp] theorem finish_out : (finish t s x).out = x.out := by
  unfold finish settle; dsimp only; split <;> rfl
@[simp] theorem finish_mode : (finish t s x).mode = x.mode := by
  unfold finish settle; dsimp only; split <;> rfl
@[simp] theorem finish_mgmt : (finish t s x).mgmt = x.mgmt := by
  unfold finish settle; dsimp only; split <;> rfl
@[simp] theorem finish_dict : (finish t s x).dict = x.dict := by
  unfold finish settle; dsimp only; split <;> rfl
@[simp] theorem finish_net : (finish t s x).net = x.net := by
  unfold finish settle; dsimp only; split <;> rfl
@[simp] theorem finish_conns : (finish t s x).conns = x.conns := by
  unfold finish settle; dsimp only; split <;> rfl
@[simp] theorem finish_cmd : (finish t s x).cmd = x.cmd := by
  unfold finish settle; dsimp only; split <;> rfl
@[simp] theorem finish_core : (finish t s x).core = x.core := by
  unfold finish settle; dsimp only; split <;> rfl
@[simp] theorem finish_egress : (finish t s x).egress = x.egress := by
  unfold finish settle; dsimp only; split <;> rfl
@[simp] theorem finish_cipher : (finish t s x).cipher = x.cipher := by
  unfold finish settle; dsimp only; split <;> rfl
@[simp] theorem finish_keys : (finish t s x).keys = x.keys := by
  unfold finish settle; dsimp only; split <;> rfl
@[simp] theorem finish_xlat : (finish t s x).xlat = x.xlat := by
  unfold finish settle; dsimp only; split <;> rfl
@[simp] theorem finish_media : (finish t s x).media = x.media := by
  unfold finish settle; dsimp only; split <;> rfl
@[simp] theorem finish_power : (finish t s x).power = x.power := by
  unfold finish settle; dsimp only; split <;> rfl
@[simp] theorem finish_bays : (finish t s x).bays = x.bays := by
  unfold finish settle; dsimp only; split <;> rfl
@[simp] theorem finish_attach : (finish t s x).attach = x.attach := by
  unfold finish settle; dsimp only; split <;> rfl
@[simp] theorem finish_repair : (finish t s x).repair = x.repair := by
  unfold finish settle; dsimp only; split <;> rfl
@[simp] theorem finish_pending : (finish t s x).pending = s.pending := (rfl)
@[simp] theorem finish_ident : (finish t s x).ident = s.ident := (rfl)
@[simp] theorem finish_now : (finish t s x).now = max s.now t := (rfl)
@[simp] theorem finish_pot :
    (finish t s x).pot = if x.mode.mode.potEmpty then (emptyPot x).pot else x.pot := by
  unfold finish settle; dsimp only; split <;> rfl
@[simp] theorem finish_pools :
    (finish t s x).pools = if x.mode.mode.potEmpty then (emptyPot x).pools else x.pools := by
  unfold finish settle; dsimp only; split <;> rfl
@[simp] theorem finish_pair : (finish t s x).pair =
    { x.pair with faultOut := if x.mode.mode.faulted || x.mode.healthLost then 0 else 3 } := by
  unfold finish settle; dsimp only; split <;> rfl
end

end Sys2Proof.Machine
end

