-- ==== Sys2Proof/Laws/Table.lean ====
section
/-! SUPPORT. The laws of the sparse tables and of the vectors: reading after writing, and the canonical
form, which every operation keeps. -/

namespace Sys2Proof.Machine

section
variable {α : Type}

@[simp] theorem Tbl.get?_nil (k : Nat) : Tbl.get? ([] : Tbl α) k = none := (rfl)

@[simp] theorem Tbl.get?_put_self (m : Tbl α) (k : Nat) (v : α) : Tbl.get? (Tbl.put m k v) k = some v := by
  induction m with
  | nil => simp [Tbl.put, Tbl.get?]
  | cons p m ih =>
    obtain ⟨k', v'⟩ := p
    unfold Tbl.put
    split
    · simp [Tbl.get?]
    · split
      · simp [Tbl.get?]
      · simp [Tbl.get?, *]

@[simp] theorem Tbl.get?_put_ne (m : Tbl α) {k j : Nat} (v : α) (h : j ≠ k) :
    Tbl.get? (Tbl.put m k v) j = Tbl.get? m j := by
  induction m with
  | nil => simp [Tbl.put, Tbl.get?, h]
  | cons p m ih =>
    obtain ⟨k', v'⟩ := p
    unfold Tbl.put
    split
    · simp [Tbl.get?, h]
    · split
      · rename_i h2; subst h2; simp [Tbl.get?, h]
      · simp only [Tbl.get?]; split
        · rfl
        · exact ih

@[simp] theorem Tbl.get?_del_self (m : Tbl α) (k : Nat) : Tbl.get? (Tbl.del m k) k = none := by
  induction m with
  | nil => rfl
  | cons p m ih =>
    obtain ⟨k', v'⟩ := p
    unfold Tbl.del at ih ⊢
    by_cases h : k' = k
    · simp [h] at ih ⊢; exact ih
    · simp [h, Tbl.get?, Ne.symm h] at ih ⊢; exact ih

@[simp] theorem Tbl.get?_del_ne (m : Tbl α) {k j : Nat} (h : j ≠ k) :
    Tbl.get? (Tbl.del m k) j = Tbl.get? m j := by
  induction m with
  | nil => rfl
  | cons p m ih =>
    obtain ⟨k', v'⟩ := p
    unfold Tbl.del at ih ⊢
    by_cases hk : k' = k
    · subst hk; simp [Tbl.get?, h] at ih ⊢; exact ih
    · simp only [List.filter_cons, ne_eq, hk, not_false_eq_true, decide_true, if_true, Tbl.get?]
      split
      · rfl
      · simpa using ih

@[simp] theorem Tbl.get?_upd (m : Tbl α) (k j : Nat) (f : α → α) :
    Tbl.get? (Tbl.upd m k f) j = if j = k then (Tbl.get? m j).map f else Tbl.get? m j := by
  induction m with
  | nil => simp [Tbl.upd, Tbl.get?]
  | cons p m ih =>
    obtain ⟨k', v'⟩ := p
    simp only [Tbl.upd, List.map_cons] at ih ⊢
    by_cases hj : j = k'
    · subst hj
      by_cases hk : j = k <;> simp [Tbl.get?, hk]
    · by_cases hk : k' = k
      · simp only [hk, if_true, Tbl.get?]
        have : j ≠ k := fun e => hj (e.trans hk.symm)
        simp only [if_neg this] at ih ⊢; exact ih
      · simp only [if_neg hk, Tbl.get?, if_neg hj]; exact ih

theorem Tbl.wf_nil : Tbl.wf ([] : Tbl α) = true := by simp [Tbl.wf]

theorem Tbl.mem_put {m : Tbl α} {k : Nat} {v : α} {p : Nat × α} (h : p ∈ Tbl.put m k v) :
    p.1 = k ∨ p ∈ m := by
  induction m with
  | nil => simp [Tbl.put] at h; simp [h]
  | cons q m ih =>
    obtain ⟨k', v'⟩ := q
    unfold Tbl.put at h
    split at h
    · rcases List.mem_cons.1 h with h | h
      · exact .inl (by rw [h])
      · exact .inr h
    · split at h
      · rcases List.mem_cons.1 h with h | h
        · exact .inl (by rw [h])
        · exact .inr (List.mem_cons_of_mem _ h)
      · rcases List.mem_cons.1 h with h | h
        · exact .inr (by rw [h]; exact List.mem_cons_self)
        · rcases ih h with h | h
          · exact .inl h
          · exact .inr (List.mem_cons_of_mem _ h)

/-- Putting an entry keeps the canonical form. -/
theorem Tbl.wf_put {m : Tbl α} (k : Nat) (v : α) (h : Tbl.wf m = true) : Tbl.wf (Tbl.put m k v) = true := by
  simp only [Tbl.wf, decide_eq_true_eq] at h ⊢
  induction m with
  | nil => simp [Tbl.put]
  | cons q m ih =>
    obtain ⟨k', v'⟩ := q
    have hm := List.pairwise_cons.1 h
    unfold Tbl.put
    split
    · rename_i hk
      refine List.pairwise_cons.2 ⟨?_, h⟩
      intro p hp
      rcases List.mem_cons.1 hp with hp | hp
      · rw [hp]; exact hk
      · exact Nat.lt_trans hk (hm.1 p hp)
    · split
      · rename_i hk; subst hk; exact List.pairwise_cons.2 ⟨fun p hp => hm.1 p hp, hm.2⟩
      · rename_i h1 h2
        refine List.pairwise_cons.2 ⟨?_, ih hm.2⟩
        intro p hp
        rcases Tbl.mem_put hp with hp | hp
        · rw [hp]; omega
        · exact hm.1 p hp

/-- Removing an entry keeps the canonical form. -/
theorem Tbl.wf_del {m : Tbl α} (k : Nat) (h : Tbl.wf m = true) : Tbl.wf (Tbl.del m k) = true := by
  simp only [Tbl.wf, decide_eq_true_eq] at h ⊢
  exact List.Pairwise.filter _ h

/-- Changing an entry keeps the canonical form. -/
theorem Tbl.wf_upd {m : Tbl α} (k : Nat) (f : α → α) (h : Tbl.wf m = true) : Tbl.wf (Tbl.upd m k f) = true := by
  simp only [Tbl.wf, decide_eq_true_eq] at h ⊢
  unfold Tbl.upd
  rw [List.pairwise_map]
  refine h.imp ?_
  intro a b hab
  by_cases ha : a.1 = k <;> by_cases hb : b.1 = k <;> simp [ha, hb] at hab ⊢ <;> omega

@[simp] theorem atNat_updNat_self {n : Nat} (v : Vector α n) (i : Nat) (f : α → α) :
    atNat (updNat v i f) i = (atNat v i).map f := by
  by_cases h : i < n <;> simp [atNat, updNat, updAt, h]

@[simp] theorem atNat_updNat_ne {n : Nat} (v : Vector α n) {i j : Nat} (f : α → α) (h : j ≠ i) :
    atNat (updNat v i f) j = atNat v j := by
  by_cases hi : i < n <;> by_cases hj : j < n <;> simp [atNat, updNat, updAt, hi, hj, Ne.symm h]

theorem atNat_of_lt {n : Nat} (v : Vector α n) {i : Nat} (h : i < n) : atNat v i = some v[i] := by
  simp [atNat, h]

end

end Sys2Proof.Machine
end

