-- ==== Sys2Proof/Laws/Views.lean ====
section
/-! SUPPORT. The coming of a command's time changes nothing that is read of the state but the clock. -/

namespace Sys2Proof.Machine

@[simp] theorem absentEntries_advance (t : Time) (s : State) :
    absentEntries (advance t s) = absentEntries s := (rfl)

@[simp] theorem acceptsDst_advance (x0 : Nat) (x1 : BitVec 48) (t : Time) (s : State) :
    acceptsDst x0 x1 (advance t s) = acceptsDst x0 x1 s := (rfl)

@[simp] theorem accessDenied_advance (x0 : Session) (x1 : Nat) (t : Time) (s : State) :
    accessDenied x0 x1 (advance t s) = accessDenied x0 x1 s := (rfl)

@[simp] theorem accounted_advance (x0 : Conn) (x1 : TxFrame) (t : Time) (s : State) :
    accounted x0 x1 (advance t s) = accounted x0 x1 s := (rfl)

@[simp] theorem adminAllowed_advance (t : Time) (s : State) :
    adminAllowed (advance t s) = adminAllowed s := (rfl)

@[simp] theorem admits_advance (x0 : Buf) (t : Time) (s : State) :
    admits x0 (advance t s) = admits x0 s := (rfl)

@[simp] theorem allConfirmed_advance (t : Time) (s : State) :
    allConfirmed (advance t s) = allConfirmed s := (rfl)

@[simp] theorem anaPage_advance (t : Time) (s : State) :
    anaPage (advance t s) = anaPage s := (rfl)

@[simp] theorem anchorCheck_advance (x0 : WCtx) (t : Time) (s : State) :
    anchorCheck x0 (advance t s) = anchorCheck x0 s := (rfl)

@[simp] theorem arrayCount_advance (x0 : Session) (x1 : Obj) (t : Time) (s : State) :
    arrayCount x0 x1 (advance t s) = arrayCount x0 x1 s := (rfl)

@[simp] theorem attachEnableCheck_advance (x0 : WCtx) (t : Time) (s : State) :
    attachEnableCheck x0 (advance t s) = attachEnableCheck x0 s := (rfl)

@[simp] theorem attachHost_advance (t : Time) (s : State) :
    attachHost (advance t s) = attachHost s := (rfl)

@[simp] theorem attachOptimized_advance (t : Time) (s : State) :
    attachOptimized (advance t s) = attachOptimized s := (rfl)

@[simp] theorem attachRuns_advance (t : Time) (s : State) :
    attachRuns (advance t s) = attachRuns s := (rfl)

@[simp] theorem bandAt_advance (x1 : Nat) (t : Time) (s : State) :
    bandAt (advance t s) x1 = bandAt s x1 := (rfl)

@[simp] theorem bandAtBoot_advance (x1 : Nat × Band) (t : Time) (s : State) :
    bandAtBoot (advance t s) x1 = bandAtBoot s x1 := (rfl)

@[simp] theorem bandNext_advance (x0 : Nat) (x1 : Band) (t : Time) (s : State) :
    bandNext x0 x1 (advance t s) = bandNext x0 x1 s := (rfl)

@[simp] theorem bandStripes_advance (x0 : Band) (t : Time) (s : State) :
    bandStripes x0 (advance t s) = bandStripes x0 s := (rfl)

@[simp] theorem bandTableUnits_advance (t : Time) (s : State) :
    bandTableUnits (advance t s) = bandTableUnits s := (rfl)

@[simp] theorem bandUnconfirmed_advance (x0 : Nat) (t : Time) (s : State) :
    bandUnconfirmed x0 (advance t s) = bandUnconfirmed x0 s := (rfl)

@[simp] theorem bandsOf_advance (x0 : BandKind) (t : Time) (s : State) :
    bandsOf x0 (advance t s) = bandsOf x0 s := (rfl)

@[simp] theorem bayClearCheck_advance (x0 : WCtx) (t : Time) (s : State) :
    bayClearCheck x0 (advance t s) = bayClearCheck x0 s := (rfl)

@[simp] theorem bayLocked_advance (x0 : Nat) (t : Time) (s : State) :
    bayLocked x0 (advance t s) = bayLocked x0 s := (rfl)

@[simp] theorem bayOf_advance (x1 : Nat) (t : Time) (s : State) :
    bayOf (advance t s) x1 = bayOf s x1 := (rfl)

@[simp] theorem baysRun_advance (t : Time) (s : State) :
    baysRun (advance t s) = baysRun s := (rfl)

@[simp] theorem beats_advance (t : Time) (s : State) :
    beats (advance t s) = beats s := (rfl)

@[simp] theorem beforeHeld_advance (x1 : List Planned) (t : Time) (s : State) :
    beforeHeld (advance t s) x1 = beforeHeld s x1 := (rfl)

@[simp] theorem behindDurable_advance (x0 : Planned) (t : Time) (s : State) :
    behindDurable x0 (advance t s) = behindDurable x0 s := (rfl)

@[simp] theorem beingErased_advance (x0 : Nat) (t : Time) (s : State) :
    beingErased x0 (advance t s) = beingErased x0 s := (rfl)

@[simp] theorem blankPage_advance (x0 : MediaCmd) (t : Time) (s : State) :
    blankPage x0 (advance t s) = blankPage x0 s := (rfl)

@[simp] theorem byFormat_advance (x0 : Nat) (x1 : Nat) (t : Time) (s : State) :
    byFormat x0 x1 (advance t s) = byFormat x0 x1 s := (rfl)

@[simp] theorem caddyAbove_advance (x0 : Nat) (t : Time) (s : State) :
    caddyAbove x0 (advance t s) = caddyAbove x0 s := (rfl)

@[simp] theorem caddyFree_advance (t : Time) (s : State) :
    caddyFree (advance t s) = caddyFree s := (rfl)

@[simp] theorem caddyHeader_advance (t : Time) (s : State) :
    caddyHeader (advance t s) = caddyHeader s := (rfl)

@[simp] theorem caddyUsed_advance (t : Time) (s : State) :
    caddyUsed (advance t s) = caddyUsed s := (rfl)

@[simp] theorem capHolds_advance (t : Time) (s : State) :
    capHolds (advance t s) = capHolds s := (rfl)

@[simp] theorem capOf_advance (x1 : Nat) (t : Time) (s : State) :
    capOf (advance t s) x1 = capOf s x1 := (rfl)

@[simp] theorem carOf_advance (x1 : Nat) (t : Time) (s : State) :
    carOf (advance t s) x1 = carOf s x1 := (rfl)

@[simp] theorem carrierEntries_advance (x0 : Nat) (t : Time) (s : State) :
    carrierEntries x0 (advance t s) = carrierEntries x0 s := (rfl)

@[simp] theorem carrierVal_advance (x0 : Nat) (x1 : Nat) (t : Time) (s : State) :
    carrierVal x0 x1 (advance t s) = carrierVal x0 x1 s := (rfl)

@[simp] theorem carriersHeld_advance (t : Time) (s : State) :
    carriersHeld (advance t s) = carriersHeld s := (rfl)

@[simp] theorem cfg_advance (x0 : Nat) (t : Time) (s : State) :
    cfg x0 (advance t s) = cfg x0 s := (rfl)

@[simp] theorem checkGet_advance (x0 : Session) (x1 : Nat) (x2 : Nat) (t : Time) (s : State) :
    checkGet x0 x1 x2 (advance t s) = checkGet x0 x1 x2 s := (rfl)

@[simp] theorem checkSet_advance (x0 : Nat) (x1 : Session) (x2 : Nat) (x3 : Nat) (x4 : Option Ty) (x5 : Val) (t : Time) (s : State) :
    checkSet x0 x1 x2 x3 x4 x5 (advance t s) = checkSet x0 x1 x2 x3 x4 x5 s := (rfl)

@[simp] theorem cipherVal_advance (x0 : Nat) (x1 : Nat) (x2 : Nat) (t : Time) (s : State) :
    cipherVal x0 x1 x2 (advance t s) = cipherVal x0 x1 x2 s := (rfl)

@[simp] theorem claimed_advance (t : Time) (s : State) :
    claimed (advance t s) = claimed s := (rfl)

@[simp] theorem classOf_advance (x0 : Nat) (t : Time) (s : State) :
    classOf x0 (advance t s) = classOf x0 s := (rfl)

@[simp] theorem classReady_advance (x0 : Nat) (x1 : Nat) (t : Time) (s : State) :
    classReady x0 x1 (advance t s) = classReady x0 x1 s := (rfl)

@[simp] theorem clusterFrom_advance (x1 : Nat) (t : Time) (s : State) :
    clusterFrom (advance t s) x1 = clusterFrom s x1 := (rfl)

@[simp] theorem clusterLanes_advance (x1 : Nat) (t : Time) (s : State) :
    clusterLanes (advance t s) x1 = clusterLanes s x1 := (rfl)

@[simp] theorem clusterTakes_advance (x1 : Nat) (t : Time) (s : State) :
    clusterTakes (advance t s) x1 = clusterTakes s x1 := (rfl)

@[simp] theorem cmdBy_advance (x0 : Nat) (x1 : Nat) (x2 : Nat) (t : Time) (s : State) :
    cmdBy x0 x1 x2 (advance t s) = cmdBy x0 x1 x2 s := (rfl)

@[simp] theorem cmdOf_advance (x1 : Nat) (t : Time) (s : State) :
    cmdOf (advance t s) x1 = cmdOf s x1 := (rfl)

@[simp] theorem cmdVal_advance (x0 : Nat) (x1 : Nat) (t : Time) (s : State) :
    cmdVal x0 x1 (advance t s) = cmdVal x0 x1 s := (rfl)

@[simp] theorem committedTo_advance (t : Time) (s : State) :
    committedTo (advance t s) = committedTo s := (rfl)

@[simp] theorem configEntries_advance (t : Time) (s : State) :
    configEntries (advance t s) = configEntries s := (rfl)

@[simp] theorem configResetCheck_advance (x0 : WCtx) (t : Time) (s : State) :
    configResetCheck x0 (advance t s) = configResetCheck x0 s := (rfl)

@[simp] theorem connNew_advance (x0 : ConnInfo) (x1 : Bool) (t : Time) (s : State) :
    connNew x0 x1 (advance t s) = connNew x0 x1 s := (rfl)

@[simp] theorem connOf_advance (x1 : Nat) (t : Time) (s : State) :
    connOf (advance t s) x1 = connOf s x1 := (rfl)

@[simp] theorem connRefused_advance (x0 : Bytes) (t : Time) (s : State) :
    connRefused x0 (advance t s) = connRefused x0 s := (rfl)

@[simp] theorem connectCtrl_advance (x0 : Assoc) (x1 : Bytes) (x2 : Nat) (t : Time) (s : State) :
    connectCtrl x0 x1 x2 (advance t s) = connectCtrl x0 x1 x2 s := (rfl)

@[simp] theorem connectLimits_advance (x0 : Assoc) (x1 : Bytes) (x2 : Nat) (x3 : Nat) (x4 : Nat) (t : Time) (s : State) :
    connectLimits x0 x1 x2 x3 x4 (advance t s) = connectLimits x0 x1 x2 x3 x4 s := (rfl)

@[simp] theorem connectNames_advance (x0 : Nat) (x1 : Bytes) (x2 : Bytes) (t : Time) (s : State) :
    connectNames x0 x1 x2 (advance t s) = connectNames x0 x1 x2 s := (rfl)

@[simp] theorem contextEntries_advance (t : Time) (s : State) :
    contextEntries (advance t s) = contextEntries s := (rfl)

@[simp] theorem contextsFull_advance (t : Time) (s : State) :
    contextsFull (advance t s) = contextsFull s := (rfl)

@[simp] theorem countOf_advance (x0 : Nat) (x1 : Nat) (t : Time) (s : State) :
    countOf x0 x1 (advance t s) = countOf x0 x1 s := (rfl)

@[simp] theorem cqOf_advance (x0 : Nat) (t : Time) (s : State) :
    cqOf x0 (advance t s) = cqOf x0 s := (rfl)

@[simp] theorem cqRoom_advance (x0 : Nat) (t : Time) (s : State) :
    cqRoom x0 (advance t s) = cqRoom x0 s := (rfl)

@[simp] theorem cryptoEraseCheck_advance (x0 : WCtx) (t : Time) (s : State) :
    cryptoEraseCheck x0 (advance t s) = cryptoEraseCheck x0 s := (rfl)

@[simp] theorem ctrAt_advance (x0 : Nat) (x1 : Nat) (t : Time) (s : State) :
    ctrAt x0 x1 (advance t s) = ctrAt x0 x1 s := (rfl)

@[simp] theorem ctrControlCheck_advance (x0 : WCtx) (t : Time) (s : State) :
    ctrControlCheck x0 (advance t s) = ctrControlCheck x0 s := (rfl)

@[simp] theorem ctrOn_advance (x0 : Nat) (x1 : Nat) (t : Time) (s : State) :
    ctrOn x0 x1 (advance t s) = ctrOn x0 x1 s := (rfl)

@[simp] theorem ctrStatus_advance (x0 : Nat) (t : Time) (s : State) :
    ctrStatus x0 (advance t s) = ctrStatus x0 s := (rfl)

@[simp] theorem ctrVal_advance (x0 : Nat) (x1 : Nat) (x2 : Nat) (t : Time) (s : State) :
    ctrVal x0 x1 x2 (advance t s) = ctrVal x0 x1 x2 s := (rfl)

@[simp] theorem ctrlReady_advance (x0 : Nat × FrameHdr × HostMsg) (t : Time) (s : State) :
    ctrlReady x0 (advance t s) = ctrlReady x0 s := (rfl)

@[simp] theorem currentValues_advance (t : Time) (s : State) :
    currentValues (advance t s) = currentValues s := (rfl)

@[simp] theorem dataEnd_advance (x0 : Nat) (x1 : List Planned) (t : Time) (s : State) :
    dataEnd x0 x1 (advance t s) = dataEnd x0 x1 s := (rfl)

@[simp] theorem dataMembers_advance (x0 : Nat) (t : Time) (s : State) :
    dataMembers x0 (advance t s) = dataMembers x0 s := (rfl)

@[simp] theorem dealFits_advance (t : Time) (s : State) :
    dealFits (advance t s) = dealFits s := (rfl)

@[simp] theorem decides_advance (t : Time) (s : State) :
    decides (advance t s) = decides s := (rfl)

@[simp] theorem degradedModule_advance (t : Time) (s : State) :
    degradedModule (advance t s) = degradedModule s := (rfl)

@[simp] theorem depthsFit_advance (x0 : Nat) (x1 : Nat) (t : Time) (s : State) :
    depthsFit x0 x1 (advance t s) = depthsFit x0 x1 s := (rfl)

@[simp] theorem destOf_advance (x0 : Nat) (x1 : Sgl) (t : Time) (s : State) :
    destOf x0 x1 (advance t s) = destOf x0 x1 s := (rfl)

@[simp] theorem destQueue_advance (x0 : Dest) (t : Time) (s : State) :
    destQueue x0 (advance t s) = destQueue x0 s := (rfl)

@[simp] theorem discoveryPage_advance (x0 : Nat) (t : Time) (s : State) :
    discoveryPage x0 (advance t s) = discoveryPage x0 s := (rfl)

@[simp] theorem dnat_advance (x0 : Nat) (x1 : Nat) (x2 : Nat) (t : Time) (s : State) :
    dnat x0 x1 x2 (advance t s) = dnat x0 x1 x2 s := (rfl)

@[simp] theorem doct_advance (x0 : Nat) (x1 : Nat) (x2 : Nat) (t : Time) (s : State) :
    doct x0 x1 x2 (advance t s) = doct x0 x1 x2 s := (rfl)

@[simp] theorem domOf_advance (x1 : Nat) (t : Time) (s : State) :
    domOf (advance t s) x1 = domOf s x1 := (rfl)

@[simp] theorem doublyDegraded_advance (t : Time) (s : State) :
    doublyDegraded (advance t s) = doublyDegraded s := (rfl)

@[simp] theorem dtlsPath_advance (x0 : Path) (t : Time) (s : State) :
    dtlsPath x0 (advance t s) = dtlsPath x0 s := (rfl)

@[simp] theorem dtlsSessions_advance (t : Time) (s : State) :
    dtlsSessions (advance t s) = dtlsSessions s := (rfl)

@[simp] theorem dval_advance (x0 : Nat) (x1 : Nat) (x2 : Nat) (t : Time) (s : State) :
    dval x0 x1 x2 (advance t s) = dval x0 x1 x2 s := (rfl)

@[simp] theorem earlier_advance (x0 : Nat) (x1 : Cmd) (t : Time) (s : State) :
    earlier x0 x1 (advance t s) = earlier x0 x1 s := (rfl)

@[simp] theorem egBuckets_advance (x0 : Conn) (x1 : Nat) (t : Time) (s : State) :
    egBuckets x0 x1 (advance t s) = egBuckets x0 x1 s := (rfl)

@[simp] theorem eligible_advance (x1 : Nat) (t : Time) (s : State) :
    eligible (advance t s) x1 = eligible s x1 := (rfl)

@[simp] theorem encryptSector_advance (x0 : Nat) (x1 : Nat) (x2 : Bytes) (t : Time) (s : State) :
    encryptSector x0 x1 x2 (advance t s) = encryptSector x0 x1 x2 s := (rfl)

@[simp] theorem endpointUp_advance (t : Time) (s : State) :
    endpointUp (advance t s) = endpointUp s := (rfl)

@[simp] theorem endsDurable_advance (x0 : Planned) (t : Time) (s : State) :
    endsDurable x0 (advance t s) = endsDurable x0 s := (rfl)

@[simp] theorem engineOf_advance (x1 : Nat) (t : Time) (s : State) :
    engineOf (advance t s) x1 = engineOf s x1 := (rfl)

@[simp] theorem engineSpare_advance (x0 : Nat) (t : Time) (s : State) :
    engineSpare x0 (advance t s) = engineSpare x0 s := (rfl)

@[simp] theorem enginesRetired_advance (t : Time) (s : State) :
    enginesRetired (advance t s) = enginesRetired s := (rfl)

@[simp] theorem entropyLost_advance (t : Time) (s : State) :
    entropyLost (advance t s) = entropyLost s := (rfl)

@[simp] theorem entropyState_advance (t : Time) (s : State) :
    entropyState (advance t s) = entropyState s := (rfl)

@[simp] theorem entryHeld_advance (x0 : List RecEntry) (x1 : RecEntry) (t : Time) (s : State) :
    entryHeld x0 x1 (advance t s) = entryHeld x0 x1 s := (rfl)

@[simp] theorem eraseBusy_advance (x0 : Nat) (t : Time) (s : State) :
    eraseBusy x0 (advance t s) = eraseBusy x0 s := (rfl)

@[simp] theorem eraseRuns_advance (x0 : Nat) (t : Time) (s : State) :
    eraseRuns x0 (advance t s) = eraseRuns x0 s := (rfl)

@[simp] theorem executing_advance (x0 : Nat) (x1 : Nat) (t : Time) (s : State) :
    executing x0 x1 (advance t s) = executing x0 x1 s := (rfl)

@[simp] theorem exhaustedNow_advance (t : Time) (s : State) :
    exhaustedNow (advance t s) = exhaustedNow s := (rfl)

@[simp] theorem feedIsGood_advance (t : Time) (s : State) :
    feedIsGood (advance t s) = feedIsGood s := (rfl)

@[simp] theorem feedOf_advance (x1 : Nat) (t : Time) (s : State) :
    feedOf (advance t s) x1 = feedOf s x1 := (rfl)

@[simp] theorem feedsLost_advance (t : Time) (s : State) :
    feedsLost (advance t s) = feedsLost s := (rfl)

@[simp] theorem fillGranules_advance (x0 : FillReq) (t : Time) (s : State) :
    fillGranules x0 (advance t s) = fillGranules x0 s := (rfl)

@[simp] theorem fillSpan_advance (x0 : Nat) (x1 : Nat) (x2 : Bytes) (t : Time) (s : State) :
    fillSpan x0 x1 x2 (advance t s) = fillSpan x0 x1 x2 s := (rfl)

@[simp] theorem filledEus_advance (t : Time) (s : State) :
    filledEus (advance t s) = filledEus s := (rfl)

@[simp] theorem flag_advance (x0 : Nat) (x1 : Nat) (x2 : Nat) (t : Time) (s : State) :
    flag x0 x1 x2 (advance t s) = flag x0 x1 x2 s := (rfl)

@[simp] theorem flowOf_advance (x1 : Nat) (t : Time) (s : State) :
    flowOf (advance t s) x1 = flowOf s x1 := (rfl)

@[simp] theorem foldTurn_advance (x0 : Nat) (t : Time) (s : State) :
    foldTurn x0 (advance t s) = foldTurn x0 s := (rfl)

@[simp] theorem followsConns_advance (t : Time) (s : State) :
    followsConns (advance t s) = followsConns s := (rfl)

@[simp] theorem forceSoloCheck_advance (x0 : WCtx) (t : Time) (s : State) :
    forceSoloCheck x0 (advance t s) = forceSoloCheck x0 s := (rfl)

@[simp] theorem formatCarriers_advance (t : Time) (s : State) :
    formatCarriers (advance t s) = formatCarriers s := (rfl)

@[simp] theorem formatCheck_advance (x0 : WCtx) (t : Time) (s : State) :
    formatCheck x0 (advance t s) = formatCheck x0 s := (rfl)

@[simp] theorem formatGeometry_advance (x0 : List Descr) (t : Time) (s : State) :
    formatGeometry x0 (advance t s) = formatGeometry x0 s := (rfl)

@[simp] theorem forwards_advance (x0 : Obj) (t : Time) (s : State) :
    forwards x0 (advance t s) = forwards x0 s := (rfl)

@[simp] theorem forwardsTo_advance (x0 : Nat) (t : Time) (s : State) :
    forwardsTo x0 (advance t s) = forwardsTo x0 s := (rfl)

@[simp] theorem frameEnd_advance (x0 : Conn) (x1 : TxFrame) (t : Time) (s : State) :
    frameEnd x0 x1 (advance t s) = frameEnd x0 x1 s := (rfl)

@[simp] theorem freeBands_advance (t : Time) (s : State) :
    freeBands (advance t s) = freeBands s := (rfl)

@[simp] theorem freeBelow_advance (x0 : Nat) (t : Time) (s : State) :
    freeBelow x0 (advance t s) = freeBelow x0 s := (rfl)

@[simp] theorem freeCount_advance (x1 : Nat) (t : Time) (s : State) :
    freeCount (advance t s) x1 = freeCount s x1 := (rfl)

@[simp] theorem freeEus_advance (t : Time) (s : State) :
    freeEus (advance t s) = freeEus s := (rfl)

@[simp] theorem freeMarksFit_advance (t : Time) (s : State) :
    freeMarksFit (advance t s) = freeMarksFit s := (rfl)

@[simp] theorem freeWithTalons_advance (t : Time) (s : State) :
    freeWithTalons (advance t s) = freeWithTalons s := (rfl)

@[simp] theorem fwActivateCheck_advance (x0 : WCtx) (t : Time) (s : State) :
    fwActivateCheck x0 (advance t s) = fwActivateCheck x0 s := (rfl)

@[simp] theorem geoEntry_advance (t : Time) (s : State) :
    geoEntry (advance t s) = geoEntry s := (rfl)

@[simp] theorem getOwn_advance (x0 : Session) (x1 : Obj) (t : Time) (s : State) :
    getOwn x0 x1 (advance t s) = getOwn x0 x1 s := (rfl)

@[simp] theorem grants_advance (x1 : Nat) (x2 : Nat) (t : Time) (s : State) :
    grants (advance t s) x1 x2 = grants s x1 x2 := (rfl)

@[simp] theorem groupMac_advance (x0 : Nat) (t : Time) (s : State) :
    groupMac x0 (advance t s) = groupMac x0 s := (rfl)

@[simp] theorem groupMacCheck_advance (x0 : WCtx) (t : Time) (s : State) :
    groupMacCheck x0 (advance t s) = groupMacCheck x0 s := (rfl)

@[simp] theorem groupMacSet_advance (x0 : Nat) (t : Time) (s : State) :
    groupMacSet x0 (advance t s) = groupMacSet x0 s := (rfl)

@[simp] theorem groupsDiffer_advance (x0 : Nat) (t : Time) (s : State) :
    groupsDiffer x0 (advance t s) = groupsDiffer x0 s := (rfl)

@[simp] theorem headGoes_advance (x0 : Nat) (t : Time) (s : State) :
    headGoes x0 (advance t s) = headGoes x0 s := (rfl)

@[simp] theorem headOne_advance (x0 : Nat) (x1 : BitVec 64) (x3 : Conn) (t : Time) (s : State) :
    headOne x0 x1 (advance t s) x3 = headOne x0 x1 s x3 := (rfl)

@[simp] theorem headerBytes_advance (x0 : Conn) (t : Time) (s : State) :
    headerBytes x0 (advance t s) = headerBytes x0 s := (rfl)

@[simp] theorem headerSector_advance (x0 : Nat) (x1 : Band) (t : Time) (s : State) :
    headerSector x0 x1 (advance t s) = headerSector x0 x1 s := (rfl)

@[simp] theorem headroom_advance (x0 : Nat) (t : Time) (s : State) :
    headroom x0 (advance t s) = headroom x0 s := (rfl)

@[simp] theorem heldBack_advance (x0 : Nat) (t : Time) (s : State) :
    heldBack x0 (advance t s) = heldBack x0 s := (rfl)

@[simp] theorem heldEnd_advance (x1 : Planned) (t : Time) (s : State) :
    heldEnd (advance t s) x1 = heldEnd s x1 := (rfl)

@[simp] theorem heldKeys_advance (x0 : Nat) (t : Time) (s : State) :
    heldKeys x0 (advance t s) = heldKeys x0 s := (rfl)

@[simp] theorem heldProgs_advance (t : Time) (s : State) :
    heldProgs (advance t s) = heldProgs s := (rfl)

@[simp] theorem helloFault_advance (x0 : Hello) (t : Time) (s : State) :
    helloFault x0 (advance t s) = helloFault x0 s := (rfl)

@[simp] theorem holdsLoad_advance (x0 : WCtx) (t : Time) (s : State) :
    holdsLoad x0 (advance t s) = holdsLoad x0 s := (rfl)

@[simp] theorem holdsV6_advance (x0 : Nat) (x1 : Bytes) (t : Time) (s : State) :
    holdsV6 x0 x1 (advance t s) = holdsV6 x0 x1 s := (rfl)

@[simp] theorem holdupTestCheck_advance (x0 : WCtx) (t : Time) (s : State) :
    holdupTestCheck x0 (advance t s) = holdupTestCheck x0 s := (rfl)

@[simp] theorem holdupTime_advance (t : Time) (s : State) :
    holdupTime (advance t s) = holdupTime s := (rfl)

@[simp] theorem hostOf_advance (x0 : Src) (t : Time) (s : State) :
    hostOf x0 (advance t s) = hostOf x0 s := (rfl)

@[simp] theorem identifyCtrl_advance (x0 : AdmCmd) (x1 : Option Nat) (x2 : Nat) (x3 : Bool) (t : Time) (s : State) :
    identifyCtrl x0 x1 x2 x3 (advance t s) = identifyCtrl x0 x1 x2 x3 s := (rfl)

@[simp] theorem identifyNs_advance (x0 : Nat) (x1 : Bool) (t : Time) (s : State) :
    identifyNs x0 x1 (advance t s) = identifyNs x0 x1 s := (rfl)

@[simp] theorem identifyPage_advance (x0 : AdmCmd) (x1 : Option Nat) (x2 : Nat) (x3 : Nat) (t : Time) (s : State) :
    identifyPage x0 x1 x2 x3 (advance t s) = identifyPage x0 x1 x2 x3 s := (rfl)

@[simp] theorem imageBytes_advance (t : Time) (s : State) :
    imageBytes (advance t s) = imageBytes s := (rfl)

@[simp] theorem importKey_advance (x0 : Bytes) (t : Time) (s : State) :
    importKey x0 (advance t s) = importKey x0 s := (rfl)

@[simp] theorem inMode_advance (x0 : List Mode) (t : Time) (s : State) :
    inMode x0 (advance t s) = inMode x0 s := (rfl)

@[simp] theorem invalOf_advance (x0 : Nat) (x1 : Sgl) (t : Time) (s : State) :
    invalOf x0 x1 (advance t s) = invalOf x0 x1 s := (rfl)

@[simp] theorem ipTcp_advance (x0 : Nat) (t : Time) (s : State) :
    ipTcp x0 (advance t s) = ipTcp x0 s := (rfl)

@[simp] theorem itemApplied_advance (x0 : Session) (x2 : Item) (t : Time) (s : State) :
    itemApplied x0 (advance t s) x2 = itemApplied x0 s x2 := (rfl)

@[simp] theorem jobGranules_advance (x0 : Geo) (x1 : Job) (t : Time) (s : State) :
    jobGranules x0 x1 (advance t s) = jobGranules x0 x1 s := (rfl)

@[simp] theorem jobOfEu_advance (x0 : Nat) (x1 : Nat) (t : Time) (s : State) :
    jobOfEu x0 x1 (advance t s) = jobOfEu x0 x1 s := (rfl)

@[simp] theorem jobQueue_advance (x0 : Job) (t : Time) (s : State) :
    jobQueue x0 (advance t s) = jobQueue x0 s := (rfl)

@[simp] theorem jobRuns_advance (x0 : JobKind → Bool) (t : Time) (s : State) :
    jobRuns x0 (advance t s) = jobRuns x0 s := (rfl)

@[simp] theorem joinReady_advance (t : Time) (s : State) :
    joinReady (advance t s) = joinReady s := (rfl)

@[simp] theorem jointBroken_advance (x0 : WCtx) (t : Time) (s : State) :
    jointBroken x0 (advance t s) = jointBroken x0 s := (rfl)

@[simp] theorem journalHolders_advance (t : Time) (s : State) :
    journalHolders (advance t s) = journalHolders s := (rfl)

@[simp] theorem journalWaits_advance (x0 : Nat) (t : Time) (s : State) :
    journalWaits x0 (advance t s) = journalWaits x0 s := (rfl)

@[simp] theorem keepSectors_advance (x0 : Run) (x1 : Nat) (x2 : Prog) (t : Time) (s : State) :
    keepSectors x0 x1 x2 (advance t s) = keepSectors x0 x1 x2 s := (rfl)

@[simp] theorem keyImportCheck_advance (x0 : WCtx) (t : Time) (s : State) :
    keyImportCheck x0 (advance t s) = keyImportCheck x0 s := (rfl)

@[simp] theorem kitty_advance (x1 : Nat) (t : Time) (s : State) :
    kitty (advance t s) x1 = kitty s x1 := (rfl)

@[simp] theorem known_advance (x0 : Nat) (x1 : Nat) (t : Time) (s : State) :
    known x0 x1 (advance t s) = known x0 x1 s := (rfl)

@[simp] theorem landing_advance (t : Time) (s : State) :
    landing (advance t s) = landing s := (rfl)

@[simp] theorem landingReserve_advance (t : Time) (s : State) :
    landingReserve (advance t s) = landingReserve s := (rfl)

@[simp] theorem laneLoad_advance (x1 : Nat) (t : Time) (s : State) :
    laneLoad (advance t s) x1 = laneLoad s x1 := (rfl)

@[simp] theorem laneOf_advance (x1 : Nat) (t : Time) (s : State) :
    laneOf (advance t s) x1 = laneOf s x1 := (rfl)

@[simp] theorem laneSpare_advance (x0 : Nat) (t : Time) (s : State) :
    laneSpare x0 (advance t s) = laneSpare x0 s := (rfl)

@[simp] theorem lanesOn_advance (t : Time) (s : State) :
    lanesOn (advance t s) = lanesOn s := (rfl)

@[simp] theorem lanesRetired_advance (t : Time) (s : State) :
    lanesRetired (advance t s) = lanesRetired s := (rfl)

@[simp] theorem laterEntries_advance (x0 : Nat) (t : Time) (s : State) :
    laterEntries x0 (advance t s) = laterEntries x0 s := (rfl)

@[simp] theorem lbAt_advance (x1 : Nat) (t : Time) (s : State) :
    lbAt (advance t s) x1 = lbAt s x1 := (rfl)

@[simp] theorem lbBase_advance (x0 : Nat) (t : Time) (s : State) :
    lbBase x0 (advance t s) = lbBase x0 s := (rfl)

@[simp] theorem lbLogs_advance (x0 : Nat) (t : Time) (s : State) :
    lbLogs x0 (advance t s) = lbLogs x0 s := (rfl)

@[simp] theorem lbOf_advance (x0 : Nat) (x1 : Nat) (t : Time) (s : State) :
    lbOf x0 x1 (advance t s) = lbOf x0 x1 s := (rfl)

@[simp] theorem lbSectors_advance (t : Time) (s : State) :
    lbSectors (advance t s) = lbSectors s := (rfl)

@[simp] theorem lbWidens_advance (x0 : Nat) (t : Time) (s : State) :
    lbWidens x0 (advance t s) = lbWidens x0 s := (rfl)

@[simp] theorem lbsFor_advance (x0 : Nat) (t : Time) (s : State) :
    lbsFor x0 (advance t s) = lbsFor x0 s := (rfl)

@[simp] theorem lbsIn_advance (x0 : Nat) (t : Time) (s : State) :
    lbsIn x0 (advance t s) = lbsIn x0 s := (rfl)

@[simp] theorem lifeUsed_advance (t : Time) (s : State) :
    lifeUsed (advance t s) = lifeUsed s := (rfl)

@[simp] theorem linkLocal_advance (x0 : Nat) (t : Time) (s : State) :
    linkLocal x0 (advance t s) = linkLocal x0 s := (rfl)

@[simp] theorem linkMode_advance (t : Time) (s : State) :
    linkMode (advance t s) = linkMode s := (rfl)

@[simp] theorem liveCounter_advance (x0 : Nat) (x1 : Nat) (x2 : Nat) (t : Time) (s : State) :
    liveCounter x0 x1 x2 (advance t s) = liveCounter x0 x1 x2 s := (rfl)

@[simp] theorem liveIn_advance (x0 : Nat) (t : Time) (s : State) :
    liveIn x0 (advance t s) = liveIn x0 s := (rfl)

@[simp] theorem loadCommitCheck_advance (x0 : WCtx) (t : Time) (s : State) :
    loadCommitCheck x0 (advance t s) = loadCommitCheck x0 s := (rfl)

@[simp] theorem loadDataCheck_advance (x0 : WCtx) (t : Time) (s : State) :
    loadDataCheck x0 (advance t s) = loadDataCheck x0 s := (rfl)

@[simp] theorem loadMarksFit_advance (t : Time) (s : State) :
    loadMarksFit (advance t s) = loadMarksFit s := (rfl)

@[simp] theorem loadSlotCheck_advance (x0 : WCtx) (t : Time) (s : State) :
    loadSlotCheck x0 (advance t s) = loadSlotCheck x0 s := (rfl)

@[simp] theorem logAll_advance (t : Time) (s : State) :
    logAll (advance t s) = logAll s := (rfl)

@[simp] theorem logBandFits_advance (x0 : Nat) (t : Time) (s : State) :
    logBandFits x0 (advance t s) = logBandFits x0 s := (rfl)

@[simp] theorem logBands_advance (t : Time) (s : State) :
    logBands (advance t s) = logBands s := (rfl)

@[simp] theorem logBandsNs_advance (x0 : Nat) (t : Time) (s : State) :
    logBandsNs x0 (advance t s) = logBandsNs x0 s := (rfl)

@[simp] theorem logBound_advance (x0 : Nat × Slot × Nat × Nat) (t : Time) (s : State) :
    logBound x0 (advance t s) = logBound x0 s := (rfl)

@[simp] theorem logWindow_advance (x0 : Session) (x1 : Nat) (t : Time) (s : State) :
    logWindow x0 x1 (advance t s) = logWindow x0 x1 s := (rfl)

@[simp] theorem lostClearCheck_advance (x0 : WCtx) (t : Time) (s : State) :
    lostClearCheck x0 (advance t s) = lostClearCheck x0 s := (rfl)

@[simp] theorem lostZeros_advance (x0 : Lost) (t : Time) (s : State) :
    lostZeros x0 (advance t s) = lostZeros x0 s := (rfl)

@[simp] theorem mayConfirm_advance (x0 : CycleRec) (t : Time) (s : State) :
    mayConfirm x0 (advance t s) = mayConfirm x0 s := (rfl)

@[simp] theorem mayGate_advance (x0 : Nat) (x1 : Nat) (t : Time) (s : State) :
    mayGate x0 x1 (advance t s) = mayGate x0 x1 s := (rfl)

@[simp] theorem mayRejoin_advance (t : Time) (s : State) :
    mayRejoin (advance t s) = mayRejoin s := (rfl)

@[simp] theorem mayServe_advance (t : Time) (s : State) :
    mayServe (advance t s) = mayServe s := (rfl)

@[simp] theorem maySolicit_advance (x0 : Cmd) (t : Time) (s : State) :
    maySolicit x0 (advance t s) = maySolicit x0 s := (rfl)

@[simp] theorem mediaAllowed_advance (t : Time) (s : State) :
    mediaAllowed (advance t s) = mediaAllowed s := (rfl)

@[simp] theorem mediaBytes_advance (x0 : MediaCmd) (t : Time) (s : State) :
    mediaBytes x0 (advance t s) = mediaBytes x0 s := (rfl)

@[simp] theorem mediaVal_advance (x0 : Session) (x1 : Nat) (x2 : Nat) (t : Time) (s : State) :
    mediaVal x0 x1 x2 (advance t s) = mediaVal x0 x1 x2 s := (rfl)

@[simp] theorem memberOfEu_advance (x0 : Nat) (x1 : Nat) (t : Time) (s : State) :
    memberOfEu x0 x1 (advance t s) = memberOfEu x0 x1 s := (rfl)

@[simp] theorem mergeCan_advance (x0 : Geo) (x1 : Nat) (t : Time) (s : State) :
    mergeCan x0 x1 (advance t s) = mergeCan x0 x1 s := (rfl)

@[simp] theorem mergeChoice_advance (x0 : Nat) (t : Time) (s : State) :
    mergeChoice x0 (advance t s) = mergeChoice x0 s := (rfl)

@[simp] theorem mergeDeferred_advance (x0 : Nat) (t : Time) (s : State) :
    mergeDeferred x0 (advance t s) = mergeDeferred x0 s := (rfl)

@[simp] theorem mergeHi_advance (x0 : Geo) (x1 : Nat) (t : Time) (s : State) :
    mergeHi x0 x1 (advance t s) = mergeHi x0 x1 s := (rfl)

@[simp] theorem mergeOutCost_advance (x0 : Nat) (t : Time) (s : State) :
    mergeOutCost x0 (advance t s) = mergeOutCost x0 s := (rfl)

@[simp] theorem mergeReady_advance (x0 : Nat) (t : Time) (s : State) :
    mergeReady x0 (advance t s) = mergeReady x0 s := (rfl)

@[simp] theorem mergeSource_advance (x0 : Nat) (x1 : Nat) (t : Time) (s : State) :
    mergeSource x0 x1 (advance t s) = mergeSource x0 x1 s := (rfl)

@[simp] theorem mergeWanted_advance (x0 : Nat) (t : Time) (s : State) :
    mergeWanted x0 (advance t s) = mergeWanted x0 s := (rfl)

@[simp] theorem metaSector_advance (x0 : Nat) (x1 : Nat) (x2 : Bytes) (t : Time) (s : State) :
    metaSector x0 x1 x2 (advance t s) = metaSector x0 x1 x2 s := (rfl)

@[simp] theorem metaSectors_advance (x0 : Geo) (x1 : Nat) (x2 : Nat) (x3 : Nat) (x4 : Nat) (x5 : List Bytes) (t : Time) (s : State) :
    metaSectors x0 x1 x2 x3 x4 x5 (advance t s) = metaSectors x0 x1 x2 x3 x4 x5 s := (rfl)

@[simp] theorem mirrorCredit_advance (t : Time) (s : State) :
    mirrorCredit (advance t s) = mirrorCredit s := (rfl)

@[simp] theorem mirrorHeader_advance (t : Time) (s : State) :
    mirrorHeader (advance t s) = mirrorHeader s := (rfl)

@[simp] theorem modeVal_advance (x0 : Session) (x1 : Nat) (x2 : Nat) (t : Time) (s : State) :
    modeVal x0 x1 x2 (advance t s) = modeVal x0 x1 x2 s := (rfl)

@[simp] theorem movesNow_advance (x0 : Nat) (x1 : Nat) (t : Time) (s : State) :
    movesNow x0 x1 (advance t s) = movesNow x0 x1 s := (rfl)

@[simp] theorem mssOffered_advance (x0 : ConnInfo) (t : Time) (s : State) :
    mssOffered x0 (advance t s) = mssOffered x0 s := (rfl)

@[simp] theorem mustReclaim_advance (x0 : Nat) (x1 : Band) (t : Time) (s : State) :
    mustReclaim x0 x1 (advance t s) = mustReclaim x0 x1 s := (rfl)

@[simp] theorem namedLater_advance (x0 : Nat) (x1 : Nat × Nat × Nat) (t : Time) (s : State) :
    namedLater x0 x1 (advance t s) = namedLater x0 x1 s := (rfl)

@[simp] theorem needsFull_advance (x0 : Nat) (t : Time) (s : State) :
    needsFull x0 (advance t s) = needsFull x0 s := (rfl)

@[simp] theorem needsRefresh_advance (x0 : Nat) (x1 : Nat) (t : Time) (s : State) :
    needsRefresh x0 x1 (advance t s) = needsRefresh x0 x1 s := (rfl)

@[simp] theorem neighbourOf_advance (x0 : Nat) (x1 : Bytes) (t : Time) (s : State) :
    neighbourOf x0 x1 (advance t s) = neighbourOf x0 x1 s := (rfl)

@[simp] theorem nextBytes_advance (x0 : Conn) (x1 : TxFrame) (t : Time) (s : State) :
    nextBytes x0 x1 (advance t s) = nextBytes x0 x1 s := (rfl)

@[simp] theorem nextClass_advance (x0 : Nat) (t : Time) (s : State) :
    nextClass x0 (advance t s) = nextClass x0 s := (rfl)

@[simp] theorem nextHop_advance (x0 : ConnInfo) (t : Time) (s : State) :
    nextHop x0 (advance t s) = nextHop x0 s := (rfl)

@[simp] theorem nextInput_advance (x0 : Nat) (x1 : Nat) (t : Time) (s : State) :
    nextInput x0 x1 (advance t s) = nextInput x0 x1 s := (rfl)

@[simp] theorem nextValue_advance (t : Time) (s : State) :
    nextValue (advance t s) = nextValue s := (rfl)

@[simp] theorem noBand8_advance (t : Time) (s : State) :
    noBand8 (advance t s) = noBand8 s := (rfl)

@[simp] theorem noCheck_advance (x0 : WCtx) (t : Time) (s : State) :
    noCheck x0 (advance t s) = noCheck x0 s := (rfl)

@[simp] theorem nqnRecord_advance (x0 : Nat) (x1 : Nat) (x2 : Bytes) (t : Time) (s : State) :
    nqnRecord x0 x1 x2 (advance t s) = nqnRecord x0 x1 x2 s := (rfl)

@[simp] theorem nsEnableCheck_advance (x0 : WCtx) (t : Time) (s : State) :
    nsEnableCheck x0 (advance t s) = nsEnableCheck x0 s := (rfl)

@[simp] theorem nsEnabled_advance (x0 : Nat) (t : Time) (s : State) :
    nsEnabled x0 (advance t s) = nsEnabled x0 s := (rfl)

@[simp] theorem nsKeyAt_advance (x0 : Nat) (t : Time) (s : State) :
    nsKeyAt x0 (advance t s) = nsKeyAt x0 s := (rfl)

@[simp] theorem nsKeyOf_advance (x0 : Nat) (x1 : Bool) (t : Time) (s : State) :
    nsKeyOf x0 x1 (advance t s) = nsKeyOf x0 x1 s := (rfl)

@[simp] theorem nsLbs_advance (x0 : Nat) (t : Time) (s : State) :
    nsLbs x0 (advance t s) = nsLbs x0 s := (rfl)

@[simp] theorem nsList_advance (x0 : Nat) (t : Time) (s : State) :
    nsList x0 (advance t s) = nsList x0 s := (rfl)

@[simp] theorem nsOf_advance (x0 : Nat) (x1 : Nat) (t : Time) (s : State) :
    nsOf x0 x1 (advance t s) = nsOf x0 x1 s := (rfl)

@[simp] theorem nsOfLb_advance (x0 : Nat) (t : Time) (s : State) :
    nsOfLb x0 (advance t s) = nsOfLb x0 s := (rfl)

@[simp] theorem nsReadOnly_advance (x0 : Nat) (t : Time) (s : State) :
    nsReadOnly x0 (advance t s) = nsReadOnly x0 s := (rfl)

@[simp] theorem nsSize_advance (x0 : Nat) (t : Time) (s : State) :
    nsSize x0 (advance t s) = nsSize x0 s := (rfl)

@[simp] theorem nsidFree_advance (x0 : Nat) (t : Time) (s : State) :
    nsidFree x0 (advance t s) = nsidFree x0 s := (rfl)

@[simp] theorem objFor_advance (x0 : Nat) (t : Time) (s : State) :
    objFor x0 (advance t s) = objFor x0 s := (rfl)

@[simp] theorem offersAt_advance (x0 : Nat) (t : Time) (s : State) :
    offersAt x0 (advance t s) = offersAt x0 s := (rfl)

@[simp] theorem oldKeyReads_advance (x0 : Nat) (t : Time) (s : State) :
    oldKeyReads x0 (advance t s) = oldKeyReads x0 s := (rfl)

@[simp] theorem oldestStaging_advance (t : Time) (s : State) :
    oldestStaging (advance t s) = oldestStaging s := (rfl)

@[simp] theorem openOf_advance (x0 : BandKind) (x1 : Nat) (x2 : Nat) (t : Time) (s : State) :
    openOf x0 x1 x2 (advance t s) = openOf x0 x1 x2 s := (rfl)

@[simp] theorem originOf_advance (x0 : Geo) (x1 : Nat) (x2 : Band) (x3 : Run) (t : Time) (s : State) :
    originOf x0 x1 x2 x3 (advance t s) = originOf x0 x1 x2 x3 s := (rfl)

@[simp] theorem outputShut_advance (x0 : Nat) (t : Time) (s : State) :
    outputShut x0 (advance t s) = outputShut x0 s := (rfl)

@[simp] theorem outstanding_advance (x0 : Nat) (x1 : Conn) (t : Time) (s : State) :
    outstanding x0 x1 (advance t s) = outstanding x0 x1 s := (rfl)

@[simp] theorem overlayUsed_advance (t : Time) (s : State) :
    overlayUsed (advance t s) = overlayUsed s := (rfl)

@[simp] theorem overrun_advance (x0 : Nat) (x1 : Conn) (x2 : Nat) (t : Time) (s : State) :
    overrun x0 x1 x2 (advance t s) = overrun x0 x1 x2 s := (rfl)

@[simp] theorem ownCheck_advance (x0 : WCtx) (t : Time) (s : State) :
    ownCheck x0 (advance t s) = ownCheck x0 s := (rfl)

@[simp] theorem ownTarget_advance (x0 : Member) (t : Time) (s : State) :
    ownTarget x0 (advance t s) = ownTarget x0 s := (rfl)

@[simp] theorem ownValue_advance (t : Time) (s : State) :
    ownValue (advance t s) = ownValue s := (rfl)

@[simp] theorem ownsCarrier_advance (x1 : Nat) (t : Time) (s : State) :
    ownsCarrier (advance t s) x1 = ownsCarrier s x1 := (rfl)

@[simp] theorem packEntry_advance (x0 : Nat) (x1 : Nat) (x2 : Nat) (x3 : RKind) (x5 : Packed) (x6 : Nat × Slot × Nat × Nat) (t : Time) (s : State) :
    packEntry x0 x1 x2 x3 (advance t s) x5 x6 = packEntry x0 x1 x2 x3 s x5 x6 := (rfl)

@[simp] theorem padding_advance (x0 : Geo) (x1 : Nat) (x2 : Nat) (x3 : Nat) (x4 : Nat) (t : Time) (s : State) :
    padding x0 x1 x2 x3 x4 (advance t s) = padding x0 x1 x2 x3 x4 s := (rfl)

@[simp] theorem pairState_advance (t : Time) (s : State) :
    pairState (advance t s) = pairState s := (rfl)

@[simp] theorem pairVal_advance (x0 : Nat) (x1 : Nat) (t : Time) (s : State) :
    pairVal x0 x1 (advance t s) = pairVal x0 x1 s := (rfl)

@[simp] theorem pairedModes_advance (t : Time) (s : State) :
    pairedModes (advance t s) = pairedModes s := (rfl)

@[simp] theorem pairingPasses_advance (x0 : PairInfo) (t : Time) (s : State) :
    pairingPasses x0 (advance t s) = pairingPasses x0 s := (rfl)

@[simp] theorem partLbs_advance (x0 : Nat) (x1 : Nat) (t : Time) (s : State) :
    partLbs x0 x1 (advance t s) = partLbs x0 x1 s := (rfl)

@[simp] theorem partnerServes_advance (t : Time) (s : State) :
    partnerServes (advance t s) = partnerServes s := (rfl)

@[simp] theorem partnerSolo_advance (t : Time) (s : State) :
    partnerSolo (advance t s) = partnerSolo s := (rfl)

@[simp] theorem pastMsg_advance (x0 : HostMsg) (x2 : Conn) (t : Time) (s : State) :
    pastMsg x0 (advance t s) x2 = pastMsg x0 s x2 := (rfl)

@[simp] theorem pickLanes_advance (x1 : Nat) (t : Time) (s : State) :
    pickLanes (advance t s) x1 = pickLanes s x1 := (rfl)

@[simp] theorem placeHeld_advance (x0 : List RecEntry) (x1 : Nat) (x2 : Nat) (x3 : Nat) (x4 : Nat) (x5 : Nat) (x6 : Nat) (x7 : BitVec 64) (t : Time) (s : State) :
    placeHeld x0 x1 x2 x3 x4 x5 x6 x7 (advance t s) = placeHeld x0 x1 x2 x3 x4 x5 x6 x7 s := (rfl)

@[simp] theorem placeSlots_advance (x0 : List RecEntry) (x1 : Nat) (x2 : Nat) (x3 : Nat) (x4 : Nat) (x5 : Nat) (x6 : Nat) (t : Time) (s : State) :
    placeSlots x0 x1 x2 x3 x4 x5 x6 (advance t s) = placeSlots x0 x1 x2 x3 x4 x5 x6 s := (rfl)

@[simp] theorem placedNow_advance (t : Time) (s : State) :
    placedNow (advance t s) = placedNow s := (rfl)

@[simp] theorem planDue_advance (x0 : Planned) (t : Time) (s : State) :
    planDue x0 (advance t s) = planDue x0 s := (rfl)

@[simp] theorem planReached_advance (x0 : TxFrame) (t : Time) (s : State) :
    planReached x0 (advance t s) = planReached x0 s := (rfl)

@[simp] theorem planWaits_advance (x0 : Planned) (x1 : List Planned) (t : Time) (s : State) :
    planWaits x0 x1 (advance t s) = planWaits x0 x1 s := (rfl)

@[simp] theorem policyModes_advance (t : Time) (s : State) :
    policyModes (advance t s) = policyModes s := (rfl)

@[simp] theorem poolFree_advance (t : Time) (s : State) :
    poolFree (advance t s) = poolFree s := (rfl)

@[simp] theorem poolUsed_advance (x1 : Nat) (t : Time) (s : State) :
    poolUsed (advance t s) x1 = poolUsed s x1 := (rfl)

@[simp] theorem poolVal_advance (x0 : Nat) (x1 : Nat) (t : Time) (s : State) :
    poolVal x0 x1 (advance t s) = poolVal x0 x1 s := (rfl)

@[simp] theorem poolsFit_advance (t : Time) (s : State) :
    poolsFit (advance t s) = poolsFit s := (rfl)

@[simp] theorem portHdr_advance (x0 : Nat) (x1 : HostMsg) (t : Time) (s : State) :
    portHdr x0 x1 (advance t s) = portHdr x0 x1 s := (rfl)

@[simp] theorem portOf_advance (x1 : Nat) (t : Time) (s : State) :
    portOf (advance t s) x1 = portOf s x1 := (rfl)

@[simp] theorem portPresent_advance (x0 : Nat) (t : Time) (s : State) :
    portPresent x0 (advance t s) = portPresent x0 s := (rfl)

@[simp] theorem portRate_advance (x0 : Nat) (t : Time) (s : State) :
    portRate x0 (advance t s) = portRate x0 s := (rfl)

@[simp] theorem portStateCode_advance (x0 : Nat) (t : Time) (s : State) :
    portStateCode x0 (advance t s) = portStateCode x0 s := (rfl)

@[simp] theorem posOf_advance (x0 : Nat) (x1 : Nat) (x2 : Nat) (t : Time) (s : State) :
    posOf x0 x1 x2 (advance t s) = posOf x0 x1 x2 s := (rfl)

@[simp] theorem potTarget_advance (t : Time) (s : State) :
    potTarget (advance t s) = potTarget s := (rfl)

@[simp] theorem pourFree_advance (t : Time) (s : State) :
    pourFree (advance t s) = pourFree s := (rfl)

@[simp] theorem powerVal_advance (x0 : Nat) (x1 : Nat) (t : Time) (s : State) :
    powerVal x0 x1 (advance t s) = powerVal x0 x1 s := (rfl)

@[simp] theorem probing_advance (t : Time) (s : State) :
    probing (advance t s) = probing s := (rfl)

@[simp] theorem promoted_advance (x1 : Nat) (t : Time) (s : State) :
    promoted (advance t s) x1 = promoted s x1 := (rfl)

@[simp] theorem pskAlone_advance (x0 : Nat) (t : Time) (s : State) :
    pskAlone x0 (advance t s) = pskAlone x0 s := (rfl)

@[simp] theorem pskFits_advance (x0 : Nat) (x1 : Bytes) (t : Time) (s : State) :
    pskFits x0 x1 (advance t s) = pskFits x0 x1 s := (rfl)

@[simp] theorem pskState_advance (x0 : Nat) (t : Time) (s : State) :
    pskState x0 (advance t s) = pskState x0 s := (rfl)

@[simp] theorem queueOf_advance (x0 : Conn) (t : Time) (s : State) :
    queueOf x0 (advance t s) = queueOf x0 s := (rfl)

@[simp] theorem queuedBytes_advance (x0 : Nat) (t : Time) (s : State) :
    queuedBytes x0 (advance t s) = queuedBytes x0 s := (rfl)

@[simp] theorem queuedOn_advance (x0 : Nat) (t : Time) (s : State) :
    queuedOn x0 (advance t s) = queuedOn x0 s := (rfl)

@[simp] theorem reachable_advance (x0 : Path) (t : Time) (s : State) :
    reachable x0 (advance t s) = reachable x0 s := (rfl)

@[simp] theorem readAtHead_advance (x0 : Nat) (t : Time) (s : State) :
    readAtHead x0 (advance t s) = readAtHead x0 s := (rfl)

@[simp] theorem readmitCheck_advance (x0 : WCtx) (t : Time) (s : State) :
    readmitCheck x0 (advance t s) = readmitCheck x0 s := (rfl)

@[simp] theorem readsOpen_advance (x0 : Nat) (t : Time) (s : State) :
    readsOpen x0 (advance t s) = readsOpen x0 s := (rfl)

@[simp] theorem readsOver_advance (x0 : Band) (t : Time) (s : State) :
    readsOver x0 (advance t s) = readsOver x0 s := (rfl)

@[simp] theorem readyInputs_advance (x0 : Nat) (x1 : Nat) (t : Time) (s : State) :
    readyInputs x0 x1 (advance t s) = readyInputs x0 x1 s := (rfl)

@[simp] theorem rebuildBands_advance (t : Time) (s : State) :
    rebuildBands (advance t s) = rebuildBands s := (rfl)

@[simp] theorem rebuildExtra_advance (x0 : Job) (x1 : Nat) (x2 : Option (List Bytes)) (t : Time) (s : State) :
    rebuildExtra x0 x1 x2 (advance t s) = rebuildExtra x0 x1 x2 s := (rfl)

@[simp] theorem rebuildOrder_advance (t : Time) (s : State) :
    rebuildOrder (advance t s) = rebuildOrder s := (rfl)

@[simp] theorem rebuildRuns_advance (x0 : Nat) (x1 : Nat) (t : Time) (s : State) :
    rebuildRuns x0 x1 (advance t s) = rebuildRuns x0 x1 s := (rfl)

@[simp] theorem recCycle_advance (t : Time) (s : State) :
    recCycle (advance t s) = recCycle s := (rfl)

@[simp] theorem recalCheck_advance (x0 : WCtx) (t : Time) (s : State) :
    recalCheck x0 (advance t s) = recalCheck x0 s := (rfl)

@[simp] theorem received_advance (x0 : Nat) (x1 : Nat) (t : Time) (s : State) :
    received x0 x1 (advance t s) = received x0 x1 s := (rfl)

@[simp] theorem receives_advance (t : Time) (s : State) :
    receives (advance t s) = receives s := (rfl)

@[simp] theorem reclaimCandidates_advance (t : Time) (s : State) :
    reclaimCandidates (advance t s) = reclaimCandidates s := (rfl)

@[simp] theorem recordBefore_advance (x0 : Nat) (x1 : CUnit) (t : Time) (s : State) :
    recordBefore x0 x1 (advance t s) = recordBefore x0 x1 s := (rfl)

@[simp] theorem recordNow_advance (x0 : Bool) (x1 : Bool) (t : Time) (s : State) :
    recordNow x0 x1 (advance t s) = recordNow x0 x1 s := (rfl)

@[simp] theorem refreshOf_advance (x0 : Nat) (t : Time) (s : State) :
    refreshOf x0 (advance t s) = refreshOf x0 s := (rfl)

@[simp] theorem rejoinRequestCheck_advance (x0 : WCtx) (t : Time) (s : State) :
    rejoinRequestCheck x0 (advance t s) = rejoinRequestCheck x0 s := (rfl)

@[simp] theorem repairAt_advance (x0 : Nat) (t : Time) (s : State) :
    repairAt x0 (advance t s) = repairAt x0 s := (rfl)

@[simp] theorem repairClearCheck_advance (x0 : WCtx) (t : Time) (s : State) :
    repairClearCheck x0 (advance t s) = repairClearCheck x0 s := (rfl)

@[simp] theorem replaced_advance (x0 : List RecEntry) (x1 : Nat) (x2 : Nat) (x3 : Nat) (t : Time) (s : State) :
    replaced x0 x1 x2 x3 (advance t s) = replaced x0 x1 x2 x3 s := (rfl)

@[simp] theorem replacing_advance (x0 : Nat) (t : Time) (s : State) :
    replacing x0 (advance t s) = replacing x0 s := (rfl)

@[simp] theorem reserveOther_advance (x1 : Nat) (t : Time) (s : State) :
    reserveOther (advance t s) x1 = reserveOther s x1 := (rfl)

@[simp] theorem resolve_advance (x0 : Nat) (x1 : Nat) (t : Time) (s : State) :
    resolve x0 x1 (advance t s) = resolve x0 x1 s := (rfl)

@[simp] theorem resolveBar2_advance (x0 : Nat) (x1 : Nat) (x2 : Nat) (t : Time) (s : State) :
    resolveBar2 x0 x1 x2 (advance t s) = resolveBar2 x0 x1 x2 s := (rfl)

@[simp] theorem resolved_advance (x0 : ConnInfo) (t : Time) (s : State) :
    resolved x0 (advance t s) = resolved x0 s := (rfl)

@[simp] theorem restartCheck_advance (x0 : WCtx) (t : Time) (s : State) :
    restartCheck x0 (advance t s) = restartCheck x0 s := (rfl)

@[simp] theorem restartWins_advance (x0 : PairInfo) (t : Time) (s : State) :
    restartWins x0 (advance t s) = restartWins x0 s := (rfl)

@[simp] theorem restoredRun_advance (x1 : Run) (t : Time) (s : State) :
    restoredRun (advance t s) x1 = restoredRun s x1 := (rfl)

@[simp] theorem resyncing_advance (x0 : Nat) (t : Time) (s : State) :
    resyncing x0 (advance t s) = resyncing x0 s := (rfl)

@[simp] theorem retryLanes_advance (x0 : CUnit) (t : Time) (s : State) :
    retryLanes x0 (advance t s) = retryLanes x0 s := (rfl)

@[simp] theorem roleSwapCheck_advance (x0 : WCtx) (t : Time) (s : State) :
    roleSwapCheck x0 (advance t s) = roleSwapCheck x0 s := (rfl)

@[simp] theorem roundCredit_advance (x0 : Nat) (x1 : Nat) (t : Time) (s : State) :
    roundCredit x0 x1 (advance t s) = roundCredit x0 x1 s := (rfl)

@[simp] theorem roundWon_advance (t : Time) (s : State) :
    roundWon (advance t s) = roundWon s := (rfl)

@[simp] theorem rtoClamp_advance (x0 : Nat) (t : Time) (s : State) :
    rtoClamp x0 (advance t s) = rtoClamp x0 s := (rfl)

@[simp] theorem rttSample_advance (x0 : Nat) (x2 : TcpTx) (t : Time) (s : State) :
    rttSample x0 (advance t s) x2 = rttSample x0 s x2 := (rfl)

@[simp] theorem runWithin_advance (x0 : Nat) (x1 : Nat) (x2 : Nat) (t : Time) (s : State) :
    runWithin x0 x1 x2 (advance t s) = runWithin x0 x1 x2 s := (rfl)

@[simp] theorem runsIn_advance (x0 : Nat) (t : Time) (s : State) :
    runsIn x0 (advance t s) = runsIn x0 s := (rfl)

@[simp] theorem seatedBays_advance (t : Time) (s : State) :
    seatedBays (advance t s) = seatedBays s := (rfl)

@[simp] theorem sectorFor_advance (x0 : Nat) (x1 : Nat) (x2 : Nat) (x3 : Nat) (x4 : Nat) (t : Time) (s : State) :
    sectorFor x0 x1 x2 x3 x4 (advance t s) = sectorFor x0 x1 x2 x3 x4 s := (rfl)

@[simp] theorem sectorsCome_advance (t : Time) (s : State) :
    sectorsCome (advance t s) = sectorsCome s := (rfl)

@[simp] theorem sectorsOfPage_advance (x0 : Nat) (x1 : Nat) (x2 : Nat) (t : Time) (s : State) :
    sectorsOfPage x0 x1 x2 (advance t s) = sectorsOfPage x0 x1 x2 s := (rfl)

@[simp] theorem segMax_advance (x0 : Conn) (t : Time) (s : State) :
    segMax x0 (advance t s) = segMax x0 s := (rfl)

@[simp] theorem selfTestCheck_advance (x0 : WCtx) (t : Time) (s : State) :
    selfTestCheck x0 (advance t s) = selfTestCheck x0 s := (rfl)

@[simp] theorem seqLogFull_advance (x0 : Nat) (t : Time) (s : State) :
    seqLogFull x0 (advance t s) = seqLogFull x0 s := (rfl)

@[simp] theorem seqLogOf_advance (x0 : Nat) (t : Time) (s : State) :
    seqLogOf x0 (advance t s) = seqLogOf x0 s := (rfl)

@[simp] theorem servedAt_advance (x0 : Nat) (x1 : Bytes) (t : Time) (s : State) :
    servedAt x0 x1 (advance t s) = servedAt x0 x1 s := (rfl)

@[simp] theorem serviceEnableCheck_advance (x0 : WCtx) (t : Time) (s : State) :
    serviceEnableCheck x0 (advance t s) = serviceEnableCheck x0 s := (rfl)

@[simp] theorem servicePorts_advance (t : Time) (s : State) :
    servicePorts (advance t s) = servicePorts s := (rfl)

@[simp] theorem serving_advance (t : Time) (s : State) :
    serving (advance t s) = serving s := (rfl)

@[simp] theorem sessionPriv_advance (x0 : Path) (x1 : Option Nat) (t : Time) (s : State) :
    sessionPriv x0 x1 (advance t s) = sessionPriv x0 x1 s := (rfl)

@[simp] theorem setField_advance (x0 : List Nat) (t : Time) (s : State) :
    setField x0 (advance t s) = setField x0 s := (rfl)

@[simp] theorem setWidth_advance (x0 : Nat) (t : Time) (s : State) :
    setWidth x0 (advance t s) = setWidth x0 s := (rfl)

@[simp] theorem settleOne_advance (x1 : Nat) (x2 : List Nat) (t : Time) (s : State) :
    settleOne (advance t s) x1 x2 = settleOne s x1 x2 := (rfl)

@[simp] theorem sglsOf_advance (x0 : AdmCmd) (t : Time) (s : State) :
    sglsOf x0 (advance t s) = sglsOf x0 s := (rfl)

@[simp] theorem sharedAlpha_advance (t : Time) (s : State) :
    sharedAlpha (advance t s) = sharedAlpha s := (rfl)

@[simp] theorem shelfFill_advance (t : Time) (s : State) :
    shelfFill (advance t s) = shelfFill s := (rfl)

@[simp] theorem slotFollowed_advance (x0 : Nat) (x1 : Nat) (x2 : Nat) (x3 : Nat) (t : Time) (s : State) :
    slotFollowed x0 x1 x2 x3 (advance t s) = slotFollowed x0 x1 x2 x3 s := (rfl)

@[simp] theorem slotNamed_advance (x0 : Nat × Nat × Nat) (t : Time) (s : State) :
    slotNamed x0 (advance t s) = slotNamed x0 s := (rfl)

@[simp] theorem slotOf_advance (x0 : Nat) (x1 : Nat) (t : Time) (s : State) :
    slotOf x0 x1 (advance t s) = slotOf x0 x1 s := (rfl)

@[simp] theorem slotOfProg_advance (x0 : Nat) (x1 : Nat × Nat × Nat) (t : Time) (s : State) :
    slotOfProg x0 x1 (advance t s) = slotOfProg x0 x1 s := (rfl)

@[simp] theorem slotRuns_advance (x0 : Nat) (t : Time) (s : State) :
    slotRuns x0 (advance t s) = slotRuns x0 s := (rfl)

@[simp] theorem slotSigned_advance (x0 : Nat) (t : Time) (s : State) :
    slotSigned x0 (advance t s) = slotSigned x0 s := (rfl)

@[simp] theorem slotsPromised_advance (t : Time) (s : State) :
    slotsPromised (advance t s) = slotsPromised s := (rfl)

@[simp] theorem smartPage_advance (x0 : Nat) (x1 : Nat) (x2 : Nat) (t : Time) (s : State) :
    smartPage x0 x1 x2 (advance t s) = smartPage x0 x1 x2 s := (rfl)

@[simp] theorem snapshotMaps_advance (t : Time) (s : State) :
    snapshotMaps (advance t s) = snapshotMaps s := (rfl)

@[simp] theorem snapshotSectors_advance (t : Time) (s : State) :
    snapshotSectors (advance t s) = snapshotSectors s := (rfl)

@[simp] theorem snapshotSlots_advance (t : Time) (s : State) :
    snapshotSlots (advance t s) = snapshotSlots s := (rfl)

@[simp] theorem solicitOf_advance (x0 : Nat) (t : Time) (s : State) :
    solicitOf x0 (advance t s) = solicitOf x0 s := (rfl)

@[simp] theorem solicitPort_advance (x0 : Nat) (t : Time) (s : State) :
    solicitPort x0 (advance t s) = solicitPort x0 s := (rfl)

@[simp] theorem spanOf_advance (x0 : Conn) (x1 : HostMsg) (t : Time) (s : State) :
    spanOf x0 x1 (advance t s) = spanOf x0 x1 s := (rfl)

@[simp] theorem sqhdOf_advance (x0 : Nat) (t : Time) (s : State) :
    sqhdOf x0 (advance t s) = sqhdOf x0 s := (rfl)

@[simp] theorem srcQid_advance (x0 : Src) (t : Time) (s : State) :
    srcQid x0 (advance t s) = srcQid x0 s := (rfl)

@[simp] theorem stageBands_advance (t : Time) (s : State) :
    stageBands (advance t s) = stageBands s := (rfl)

@[simp] theorem stageDeal_advance (x0 : Nat) (t : Time) (s : State) :
    stageDeal x0 (advance t s) = stageDeal x0 s := (rfl)

@[simp] theorem stageLimit_advance (t : Time) (s : State) :
    stageLimit (advance t s) = stageLimit s := (rfl)

@[simp] theorem stageRuns_advance (x0 : Nat) (t : Time) (s : State) :
    stageRuns x0 (advance t s) = stageRuns x0 s := (rfl)

@[simp] theorem stagingNew_advance (t : Time) (s : State) :
    stagingNew (advance t s) = stagingNew s := (rfl)

@[simp] theorem staleGen_advance (x0 : Nat) (t : Time) (s : State) :
    staleGen x0 (advance t s) = staleGen x0 s := (rfl)

@[simp] theorem startable_advance (x0 : Nat) (x1 : Cmd) (t : Time) (s : State) :
    startable x0 x1 (advance t s) = startable x0 x1 s := (rfl)

@[simp] theorem staticMove_advance (x0 : Nat) (t : Time) (s : State) :
    staticMove x0 (advance t s) = staticMove x0 s := (rfl)

@[simp] theorem stationMac_advance (x0 : Nat) (t : Time) (s : State) :
    stationMac x0 (advance t s) = stationMac x0 s := (rfl)

@[simp] theorem statusOf_advance (x0 : Opc) (x1 : IoCmd) (x2 : Nat) (x3 : Bool) (x4 : List (Nat × Nat)) (t : Time) (s : State) :
    statusOf x0 x1 x2 x3 x4 (advance t s) = statusOf x0 x1 x2 x3 x4 s := (rfl)

@[simp] theorem stillLacks_advance (x0 : Lack) (t : Time) (s : State) :
    stillLacks x0 (advance t s) = stillLacks x0 s := (rfl)

@[simp] theorem stillLive_advance (x0 : Run) (x1 : Run) (t : Time) (s : State) :
    stillLive x0 x1 (advance t s) = stillLive x0 x1 s := (rfl)

@[simp] theorem strayEus_advance (x0 : Nat) (t : Time) (s : State) :
    strayEus x0 (advance t s) = strayEus x0 s := (rfl)

@[simp] theorem streamLacks_advance (x0 : Nat) (x1 : Nat) (x2 : Nat) (t : Time) (s : State) :
    streamLacks x0 x1 x2 (advance t s) = streamLacks x0 x1 x2 s := (rfl)

@[simp] theorem stripeLacks_advance (x0 : Nat) (t : Time) (s : State) :
    stripeLacks x0 (advance t s) = stripeLacks x0 s := (rfl)

@[simp] theorem stripeSlots_advance (x0 : Nat) (x1 : Nat) (x2 : Nat) (x3 : Nat) (t : Time) (s : State) :
    stripeSlots x0 x1 x2 x3 (advance t s) = stripeSlots x0 x1 x2 x3 s := (rfl)

@[simp] theorem subscribeStatus_advance (x0 : Session) (x1 : List EvFilter) (x2 : Nat) (x3 : List (Nat × Nat)) (t : Time) (s : State) :
    subscribeStatus x0 x1 x2 x3 (advance t s) = subscribeStatus x0 x1 x2 x3 s := (rfl)

@[simp] theorem subsysOf_advance (x0 : Src) (t : Time) (s : State) :
    subsysOf x0 (advance t s) = subsysOf x0 s := (rfl)

@[simp] theorem svcServes_advance (x0 : ConnInfo) (t : Time) (s : State) :
    svcServes x0 (advance t s) = svcServes x0 s := (rfl)

@[simp] theorem svcV4_advance (x0 : Nat) (t : Time) (s : State) :
    svcV4 x0 (advance t s) = svcV4 x0 s := (rfl)

@[simp] theorem svcVlan_advance (x0 : Nat) (t : Time) (s : State) :
    svcVlan x0 (advance t s) = svcVlan x0 s := (rfl)

@[simp] theorem svcsOf_advance (x0 : Nat) (t : Time) (s : State) :
    svcsOf x0 (advance t s) = svcsOf x0 s := (rfl)

@[simp] theorem synAckOf_advance (x0 : ConnInfo) (t : Time) (s : State) :
    synAckOf x0 (advance t s) = synAckOf x0 s := (rfl)

@[simp] theorem systemPages_advance (x0 : Nat) (x1 : Nat) (x2 : Tbl Band) (t : Time) (s : State) :
    systemPages x0 x1 x2 (advance t s) = systemPages x0 x1 x2 s := (rfl)

@[simp] theorem tagBytes_advance (x0 : Nat) (t : Time) (s : State) :
    tagBytes x0 (advance t s) = tagBytes x0 s := (rfl)

@[simp] theorem takesRecords_advance (t : Time) (s : State) :
    takesRecords (advance t s) = takesRecords s := (rfl)

@[simp] theorem talonSize_advance (x0 : Car) (t : Time) (s : State) :
    talonSize x0 (advance t s) = talonSize x0 s := (rfl)

@[simp] theorem targetWidth_advance (x0 : Job) (t : Time) (s : State) :
    targetWidth x0 (advance t s) = targetWidth x0 s := (rfl)

@[simp] theorem tcpNew_advance (x0 : Nat) (x1 : Nat) (x2 : Nat) (t : Time) (s : State) :
    tcpNew x0 x1 x2 (advance t s) = tcpNew x0 x1 x2 s := (rfl)

@[simp] theorem testRuns_advance (t : Time) (s : State) :
    testRuns (advance t s) = testRuns s := (rfl)

@[simp] theorem testable_advance (x0 : Nat) (x1 : Nat) (t : Time) (s : State) :
    testable x0 x1 (advance t s) = testable x0 x1 s := (rfl)

@[simp] theorem testing_advance (x0 : Nat) (x1 : Nat) (t : Time) (s : State) :
    testing x0 x1 (advance t s) = testing x0 x1 s := (rfl)

@[simp] theorem tierOf_advance (x1 : Nat) (t : Time) (s : State) :
    tierOf (advance t s) x1 = tierOf s x1 := (rfl)

@[simp] theorem transmits_advance (t : Time) (s : State) :
    transmits (advance t s) = transmits s := (rfl)

@[simp] theorem unsent_advance (t : Time) (s : State) :
    unsent (advance t s) = unsent s := (rfl)

@[simp] theorem victimCost_advance (x0 : Nat) (x1 : Band) (t : Time) (s : State) :
    victimCost x0 x1 (advance t s) = victimCost x0 x1 s := (rfl)

@[simp] theorem victimKey_advance (x0 : Nat) (x1 : Band) (t : Time) (s : State) :
    victimKey x0 x1 (advance t s) = victimKey x0 x1 s := (rfl)

@[simp] theorem victimProceeds_advance (x1 : Nat × Band) (t : Time) (s : State) :
    victimProceeds (advance t s) x1 = victimProceeds s x1 := (rfl)

@[simp] theorem vlanOk_advance (x0 : Nat) (x1 : EthFrame) (t : Time) (s : State) :
    vlanOk x0 x1 (advance t s) = vlanOk x0 x1 s := (rfl)

@[simp] theorem voqAt_advance (x0 : Nat) (t : Time) (s : State) :
    voqAt x0 (advance t s) = voqAt x0 s := (rfl)

@[simp] theorem waitingSlots_advance (x0 : Nat) (t : Time) (s : State) :
    waitingSlots x0 (advance t s) = waitingSlots x0 s := (rfl)

@[simp] theorem wholeLbs_advance (x0 : Nat) (x1 : Nat) (x2 : Nat) (t : Time) (s : State) :
    wholeLbs x0 x1 x2 (advance t s) = wholeLbs x0 x1 x2 s := (rfl)

@[simp] theorem widening_advance (t : Time) (s : State) :
    widening (advance t s) = widening s := (rfl)

@[simp] theorem wideningTurn_advance (x0 : Nat) (t : Time) (s : State) :
    wideningTurn x0 (advance t s) = wideningTurn x0 s := (rfl)

@[simp] theorem widthNow_advance (t : Time) (s : State) :
    widthNow (advance t s) = widthNow s := (rfl)

@[simp] theorem windowOpen_advance (x0 : Conn) (x1 : TxFrame) (t : Time) (s : State) :
    windowOpen x0 x1 (advance t s) = windowOpen x0 x1 s := (rfl)

@[simp] theorem xlatVal_advance (x0 : Nat) (t : Time) (s : State) :
    xlatVal x0 (advance t s) = xlatVal x0 s := (rfl)

@[simp] theorem xtsCluster_advance (t : Time) (s : State) :
    xtsCluster (advance t s) = xtsCluster s := (rfl)

end Sys2Proof.Machine
end

