-- ==== Sys2Proof/Laws/Elements.lean ====
section
/-! SUPPORT. Reading one port, bay, carrier, connection, command or controller after changing one. -/

namespace Sys2Proof.Machine

@[simp] theorem portOf_onPort_self {p : Nat} (f : PortSt → PortSt) (s : State) (h : p < 32) :
    portOf (onPort p f s) p = f (portOf s p) := by
  simp only [portOf, onPort, State.onNet_net, atNat_updNat_self]
  rw [atNat_of_lt _ h]; rfl

@[simp] theorem portOf_onPort_ne {p q : Nat} (f : PortSt → PortSt) (s : State) (h : q ≠ p) :
    portOf (onPort p f s) q = portOf s q := by
  simp [portOf, onPort, h]

@[simp] theorem bayOf_onBay_self {b : Nat} (f : BaySt → BaySt) (s : State) (h : b < 24) :
    bayOf (onBay b f s) b = f (bayOf s b) := by
  simp only [bayOf, onBay, State.onBays_bays, atNat_updNat_self]
  rw [atNat_of_lt _ h]; rfl

@[simp] theorem bayOf_onBay_ne {b c : Nat} (f : BaySt → BaySt) (s : State) (h : c ≠ b) :
    bayOf (onBay b f s) c = bayOf s c := by
  simp [bayOf, onBay, h]

@[simp] theorem carOf_onCar_self {b : Nat} (f : Car → Car) (s : State) (h : b < 24) :
    carOf (onCar b f s) b = f (carOf s b) := by
  simp only [carOf, onCar, State.onMedia_media, atNat_updNat_self]
  rw [atNat_of_lt _ h]; rfl

@[simp] theorem carOf_onCar_ne {b c : Nat} (f : Car → Car) (s : State) (h : c ≠ b) :
    carOf (onCar b f s) c = carOf s c := by
  simp [carOf, onCar, h]

@[simp] theorem connOf_onConn (k j : Nat) (f : Conn → Conn) (s : State) :
    connOf (onConn k f s) j = if j = k then (connOf s j).map f else connOf s j := by
  simp [connOf, onConn]

@[simp] theorem cmdOf_onCommand (k j : Nat) (f : Cmd → Cmd) (s : State) :
    cmdOf (onCommand k f s) j = if j = k then (cmdOf s j).map f else cmdOf s j := by
  simp [cmdOf, onCommand]

/-- What is read of one element depends on its part of the state only. -/
theorem portOf_of {s u : State} (h : u.net = s.net) (p : Nat) : portOf u p = portOf s p := by
  simp [portOf, h]
theorem bayOf_of {s u : State} (h : u.bays = s.bays) (b : Nat) : bayOf u b = bayOf s b := by
  simp [bayOf, h]
theorem carOf_of {s u : State} (h : u.media = s.media) (c : Nat) : carOf u c = carOf s c := by
  simp [carOf, h]
theorem connOf_of {s u : State} (h : u.conns = s.conns) (k : Nat) : connOf u k = connOf s k := by
  simp [connOf, h]
theorem cmdOf_of {s u : State} (h : u.cmd = s.cmd) (k : Nat) : cmdOf u k = cmdOf s k := by
  simp [cmdOf, h]
theorem dval_of {s u : State} (h : u.dict = s.dict) (i b r : Nat) : dval i b r u = dval i b r s := by
  simp [dval, h]

section
variable (t : Time) (s x : State)
@[simp] theorem portOf_finish (p : Nat) : portOf (finish t s x) p = portOf x p := portOf_of (by simp) p
@[simp] theorem bayOf_finish (b : Nat) : bayOf (finish t s x) b = bayOf x b := bayOf_of (by simp) b
@[simp] theorem carOf_finish (c : Nat) : carOf (finish t s x) c = carOf x c := carOf_of (by simp) c
@[simp] theorem connOf_finish (k : Nat) : connOf (finish t s x) k = connOf x k := connOf_of (by simp) k
@[simp] theorem cmdOf_finish (k : Nat) : cmdOf (finish t s x) k = cmdOf x k := cmdOf_of (by simp) k
@[simp] theorem dval_finish (i b r : Nat) : dval i b r (finish t s x) = dval i b r x := dval_of (by simp) i b r
end

end Sys2Proof.Machine
end

