-- ==== Sys2Proof/Laws/FrameOperands.lean ====
section
/-! SUPPORT. What each operation of Operands.lean leaves unchanged, part by part. -/

namespace Sys2Proof.Machine

set_option linter.all false

@[simp] theorem putSel_frame (sess : Nat) (idx : Nat) (v : Nat) (s : State) {p : Field} (t : State)
    (hp : p ∉ [.mgmt]) : Same p (putSel sess idx v s) t ↔ Same p s t := by
  simp at hp
  simp [hp, putSel]

@[simp] theorem putValue_frame (c : WCtx) (s : State) {p : Field} (t : State) (hp : p ∉ [.mgmt, .dict, .pair]) :
    Same p (putValue c s) t ↔ Same p s t := by
  simp at hp
  simp [hp, putValue]

@[simp] theorem writeStore_frame (s : State) {p : Field} (t : State) (hp : p ∉ [.mgmt]) : Same p (writeStore s) t
    ↔ Same p s t := by
  simp at hp
  simp [hp, writeStore]

@[simp] theorem storedChange_frame (idx : Nat) (sub : Nat) (count : Nat) (s : State) {p : Field} (t : State)
    (hp : p ∉ [.mgmt]) : Same p (storedChange idx sub count s) t ↔ Same p s t := by
  simp at hp
  simp [hp, storedChange]

@[simp] theorem storeOne_frame (c : WCtx) (s : State) {p : Field} (t : State) (hp : p ∉ [.mgmt, .dict, .pair]) :
    Same p (storeOne c s) t ↔ Same p s t := by
  simp at hp
  simp [hp, storeOne]

@[simp] theorem sendReply_frame (sess : Nat) (trans : Nat) (r : Resp) (s : State) {p : Field} (t : State)
    (hp : p ∉ [.out, .pair, .attach]) : Same p (sendReply sess trans r s) t ↔ Same p s t := by
  simp at hp
  simp [hp, sendReply]

@[simp] theorem reply_frame (sess : Nat) (trans : Nat) (req : Req) (r : Resp) (s : State) {p : Field} (t : State)
    (hp : p ∉ [.out, .mgmt, .pair, .attach]) : Same p (reply sess trans req r s) t ↔ Same p s t := by
  simp at hp
  simp [hp, reply]

@[simp] theorem withSession_same (sess : Nat) (k : Session → State → State) (s : State) {p : Field} (t : State)
    (hp : p ∉ [.mgmt]) (hk : ∀ x s, Same p (k x s) t ↔ Same p s t) : Same p (withSession sess k s) t ↔
    Same p s t := by
  simp at hp
  simp only [withSession]; (repeat' split) <;> simp [hp, hk]

@[simp] theorem forwardAs_frame (sess : Nat) (trans : Nat) (x : Session) (held : Req) (sent : Req) (s : State)
    {p : Field} (t : State) (hp : p ∉ [.out, .mgmt, .pair]) : Same p (forwardAs sess trans x held sent s) t ↔
    Same p s t := by
  simp at hp
  simp [hp, forwardAs]

@[simp] theorem forward_frame (sess : Nat) (trans : Nat) (x : Session) (req : Req) (s : State) {p : Field}
    (t : State) (hp : p ∉ [.out, .mgmt, .pair]) : Same p (forward sess trans x req s) t ↔ Same p s t := by
  simp at hp
  simp [hp, forward]

@[simp] theorem writeWhen_same (waits : Bool) (idx : Nat) (own : WCtx → State → EpStatus)
    (act : WCtx → State → State) (w : Write) (s : State) {p : Field} (t : State)
    (hp : p ∉ [.out, .mgmt, .pair, .attach]) (hk : ∀ c s, Same p (act c s) t ↔ Same p s t) :
    Same p (writeWhen waits idx own act w s) t ↔ Same p s t := by
  simp at hp
  unfold writeWhen; refine withSession_same _ _ _ _ (by simp [hp]) fun x s => ?_; dsimp only; (repeat' split) <;> simp [hp, hk]

@[simp] theorem writeObject_same (idx : Nat) (own : WCtx → State → EpStatus) (act : WCtx → State → State)
    (w : Write) (s : State) {p : Field} (t : State) (hp : p ∉ [.out, .mgmt, .pair, .attach])
    (hk : ∀ c s, Same p (act c s) t ↔ Same p s t) : Same p (writeObject idx own act w s) t ↔ Same p s t := by
  simp at hp
  simp [hp, writeObject, hk]

@[simp] theorem writeLater_same (idx : Nat) (own : WCtx → State → EpStatus) (act : WCtx → State → State)
    (w : Write) (s : State) {p : Field} (t : State) (hp : p ∉ [.out, .mgmt, .pair, .attach])
    (hk : ∀ c s, Same p (act c s) t ↔ Same p s t) : Same p (writeLater idx own act w s) t ↔ Same p s t := by
  simp at hp
  unfold writeLater; refine withSession_same _ _ _ _ (by simp [hp]) fun x s => ?_; dsimp only; (repeat' split) <;> simp [hp, hk]

end Sys2Proof.Machine
end

