-- ==== Sys2Proof/Laws/FrameMaps.lean ====
section
/-! SUPPORT. What each operation of Maps.lean leaves unchanged, part by part. -/

namespace Sys2Proof.Machine

set_option linter.all false

@[simp] theorem putLb_frame (lb : Nat) (e : LbEntry) (s : State) {p : Field} (t : State) (hp : p ∉ [.xlat]) :
    Same p (putLb lb e s) t ↔ Same p s t := by
  simp at hp
  simp [hp, putLb]

@[simp] theorem putBand_frame (b : Nat) (e : Option Band) (s : State) {p : Field} (t : State) (hp : p ∉ [.xlat])
    : Same p (putBand b e s) t ↔ Same p s t := by
  simp at hp
  simp [hp, putBand]

@[simp] theorem setLb_frame (lb : Nat) (e : LbEntry) (s : State) {p : Field} (t : State)
    (hp : p ∉ [.mgmt, .xlat, .pair]) : Same p (setLb lb e s) t ↔ Same p s t := by
  simp at hp
  simp [hp, setLb]

@[simp] theorem setBand_frame (b : Nat) (e : Option Band) (s : State) {p : Field} (t : State)
    (hp : p ∉ [.mgmt, .xlat, .pair]) : Same p (setBand b e s) t ↔ Same p s t := by
  simp at hp
  simp [hp, setBand]

@[simp] theorem onBand_frame (b : Nat) (f : Band → Band) (s : State) {p : Field} (t : State)
    (hp : p ∉ [.mgmt, .xlat, .pair]) : Same p (onBand b f s) t ↔ Same p s t := by
  simp at hp
  simp only [onBand]; (repeat' split) <;> simp [hp]

@[simp] theorem onBandLocal_frame (b : Nat) (f : Band → Band) (s : State) {p : Field} (t : State)
    (hp : p ∉ [.xlat]) : Same p (onBandLocal b f s) t ↔ Same p s t := by
  simp at hp
  simp [hp, onBandLocal]

@[simp] theorem syncRuns_frame (lb : Nat) (s : State) {p : Field} (t : State) (hp : p ∉ [.xlat]) : Same p
    (syncRuns lb s) t ↔ Same p s t := by
  simp at hp
  simp [hp, syncRuns]

@[simp] theorem putRun_frame (r : Run) (s : State) {p : Field} (t : State) (hp : p ∉ [.xlat]) : Same p
    (putRun r s) t ↔ Same p s t := by
  simp at hp
  simp [hp, putRun]

@[simp] theorem addRun_frame (r : Run) (s : State) {p : Field} (t : State) (hp : p ∉ [.mgmt, .xlat, .pair]) :
    Same p (addRun r s) t ↔ Same p s t := by
  simp at hp
  simp [hp, addRun]

@[simp] theorem putDropRuns_frame (lb : Nat) (e : BitVec 24) (s : State) {p : Field} (t : State)
    (hp : p ∉ [.xlat]) : Same p (putDropRuns lb e s) t ↔ Same p s t := by
  simp at hp
  simp [hp, putDropRuns]

@[simp] theorem dropRuns_frame (lb : Nat) (e : BitVec 24) (s : State) {p : Field} (t : State)
    (hp : p ∉ [.mgmt, .xlat, .pair]) : Same p (dropRuns lb e s) t ↔ Same p s t := by
  simp at hp
  simp [hp, dropRuns]

@[simp] theorem coverLost_frame (ns : Nat) (a : Nat) (n : Nat) (s : State) {p : Field} (t : State)
    (hp : p ∉ [.xlat]) : Same p (coverLost ns a n s) t ↔ Same p s t := by
  simp at hp
  simp only [coverLost]; (repeat' split) <;> simp [hp]

@[simp] theorem reapSlots_frame (s : State) {p : Field} (t : State) (hp : p ∉ [.xlat]) : Same p (reapSlots s) t ↔
    Same p s t := by
  simp at hp
  simp [hp, reapSlots]

@[simp] theorem supersede_frame (cy : Nat) (ns : Nat) (a : Nat) (n : Nat) (s : State) {p : Field} (t : State)
    (hp : p ∉ [.xlat]) : Same p (supersede cy ns a n s) t ↔ Same p s t := by
  simp at hp
  simp [hp, supersede]

@[simp] theorem nextSlot_frame (s : State) {p : Field} (t : State) (hp : p ∉ [.xlat]) : Same p (nextSlot s).2 t ↔
    Same p s t := by
  simp at hp
  simp only [nextSlot]; (repeat' split) <;> simp [hp]

@[simp] theorem putSlot_frame (k : Nat) (x : Slot) (s : State) {p : Field} (t : State) (hp : p ∉ [.mgmt, .xlat])
    : Same p (putSlot k x s) t ↔ Same p s t := by
  simp at hp
  simp [hp, putSlot]

@[simp] theorem dropRef_frame (id : Nat) (s : State) {p : Field} (t : State)
    (hp : p ∉ [.mode, .mgmt, .pools, .pot]) : Same p (dropRef id s) t ↔ Same p s t := by
  simp at hp
  simp only [dropRef]; (repeat' split) <;> simp [hp]

@[simp] theorem unindex_frame (id : Nat) (s : State) {p : Field} (t : State)
    (hp : p ∉ [.mode, .mgmt, .pools, .pot]) : Same p (unindex id s) t ↔ Same p s t := by
  simp at hp
  simp [hp, unindex]

@[simp] theorem invalidate_frame (ns : Nat) (a : Nat) (n : Nat) (s : State) {p : Field} (t : State)
    (hp : p ∉ [.mode, .mgmt, .pools, .pot]) : Same p (invalidate ns a n s) t ↔ Same p s t := by
  simp at hp
  simp [hp, invalidate]

@[simp] theorem placeSector_frame (ns : Nat) (a : Nat) (cycle : Nat) (conn : Nat) (cid : Nat) (data : Bytes)
    (s : State) {p : Field} (t : State) (hp : p ∉ [.mode, .mgmt, .pools, .pot, .xlat]) : Same p
    (placeSector ns a cycle conn cid data s).2 t ↔ Same p s t := by
  simp at hp
  simp [hp, placeSector]

@[simp] theorem placeZeros_frame (ns : Nat) (a : Nat) (n : Nat) (cycle : Nat) (conn : Nat) (cid : Nat)
    (s : State) {p : Field} (t : State) (hp : p ∉ [.mode, .mgmt, .pools, .pot, .xlat]) : Same p
    (placeZeros ns a n cycle conn cid s) t ↔ Same p s t := by
  simp at hp
  simp [hp, placeZeros]

@[simp] theorem recordTalon_frame (c : Nat) (s : State) {p : Field} (t : State) (hp : p ∉ [.mgmt, .pair]) : Same
    p (recordTalon c s) t ↔ Same p s t := by
  simp at hp
  simp [hp, recordTalon]

@[simp] theorem replaceBit_frame (c : Nat) (k : Nat) (s : State) {p : Field} (t : State)
    (hp : p ∉ [.mgmt, .media]) : Same p (replaceBit c k s) t ↔ Same p s t := by
  simp at hp
  simp [hp, replaceBit]

@[simp] theorem otherCarrier_frame (c : Nat) (s : State) {p : Field} (t : State) (hp : p ∉ [.media, .repair]) :
    Same p (otherCarrier c s) t ↔ Same p s t := by
  simp at hp
  simp [hp, otherCarrier]

@[simp] theorem carrierTriggers_frame (c : Nat) (s : State) {p : Field} (t : State) (hp : p ∉ [.mgmt, .media]) :
    Same p (carrierTriggers c s) t ↔ Same p s t := by
  simp at hp
  simp [hp, carrierTriggers]

@[simp] theorem checkFree_frame (s : State) {p : Field} (t : State) (hp : p ∉ [.mgmt, .xlat]) : Same p
    (checkFree s) t ↔ Same p s t := by
  simp at hp
  simp [hp, checkFree]

@[simp] theorem onFree_frame (c : Nat) (f : Car → Car) (s : State) {p : Field} (t : State)
    (hp : p ∉ [.mgmt, .xlat, .media]) : Same p (onFree c f s) t ↔ Same p s t := by
  simp at hp
  simp [hp, onFree]

@[simp] theorem retireBook_frame (c : Nat) (eu : Nat) (s : State) {p : Field} (t : State)
    (hp : p ∉ [.mgmt, .xlat, .media]) : Same p (retireBook c eu s) t ↔ Same p s t := by
  simp at hp
  simp [hp, retireBook]

@[simp] theorem retireEu_frame (c : Nat) (eu : Nat) (s : State) {p : Field} (t : State)
    (hp : p ∉ [.mgmt, .xlat, .media, .pair]) : Same p (retireEu c eu s) t ↔ Same p s t := by
  simp at hp
  simp [hp, retireEu]

@[simp] theorem freeEu_frame (c : Nat) (eu : Nat) (s : State) {p : Field} (t : State)
    (hp : p ∉ [.mgmt, .xlat, .media, .pair]) : Same p (freeEu c eu s) t ↔ Same p s t := by
  simp at hp
  simp [hp, freeEu]

theorem takeEu_frame {c e : Nat} {s t : State} (h : takeEu c s = some (e, t)) {p : Field} (u : State)
    (hp : p ∉ [.mgmt, .xlat, .media, .pair]) : Same p t u ↔ Same p s u := by
  simp at hp
  unfold takeEu at h; dsimp only at h; (repeat' split at h) <;> cases h <;> simp [hp]

theorem takeTalon_frame {c e : Nat} {s t : State} (h : takeTalon c s = some (e, t)) {p : Field} (u : State)
    (hp : p ∉ [.mgmt, .xlat, .media]) : Same p t u ↔ Same p s u := by
  simp at hp
  unfold takeTalon at h; dsimp only at h; (repeat' split at h) <;> cases h <;> simp [hp]

@[simp] theorem addWear_frame (c : Nat) (eu : Nat) (s : State) {p : Field} (t : State)
    (hp : p ∉ [.mgmt, .media, .pair]) : Same p (addWear c eu s) t ↔ Same p s t := by
  simp at hp
  simp [hp, addWear]

@[simp] theorem takeEus_frame (a0 : List Nat) (a1 : State) {p : Field} (t : State)
    (hp : p ∉ [.mgmt, .xlat, .media, .pair]) : Same p (takeEus a0 a1).2 t ↔ Same p a1 t := by
  simp at hp
  induction a0 generalizing a1 with
  | nil => simp [hp, takeEus]
  | cons c l ih =>
    simp only [takeEus]; split
    · rename_i h; simp [hp, ih, takeEu_frame h]
    · simp [hp, ih]

@[simp] theorem checkStage_frame (s : State) {p : Field} (t : State) (hp : p ∉ [.mgmt, .xlat]) : Same p
    (checkStage s) t ↔ Same p s t := by
  simp at hp
  simp [hp, checkStage]

@[simp] theorem putJournal_frame (l : Tbl Band) (s : State) {p : Field} (t : State) (hp : p ∉ [.xlat]) : Same p
    (putJournal l s) t ↔ Same p s t := by
  simp at hp
  simp [hp, putJournal]

@[simp] theorem journalEntered_frame (b : Nat) (e : Band) (s : State) {p : Field} (t : State)
    (hp : p ∉ [.xlat, .media]) : Same p (journalEntered b e s) t ↔ Same p s t := by
  simp at hp
  simp [hp, journalEntered]

@[simp] theorem journalAdd_frame (b : Nat) (e : Band) (s : State) {p : Field} (t : State)
    (hp : p ∉ [.mgmt, .xlat, .media, .pair]) : Same p (journalAdd b e s) t ↔ Same p s t := by
  simp at hp
  simp [hp, journalAdd]

@[simp] theorem journalDel_frame (b : Nat) (s : State) {p : Field} (t : State) (hp : p ∉ [.mgmt, .xlat, .pair]) :
    Same p (journalDel b s) t ↔ Same p s t := by
  simp at hp
  simp [hp, journalDel]

@[simp] theorem rebuildComplete_frame (s : State) {p : Field} (t : State) (hp : p ∉ [.mgmt]) : Same p
    (rebuildComplete s) t ↔ Same p s t := by
  simp at hp
  simp [hp, rebuildComplete]

@[simp] theorem resyncComplete_frame (s : State) {p : Field} (t : State) (hp : p ∉ [.mgmt, .xlat]) : Same p
    (resyncComplete s) t ↔ Same p s t := by
  simp at hp
  simp [hp, resyncComplete]

@[simp] theorem endJob_frame (id : Nat) (s : State) {p : Field} (t : State) (hp : p ∉ [.pools, .xlat]) : Same p
    (endJob id s) t ↔ Same p s t := by
  simp at hp
  simp only [endJob]; (repeat' split) <;> simp [hp]

@[simp] theorem dropBandJobs_frame (b : Nat) (s : State) {p : Field} (t : State)
    (hp : p ∉ [.mgmt, .pools, .xlat, .media, .pair]) : Same p (dropBandJobs b s) t ↔ Same p s t := by
  simp at hp
  unfold dropBandJobs; refine each_same _ _ _ _ fun a u => ?_; dsimp only; (repeat' split) <;> simp [hp]

@[simp] theorem releaseBand_frame (b : Nat) (s : State) {p : Field} (t : State)
    (hp : p ∉ [.mgmt, .pools, .xlat, .media, .pair]) : Same p (releaseBand b s) t ↔ Same p s t := by
  simp at hp
  simp only [releaseBand]; (repeat' split) <;> simp (maxDischargeDepth := 9) [hp]

@[simp] theorem markRelease_frame (b : Nat) (s : State) {p : Field} (t : State) (hp : p ∉ [.mgmt, .xlat, .pair])
    : Same p (markRelease b s) t ↔ Same p s t := by
  simp at hp
  simp only [markRelease]; (repeat' split) <;> simp [hp]

@[simp] theorem releaseWhenFree_frame (b : Nat) (s : State) {p : Field} (t : State)
    (hp : p ∉ [.mgmt, .pools, .xlat, .media, .pair]) : Same p (releaseWhenFree b s) t ↔ Same p s t := by
  simp at hp
  simp only [releaseWhenFree]; (repeat' split) <;> simp [hp]

@[simp] theorem releaseSources_frame (s : State) {p : Field} (t : State) (hp : p ∉ [.mgmt, .xlat, .media, .pair])
    : Same p (releaseSources s) t ↔ Same p s t := by
  simp at hp
  simp [hp, releaseSources]

@[simp] theorem abandonMerge_frame (lb : Nat) (own : List Nat) (s : State) {p : Field} (t : State)
    (hp : p ∉ [.mgmt, .pools, .xlat, .pair]) : Same p (abandonMerge lb own s) t ↔ Same p s t := by
  simp at hp
  simp (maxDischargeDepth := 9) [hp, abandonMerge]

@[simp] theorem discardLb_frame (lb : Nat) (s : State) {p : Field} (t : State)
    (hp : p ∉ [.mode, .mgmt, .pools, .pot, .xlat, .pair]) : Same p (discardLb lb s) t ↔ Same p s t := by
  simp at hp
  simp only [discardLb]; (repeat' split) <;> simp [hp]

end Sys2Proof.Machine
end

