-- ==== Sys2Proof/Laws/FrameCipherUnits.lean ====
section
/-! SUPPORT. What each operation of CipherUnits.lean leaves unchanged, part by part. -/

namespace Sys2Proof.Machine

set_option linter.all false

@[simp] theorem startUnitOn_frame (cluster : Nat) (op : UnitOp) (ns : Nat) (lba : Nat) (input : Bytes)
    (oldKey : Bool) (s : State) {p : Field} (t : State) (hp : p ∉ [.cipher]) : Same p
    (startUnitOn cluster op ns lba input oldKey s) t ↔ Same p s t := by
  simp at hp
  simp only [startUnitOn]; (repeat' split) <;> simp [hp]

@[simp] theorem startXts_frame (op : UnitOp) (ns : Nat) (lba : Nat) (input : Bytes) (oldKey : Bool) (s : State)
    {p : Field} (t : State) (hp : p ∉ [.cipher]) : Same p (startXts op ns lba input oldKey s) t ↔ Same p s t :=
    by
  simp at hp
  simp only [startXts]; (repeat' split) <;> simp [hp]

@[simp] theorem touchContext_frame (conn : Nat) (s : State) {p : Field} (t : State) (hp : p ∉ [.mgmt, .cipher]) :
    Same p (touchContext conn s) t ↔ Same p s t := by
  simp at hp
  simp only [touchContext]; (repeat' split) <;> simp [hp]

@[simp] theorem dropContext_frame (conn : Nat) (s : State) {p : Field} (t : State) (hp : p ∉ [.cipher]) : Same p
    (dropContext conn s) t ↔ Same p s t := by
  simp at hp
  simp [hp, dropContext]

end Sys2Proof.Machine
end

