-- ==== Sys2Proof/Laws/FrameMediaQueue.lean ====
section
/-! SUPPORT. What each operation of MediaQueue.lean leaves unchanged, part by part. -/

namespace Sys2Proof.Machine

set_option linter.all false

@[simp] theorem queueMedia_frame (c : Nat) (m : MediaCmd) (s : State) {p : Field} (t : State)
    (hp : p ∉ [.xlat, .media]) : Same p (queueMedia c m s) t ↔ Same p s t := by
  simp at hp
  simp only [queueMedia]; (repeat' split) <;> simp [hp]

@[simp] theorem adminEmit_frame (c : Nat) (op : CarOp) (level : Nat) (expected : BitVec 64) (new : BitVec 64)
    (s : State) {p : Field} (t : State) (hp : p ∉ [.out, .media]) : Same p (adminEmit c op level expected new s)
    t ↔ Same p s t := by
  simp at hp
  simp [hp, adminEmit]

@[simp] theorem adminRequest_frame (c : Nat) (q : CarOp × Nat × BitVec 64 × BitVec 64) (s : State) {p : Field}
    (t : State) (hp : p ∉ [.out, .mgmt, .pools, .media]) : Same p (adminRequest c q s).2 t ↔ Same p s t := by
  simp at hp
  simp only [adminRequest]; (repeat' split) <;> simp [hp]

@[simp] theorem adminCmd_frame (c : Nat) (op : CarOp) (level : Nat) (expected : BitVec 64) (new : BitVec 64)
    (s : State) {p : Field} (t : State) (hp : p ∉ [.out, .mgmt, .pools, .media]) : Same p
    (adminCmd c op level expected new s) t ↔ Same p s t := by
  simp at hp
  simp only [adminCmd]; (repeat' split) <;> simp [hp]

@[simp] theorem adminRetry_frame (c : Nat) (a1 : Nat) (a2 : State) {p : Field} (t : State)
    (hp : p ∉ [.out, .mgmt, .pools, .media]) : Same p (adminRetry c a1 a2) t ↔ Same p a2 t := by
  simp at hp
  induction a1 generalizing a2 with
  | zero => simp [adminRetry]
  | succ n ih => unfold adminRetry; (repeat' split) <;> simp [hp, ih]

@[simp] theorem adminRetryAll_frame (s : State) {p : Field} (t : State) (hp : p ∉ [.out, .mgmt, .pools, .media])
    : Same p (adminRetryAll s) t ↔ Same p s t := by
  simp at hp
  simp [hp, adminRetryAll]

@[simp] theorem adminDone_frame (c : Nat) (s : State) {p : Field} (t : State)
    (hp : p ∉ [.out, .mgmt, .pools, .media]) : Same p (adminDone c s) t ↔ Same p s t := by
  simp at hp
  simp [hp, adminDone]

@[simp] theorem adminDrop_frame (c : Nat) (s : State) {p : Field} (t : State) (hp : p ∉ [.pools, .media]) : Same
    p (adminDrop c s) t ↔ Same p s t := by
  simp at hp
  simp [hp, adminDrop]

@[simp] theorem issueMedia_frame (b : Nat) (i : Nat) (m : MediaCmd) (s : State) {p : Field} (t : State)
    (hp : p ∉ [.out, .mgmt, .media]) : Same p (issueMedia b i m s) t ↔ Same p s t := by
  simp at hp
  simp [hp, issueMedia]

@[simp] theorem serveTier_frame (b : Nat) (tier : Nat) (ready : List Nat) (s : State) {p : Field} (t : State)
    (hp : p ∉ [.out, .mgmt, .media]) : Same p (serveTier b tier ready s) t ↔ Same p s t := by
  simp at hp
  simp only [serveTier]; (repeat' split) <;> simp [hp]

@[simp] theorem selectMedia_frame (b : Nat) (s : State) {p : Field} (t : State) (hp : p ∉ [.out, .mgmt, .media])
    : Same p (selectMedia b s) t ↔ Same p s t := by
  simp at hp
  simp only [selectMedia]; (repeat' split) <;> simp [hp]

@[simp] theorem prepareEu_frame (c : Nat) (eu : Nat) (slc : Bool) (queue : Nat) (band : Nat) (s : State)
    {p : Field} (t : State) (hp : p ∉ [.xlat, .media]) : Same p (prepareEu c eu slc queue band s) t ↔ Same p s t
    := by
  simp at hp
  simp [hp, prepareEu]

@[simp] theorem writeSystem_frame (c : Nat) (band : Nat) (add : Tbl Band) (all : Bool) (s : State) {p : Field}
    (t : State) (hp : p ∉ [.xlat, .media]) : Same p (writeSystem c band add all s) t ↔ Same p s t := by
  simp at hp
  simp only [writeSystem]; (repeat' split) <;> simp [hp]

@[simp] theorem moveCopies_frame (band : Nat) (s : State) {p : Field} (t : State)
    (hp : p ∉ [.mgmt, .xlat, .media]) : Same p (moveCopies band s) t ↔ Same p s t := by
  simp at hp
  simp (maxDischargeDepth := 9) [hp, moveCopies]

@[simp] theorem writeJournalCopies_frame (band : Nat) (s : State) {p : Field} (t : State)
    (hp : p ∉ [.mgmt, .xlat, .media]) : Same p (writeJournalCopies band s) t ↔ Same p s t := by
  simp at hp
  simp [hp, writeJournalCopies]

@[simp] theorem writeRemovals_frame (s : State) {p : Field} (t : State) (hp : p ∉ [.mgmt, .xlat, .media]) : Same
    p (writeRemovals s) t ↔ Same p s t := by
  simp at hp
  simp [hp, writeRemovals]

@[simp] theorem enterJournal_frame (b : Nat) (s : State) {p : Field} (t : State)
    (hp : p ∉ [.mgmt, .xlat, .media, .pair]) : Same p (enterJournal b s) t ↔ Same p s t := by
  simp at hp
  simp only [enterJournal]; (repeat' split) <;> simp [hp]

@[simp] theorem journalStaging_frame (s : State) {p : Field} (t : State) (hp : p ∉ [.mgmt, .xlat, .media, .pair])
    : Same p (journalStaging s) t ↔ Same p s t := by
  simp at hp
  simp [hp, journalStaging]

@[simp] theorem openBand_frame (kind : BandKind) (ns : Nat) (owner : Nat) (w : Nat) (queue : Nat) (s : State)
    {p : Field} (t : State) (hp : p ∉ [.mgmt, .xlat, .media, .pair]) : Same p
    (openBand kind ns owner w queue s).2 t ↔ Same p s t := by
  simp at hp
  simp only [openBand]; (repeat' split) <;> simp (maxDischargeDepth := 9) [hp]

end Sys2Proof.Machine
end

