-- ==== Sys2Proof/Laws/FrameSending.lean ====
section
/-! SUPPORT. What each operation of Sending.lean leaves unchanged, part by part. -/

namespace Sys2Proof.Machine

set_option linter.all false

@[simp] theorem onFlow_frame (k : Nat) (f : Conn → Conn) (s : State) {p : Field} (t : State)
    (hp : p ∉ [.conns, .egress]) : Same p (onFlow k f s) t ↔ Same p s t := by
  simp at hp
  simp [hp, onFlow]

@[simp] theorem enqueue_same (c : Nat) (f : TxFrame) (s : State) {p : Field} (t : State)
    (hp : p ∉ [.conns, .egress]) : Same p (enqueue c f s) t ↔ Same p s t := by
  simp at hp
  simp [hp, enqueue]

@[simp] theorem ctrlPut_frame (port : Nat) (c : Nat) (h : FrameHdr) (m : HostMsg) (s : State) {p : Field}
    (t : State) (hp : p ∉ [.egress]) : Same p (ctrlPut port c h m s) t ↔ Same p s t := by
  simp at hp
  simp [hp, ctrlPut]

@[simp] theorem ctrlSend_same (port : Nat) (c : Nat) (m : HostMsg) (s : State) {p : Field} (t : State)
    (hp : p ∉ [.egress]) : Same p (ctrlSend port c m s) t ↔ Same p s t := by
  simp at hp
  simp [hp, ctrlSend]

@[simp] theorem planOrQueue_frame (k : Nat) (n : Nat) (x : Conn) (m : HostMsg) (cmd : Nat) (s : State)
    {p : Field} (t : State) (hp : p ∉ [.mgmt, .conns, .egress, .pair]) : Same p (planOrQueue k n x m cmd s) t ↔
    Same p s t := by
  simp at hp
  simp [hp, planOrQueue]

@[simp] theorem sendHost_same (c : Nat) (m : HostMsg) (cmd : Nat) (s : State) {p : Field} (t : State)
    (hp : p ∉ [.mgmt, .conns, .egress, .pair]) : Same p (sendHost c m cmd s) t ↔ Same p s t := by
  simp at hp
  simp only [sendHost]; (repeat' split) <;> simp [hp]

@[simp] theorem lastMessages_frame (k : Nat) (n : Nat) (a2 : List HostMsg) (a3 : State) {p : Field} (t : State)
    (hp : p ∉ [.mgmt, .conns, .egress, .pair]) : Same p (lastMessages k n a2 a3) t ↔ Same p a3 t := by
  simp at hp
  induction a2 generalizing a3 with
  | nil => simp [lastMessages]
  | cons m l ih => unfold lastMessages; (repeat' split) <;> simp [hp, ih]

@[simp] theorem closingDone_frame (n : Nat) (s : State) {p : Field} (t : State) (hp : p ∉ [.egress]) : Same p
    (closingDone n s) t ↔ Same p s t := by
  simp at hp
  simp only [closingDone]; (repeat' split) <;> simp [hp]

@[simp] theorem finalSend_same (k : Nat) (x : Conn) (plans : List Planned) (l : List HostMsg)
    (after : List HostMsg) (s : State) {p : Field} (t : State)
    (hp : p ∉ [.mgmt, .conns, .egress, .cipher, .pair]) : Same p (finalSend k x plans l after s) t ↔ Same p s t
    := by
  simp at hp
  simp [hp, finalSend]

@[simp] theorem portIdle_frame (p : Nat) (s : State) {q : Field} (t : State) (hp : q ∉ [.conns, .egress]) : Same
    q (portIdle p s) t ↔ Same q s t := by
  simp at hp
  simp [hp, portIdle]

end Sys2Proof.Machine
end

