-- ==== Sys2Proof/Laws/FrameFlow.lean ====
section
/-! SUPPORT. What each operation of Flow.lean leaves unchanged, part by part. -/

namespace Sys2Proof.Machine

set_option linter.all false

@[simp] theorem bumpSqhd_frame (conn : Nat) (s : State) {p : Field} (t : State) (hp : p ∉ [.conns]) : Same p
    (bumpSqhd conn s) t ↔ Same p s t := by
  simp at hp
  simp [hp, bumpSqhd]

@[simp] theorem takeHead_frame (conn : Nat) (s : State) {p : Field} (t : State) (hp : p ∉ [.conns]) : Same p
    (takeHead conn s) t ↔ Same p s t := by
  simp at hp
  simp [hp, takeHead]

@[simp] theorem sendCpl_frame (conn : Nat) (cid : Nat) (st : Status) (dw0 : Nat) (inval : Option (BitVec 32))
    (cmd : Nat) (s : State) {p : Field} (t : State) (hp : p ∉ [.mgmt, .conns, .egress, .pair]) : Same p
    (sendCpl conn cid st dw0 inval cmd s) t ↔ Same p s t := by
  simp at hp
  simp [hp, sendCpl]

@[simp] theorem notice_frame (k : Nat) (dw : Nat) (s : State) {p : Field} (t : State)
    (hp : p ∉ [.mgmt, .conns, .cmd, .egress, .pair]) : Same p (notice k dw s) t ↔ Same p s t := by
  simp at hp
  simp only [notice]; (repeat' split) <;> simp [hp]

@[simp] theorem msixSend_frame (v : Nat) (s : State) {p : Field} (t : State) (hp : p ∉ [.out, .attach]) : Same p
    (msixSend v s) t ↔ Same p s t := by
  simp at hp
  simp [hp, msixSend]

@[simp] theorem writeCqe_frame (e : Nat × Nat × Status × Nat) (s : State) {p : Field} (t : State)
    (hp : p ∉ [.out, .attach]) : Same p (writeCqe e s) t ↔ Same p s t := by
  simp at hp
  simp [hp, writeCqe]

@[simp] theorem drainCqes_frame (s : State) {p : Field} (t : State) (hp : p ∉ [.out, .attach]) : Same p
    (drainCqes s) t ↔ Same p s t := by
  simp at hp
  simp [hp, drainCqes]

@[simp] theorem postCqe_frame (q : Nat) (cid : Nat) (st : Status) (dw0 : Nat) (s : State) {p : Field} (t : State)
    (hp : p ∉ [.out, .attach]) : Same p (postCqe q cid st dw0 s) t ↔ Same p s t := by
  simp at hp
  simp [hp, postCqe]

@[simp] theorem attachNotice_frame (dw : Nat) (s : State) {p : Field} (t : State) (hp : p ∉ [.out, .attach]) :
    Same p (attachNotice dw s) t ↔ Same p s t := by
  simp at hp
  simp only [attachNotice]; (repeat' split) <;> simp [hp]

@[simp] theorem attachNsChanged_frame (nsid : Nat) (s : State) {p : Field} (t : State) (hp : p ∉ [.out, .attach])
    : Same p (attachNsChanged nsid s) t ↔ Same p s t := by
  simp at hp
  simp [hp, attachNsChanged]

@[simp] theorem attachAnaChanged_frame (s : State) {p : Field} (t : State) (hp : p ∉ [.out, .attach]) : Same p
    (attachAnaChanged s) t ↔ Same p s t := by
  simp at hp
  simp [hp, attachAnaChanged]

@[simp] theorem namespaceChanged_frame (ns : Nat) (s : State) {p : Field} (t : State)
    (hp : p ∉ [.out, .mgmt, .conns, .cmd, .egress, .pair, .attach]) : Same p (namespaceChanged ns s) t ↔ Same p s
    t := by
  simp at hp
  simp (maxDischargeDepth := 9) [hp, namespaceChanged]

@[simp] theorem discoveryChanged_frame (s : State) {p : Field} (t : State)
    (hp : p ∉ [.mgmt, .conns, .cmd, .egress, .pair]) : Same p (discoveryChanged s) t ↔ Same p s t := by
  simp at hp
  simp [hp, discoveryChanged]

@[simp] theorem setReadOnly_frame (ns : Nat) (cause : Nat) (on : Bool) (s : State) {p : Field} (t : State)
    (hp : p ∉ [.out, .mgmt, .conns, .cmd, .egress, .pair, .attach]) : Same p (setReadOnly ns cause on s) t ↔ Same
    p s t := by
  simp at hp
  simp [hp, setReadOnly]

@[simp] theorem floorCheck_frame (s : State) {p : Field} (t : State)
    (hp : p ∉ [.out, .mgmt, .conns, .cmd, .egress, .media, .pair, .attach]) : Same p (floorCheck s) t ↔ Same p s
    t := by
  simp at hp
  simp [hp, floorCheck]

@[simp] theorem dropGen_frame (g : Nat) (s : State) {p : Field} (t : State) (hp : p ∉ [.attach]) : Same p
    (dropGen g s) t ↔ Same p s t := by
  simp at hp
  simp [hp, dropGen]

@[simp] theorem releaseCmd_frame (id : Nat) (s : State) {p : Field} (t : State)
    (hp : p ∉ [.cmd, .pools, .attach]) : Same p (releaseCmd id s) t ↔ Same p s t := by
  simp at hp
  simp only [releaseCmd]; (repeat' split) <;> simp [hp]

@[simp] theorem logError_frame (src : Src) (cid : Nat) (st : Status) (nsid : Nat) (s : State) {p : Field}
    (t : State) (hp : p ∉ [.cmd, .attach]) : Same p (logError src cid st nsid s) t ↔ Same p s t := by
  simp at hp
  simp only [logError]; (repeat' split) <;> simp [hp]

@[simp] theorem countUnits_frame (c : Cmd) (st : Status) (s : State) {p : Field} (t : State)
    (hp : p ∉ [.cmd, .attach]) : Same p (countUnits c st s) t ↔ Same p s t := by
  simp at hp
  simp only [countUnits]; (repeat' split) <;> simp [hp]

@[simp] theorem sendCompletion_frame (id : Nat) (c : Cmd) (s : State) {p : Field} (t : State)
    (hp : p ∉ [.out, .mgmt, .conns, .egress, .pair, .attach]) : Same p (sendCompletion id c s) t ↔ Same p s t :=
    by
  simp at hp
  simp only [sendCompletion]; (repeat' split) <;> simp [hp]

@[simp] theorem complete_frame (id : Nat) (st : Status) (s : State) {p : Field} (t : State)
    (hp : p ∉ [.out, .mgmt, .conns, .cmd, .pools, .egress, .pair, .attach]) : Same p (complete id st s) t ↔ Same
    p s t := by
  simp at hp
  simp only [complete]; (repeat' split) <;> simp [hp]

@[simp] theorem dropSlotRef_frame (k : Nat) (s : State) {p : Field} (t : State) (hp : p ∉ [.xlat]) : Same p
    (dropSlotRef k s) t ↔ Same p s t := by
  simp at hp
  simp [hp, dropSlotRef]

@[simp] theorem dropBandRef_frame (b : Nat) (s : State) {p : Field} (t : State)
    (hp : p ∉ [.mgmt, .xlat, .media, .pair]) : Same p (dropBandRef b s) t ↔ Same p s t := by
  simp at hp
  simp [hp, dropBandRef]

@[simp] theorem dropReaders_frame (id : Nat) (s : State) {p : Field} (t : State)
    (hp : p ∉ [.mgmt, .pot, .xlat, .media, .pair]) : Same p (dropReaders id s) t ↔ Same p s t := by
  simp at hp
  simp only [dropReaders]; (repeat' split) <;> simp [hp]

@[simp] theorem pourPlanned_frame (k : Nat) (cmd : Nat) (c : Cmd) (old : List Planned) (data : List Bytes)
    (s : State) {p : Field} (t : State) (hp : p ∉ [.out, .mgmt, .conns, .cmd, .pools, .egress, .pair, .attach]) :
    Same p (pourPlanned k cmd c old data s) t ↔ Same p s t := by
  simp at hp
  simp [hp, pourPlanned]

@[simp] theorem pourTo_frame (id : Nat) (data : List Bytes) (cmd : Nat) (s : State) {p : Field} (t : State)
    (hp : p ∉ [.out, .mode, .mgmt, .conns, .cmd, .pools, .pot, .egress, .pair, .attach]) : Same p
    (pourTo id data cmd s) t ↔ Same p s t := by
  simp at hp
  simp only [pourTo]; (repeat' split) <;> simp [hp]

@[simp] theorem fillDone_frame (id : Nat) (s : State) {p : Field} (t : State)
    (hp : p ∉ [.out, .mode, .mgmt, .conns, .cmd, .pools, .pot, .egress, .xlat, .media, .pair, .attach]) : Same p
    (fillDone id s) t ↔ Same p s t := by
  simp at hp
  simp only [fillDone]; (repeat' split) <;> simp [hp]

@[simp] theorem fillFailed_frame (id : Nat) (st : Status) (s : State) {p : Field} (t : State)
    (hp : p ∉ [.out, .mode, .mgmt, .conns, .cmd, .pools, .pot, .egress, .xlat, .media, .pair, .attach]) : Same p
    (fillFailed id st s) t ↔ Same p s t := by
  simp at hp
  simp only [fillFailed]; (repeat' split) <;> simp [hp]

@[simp] theorem fillSector_frame (id : Nat) (i : Nat) (data : Bytes) (s : State) {p : Field} (t : State)
    (hp : p ∉ [.out, .mode, .mgmt, .conns, .cmd, .pools, .pot, .egress, .xlat, .media, .pair, .attach]) : Same p
    (fillSector id i data s) t ↔ Same p s t := by
  simp at hp
  simp only [fillSector]; (repeat' split) <;> simp [hp]

@[simp] theorem readMember_frame (band : Nat) (b : Band) (m : Nat) (t : Nat) (sector : Nat) (count : Nat)
    (queue : Nat) (p : Purpose) (s : State) {q : Field} (u : State) (hp : q ∉ [.xlat, .media]) : Same q
    (readMember band b m t sector count queue p s) u ↔ Same q s u := by
  simp at hp
  simp only [readMember]; (repeat' split) <;> simp [hp]

@[simp] theorem startRecon_frame (band : Nat) (t : Nat) (m : Nat) (sector : Nat) (count : Nat) (queue : Nat)
    (p : Purpose) (check : Bool) (s : State) {q : Field} (u : State) (hp : q ∉ [.mgmt, .pools, .xlat, .media]) :
    Same q (startRecon band t m sector count queue p check s) u ↔ Same q s u := by
  simp at hp
  simp only [startRecon]; (repeat' split) <;> simp [hp]

@[simp] theorem readPage_frame (band : Nat) (t : Nat) (d : Nat) (u : Nat) (count : Nat) (queue : Nat)
    (p : Purpose) (s : State) {pp : Field} (tt : State) (hp : pp ∉ [.mgmt, .pools, .xlat, .media]) : Same pp
    (readPage band t d u count queue p s) tt ↔ Same pp s tt := by
  simp at hp
  simp only [readPage]; (repeat' split) <;> simp [hp]

@[simp] theorem fillResolve_frame (id : Nat) (queue : Nat) (ns : Nat) (lba : Nat) (i : Nat) (s : State)
    {p : Field} (t : State)
    (hp : p ∉ [.out, .mode, .mgmt, .conns, .cmd, .pools, .pot, .egress, .cipher, .xlat, .media, .pair, .attach])
    : Same p (fillResolve id queue ns lba i s) t ↔ Same p s t := by
  simp at hp
  simp only [fillResolve]; (repeat' split) <;> simp [hp]

@[simp] theorem openFill_frame (id : Nat) (c : Cmd) (s : State) {p : Field} (t : State)
    (hp : p ∉ [.out, .mode, .mgmt, .conns, .cmd, .pools, .pot, .egress, .cipher, .xlat, .media, .pair, .attach])
    : Same p (openFill id c s) t ↔ Same p s t := by
  simp at hp
  simp [hp, openFill]

@[simp] theorem potLookup_frame (id : Nat) (again : Bool) (s : State) {p : Field} (t : State)
    (hp : p ∉ [.out, .mode, .mgmt, .conns, .cmd, .pools, .pot, .egress, .cipher, .xlat, .media, .pair, .attach])
    : Same p (potLookup id again s) t ↔ Same p s t := by
  simp at hp
  simp only [potLookup]; (repeat' split) <;> simp [hp]

@[simp] theorem startEncrypt_frame (id : Nat) (s : State) {p : Field} (t : State) (hp : p ∉ [.cmd, .cipher]) :
    Same p (startEncrypt id s) t ↔ Same p s t := by
  simp at hp
  simp only [startEncrypt]; (repeat' split) <;> simp [hp]

@[simp] theorem joinPlacement_frame (id : Nat) (s : State) {p : Field} (t : State)
    (hp : p ∉ [.cmd, .cipher, .xlat]) : Same p (joinPlacement id s) t ↔ Same p s t := by
  simp at hp
  simp [hp, joinPlacement]

@[simp] theorem takeData_frame (id : Nat) (off : Nat) (l : List Bytes) (s : State) {p : Field} (t : State)
    (hp : p ∉ [.cmd, .cipher, .xlat]) : Same p (takeData id off l s) t ↔ Same p s t := by
  simp at hp
  simp only [takeData]; (repeat' split) <;> simp [hp]

@[simp] theorem placeWrite_frame (id : Nat) (s : State) {p : Field} (t : State)
    (hp : p ∉ [.out, .mode, .mgmt, .conns, .cmd, .pools, .pot, .egress, .xlat, .pair, .attach]) : Same p
    (placeWrite id s) t ↔ Same p s t := by
  simp at hp
  simp only [placeWrite]; (repeat' split) <;> simp [hp]

@[simp] theorem placementReserve_frame (s : State) {p : Field} (t : State)
    (hp : p ∉ [.out, .mode, .mgmt, .conns, .cmd, .pools, .pot, .egress, .cipher, .xlat, .pair, .attach]) : Same p
    (placementReserve s) t ↔ Same p s t := by
  simp at hp
  simp only [placementReserve]; (repeat' split) <;> simp [hp]

@[simp] theorem attachFetch_frame (id : Nat) (s : State) {p : Field} (t : State)
    (hp : p ∉ [.out, .mgmt, .attach]) : Same p (attachFetch id s) t ↔ Same p s t := by
  simp at hp
  simp only [attachFetch]; (repeat' split) <;> simp [hp]

@[simp] theorem solicit_frame (id : Nat) (s : State) {p : Field} (t : State)
    (hp : p ∉ [.out, .mgmt, .conns, .cmd, .pools, .egress, .cipher, .xlat, .pair, .attach]) : Same p
    (solicit id s) t ↔ Same p s t := by
  simp at hp
  simp only [solicit]; (repeat' split) <;> simp [hp]

@[simp] theorem solicitHeads_frame (p : Nat) (a1 : Nat) (a2 : State) {q : Field} (t : State)
    (hp : q ∉ [.out, .mgmt, .conns, .cmd, .pools, .egress, .cipher, .xlat, .pair, .attach]) : Same q
    (solicitHeads p a1 a2) t ↔ Same q a2 t := by
  simp at hp
  induction a1 generalizing a2 with
  | zero => simp [hp, solicitHeads]
  | succ n ih => simp only [solicitHeads]; (repeat' split) <;> simp [hp, ih]

@[simp] theorem solicitAll_frame (s : State) {p : Field} (t : State)
    (hp : p ∉ [.out, .mgmt, .conns, .cmd, .pools, .egress, .cipher, .xlat, .pair, .attach]) : Same p
    (solicitAll s) t ↔ Same p s t := by
  simp at hp
  simp [hp, solicitAll]

@[simp] theorem exhaustedAt_frame (id : Nat) (ns : Nat) (s : State) {p : Field} (t : State)
    (hp : p ∉ [.out, .mgmt, .conns, .cmd, .pools, .egress, .media, .pair, .attach]) : Same p
    (exhaustedAt id ns s) t ↔ Same p s t := by
  simp at hp
  simp [hp, exhaustedAt]

@[simp] theorem dispatch_frame (id : Nat) (s : State) {p : Field} (t : State)
    (hp : p ∉ [.out, .mode, .mgmt, .conns, .cmd, .pools, .pot, .egress, .cipher, .xlat, .media, .pair, .attach])
    : Same p (dispatch id s) t ↔ Same p s t := by
  simp at hp
  simp only [dispatch]; (repeat' split) <;> simp (maxDischargeDepth := 9) [hp]

@[simp] theorem tryStart_frame (id : Nat) (s : State) {p : Field} (t : State)
    (hp : p ∉ [.out, .mode, .mgmt, .conns, .cmd, .pools, .pot, .egress, .cipher, .xlat, .media, .pair, .attach])
    : Same p (tryStart id s) t ↔ Same p s t := by
  simp at hp
  simp only [tryStart]; (repeat' split) <;> simp [hp]

@[simp] theorem chargeAdmission_frame (c : Cmd) (cls : AdmClass) (s : State) {p : Field} (t : State)
    (hp : p ∉ [.cmd]) : Same p (chargeAdmission c cls s) t ↔ Same p s t := by
  simp at hp
  simp [hp, chargeAdmission]

@[simp] theorem admitCmd_frame (id : Nat) (s : State) {p : Field} (t : State)
    (hp : p ∉ [.out, .mode, .mgmt, .conns, .cmd, .pools, .pot, .egress, .cipher, .xlat, .media, .pair, .attach])
    : Same p (admitCmd id s) t ↔ Same p s t := by
  simp at hp
  simp only [admitCmd]; (repeat' split) <;> simp [hp]

@[simp] theorem orphanCmd_frame (id : Nat) (c : Cmd) (s : State) {p : Field} (t : State)
    (hp : p ∉ [.cmd, .pools, .pot, .attach]) : Same p (orphanCmd id c s) t ↔ Same p s t := by
  simp at hp
  simp [hp, orphanCmd]

@[simp] theorem freeReceived_frame (conn : Nat) (s : State) {p : Field} (t : State) (hp : p ∉ [.xlat]) : Same p
    (freeReceived conn s) t ↔ Same p s t := by
  simp at hp
  simp [hp, freeReceived]

@[simp] theorem endOne_frame (k : Nat) (reason : Nat) (s : State) {p : Field} (t : State)
    (hp : p ∉ [.mode, .mgmt, .conns, .cmd, .pools, .pot, .egress, .cipher, .xlat, .pair, .attach]) : Same p
    (endOne k reason s) t ↔ Same p s t := by
  simp at hp
  simp only [endOne]; (repeat' split) <;> simp [hp]

@[simp] theorem endWith_frame (k : Nat) (reason : Nat) (l : List HostMsg) (after : List HostMsg) (s : State)
    {p : Field} (t : State)
    (hp : p ∉ [.mode, .mgmt, .conns, .cmd, .pools, .pot, .egress, .cipher, .xlat, .pair, .attach]) : Same p
    (endWith k reason l after s) t ↔ Same p s t := by
  simp at hp
  simp only [endWith]; (repeat' split) <;> simp [hp]

@[simp] theorem hardEnd_frame (k : Nat) (reason : Nat) (l : List HostMsg) (s : State) {p : Field} (t : State)
    (hp : p ∉ [.mode, .mgmt, .conns, .cmd, .pools, .pot, .egress, .cipher, .xlat, .pair, .attach]) : Same p
    (hardEnd k reason l s) t ↔ Same p s t := by
  simp at hp
  simp only [hardEnd]; (repeat' split) <;> simp [hp]

@[simp] theorem endQueues_frame (k : Nat) (x : Conn) (reason : Nat) (s : State) {p : Field} (t : State)
    (hp : p ∉ [.mode, .mgmt, .conns, .cmd, .pools, .pot, .egress, .cipher, .xlat, .pair, .attach]) : Same p
    (endQueues k x reason s) t ↔ Same p s t := by
  simp at hp
  simp only [endQueues]; (repeat' split) <;> simp [hp]

@[simp] theorem endConn_frame (k : Nat) (reason : Nat) (l : List HostMsg) (after : List HostMsg) (s : State)
    {p : Field} (t : State)
    (hp : p ∉ [.mode, .mgmt, .conns, .cmd, .pools, .pot, .egress, .cipher, .xlat, .pair, .attach]) : Same p
    (endConn k reason l after s) t ↔ Same p s t := by
  simp at hp
  simp only [endConn]; (repeat' split) <;> simp (disch := (first | (simp [hp]; done) | (intros; (try dsimp only); (repeat' split) <;> try simp [hp]))) [hp]

@[simp] theorem closeConn_frame (k : Nat) (reason : Nat) (l : List HostMsg) (s : State) {p : Field} (t : State)
    (hp : p ∉ [.mode, .mgmt, .conns, .cmd, .pools, .pot, .egress, .cipher, .xlat, .pair, .attach]) : Same p
    (closeConn k reason l s) t ↔ Same p s t := by
  simp at hp
  simp only [closeConn]; (repeat' split) <;> simp [hp]

@[simp] theorem resetConn_frame (k : Nat) (reason : Nat) (s : State) {p : Field} (t : State)
    (hp : p ∉ [.mode, .mgmt, .conns, .cmd, .pools, .pot, .egress, .cipher, .xlat, .pair, .attach]) : Same p
    (resetConn k reason s) t ↔ Same p s t := by
  simp at hp
  simp [hp, resetConn]

@[simp] theorem fatalTransport_frame (k : Nat) (status : Nat) (s : State) {p : Field} (t : State)
    (hp : p ∉ [.mode, .mgmt, .conns, .cmd, .pools, .pot, .egress, .cipher, .xlat, .pair, .attach]) : Same p
    (fatalTransport k status s) t ↔ Same p s t := by
  simp at hp
  simp only [fatalTransport]; (repeat' split) <;> simp [hp]

@[simp] theorem deleteCtrl_frame (c : Nat) (s : State) {p : Field} (t : State)
    (hp : p ∉ [.mode, .mgmt, .conns, .cmd, .pools, .pot, .egress, .cipher, .xlat, .pair, .attach]) : Same p
    (deleteCtrl c s) t ↔ Same p s t := by
  simp at hp
  simp only [deleteCtrl]; (repeat' split) <;> simp [hp]

end Sys2Proof.Machine
end

