-- ==== Sys2Proof/Laws/FrameTransitions.lean ====
section
/-! SUPPORT. What each operation of Transitions.lean leaves unchanged, part by part. -/

namespace Sys2Proof.Machine

set_option linter.all false

@[simp] theorem dropAttachCmds_frame (s : State) {p : Field} (t : State) (hp : p ∉ [.cmd, .pools, .pot, .attach])
    : Same p (dropAttachCmds s) t ↔ Same p s t := by
  simp at hp
  simp [hp, dropAttachCmds]

@[simp] theorem anaSync_frame (s : State) {p : Field} (t : State) (hp : p ∉ [.out, .mgmt, .cmd, .pools, .attach])
    : Same p (anaSync s) t ↔ Same p s t := by
  simp at hp
  simp [hp, anaSync]

@[simp] theorem goMode_frame (m : Mode) (s : State) {p : Field} (t : State)
    (hp : p ∉ [.out, .mode, .mgmt, .cmd, .pools, .attach]) : Same p (goMode m s) t ↔ Same p s t := by
  simp at hp
  simp [hp, goMode]

@[simp] theorem dropConnections_frame (s : State) {p : Field} (t : State)
    (hp : p ∉ [.mode, .mgmt, .net, .conns, .cmd, .pools, .pot, .egress, .cipher, .xlat, .pair, .attach]) : Same p
    (dropConnections s) t ↔ Same p s t := by
  simp at hp
  simp [hp, dropConnections]

@[simp] theorem abandonProgs_frame (s : State) {p : Field} (t : State) (hp : p ∉ [.xlat]) : Same p
    (abandonProgs s) t ↔ Same p s t := by
  simp at hp
  simp [hp, abandonProgs]

@[simp] theorem emptyPool_frame (p : Nat) (s : State) {q : Field} (t : State) (hp : q ∉ [.pools]) : Same q
    (emptyPool p s) t ↔ Same q s t := by
  simp at hp
  simp [hp, emptyPool]

@[simp] theorem dropMediaWork_frame (s : State) {p : Field} (t : State) (hp : p ∉ [.pools, .xlat, .media]) : Same
    p (dropMediaWork s) t ↔ Same p s t := by
  simp at hp
  simp [hp, dropMediaWork]

@[simp] theorem clearLacks_frame (s : State) {p : Field} (t : State) (hp : p ∉ [.pools, .pair]) : Same p
    (clearLacks s) t ↔ Same p s t := by
  simp at hp
  simp [hp, clearLacks]

@[simp] theorem unconfirmAll_frame (s : State) {p : Field} (t : State) (hp : p ∉ [.net]) : Same p
    (unconfirmAll s) t ↔ Same p s t := by
  simp at hp
  simp [hp, unconfirmAll]

@[simp] theorem losePartner_frame (s : State) {p : Field} (t : State) (hp : p ∉ [.net, .pools, .pair]) : Same p
    (losePartner s) t ↔ Same p s t := by
  simp at hp
  simp [hp, losePartner]

@[simp] theorem enterIsolated_frame (s : State) {p : Field} (t : State)
    (hp : p ∉ [.out, .mode, .mgmt, .net, .conns, .cmd, .pools, .pot, .egress, .cipher, .xlat, .media, .pair, .attach])
    : Same p (enterIsolated s) t ↔ Same p s t := by
  simp at hp
  simp [hp, enterIsolated]

@[simp] theorem startRound_frame (r : Round) (s : State) {p : Field} (t : State)
    (hp : p ∉ [.out, .mgmt, .pools, .media, .pair]) : Same p (startRound r s) t ↔ Same p s t := by
  simp at hp
  simp only [startRound]; (repeat' split) <;> simp (disch := (first | (simp [hp]; done) | (intros; (try dsimp only); (repeat' split) <;> try simp [hp]))) [hp]

@[simp] theorem acceptRound_frame (s : State) {p : Field} (t : State) (hp : p ∉ [.mgmt, .pair]) : Same p
    (acceptRound s) t ↔ Same p s t := by
  simp at hp
  simp [hp, acceptRound]

@[simp] theorem releaseWon_frame (s : State) {p : Field} (t : State)
    (hp : p ∉ [.out, .mgmt, .pools, .media, .pair]) : Same p (releaseWon s) t ↔ Same p s t := by
  simp at hp
  simp [hp, releaseWon]

@[simp] theorem startFencing_frame (reason : Nat) (s : State) {p : Field} (t : State)
    (hp : p ∉ [.out, .mgmt, .pools, .media, .pair]) : Same p (startFencing reason s) t ↔ Same p s t := by
  simp at hp
  simp [hp, startFencing]

@[simp] theorem sendPlanned_frame (q : Planned) (s : State) {p : Field} (t : State)
    (hp : p ∉ [.conns, .cmd, .pools, .egress, .attach]) : Same p (sendPlanned q s) t ↔ Same p s t := by
  simp at hp
  simp only [sendPlanned]; (repeat' split) <;> simp [hp]

@[simp] theorem sendPlans_frame (p : Planned → Bool) (s : State) {q : Field} (t : State)
    (hp : q ∉ [.conns, .cmd, .pools, .egress, .pair, .attach]) : Same q (sendPlans p s) t ↔ Same q s t := by
  simp at hp
  simp [hp, sendPlans]

@[simp] theorem releaseDurable_frame (upTo : Nat) (s : State) {p : Field} (t : State)
    (hp : p ∉ [.out, .mgmt, .conns, .cmd, .pools, .egress, .pair, .attach]) : Same p (releaseDurable upTo s) t ↔
    Same p s t := by
  simp at hp
  simp [hp, releaseDurable]

@[simp] theorem releaseSolo_frame (s : State) {p : Field} (t : State)
    (hp : p ∉ [.conns, .cmd, .pools, .egress, .pair, .attach]) : Same p (releaseSolo s) t ↔ Same p s t := by
  simp at hp
  simp [hp, releaseSolo]

@[simp] theorem adminReply_frame (src : Src) (cid : Nat) (st : Status) (dw0 : Nat)
    (data : Option (Sgl × Nat × Bytes)) (s : State) {p : Field} (t : State)
    (hp : p ∉ [.out, .mgmt, .conns, .cmd, .egress, .pair, .attach]) : Same p (adminReply src cid st dw0 data s) t
    ↔ Same p s t := by
  simp at hp
  simp only [adminReply]; (repeat' split) <;> simp [hp]

@[simp] theorem applyAbort_frame (src : Src) (cid : Nat) (k : Option Nat) (sqid : Nat) (target : Nat) (s : State)
    {p : Field} (t : State) (hp : p ∉ [.out, .mgmt, .conns, .cmd, .pools, .egress, .pair, .attach]) : Same p
    (applyAbort src cid k sqid target s) t ↔ Same p s t := by
  simp at hp
  simp only [applyAbort]; (repeat' split) <;> simp [hp]

@[simp] theorem drainSectors_frame (a0 : Nat) (a1 : State) {p : Field} (t : State) (hp : p ∉ [.out, .pair]) :
    Same p (drainSectors a0 a1) t ↔ Same p a1 t := by
  simp at hp
  induction a0 generalizing a1 with
  | zero => simp [hp, drainSectors]
  | succ n ih => simp only [drainSectors]; (repeat' split) <;> simp [hp, ih]

@[simp] theorem sendWaiting_frame (s : State) {p : Field} (t : State) (hp : p ∉ [.out, .pair]) : Same p
    (sendWaiting s) t ↔ Same p s t := by
  simp at hp
  simp [hp, sendWaiting]

@[simp] theorem sendSectors_frame (l : List MirSector) (s : State) {p : Field} (t : State)
    (hp : p ∉ [.out, .pair]) : Same p (sendSectors l s) t ↔ Same p s t := by
  simp at hp
  simp [hp, sendSectors]

@[simp] theorem fillFails_frame (len : Nat) (s : State) {p : Field} (t : State)
    (hp : p ∉ [.out, .mgmt, .pools, .media, .pair]) : Same p (fillFails len s) t ↔ Same p s t := by
  simp at hp
  simp [hp, fillFails]

@[simp] theorem fillSent_frame (ns : Nat) (lba : Nat) (data : Bytes) (s : State) {p : Field} (t : State)
    (hp : p ∉ [.out, .mgmt, .pair]) : Same p (fillSent ns lba data s) t ↔ Same p s t := by
  simp at hp
  simp [hp, fillSent]

@[simp] theorem serveAll_frame (s : State) {p : Field} (t : State) (hp : p ∉ [.net]) : Same p (serveAll s) t ↔
    Same p s t := by
  simp at hp
  simp [hp, serveAll]

@[simp] theorem announce_frame (s : State) {p : Field} (t : State) (hp : p ∉ [.net, .egress]) : Same p
    (announce s) t ↔ Same p s t := by
  simp at hp
  simp [hp, announce]

@[simp] theorem freshSchedulers_frame (s : State) {p : Field} (t : State) (hp : p ∉ [.conns, .cmd, .egress]) :
    Same p (freshSchedulers s) t ↔ Same p s t := by
  simp at hp
  simp [hp, freshSchedulers]

@[simp] theorem clusterCheck_frame (s : State) {p : Field} (t : State)
    (hp : p ∉ [.out, .mode, .mgmt, .cmd, .pools, .attach]) : Same p (clusterCheck s) t ↔ Same p s t := by
  simp at hp
  simp [hp, clusterCheck]

end Sys2Proof.Machine
end

