-- ==== Sys2Proof/Laws/FramePrograms.lean ====
section
/-! SUPPORT. What each operation of Programs.lean leaves unchanged, part by part. -/

namespace Sys2Proof.Machine

set_option linter.all false

@[simp] theorem issueProg_frame (id : Nat) (p : Prog) (queue : Nat) (s : State) {q : Field} (t : State)
    (hp : q ∉ [.xlat, .media]) : Same q (issueProg id p queue s) t ↔ Same q s t := by
  simp at hp
  simp only [issueProg]; (repeat' split) <;> simp (disch := (first | (simp [hp]; done) | (intros; (try dsimp only); (repeat' split) <;> try simp [hp]))) [hp]

@[simp] theorem issueGranted_frame (id : Nat) (p : Prog) (s : State) {q : Field} (t : State)
    (hp : q ∉ [.mgmt, .pools, .xlat, .media]) : Same q (issueGranted id p s) t ↔ Same q s t := by
  simp at hp
  simp [hp, issueGranted]

@[simp] theorem programStripe_frame (p : Prog) (sectors : List Bytes) (s : State) {q : Field} (t : State)
    (hp : q ∉ [.mgmt, .pools, .xlat, .media]) : Same q (programStripe p sectors s) t ↔ Same q s t := by
  simp at hp
  simp only [programStripe]; (repeat' split) <;> simp [hp]

@[simp] theorem progGiveBack_frame (id : Nat) (p : Prog) (s : State) {q : Field} (t : State)
    (hp : q ∉ [.pools, .xlat]) : Same q (progGiveBack id p s) t ↔ Same q s t := by
  simp at hp
  simp [hp, progGiveBack]

@[simp] theorem gatherSlots_frame (l : List (Nat × Slot)) (band : Nat) (s : State) {p : Field} (t : State)
    (hp : p ∉ [.mgmt, .xlat, .pair]) : Same p (gatherSlots l band s) t ↔ Same p s t := by
  simp at hp
  simp [hp, gatherSlots]

@[simp] theorem closeFill_frame (lb : Nat) (s : State) {p : Field} (t : State) (hp : p ∉ [.mgmt, .xlat, .pair]) :
    Same p (closeFill lb s) t ↔ Same p s t := by
  simp at hp
  simp [hp, closeFill]

@[simp] theorem setBandAt_frame (ns : Nat) (lb : Nat) (i : Nat) (s : State) {p : Field} (t : State)
    (hp : p ∉ [.mgmt, .xlat, .media, .pair]) : Same p (setBandAt ns lb i s).2 t ↔ Same p s t := by
  simp at hp
  simp only [setBandAt]; (repeat' split) <;> simp [hp]

@[simp] theorem gatherDirect_frame (lb : Nat) (s : State) {p : Field} (t : State)
    (hp : p ∉ [.mgmt, .pools, .xlat, .media, .pair]) : Same p (gatherDirect lb s).2 t ↔ Same p s t := by
  simp at hp
  simp only [gatherDirect]; (repeat' split) <;> simp [hp]

@[simp] theorem forceLogMerge_frame (ns : Option Nat) (s : State) {p : Field} (t : State)
    (hp : p ∉ [.mgmt, .xlat]) : Same p (forceLogMerge ns s) t ↔ Same p s t := by
  simp at hp
  simp only [forceLogMerge]; (repeat' split) <;> simp [hp]

@[simp] theorem setLog_frame (b : Nat) (r : LogRec) (s : State) {p : Field} (t : State)
    (hp : p ∉ [.mgmt, .xlat, .pair]) : Same p (setLog b r s) t ↔ Same p s t := by
  simp at hp
  simp [hp, setLog]

@[simp] theorem newLogBand_frame (kind : BandKind) (ns : Nat) (owner : Nat) (s : State) {p : Field} (t : State)
    (hp : p ∉ [.mgmt, .xlat, .media, .pair]) : Same p (newLogBand kind ns owner s).2 t ↔ Same p s t := by
  simp at hp
  simp only [newLogBand]; (repeat' split) <;> simp [hp]

@[simp] theorem logTarget_frame (ns : Nat) (e : Nat × Slot × Nat × Nat) (s : State) {p : Field} (t : State)
    (hp : p ∉ [.mgmt, .xlat, .media, .pair]) : Same p (logTarget ns e s).2.2.2 t ↔ Same p s t := by
  simp at hp
  simp only [logTarget]; (repeat' split) <;> simp [hp]

@[simp] theorem carryParts_frame (l : List (Nat × Slot × Nat)) (s : State) {p : Field} (t : State)
    (hp : p ∉ [.xlat]) : Same p (carryParts l s) t ↔ Same p s t := by
  simp at hp
  simp [hp, carryParts]

@[simp] theorem programLog_frame (g : Geo) (b : Nat) (bd : Band) (k : Packed) (s : State) {p : Field} (t : State)
    (hp : p ∉ [.mgmt, .pools, .xlat, .media, .pair]) : Same p (programLog g b bd k s) t ↔ Same p s t := by
  simp at hp
  simp only [programLog]; (repeat' split) <;> simp [hp]

@[simp] theorem gatherLog_frame (ns : Nat) (partly : Bool) (s : State) {p : Field} (t : State)
    (hp : p ∉ [.mgmt, .pools, .xlat, .media, .pair]) : Same p (gatherLog ns partly s) t ↔ Same p s t := by
  simp at hp
  simp only [gatherLog]; (repeat' split) <;> simp [hp]

@[simp] theorem slotsProgrammed_frame (l : List (Nat × Nat × Nat)) (s : State) {p : Field} (t : State)
    (hp : p ∉ [.mgmt, .xlat, .pair]) : Same p (slotsProgrammed l s) t ↔ Same p s t := by
  simp at hp
  simp only [slotsProgrammed]; (repeat' split) <;> simp (disch := (first | (simp [hp]; done) | (intros; (try dsimp only); (repeat' split) <;> try simp [hp]))) [hp]

@[simp] theorem bandFull_frame (b : Nat) (s : State) {p : Field} (t : State) (hp : p ∉ [.mgmt, .xlat, .pair]) :
    Same p (bandFull b s) t ↔ Same p s t := by
  simp at hp
  simp only [bandFull]; (repeat' split) <;> simp [hp]

@[simp] theorem overlayCheck_frame (s : State) {p : Field} (t : State) (hp : p ∉ [.mgmt, .xlat]) : Same p
    (overlayCheck s) t ↔ Same p s t := by
  simp at hp
  simp only [overlayCheck]; (repeat' split) <;> simp [hp]

@[simp] theorem fillAdvance_frame (g : Geo) (p : Prog) (s : State) {q : Field} (t : State)
    (hp : q ∉ [.mgmt, .xlat, .pair]) : Same q (fillAdvance g p s) t ↔ Same q s t := by
  simp at hp
  simp [hp, fillAdvance]

@[simp] theorem stripeProgrammed_frame (id : Nat) (p : Prog) (s : State) {q : Field} (t : State)
    (hp : q ∉ [.mgmt, .pools, .xlat, .pair]) : Same q (stripeProgrammed id p s) t ↔ Same q s t := by
  simp at hp
  simp only [stripeProgrammed]; (repeat' split) <;> simp (maxDischargeDepth := 9) [hp]

@[simp] theorem releaseSlots_frame (id : Nat) (s : State) {p : Field} (t : State)
    (hp : p ∉ [.mgmt, .xlat, .pair]) : Same p (releaseSlots id s) t ↔ Same p s t := by
  simp at hp
  simp only [releaseSlots]; (repeat' split) <;> simp [hp]

@[simp] theorem slotsAbandoned_frame (l : List (Nat × Nat × Nat)) (s : State) {p : Field} (t : State)
    (hp : p ∉ [.mgmt, .xlat, .pair]) : Same p (slotsAbandoned l s) t ↔ Same p s t := by
  simp at hp
  unfold slotsAbandoned; refine each_same _ _ _ _ fun a u => ?_; dsimp only; (repeat' split) <;> simp [hp]

@[simp] theorem partsAbandoned_frame (l : List (Nat × Nat × Nat)) (s : State) {p : Field} (t : State)
    (hp : p ∉ [.xlat]) : Same p (partsAbandoned l s) t ↔ Same p s t := by
  simp at hp
  simp [hp, partsAbandoned]

@[simp] theorem abandonProg_frame (id : Nat) (s : State) {p : Field} (t : State)
    (hp : p ∉ [.mgmt, .pools, .xlat, .pair]) : Same p (abandonProg id s) t ↔ Same p s t := by
  simp at hp
  simp only [abandonProg]; (repeat' split) <;> simp (disch := (first | (simp [hp]; done) | (intros; (try dsimp only); (repeat' split) <;> try simp [hp]))) [hp]

@[simp] theorem restartCopy_frame (id : Nat) (s : State) {p : Field} (t : State)
    (hp : p ∉ [.mgmt, .pools, .xlat, .media, .pair]) : Same p (restartCopy id s) t ↔ Same p s t := by
  simp at hp
  simp only [restartCopy]; (repeat' split) <;> simp [hp]

@[simp] theorem checkpointFails_frame (s : State) {p : Field} (t : State) (hp : p ∉ [.mgmt, .xlat, .pair]) : Same
    p (checkpointFails s) t ↔ Same p s t := by
  simp at hp
  simp only [checkpointFails]; (repeat' split) <;> simp [hp]

@[simp] theorem checkpointDone_frame (s : State) {p : Field} (t : State) (hp : p ∉ [.mgmt, .xlat, .pair]) : Same
    p (checkpointDone s) t ↔ Same p s t := by
  simp at hp
  simp only [checkpointDone]; (repeat' split) <;> simp [hp]

@[simp] theorem bandStops_frame (b : Nat) (s : State) {p : Field} (t : State)
    (hp : p ∉ [.mgmt, .pools, .xlat, .media, .pair]) : Same p (bandStops b s) t ↔ Same p s t := by
  simp at hp
  simp only [bandStops]; (repeat' split) <;> simp (disch := (first | (simp [hp]; done) | (intros; (try dsimp only); (repeat' split) <;> try simp [hp]))) [hp]

@[simp] theorem pageDone_frame (id : Nat) (pos : Nat) (s : State) {p : Field} (t : State)
    (hp : p ∉ [.mgmt, .pools, .xlat, .pair]) : Same p (pageDone id pos s).2 t ↔ Same p s t := by
  simp at hp
  simp only [pageDone]; (repeat' split) <;> simp [hp]

end Sys2Proof.Machine
end

