-- ==== Sys2Proof/Laws/FrameJobs.lean ====
section
/-! SUPPORT. What each operation of Jobs.lean leaves unchanged, part by part. -/

namespace Sys2Proof.Machine

set_option linter.all false

@[simp] theorem onJob_frame (id : Nat) (f : Job → Job) (s : State) {p : Field} (t : State) (hp : p ∉ [.xlat]) :
    Same p (onJob id f s) t ↔ Same p s t := by
  simp at hp
  simp [hp, onJob]

@[simp] theorem addJob_frame (j : Job) (s : State) {p : Field} (t : State) (hp : p ∉ [.xlat]) : Same p
    (addJob j s) t ↔ Same p s t := by
  simp at hp
  simp [hp, addJob]

@[simp] theorem losePage_frame (band : Nat) (t : Nat) (d : Nat) (missing : Nat) (cause : Nat) (s : State)
    {p : Field} (u : State) (hp : p ∉ [.mgmt, .xlat, .pair]) : Same p (losePage band t d missing cause s) u ↔
    Same p s u := by
  simp at hp
  simp only [losePage]; (repeat' split) <;> simp (disch := (first | (simp [hp]; done) | (intros; (try dsimp only); (repeat' split) <;> try simp [hp]))) [hp]

@[simp] theorem relocateBand_frame (b : Nat) (s : State) {p : Field} (t : State) (hp : p ∉ [.mgmt, .xlat]) : Same
    p (relocateBand b s) t ↔ Same p s t := by
  simp at hp
  simp only [relocateBand]; (repeat' split) <;> simp [hp]

@[simp] theorem loseData_frame (band : Nat) (t : Nat) (ds : List Nat) (missing : Nat) (cause : Nat) (s : State)
    {p : Field} (u : State) (hp : p ∉ [.mgmt, .xlat, .pair]) : Same p (loseData band t ds missing cause s) u ↔
    Same p s u := by
  simp at hp
  simp [hp, loseData]

@[simp] theorem moveUrgent_frame (b : Nat) (pos : Nat) (s : State) {p : Field} (t : State) (hp : p ∉ [.xlat]) :
    Same p (moveUrgent b pos s) t ↔ Same p s t := by
  simp at hp
  simp [hp, moveUrgent]

@[simp] theorem readDisturb_frame (b : Nat) (s : State) {p : Field} (t : State) (hp : p ∉ [.xlat]) : Same p
    (readDisturb b s) t ↔ Same p s t := by
  simp at hp
  simp only [readDisturb]; (repeat' split) <;> simp [hp]

@[simp] theorem readStripe_frame (id : Nat) (g : Geo) (j : Job) (s : State) {p : Field} (t : State)
    (hp : p ∉ [.mgmt, .pools, .xlat, .media]) : Same p (readStripe id g j s) t ↔ Same p s t := by
  simp at hp
  unfold readStripe; dsimp only; split
  · refine (each_same _ _ _ _ fun a u => ?_).trans (by simp [hp]); split <;> simp [hp]
  all_goals (split <;> simp [hp])

@[simp] theorem jobReads_frame (id : Nat) (s : State) {p : Field} (t : State)
    (hp : p ∉ [.mgmt, .pools, .xlat, .media]) : Same p (jobReads id s) t ↔ Same p s t := by
  simp at hp
  simp only [jobReads]; (repeat' split) <;> simp [hp]

@[simp] theorem startMove_frame (b : Nat) (pos : Nat) (eu : Nat) (urgent : Bool) (static : Bool) (s : State)
    {p : Field} (t : State) (hp : p ∉ [.mgmt, .pools, .xlat, .media]) : Same p
    (startMove b pos eu urgent static s) t ↔ Same p s t := by
  simp at hp
  simp only [startMove]; (repeat' split) <;> simp [hp]

@[simp] theorem scheduleRefresh_frame (b : Nat) (pos : Nat) (urgent : Bool) (s : State) {p : Field} (t : State)
    (hp : p ∉ [.mgmt, .pools, .xlat, .media, .pair]) : Same p (scheduleRefresh b pos urgent s) t ↔ Same p s t :=
    by
  simp at hp
  unfold scheduleRefresh; dsimp only; (repeat' split) <;> first
    | (simp [hp]; done)
    | (rename_i h; split at h <;> first | (simp [hp, takeTalon_frame h]; done) | (simp [hp, takeEu_frame h]; done))

@[simp] theorem endResync_frame (id : Nat) (b : Nat) (untouched : Bool) (s : State) {p : Field} (t : State)
    (hp : p ∉ [.mgmt, .pools, .xlat, .media, .pair]) : Same p (endResync id b untouched s) t ↔ Same p s t := by
  simp at hp
  simp [hp, endResync]

@[simp] theorem programTarget_frame (id : Nat) (j : Job) (data : List Bytes) (band : Nat) (s : State) {p : Field}
    (t : State) (hp : p ∉ [.xlat, .media]) : Same p (programTarget id j data band s) t ↔ Same p s t := by
  simp at hp
  simp [hp, programTarget]

@[simp] theorem jobStripe_frame (id : Nat) (s : State) {p : Field} (t : State)
    (hp : p ∉ [.mgmt, .pools, .xlat, .media, .pair]) : Same p (jobStripe id s) t ↔ Same p s t := by
  simp at hp
  simp only [jobStripe]; (repeat' split) <;> simp [hp]

@[simp] theorem jobRead_frame (id : Nat) (s : State) {p : Field} (t : State)
    (hp : p ∉ [.mgmt, .pools, .xlat, .media, .pair]) : Same p (jobRead id s) t ↔ Same p s t := by
  simp at hp
  simp only [jobRead]; (repeat' split) <;> simp (disch := (first | (simp [hp]; done) | (intros; (try dsimp only); (repeat' split) <;> try simp [hp]))) [hp]

@[simp] theorem jobGot_frame (id : Nat) (pos : Nat) (d : Option (List Bytes)) (s : State) {p : Field} (t : State)
    (hp : p ∉ [.mgmt, .pools, .xlat, .media, .pair]) : Same p (jobGot id pos d s) t ↔ Same p s t := by
  simp at hp
  simp only [jobGot]; (repeat' split) <;> simp [hp]

@[simp] theorem jobProgrammed_frame (id : Nat) (s : State) {p : Field} (t : State) (hp : p ∉ [.xlat, .media]) :
    Same p (jobProgrammed id s) t ↔ Same p s t := by
  simp at hp
  simp only [jobProgrammed]; (repeat' split) <;> simp [hp]

@[simp] theorem jobStripeDone_frame (id : Nat) (s : State) {p : Field} (t : State)
    (hp : p ∉ [.mgmt, .pools, .xlat, .media, .pair]) : Same p (jobStripeDone id s) t ↔ Same p s t := by
  simp at hp
  simp only [jobStripeDone]; (repeat' split) <;> simp [hp]

@[simp] theorem resyncBand_frame (b : Nat) (s : State) {p : Field} (t : State)
    (hp : p ∉ [.mgmt, .pools, .xlat, .media, .pair]) : Same p (resyncBand b s) t ↔ Same p s t := by
  simp at hp
  simp only [resyncBand]; (repeat' split) <;> simp [hp]

@[simp] theorem startResync_frame (s : State) {p : Field} (t : State)
    (hp : p ∉ [.mgmt, .pools, .xlat, .media, .pair]) : Same p (startResync s) t ↔ Same p s t := by
  simp at hp
  simp [hp, startResync]

@[simp] theorem partialTargets_frame (ns : Nat) (lb : Nat) (w : Nat) (need : Nat) (queue : Nat) (own : List Nat)
    (s : State) {p : Field} (t : State) (hp : p ∉ [.mgmt, .xlat, .media, .pair]) : Same p
    (partialTargets ns lb w need queue own s).2 t ↔ Same p s t := by
  simp at hp
  simp only [partialTargets]; (repeat' split) <;> simp (disch := (first | (simp [hp]; done) | (intros; (try dsimp only); (repeat' split) <;> try simp [hp]))) [hp]

@[simp] theorem fullTargets_frame (ns : Nat) (lb : Nat) (w : Nat) (need : Nat) (queue : Nat) (s : State)
    {p : Field} (t : State) (hp : p ∉ [.mgmt, .xlat, .media, .pair]) : Same p
    (fullTargets ns lb w need queue s).2 t ↔ Same p s t := by
  simp at hp
  simp [hp, fullTargets]

@[simp] theorem beginMerge_frame (lb : Nat) (e : LbEntry) (s : State) {p : Field} (t : State)
    (hp : p ∉ [.mgmt, .xlat, .pair]) : Same p (beginMerge lb e s) t ↔ Same p s t := by
  simp at hp
  simp [hp, beginMerge]

@[simp] theorem mergeBegins_frame (lb : Nat) (e : LbEntry) (j : Job) (s : State) {p : Field} (t : State)
    (hp : p ∉ [.mgmt, .pools, .xlat, .media, .pair]) : Same p (mergeBegins lb e j s) t ↔ Same p s t := by
  simp at hp
  simp [hp, mergeBegins]

@[simp] theorem startPartial_frame (g : Geo) (ns : Nat) (lb : Nat) (hi : Nat) (queue : Nat) (fold : Bool)
    (s : State) {p : Field} (t : State) (hp : p ∉ [.mgmt, .pools, .xlat, .media, .pair]) : Same p
    (startPartial g ns lb hi queue fold s) t ↔ Same p s t := by
  simp at hp
  simp [hp, startPartial]

@[simp] theorem startFull_frame (g : Geo) (ns : Nat) (lb : Nat) (hi : Nat) (queue : Nat) (fold : Bool)
    (s : State) {p : Field} (t : State) (hp : p ∉ [.mgmt, .pools, .xlat, .media, .pair]) : Same p
    (startFull g ns lb hi queue fold s) t ↔ Same p s t := by
  simp at hp
  simp [hp, startFull]

@[simp] theorem startMerge_frame (lb : Nat) (s : State) {p : Field} (t : State)
    (hp : p ∉ [.mgmt, .pools, .xlat, .media, .pair]) : Same p (startMerge lb s) t ↔ Same p s t := by
  simp at hp
  simp only [startMerge]; (repeat' split) <;> simp [hp]

@[simp] theorem startCompact_frame (v : Nat) (s : State) {p : Field} (t : State)
    (hp : p ∉ [.mgmt, .pools, .xlat, .media, .pair]) : Same p (startCompact v s) t ↔ Same p s t := by
  simp at hp
  simp only [startCompact]; (repeat' split) <;> simp (disch := (first | (simp [hp]; done) | (intros; (try dsimp only); (repeat' split) <;> try simp (disch := (first | (simp [hp]; done) | (intros; (try dsimp only); (repeat' split) <;> try simp [hp]))) [hp]))) [hp]

theorem rebuildTarget_frame {b : Band} {m : Member} {c e : Nat} {s t : State}
    (h : rebuildTarget b m s = some (c, e, t)) {p : Field} (u : State) (hp : p ∉ [.mgmt, .xlat, .media, .pair]) :
    Same p t u ↔ Same p s u := by
  simp only [rebuildTarget, Option.bind_eq_some_iff, Option.map_eq_some_iff, Prod.mk.injEq] at h
  obtain ⟨_, -, _, hx, -, -, rfl⟩ := h
  exact takeEu_frame hx u hp

@[simp] theorem startRebuild_frame (b : Nat) (pos : Nat) (s : State) {p : Field} (t : State)
    (hp : p ∉ [.mgmt, .pools, .xlat, .media, .pair]) : Same p (startRebuild b pos s) t ↔ Same p s t := by
  simp at hp
  unfold startRebuild; dsimp only; (repeat' split) <;> first
    | (simp [hp]; done)
    | (rename_i h; simp [hp, rebuildTarget_frame h]; done)
    | (rename_i h _; simp [hp, rebuildTarget_frame h]; done)

@[simp] theorem replaceMember_frame (b : Nat) (pos : Nat) (s : State) {p : Field} (t : State)
    (hp : p ∉ [.mgmt, .pools, .xlat, .media, .pair]) : Same p (replaceMember b pos s) t ↔ Same p s t := by
  simp at hp
  unfold replaceMember; dsimp only; (repeat' split) <;> first | (simp [hp]; done) | (rename_i h; simp [hp, takeTalon_frame h])

@[simp] theorem deliver_frame (p : Purpose) (d : Option (List Bytes)) (band : Nat) (t : Nat) (pos : Nat)
    (missing : Nat) (s : State) {q : Field} (u : State)
    (hp : q ∉ [.out, .mode, .mgmt, .conns, .cmd, .pools, .pot, .egress, .cipher, .xlat, .media, .pair, .attach])
    : Same q (deliver p d band t pos missing s) u ↔ Same q s u := by
  simp at hp
  simp only [deliver]; (repeat' split) <;> simp [hp]

@[simp] theorem reconDone_frame (id : Nat) (e : Recon) (s : State) {p : Field} (t : State)
    (hp : p ∉ [.out, .mode, .mgmt, .conns, .cmd, .pools, .pot, .egress, .cipher, .xlat, .media, .pair, .attach])
    : Same p (reconDone id e s) t ↔ Same p s t := by
  simp at hp
  simp only [reconDone]; (repeat' split) <;> simp [hp]

@[simp] theorem reconGot_frame (id : Nat) (pos : Nat) (d : Option (List Bytes)) (s : State) {p : Field}
    (t : State)
    (hp : p ∉ [.out, .mode, .mgmt, .conns, .cmd, .pools, .pot, .egress, .cipher, .xlat, .media, .pair, .attach])
    : Same p (reconGot id pos d s) t ↔ Same p s t := by
  simp at hp
  simp only [reconGot]; (repeat' split) <;> simp [hp]

@[simp] theorem pageRead_frame (m : MediaCmd) (pos : Nat) (d : Option (List Bytes)) (s : State) {p : Field}
    (t : State)
    (hp : p ∉ [.out, .mode, .mgmt, .conns, .cmd, .pools, .pot, .egress, .cipher, .xlat, .media, .pair, .attach])
    : Same p (pageRead m pos d s) t ↔ Same p s t := by
  simp at hp
  simp only [pageRead]; (repeat' split) <;> simp [hp]

@[simp] theorem readBlank_frame (m : MediaCmd) (s : State) {p : Field} (t : State)
    (hp : p ∉ [.mgmt, .pools, .xlat, .media, .pair]) : Same p (readBlank m s) t ↔ Same p s t := by
  simp at hp
  simp only [readBlank]; (repeat' split) <;> simp [hp]

@[simp] theorem readFailed_frame (c : Nat) (m : MediaCmd) (s : State) {p : Field} (t : State)
    (hp : p ∉ [.out, .mode, .mgmt, .conns, .cmd, .pools, .pot, .egress, .cipher, .xlat, .media, .pair, .attach])
    : Same p (readFailed c m s) t ↔ Same p s t := by
  simp at hp
  simp only [readFailed]; (repeat' split) <;> simp [hp]

end Sys2Proof.Machine
end

