-- ==== Sys2Proof/Laws/FrameCarrierOps.lean ====
section
/-! SUPPORT. What each operation of CarrierOps.lean leaves unchanged, part by part. -/

namespace Sys2Proof.Machine

set_option linter.all false

@[simp] theorem admitBook_frame (c : Nat) (s : State) {p : Field} (t : State) (hp : p ∉ [.mgmt, .xlat, .media]) :
    Same p (admitBook c s) t ↔ Same p s t := by
  simp at hp
  simp [hp, admitBook]

@[simp] theorem admitCarrier_frame (c : Nat) (s : State) {p : Field} (t : State)
    (hp : p ∉ [.mgmt, .xlat, .media, .pair]) : Same p (admitCarrier c s) t ↔ Same p s t := by
  simp at hp
  simp only [admitCarrier]; (repeat' split) <;> simp [hp]

@[simp] theorem misfitOut_frame (c : Nat) (s : State) {p : Field} (t : State) (hp : p ∉ [.mgmt, .media, .pair]) :
    Same p (misfitOut c s).2 t ↔ Same p s t := by
  simp at hp
  simp [hp, misfitOut]

@[simp] theorem tryAdmit_frame (c : Nat) (s : State) {p : Field} (t : State)
    (hp : p ∉ [.mgmt, .xlat, .media, .pair]) : Same p (tryAdmit c s) t ↔ Same p s t := by
  simp at hp
  simp only [tryAdmit]; (repeat' split) <;> simp [hp]

@[simp] theorem lostCmd_frame (c : Nat) (m : MediaCmd) (s : State) {p : Field} (t : State)
    (hp : p ∉ [.out, .mode, .mgmt, .conns, .cmd, .pools, .pot, .egress, .cipher, .xlat, .media, .pair, .attach])
    : Same p (lostCmd c m s) t ↔ Same p s t := by
  simp at hp
  simp only [lostCmd]; (repeat' split) <;> simp [hp]

@[simp] theorem loseMembers_frame (c : Nat) (s : State) {p : Field} (t : State) (hp : p ∉ [.mgmt, .xlat, .pair])
    : Same p (loseMembers c s) t ↔ Same p s t := by
  simp at hp
  simp [hp, loseMembers]

@[simp] theorem carrierLost_frame (c : Nat) (s : State) {p : Field} (t : State)
    (hp : p ∉ [.out, .mode, .mgmt, .conns, .cmd, .pools, .pot, .egress, .cipher, .xlat, .media, .pair, .attach])
    : Same p (carrierLost c s) t ↔ Same p s t := by
  simp at hp
  simp [hp, carrierLost]

@[simp] theorem carrierReturn_frame (c : Nat) (s : State) {p : Field} (t : State)
    (hp : p ∉ [.mgmt, .pools, .xlat, .media, .pair]) : Same p (carrierReturn c s) t ↔ Same p s t := by
  simp at hp
  simp (maxDischargeDepth := 9) [hp, carrierReturn]

@[simp] theorem carrierBack_frame (c : Nat) (s : State) {p : Field} (t : State)
    (hp : p ∉ [.mgmt, .pools, .xlat, .media, .pair]) : Same p (carrierBack c s) t ↔ Same p s t := by
  simp at hp
  simp [hp, carrierBack]

@[simp] theorem carrierSetup_frame (c : Nat) (s : State) {p : Field} (t : State)
    (hp : p ∉ [.out, .mgmt, .pools, .media]) : Same p (carrierSetup c s) t ↔ Same p s t := by
  simp at hp
  simp [hp, carrierSetup]

@[simp] theorem evaluateCarriers_frame (s : State) {p : Field} (t : State)
    (hp : p ∉ [.out, .mode, .mgmt, .conns, .cmd, .pools, .pot, .egress, .cipher, .xlat, .media, .pair, .attach])
    : Same p (evaluateCarriers s) t ↔ Same p s t := by
  simp at hp
  simp (maxDischargeDepth := 9) [hp, evaluateCarriers]

end Sys2Proof.Machine
end

