-- ==== Sys2Proof/Laws/FramePairOps.lean ====
section
/-! SUPPORT. What each operation of PairOps.lean leaves unchanged, part by part. -/

namespace Sys2Proof.Machine

set_option linter.all false

@[simp] theorem goSafe_frame (cause : Nat) (s : State) {p : Field} (t : State)
    (hp : p ∉ [.out, .mode, .mgmt, .cmd, .pools, .attach]) : Same p (goSafe cause s) t ↔ Same p s t := by
  simp at hp
  simp [hp, goSafe]

theorem acceptFrame_frame {h : MirHdr} {s t : State} (h : acceptFrame h s = some t) {p : Field} (u : State)
    (hp : p ∉ [.out, .pair]) : Same p t u ↔ Same p s u := by
  simp at hp
  unfold acceptFrame at h; dsimp only at h; (repeat' split at h) <;> cases h <;> simp [hp]

@[simp] theorem whenFrame_same (h : MirHdr) (k : State → State) (s : State) {p : Field} (t : State)
    (hp : p ∉ [.out, .pair]) (hk : ∀ s, Same p (k s) t ↔ Same p s t) : Same p (whenFrame h k s) t ↔
    Same p s t := by
  simp at hp
  unfold whenFrame; split
  · rename_i h'; rw [hk]; simp [hp, acceptFrame_frame h']
  · rfl

@[simp] theorem partnerReceived_frame (id : Nat) (s : State) {p : Field} (t : State)
    (hp : p ∉ [.mgmt, .cmd, .xlat]) : Same p (partnerReceived id s) t ↔ Same p s t := by
  simp at hp
  simp only [partnerReceived]; (repeat' split) <;> simp [hp]

@[simp] theorem followAdmit_frame (id : Nat) (cls : Option AdmClass) (s : State) {p : Field} (t : State)
    (hp : p ∉ [.cmd]) : Same p (followAdmit id cls s) t ↔ Same p s t := by
  simp at hp
  simp [hp, followAdmit]

@[simp] theorem followDispatch_frame (id : Nat) (s : State) {p : Field} (t : State)
    (hp : p ∉ [.cmd, .cipher, .xlat]) : Same p (followDispatch id s) t ↔ Same p s t := by
  simp at hp
  simp only [followDispatch]; (repeat' split) <;> simp [hp]

@[simp] theorem followAbort_frame (id : Nat) (s : State) {p : Field} (t : State) (hp : p ∉ [.cmd]) : Same p
    (followAbort id s) t ↔ Same p s t := by
  simp at hp
  simp [hp, followAbort]

@[simp] theorem followOne_frame (id : Nat) (e : RecEntry) (s : State) {p : Field} (t : State)
    (hp : p ∉ [.cmd, .cipher, .xlat]) : Same p (followOne id e s) t ↔ Same p s t := by
  simp at hp
  simp only [followOne]; (repeat' split) <;> simp [hp]

@[simp] theorem followEntry_frame (e : RecEntry) (s : State) {p : Field} (t : State)
    (hp : p ∉ [.cmd, .cipher, .xlat, .pair]) : Same p (followEntry e s) t ↔ Same p s t := by
  simp at hp
  simp only [followEntry]; (repeat' split) <;> simp [hp]

@[simp] theorem takeAhead_frame (id : Nat) (s : State) {p : Field} (t : State)
    (hp : p ∉ [.cmd, .cipher, .xlat, .pair]) : Same p (takeAhead id s) t ↔ Same p s t := by
  simp at hp
  simp only [takeAhead]; (repeat' split) <;> simp [hp]

@[simp] theorem followAck_frame (k : Nat) (s : State) {p : Field} (t : State)
    (hp : p ∉ [.cmd, .pools, .pair, .attach]) : Same p (followAck k s) t ↔ Same p s t := by
  simp at hp
  simp only [followAck]; (repeat' split) <;> simp (disch := (first | (simp [hp]; done) | (intros; (try dsimp only); (repeat' split) <;> try simp [hp]))) [hp]

@[simp] theorem dropReceived_frame (conn : Nat) (cid : Nat) (s : State) {p : Field} (t : State)
    (hp : p ∉ [.xlat]) : Same p (dropReceived conn cid s) t ↔ Same p s t := by
  simp at hp
  simp [hp, dropReceived]

@[simp] theorem pairInfo_frame (key : Option (BitVec 256)) (s : State) {p : Field} (t : State)
    (hp : p ∉ [.fresh]) : Same p (pairInfo key s).2 t ↔ Same p s t := by
  simp at hp
  simp [hp, pairInfo]

@[simp] theorem sendPairing_frame (key : Option (BitVec 256)) (s : State) {p : Field} (t : State)
    (hp : p ∉ [.fresh, .out, .pair]) : Same p (sendPairing key s) t ↔ Same p s t := by
  simp at hp
  simp [hp, sendPairing]

@[simp] theorem rebook_frame (c : Nat) (s : State) {p : Field} (t : State) (hp : p ∉ [.media]) : Same p
    (rebook c s) t ↔ Same p s t := by
  simp at hp
  simp [hp, rebook]

@[simp] theorem rebookAll_frame (s : State) {p : Field} (t : State) (hp : p ∉ [.mgmt, .xlat, .media]) : Same p
    (rebookAll s) t ↔ Same p s t := by
  simp at hp
  simp [hp, rebookAll]

@[simp] theorem releaseTargets_frame (s : State) {p : Field} (t : State) (hp : p ∉ [.mgmt, .xlat, .pair]) : Same
    p (releaseTargets s) t ↔ Same p s t := by
  simp at hp
  simp [hp, releaseTargets]

@[simp] theorem answerForwards_frame (s : State) {p : Field} (t : State) (hp : p ∉ [.out, .mgmt, .pair, .attach])
    : Same p (answerForwards s) t ↔ Same p s t := by
  simp at hp
  simp only [answerForwards]; (repeat' split) <;> simp (disch := (first | (simp [hp]; done) | (intros; (try dsimp only); (repeat' split) <;> try simp [hp]))) [hp]

@[simp] theorem endAtTakeover_frame (s : State) {p : Field} (t : State) (hp : p ∉ [.out, .mgmt, .pair, .attach])
    : Same p (endAtTakeover s) t ↔ Same p s t := by
  simp at hp
  simp [hp, endAtTakeover]

@[simp] theorem takeoverBegin_frame (afterHandover : Bool) (s : State) {p : Field} (t : State)
    (hp : p ∉ [.out, .mode, .mgmt, .cmd, .pools, .media, .pair, .attach]) : Same p
    (takeoverBegin afterHandover s) t ↔ Same p s t := by
  simp at hp
  simp [hp, takeoverBegin]

@[simp] theorem takeoverTrigger_frame (s : State) {p : Field} (t : State)
    (hp : p ∉ [.out, .mode, .mgmt, .cmd, .pools, .media, .pair, .attach]) : Same p (takeoverTrigger s) t ↔ Same p
    s t := by
  simp at hp
  simp [hp, takeoverTrigger]

@[simp] theorem planMismatch_frame (conn : Nat) (s : State) {p : Field} (t : State)
    (hp : p ∉ [.mode, .mgmt, .conns, .cmd, .pools, .pot, .egress, .cipher, .xlat, .pair, .attach]) : Same p
    (planMismatch conn s) t ↔ Same p s t := by
  simp at hp
  simp [hp, planMismatch]

@[simp] theorem adoptPlan_frame (now : Bool) (q : Planned) (s : State) {p : Field} (t : State)
    (hp : p ∉ [.mode, .mgmt, .conns, .cmd, .pools, .pot, .egress, .cipher, .xlat, .pair, .attach]) : Same p
    (adoptPlan now q s) t ↔ Same p s t := by
  simp at hp
  simp only [adoptPlan]; (repeat' split) <;> simp [hp]

@[simp] theorem buildQueues_frame (s : State) {p : Field} (t : State)
    (hp : p ∉ [.mode, .mgmt, .conns, .cmd, .pools, .pot, .egress, .cipher, .xlat, .pair, .attach]) : Same p
    (buildQueues s) t ↔ Same p s t := by
  simp at hp
  simp [hp, buildQueues]

@[simp] theorem resumeCmd_frame (id : Nat) (s : State) {p : Field} (t : State)
    (hp : p ∉ [.out, .mode, .mgmt, .conns, .cmd, .pools, .pot, .egress, .cipher, .xlat, .media, .pair, .attach])
    : Same p (resumeCmd id s) t ↔ Same p s t := by
  simp at hp
  simp only [resumeCmd]; (repeat' split) <;> simp [hp]

@[simp] theorem noteTakeover_frame (s : State) {p : Field} (t : State) (hp : p ∉ [.mgmt, .pair]) : Same p
    (noteTakeover s) t ↔ Same p s t := by
  simp at hp
  simp [hp, noteTakeover]

@[simp] theorem applyHeldAborts_frame (s : State) {p : Field} (t : State)
    (hp : p ∉ [.out, .mgmt, .conns, .cmd, .pools, .egress, .pair, .attach]) : Same p (applyHeldAborts s) t ↔ Same
    p s t := by
  simp at hp
  simp (maxDischargeDepth := 9) [hp, applyHeldAborts]

@[simp] theorem keepConfirmed_frame (s : State) {p : Field} (t : State) (hp : p ∉ [.net]) : Same p
    (keepConfirmed s) t ↔ Same p s t := by
  simp at hp
  simp [hp, keepConfirmed]

@[simp] theorem freshTcp_frame (s : State) {p : Field} (t : State) (hp : p ∉ [.conns]) : Same p (freshTcp s) t ↔
    Same p s t := by
  simp at hp
  simp [hp, freshTcp]

@[simp] theorem firstPass_frame (s : State) {p : Field} (t : State) (hp : p ∉ [.egress, .pair]) : Same p
    (firstPass s) t ↔ Same p s t := by
  simp at hp
  simp [hp, firstPass]

@[simp] theorem takeoverWon_frame (s : State) {p : Field} (t : State)
    (hp : p ∉ [.out, .mode, .mgmt, .net, .conns, .cmd, .pools, .pot, .egress, .cipher, .xlat, .media, .pair, .attach])
    : Same p (takeoverWon s) t ↔ Same p s t := by
  simp at hp
  simp [hp, takeoverWon]

@[simp] theorem takeoverLost_frame (s : State) {p : Field} (t : State)
    (hp : p ∉ [.out, .mode, .mgmt, .net, .conns, .cmd, .pools, .pot, .egress, .cipher, .xlat, .media, .pair, .attach])
    : Same p (takeoverLost s) t ↔ Same p s t := by
  simp at hp
  simp [hp, takeoverLost]

@[simp] theorem fencingWon_frame (s : State) {p : Field} (t : State)
    (hp : p ∉ [.out, .mode, .mgmt, .net, .conns, .cmd, .pools, .pot, .egress, .cipher, .xlat, .media, .pair, .attach])
    : Same p (fencingWon s) t ↔ Same p s t := by
  simp at hp
  simp [hp, fencingWon]

@[simp] theorem majorityLost_frame (s : State) {p : Field} (t : State)
    (hp : p ∉ [.out, .mode, .mgmt, .net, .conns, .cmd, .pools, .pot, .egress, .cipher, .xlat, .media, .pair, .attach])
    : Same p (majorityLost s) t ↔ Same p s t := by
  simp at hp
  simp [hp, majorityLost]

@[simp] theorem recheck_frame (s : State) {p : Field} (t : State) (hp : p ∉ [.out, .mgmt, .pools, .media, .pair])
    : Same p (recheck s) t ↔ Same p s t := by
  simp at hp
  simp [hp, recheck]

@[simp] theorem soloWon_frame (s : State) {p : Field} (t : State)
    (hp : p ∉ [.fresh, .out, .mode, .mgmt, .net, .conns, .cmd, .pools, .pot, .egress, .cipher, .xlat, .media, .pair, .attach])
    : Same p (soloWon s) t ↔ Same p s t := by
  simp at hp
  simp [hp, soloWon]

end Sys2Proof.Machine
end

