-- ==== Sys2Proof/Laws/FrameNetwork.lean ====
section
/-! SUPPORT. What each operation of Network.lean leaves unchanged, part by part. -/

namespace Sys2Proof.Machine

set_option linter.all false

@[simp] theorem portLoss_frame (p : Nat) (s : State) {q : Field} (t : State) (hp : q ∉ [.mode]) : Same q
    (portLoss p s) t ↔ Same q s t := by
  simp at hp
  simp [hp, portLoss]

@[simp] theorem endPause_frame (p : Nat) (s : State) {q : Field} (t : State) (hp : q ∉ [.mgmt, .net]) : Same q
    (endPause p s) t ↔ Same q s t := by
  simp at hp
  simp [hp, endPause]

@[simp] theorem portGoesDown_frame (p : Nat) (s : State) {q : Field} (t : State)
    (hp : q ∉ [.out, .mgmt, .net, .pair]) : Same q (portGoesDown p s) t ↔ Same q s t := by
  simp at hp
  simp [hp, portGoesDown]

@[simp] theorem recalEffect_frame (c : WCtx) (s : State) {p : Field} (t : State) (hp : p ∉ [.net]) : Same p
    (recalEffect c s) t ↔ Same p s t := by
  simp at hp
  simp [hp, recalEffect]

@[simp] theorem cageCheck_frame (g : Nat) (codes : List Nat) (s : State) {p : Field} (t : State)
    (hp : p ∉ [.out, .mgmt, .net, .pair]) : Same p (cageCheck g codes s) t ↔ Same p s t := by
  simp at hp
  simp [hp, cageCheck]

@[simp] theorem readCages_frame (cages : List (Group × List Nat)) (s : State) {p : Field} (t : State)
    (hp : p ∉ [.out, .mgmt, .net, .pair]) : Same p (readCages cages s) t ↔ Same p s t := by
  simp at hp
  simp [hp, readCages]

@[simp] theorem coldCheck_frame (s : State) {p : Field} (t : State) (hp : p ∉ [.pair]) : Same p (coldCheck s) t ↔
    Same p s t := by
  simp at hp
  simp [hp, coldCheck]

@[simp] theorem compareGroup_frame (g : Nat) (s : State) {p : Field} (t : State) (hp : p ∉ [.net, .pair]) : Same
    p (compareGroup g s) t ↔ Same p s t := by
  simp at hp
  simp [hp, compareGroup]

@[simp] theorem groupEffect_frame (g : Nat) (code : Nat) (s : State) {p : Field} (t : State)
    (hp : p ∉ [.out, .mgmt, .net, .pair]) : Same p (groupEffect g code s) t ↔ Same p s t := by
  simp at hp
  simp [hp, groupEffect]

@[simp] theorem groupConfigEffect_frame (c : WCtx) (s : State) {p : Field} (t : State)
    (hp : p ∉ [.out, .mgmt, .dict, .net, .pair]) : Same p (groupConfigEffect c s) t ↔ Same p s t := by
  simp at hp
  simp [hp, groupConfigEffect]

@[simp] theorem endService_frame (p : Nat) (s : State) {q : Field} (t : State)
    (hp : q ∉ [.mode, .mgmt, .conns, .cmd, .pools, .pot, .egress, .cipher, .xlat, .pair, .attach]) : Same q
    (endService p s) t ↔ Same q s t := by
  simp at hp
  simp [hp, endService]

@[simp] theorem groupMacApplied_frame (p : Nat) (s : State) {q : Field} (t : State)
    (hp : q ∉ [.mode, .mgmt, .net, .conns, .cmd, .pools, .pot, .egress, .cipher, .xlat, .pair, .attach]) : Same q
    (groupMacApplied p s) t ↔ Same q s t := by
  simp at hp
  simp [hp, groupMacApplied]

@[simp] theorem groupMacEffect_frame (c : WCtx) (s : State) {p : Field} (t : State)
    (hp : p ∉ [.mode, .mgmt, .dict, .net, .conns, .cmd, .pools, .pot, .egress, .cipher, .xlat, .pair, .attach]) :
    Same p (groupMacEffect c s) t ↔ Same p s t := by
  simp at hp
  simp [hp, groupMacEffect]

@[simp] theorem portEnableApplied_frame (p : Nat) (on : Bool) (s : State) {q : Field} (t : State)
    (hp : q ∉ [.out, .mgmt, .net, .pair]) : Same q (portEnableApplied p on s) t ↔ Same q s t := by
  simp at hp
  simp [hp, portEnableApplied]

@[simp] theorem portEnableEffect_frame (c : WCtx) (s : State) {p : Field} (t : State)
    (hp : p ∉ [.out, .mgmt, .dict, .net, .pair]) : Same p (portEnableEffect c s) t ↔ Same p s t := by
  simp at hp
  simp [hp, portEnableEffect]

@[simp] theorem retain_frame (conn : Nat) (pos : Nat) (b : Bytes) (s : State) {p : Field} (t : State)
    (hp : p ∉ [.net]) : Same p (retain conn pos b s) t ↔ Same p s t := by
  simp at hp
  simp [hp, retain]

@[simp] theorem frameBody_frame (p : Nat) (b : FrameBody) (s : State) {q : Field} (t : State)
    (hp : q ∉ [.out, .net, .pair]) : Same q (frameBody p b s) t ↔ Same q s t := by
  simp at hp
  simp only [frameBody]; (repeat' split) <;> simp [hp]

@[simp] theorem pfcSend_frame (p : Nat) (s : State) {q : Field} (t : State) (hp : q ∉ [.fresh, .out]) : Same q
    (pfcSend p s) t ↔ Same q s t := by
  simp at hp
  simp only [pfcSend]; (repeat' split) <;> simp [hp]

@[simp] theorem fecCount_frame (p : Nat) (f : EthFrame) (s : State) {q : Field} (t : State) (hp : q ∉ [.mgmt]) :
    Same q (fecCount p f s) t ↔ Same q s t := by
  simp at hp
  simp [hp, fecCount]

@[simp] theorem frameArrives_frame (p : Nat) (f : EthFrame) (s : State) {q : Field} (t : State)
    (hp : q ∉ [.fresh, .out, .mgmt, .net, .pair]) : Same q (frameArrives p f s) t ↔ Same q s t := by
  simp at hp
  simp [hp, frameArrives]

@[simp] theorem putNeighbour_frame (p : Nat) (addr : Bytes) (mac : BitVec 48) (s : State) {q : Field} (t : State)
    (hp : q ∉ [.net]) : Same q (putNeighbour p addr mac s) t ↔ Same q s t := by
  simp at hp
  simp [hp, putNeighbour]

@[simp] theorem touchNeighbour_frame (i : ConnInfo) (s : State) {p : Field} (t : State) (hp : p ∉ [.net]) : Same
    p (touchNeighbour i s) t ↔ Same p s t := by
  simp at hp
  simp only [touchNeighbour]; (repeat' split) <;> simp [hp]

@[simp] theorem resolveHop_frame (i : ConnInfo) (s : State) {p : Field} (t : State) (hp : p ∉ [.net, .egress]) :
    Same p (resolveHop i s) t ↔ Same p s t := by
  simp at hp
  simp [hp, resolveHop]

@[simp] theorem soloEntry_frame (s : State) {p : Field} (t : State)
    (hp : p ∉ [.out, .mgmt, .pools, .media, .pair]) : Same p (soloEntry s) t ↔ Same p s t := by
  simp at hp
  simp [hp, soloEntry]

@[simp] theorem portLost_frame (p : Nat) (s : State) {q : Field} (t : State) (hp : q ∉ [.mgmt, .net, .pair]) :
    Same q (portLost p s) t ↔ Same q s t := by
  simp at hp
  simp [hp, portLost]

@[simp] theorem probeMissed_frame (p : Nat) (s : State) {q : Field} (t : State) (hp : q ∉ [.mgmt, .net, .pair]) :
    Same q (probeMissed p s) t ↔ Same q s t := by
  simp at hp
  simp [hp, probeMissed]

@[simp] theorem probeSend_frame (p : Nat) (s : State) {q : Field} (t : State) (hp : q ∉ [.net, .egress]) : Same q
    (probeSend p s) t ↔ Same q s t := by
  simp at hp
  simp [hp, probeSend]

@[simp] theorem probeReceived_frame (p : Nat) (s : State) {q : Field} (t : State) (hp : q ∉ [.net]) : Same q
    (probeReceived p s) t ↔ Same q s t := by
  simp at hp
  simp [hp, probeReceived]

@[simp] theorem partnerPortDown_frame (p : Nat) (s : State) {q : Field} (t : State)
    (hp : q ∉ [.mgmt, .net, .pair]) : Same q (partnerPortDown p s) t ↔ Same q s t := by
  simp at hp
  simp [hp, partnerPortDown]

@[simp] theorem rejoinBegin_frame (s : State) {p : Field} (t : State)
    (hp : p ∉ [.fresh, .out, .mode, .mgmt, .cmd, .pools, .pair, .attach]) : Same p (rejoinBegin s) t ↔ Same p s t
    := by
  simp at hp
  simp [hp, rejoinBegin]

end Sys2Proof.Machine
end

