-- ==== Sys2Proof/Laws/FrameTransport.lean ====
section
/-! SUPPORT. What each operation of Transport.lean leaves unchanged, part by part. -/

namespace Sys2Proof.Machine

set_option linter.all false

@[simp] theorem openConn_frame (info : ConnInfo) (half : Bool) (s : State) {p : Field} (t : State)
    (hp : p ∉ [.mgmt, .conns, .pair]) : Same p (openConn info half s).2 t ↔ Same p s t := by
  simp at hp
  simp [hp, openConn]

@[simp] theorem refuseOpen_frame (i : ConnInfo) (s : State) {p : Field} (t : State)
    (hp : p ∉ [.mgmt, .conns, .egress, .cipher, .pair]) : Same p (refuseOpen i s) t ↔ Same p s t := by
  simp at hp
  simp [hp, refuseOpen]

@[simp] theorem noteFull_frame (s : State) {p : Field} (t : State) (hp : p ∉ [.mgmt]) : Same p (noteFull s) t ↔
    Same p s t := by
  simp at hp
  simp [hp, noteFull]

@[simp] theorem recordRx_frame (k : Nat) (old : Nat) (s : State) {p : Field} (t : State)
    (hp : p ∉ [.mgmt, .pair]) : Same p (recordRx k old s) t ↔ Same p s t := by
  simp at hp
  simp only [recordRx]; (repeat' split) <;> simp [hp]

@[simp] theorem sendAck_frame (k : Nat) (s : State) {p : Field} (t : State) (hp : p ∉ [.egress]) : Same p
    (sendAck k s) t ↔ Same p s t := by
  simp at hp
  unfold sendAck; refine when_same _ _ _ _ ?_; dsimp only; split <;> simp [hp]

@[simp] theorem noteMissed_frame (k : Nat) (seq : Nat) (len : Nat) (s : State) {p : Field} (t : State)
    (hp : p ∉ [.conns]) : Same p (noteMissed k seq len s) t ↔ Same p s t := by
  simp at hp
  simp [hp, noteMissed]

@[simp] theorem holdCapsule_frame (k : Nat) (pool : Nat) (n : Nat) (capsule : Bool) (s : State) {p : Field}
    (t : State) (hp : p ∉ [.conns, .pools]) : Same p (holdCapsule k pool n capsule s) t ↔ Same p s t := by
  simp at hp
  simp [hp, holdCapsule]

@[simp] theorem dropAcked_frame (k : Nat) (pos : Nat) (s : State) {p : Field} (t : State)
    (hp : p ∉ [.mode, .mgmt, .conns, .pools, .pot]) : Same p (dropAcked k pos s) t ↔ Same p s t := by
  simp at hp
  simp only [dropAcked]; (repeat' split) <;> simp [hp]

@[simp] theorem ackUpTo_frame (k : Nat) (pos : Nat) (s : State) {p : Field} (t : State)
    (hp : p ∉ [.mode, .mgmt, .conns, .cmd, .pools, .pot, .pair, .attach]) : Same p (ackUpTo k pos s) t ↔ Same p s
    t := by
  simp at hp
  simp only [ackUpTo]; (repeat' split) <;> simp [hp]

@[simp] theorem resendAt_frame (k : Nat) (pos : Nat) (n : Nat) (s : State) {p : Field} (t : State)
    (hp : p ∉ [.conns]) : Same p (resendAt k pos n s) t ↔ Same p s t := by
  simp at hp
  simp [hp, resendAt]

@[simp] theorem retransmit_frame (k : Nat) (s : State) {p : Field} (t : State) (hp : p ∉ [.conns]) : Same p
    (retransmit k s) t ↔ Same p s t := by
  simp at hp
  simp only [retransmit]; (repeat' split) <;> simp [hp]

@[simp] theorem enterRecovery_frame (k : Nat) (x : Conn) (s : State) {p : Field} (t : State) (hp : p ∉ [.conns])
    : Same p (enterRecovery k x s) t ↔ Same p s t := by
  simp at hp
  simp [hp, enterRecovery]

@[simp] theorem fillHole_frame (k : Nat) (s : State) {p : Field} (t : State) (hp : p ∉ [.conns]) : Same p
    (fillHole k s) t ↔ Same p s t := by
  simp at hp
  simp only [fillHole]; (repeat' split) <;> simp [hp]

@[simp] theorem tcpDuplicate_frame (k : Nat) (s : State) {p : Field} (t : State) (hp : p ∉ [.conns]) : Same p
    (tcpDuplicate k s) t ↔ Same p s t := by
  simp at hp
  simp only [tcpDuplicate]; (repeat' split) <;> simp [hp]

@[simp] theorem tcpAckArrives_frame (k : Nat) (pos : Nat) (wnd : Nat) (sack : List (Nat × Nat)) (s : State)
    {p : Field} (t : State) (hp : p ∉ [.mode, .mgmt, .conns, .cmd, .pools, .pot, .pair, .attach]) : Same p
    (tcpAckArrives k pos wnd sack s) t ↔ Same p s t := by
  simp at hp
  simp only [tcpAckArrives]; (repeat' split) <;> simp [hp]

@[simp] theorem tcpTimeout_frame (k : Nat) (s : State) {p : Field} (t : State) (hp : p ∉ [.conns]) : Same p
    (tcpTimeout k s) t ↔ Same p s t := by
  simp at hp
  simp only [tcpTimeout]; (repeat' split) <;> simp [hp]

@[simp] theorem tlsStart_frame (k : Nat) (o : TlsOpen) (s : State) {p : Field} (t : State)
    (hp : p ∉ [.mgmt, .conns, .cipher]) : Same p (tlsStart k o s) t ↔ Same p s t := by
  simp at hp
  simp [hp, tlsStart]

@[simp] theorem tlsFail_frame (k : Nat) (code : Nat) (s : State) {p : Field} (t : State)
    (hp : p ∉ [.mode, .mgmt, .conns, .cmd, .pools, .pot, .egress, .cipher, .xlat, .pair, .attach]) : Same p
    (tlsFail k code s) t ↔ Same p s t := by
  simp at hp
  simp only [tlsFail]; (repeat' split) <;> simp [hp]

@[simp] theorem sendKeyUpdate_frame (k : Nat) (s : State) {p : Field} (t : State)
    (hp : p ∉ [.mgmt, .conns, .egress, .pair]) : Same p (sendKeyUpdate k s) t ↔ Same p s t := by
  simp at hp
  simp [hp, sendKeyUpdate]

@[simp] theorem roceRetry_frame (k : Nat) (x : Conn) (s : State) {p : Field} (t : State)
    (hp : p ∉ [.mode, .mgmt, .conns, .cmd, .pools, .pot, .egress, .cipher, .xlat, .pair, .attach]) : Same p
    (roceRetry k x s) t ↔ Same p s t := by
  simp at hp
  simp [hp, roceRetry]

@[simp] theorem rnrRetry_frame (k : Nat) (x : Conn) (s : State) {p : Field} (t : State)
    (hp : p ∉ [.mode, .mgmt, .conns, .cmd, .pools, .pot, .egress, .cipher, .xlat, .pair, .attach]) : Same p
    (rnrRetry k x s) t ↔ Same p s t := by
  simp at hp
  simp [hp, rnrRetry]

@[simp] theorem remoteFails_frame (k : Nat) (psn : Nat) (s : State) {p : Field} (t : State)
    (hp : p ∉ [.out, .mode, .mgmt, .conns, .cmd, .pools, .pot, .egress, .pair, .attach]) : Same p
    (remoteFails k psn s) t ↔ Same p s t := by
  simp at hp
  simp only [remoteFails]; (repeat' split) <;> simp [hp]

@[simp] theorem roceAckArrives_frame (k : Nat) (psn : Nat) (nak : Option RoceNak) (s : State) {p : Field}
    (t : State)
    (hp : p ∉ [.out, .mode, .mgmt, .conns, .cmd, .pools, .pot, .egress, .cipher, .xlat, .pair, .attach]) : Same p
    (roceAckArrives k psn nak s) t ↔ Same p s t := by
  simp at hp
  simp only [roceAckArrives]; (repeat' split) <;> simp [hp]

@[simp] theorem headUp_frame (p : Nat) (s : State) {q : Field} (t : State) (hp : q ∉ [.conns, .egress]) : Same q
    (headUp p s) t ↔ Same q s t := by
  simp at hp
  simp [hp, headUp]

@[simp] theorem egCharge_frame (x : Conn) (k : Nat) (len : Nat) (s : State) {p : Field} (t : State)
    (hp : p ∉ [.egress]) : Same p (egCharge x k len s) t ↔ Same p s t := by
  simp at hp
  simp [hp, egCharge]

@[simp] theorem firstPassSent_frame (k : Nat) (s : State) {p : Field} (t : State) (hp : p ∉ [.pair]) : Same p
    (firstPassSent k s) t ↔ Same p s t := by
  simp at hp
  simp [hp, firstPassSent]

@[simp] theorem sendControl_frame (p : Nat) (q : Nat × FrameHdr × HostMsg) (s : State) {pp : Field} (tt : State)
    (hp : pp ∉ [.out, .mgmt, .net, .pools, .egress, .pair]) : Same pp (sendControl p q s) tt ↔ Same pp s tt := by
  simp at hp
  simp only [sendControl]; (repeat' split) <;> simp [hp]

@[simp] theorem frameOut_frame (p : Nat) (k : Nat) (off : Nat) (len : Nat) (last : Bool) (m : HostMsg)
    (h : FrameHdr) (pr : Option TlsProt) (s : State) {q : Field} (t : State) (hp : q ∉ [.out, .conns, .egress]) :
    Same q (frameOut p k off len last m h pr s) t ↔ Same q s t := by
  simp at hp
  simp only [frameOut]; (repeat' split) <;> simp [hp]

@[simp] theorem sendFrame_frame (p : Nat) (k : Nat) (x : Conn) (committed : Bool) (f : TxFrame) (c : Option Nat)
    (s : State) {q : Field} (t : State) (hp : q ∉ [.out, .mgmt, .net, .conns, .egress, .cipher]) : Same q
    (sendFrame p k x committed f c s) t ↔ Same q s t := by
  simp at hp
  simp only [sendFrame]; (repeat' split) <;> simp [hp]

@[simp] theorem sendSelected_frame (p : Nat) (k : Nat) (x : Conn) (committed : Bool) (f : TxFrame) (s : State)
    {q : Field} (t : State) (hp : q ∉ [.out, .mgmt, .net, .conns, .pools, .egress, .cipher]) : Same q
    (sendSelected p k x committed f s) t ↔ Same q s t := by
  simp at hp
  simp only [sendSelected]; (repeat' split) <;> simp [hp]

@[simp] theorem resolvePort_frame (p : Nat) (s : State) {q : Field} (t : State) (hp : q ∉ [.net, .egress]) : Same
    q (resolvePort p s) t ↔ Same q s t := by
  simp at hp
  simp [hp, resolvePort]

@[simp] theorem egressSelect_frame (p : Nat) (s : State) {q : Field} (t : State)
    (hp : q ∉ [.out, .mode, .mgmt, .net, .conns, .cmd, .pools, .pot, .egress, .cipher, .xlat, .pair, .attach]) :
    Same q (egressSelect p s) t ↔ Same q s t := by
  simp at hp
  simp only [egressSelect]; (repeat' split) <;> simp [hp]

end Sys2Proof.Machine
end

