-- ==== Sys2Proof/Laws/FrameCommands.lean ====
section
/-! SUPPORT. What each operation of Commands.lean leaves unchanged, part by part. -/

namespace Sys2Proof.Machine

set_option linter.all false

@[simp] theorem joinQueue_frame (k : Nat) (q : QueueInfo) (s : State) {p : Field} (t : State)
    (hp : p ∉ [.conns, .cmd]) : Same p (joinQueue k q s) t ↔ Same p s t := by
  simp at hp
  simp [hp, joinQueue]

@[simp] theorem connectReply_frame (k : Nat) (cid : Nat) (st : Status) (cntlid : Nat) (f : ConnectField)
    (s : State) {p : Field} (t : State) (hp : p ∉ [.mgmt, .conns, .egress, .pair]) : Same p
    (connectReply k cid st cntlid f s) t ↔ Same p s t := by
  simp at hp
  simp [hp, connectReply]

@[simp] theorem connectFails_frame (k : Nat) (cid : Nat) (hostnqn : Bytes) (st : Status) (f : ConnectField)
    (s : State) {p : Field} (t : State) (hp : p ∉ [.mgmt, .conns, .egress, .pair]) : Same p
    (connectFails k cid hostnqn st f s) t ↔ Same p s t := by
  simp at hp
  simp [hp, connectFails]

@[simp] theorem takeCapsule_frame (k : Nat) (n : Nat) (s : State) {p : Field} (t : State)
    (hp : p ∉ [.mgmt, .conns, .pools, .egress]) : Same p (takeCapsule k n s).2 t ↔ Same p s t := by
  simp at hp
  simp only [takeCapsule]; (repeat' split) <;> simp [hp]

@[simp] theorem dropCapsule_frame (k : Nat) (s : State) {p : Field} (t : State)
    (hp : p ∉ [.mgmt, .conns, .pools, .egress]) : Same p (dropCapsule k s) t ↔ Same p s t := by
  simp at hp
  simp [hp, dropCapsule]

theorem takeEntry_frame {q e : Nat} {s t : State} (h : takeEntry q s = some (e, t)) {p : Field} (u : State)
    (hp : p ∉ [.attach]) : Same p t u ↔ Same p s u := by
  simp at hp
  unfold takeEntry at h; dsimp only at h; (repeat' split at h) <;> cases h <;> simp [hp]

@[simp] theorem withAdmin_same (a : AdmCmd) (k : Option Nat → State → State) (s : State) {p : Field} (t : State)
    (hp : p ∉ [.out, .mode, .mgmt, .conns, .cmd, .pools, .pot, .egress, .cipher, .xlat, .pair, .attach])
    (hk : ∀ x s, Same p (k x s) t ↔ Same p s t) : Same p (withAdmin a k s) t ↔ Same p s t := by
  simp at hp
  unfold withAdmin; dsimp only; (repeat' split) <;> first
    | (simp [hp, hk]; done)
    | (rename_i h; simp [hp, hk, takeEntry_frame h]; done)
    | (rename_i h _; simp [hp, hk, takeEntry_frame h]; done)

@[simp] theorem pageReply_frame (a : AdmCmd) (kind : Nat) (b : Bytes) (s : State) {p : Field} (t : State)
    (hp : p ∉ [.out, .mgmt, .conns, .cmd, .egress, .pair, .attach]) : Same p (pageReply a kind b s) t ↔ Same p s
    t := by
  simp at hp
  simp [hp, pageReply]

theorem logPage_frame {k : Option Nat} {lid : Nat} {retain : Bool} {b : Bytes} {s t : State}
    (h : logPage k lid retain s = some (b, t)) {p : Field} (u : State) (hp : p ∉ [.cmd, .attach]) :
    Same p t u ↔ Same p s u := by
  simp at hp
  unfold logPage at h; dsimp only at h
  (repeat' split at h) <;> simp only [Option.some.injEq, Prod.mk.injEq, reduceCtorEq] at h <;>
    obtain ⟨-, rfl⟩ := h <;> simp [hp]

theorem discPage_frame {i : Nat} {x : Ctrl} {lid : Nat} {retain : Bool} {b : Bytes} {s t : State}
    (h : discPage i x lid retain s = some (b, t)) {p : Field} (u : State) (hp : p ∉ [.cmd]) :
    Same p t u ↔ Same p s u := by
  simp at hp
  unfold discPage at h
  split at h <;> simp only [Option.some.injEq, Prod.mk.injEq, reduceCtorEq] at h
  obtain ⟨-, rfl⟩ := h
  simp [hp]

@[simp] theorem tellOwed_frame (i : Nat) (s : State) {p : Field} (t : State)
    (hp : p ∉ [.mgmt, .conns, .cmd, .egress, .pair]) : Same p (tellOwed i s) t ↔ Same p s t := by
  simp at hp
  unfold tellOwed; (repeat' split) <;> simp [hp]

@[simp] theorem attachTellOwed_frame (s : State) {p : Field} (t : State) (hp : p ∉ [.out, .attach]) : Same p
    (attachTellOwed s) t ↔ Same p s t := by
  simp at hp
  simp [hp, attachTellOwed]

@[simp] theorem attachAdmin_same (cid : Nat) (k : State → Status × State) (s : State) {p : Field} (t : State)
    (hp : p ∉ [.out, .mode, .mgmt, .conns, .cmd, .pools, .pot, .egress, .cipher, .xlat, .pair, .attach])
    (hk : ∀ s, Same p (k s).2 t ↔ Same p s t) : Same p (attachAdmin cid k s) t ↔ Same p s t := by
  unfold attachAdmin
  refine withAdmin_same _ _ _ _ hp fun x s => ?_
  simp at hp
  simp [hp, hk]

@[simp] theorem enterCmd_frame (c : Cmd) (s : State) {p : Field} (t : State) (hp : p ∉ [.cmd]) : Same p
    (enterCmd c s).2 t ↔ Same p s t := by
  simp at hp
  simp [hp, enterCmd]

@[simp] theorem judge_frame (id : Nat) (st : Status) (s : State) {p : Field} (t : State)
    (hp : p ∉ [.out, .mode, .mgmt, .conns, .cmd, .pools, .pot, .egress, .cipher, .xlat, .media, .pair, .attach])
    : Same p (judge id st s) t ↔ Same p s t := by
  simp at hp
  simp [hp, judge]

@[simp] theorem dropEnded_frame (k : Nat) (cid : Nat) (s : State) {p : Field} (t : State)
    (hp : p ∉ [.cmd, .pools, .attach]) : Same p (dropEnded k cid s) t ↔ Same p s t := by
  simp at hp
  simp [hp, dropEnded]

@[simp] theorem fabricIo_frame (o : Opc) (c : IoCmd) (k : Nat) (x : Conn) (dealloc : Bool)
    (ranges : List (Nat × Nat)) (inCap : Option (List Bytes)) (s : State) {p : Field} (t : State)
    (hp : p ∉ [.out, .mode, .mgmt, .conns, .cmd, .pools, .pot, .egress, .cipher, .xlat, .media, .pair, .attach])
    : Same p (fabricIo o c k x dealloc ranges inCap s) t ↔ Same p s t := by
  simp at hp
  simp only [fabricIo]; (repeat' split) <;> simp [hp]

@[simp] theorem attachIo_frame (o : Opc) (c : IoCmd) (q : Nat) (dealloc : Bool) (ranges : List (Nat × Nat))
    (s : State) {p : Field} (t : State)
    (hp : p ∉ [.out, .mode, .mgmt, .conns, .cmd, .pools, .pot, .egress, .cipher, .xlat, .media, .pair, .attach])
    : Same p (attachIo o c q dealloc ranges s) t ↔ Same p s t := by
  simp at hp
  unfold attachIo; split
  · simp [hp]
  · split
    · simp [hp]
    · rename_i h; simp [hp, takeEntry_frame h]

@[simp] theorem ioArrive_frame (o : Opc) (c : IoCmd) (dealloc : Bool) (ranges : List (Nat × Nat))
    (inCap : Option (List Bytes)) (s : State) {p : Field} (t : State)
    (hp : p ∉ [.out, .mode, .mgmt, .conns, .cmd, .pools, .pot, .egress, .cipher, .xlat, .media, .pair, .attach])
    : Same p (ioArrive o c dealloc ranges inCap s) t ↔ Same p s t := by
  simp at hp
  simp only [ioArrive]; (repeat' split) <;> simp [hp]

@[simp] theorem missData_frame (conn : Nat) (ttag : Nat) (n : Nat) (s : State) {p : Field} (t : State)
    (hp : p ∉ [.conns]) : Same p (missData conn ttag n s) t ↔ Same p s t := by
  simp at hp
  simp only [missData]; (repeat' split) <;> simp [hp]

@[simp] theorem retestHead_frame (k : Nat) (s : State) {p : Field} (t : State)
    (hp : p ∉ [.out, .mode, .mgmt, .conns, .cmd, .pools, .pot, .egress, .cipher, .xlat, .media, .pair, .attach])
    : Same p (retestHead k s) t ↔ Same p s t := by
  simp at hp
  simp only [retestHead]; (repeat' split) <;> simp [hp]

@[simp] theorem retestRounds_frame (a0 : Nat) (a1 : State) {p : Field} (t : State)
    (hp : p ∉ [.out, .mode, .mgmt, .conns, .cmd, .pools, .pot, .egress, .cipher, .xlat, .media, .pair, .attach])
    : Same p (retestRounds a0 a1) t ↔ Same p a1 t := by
  simp at hp
  induction a0 generalizing a1 with
  | zero => simp [hp, retestRounds]
  | succ n ih => unfold retestRounds; dsimp only; split <;> simp [hp, ih]

end Sys2Proof.Machine
end

