-- ==== Sys2Proof/Laws/FrameCipher.lean ====
section
/-! SUPPORT. What each operation of Cipher.lean leaves unchanged, part by part. -/

namespace Sys2Proof.Machine

set_option linter.all false

@[simp] theorem dropUnit_frame (id : Nat) (s : State) {p : Field} (t : State) (hp : p ∉ [.cipher]) : Same p
    (dropUnit id s) t ↔ Same p s t := by
  simp at hp
  simp [hp, dropUnit]

@[simp] theorem writeCompared_frame (cmd : Nat) (idx : Nat) (ct : Bytes) (s : State) {p : Field} (t : State)
    (hp : p ∉ [.out, .mode, .mgmt, .conns, .cmd, .pools, .pot, .egress, .xlat, .pair, .attach]) : Same p
    (writeCompared cmd idx ct s) t ↔ Same p s t := by
  simp at hp
  simp only [writeCompared]; (repeat' split) <;> simp [hp]

@[simp] theorem egressCompared_frame (p : Nat) (k : Nat) (off : Nat) (len : Nat) (last : Bool) (m : HostMsg)
    (h : FrameHdr) (pr : Option TlsProt) (s : State) {q : Field} (t : State) (hp : q ∉ [.out, .conns, .egress]) :
    Same q (egressCompared p k off len last m h pr s) t ↔ Same q s t := by
  simp at hp
  simp only [egressCompared]; (repeat' split) <;> simp [hp]

@[simp] theorem ingressPasses_frame (k : Nat) (ctype : Nat) (s : State) {p : Field} (t : State)
    (hp : p ∉ [.mgmt, .conns, .pair]) : Same p (ingressPasses k ctype s) t ↔ Same p s t := by
  simp at hp
  simp only [ingressPasses]; (repeat' split) <;> simp [hp]

@[simp] theorem ingressOpened_frame (k : Nat) (ctype : Nat) (fault : Option Nat) (s : State) {p : Field}
    (t : State) (hp : p ∉ [.mode, .mgmt, .conns, .cmd, .pools, .pot, .egress, .cipher, .xlat, .pair, .attach]) :
    Same p (ingressOpened k ctype fault s) t ↔ Same p s t := by
  simp at hp
  simp only [ingressOpened]; (repeat' split) <;> simp [hp]

@[simp] theorem releaseUnit_frame (u : CUnit) (s : State) {p : Field} (t : State)
    (hp : p ∉ [.out, .mode, .mgmt, .conns, .cmd, .pools, .pot, .egress, .cipher, .xlat, .media, .pair, .attach])
    : Same p (releaseUnit u s) t ↔ Same p s t := by
  simp at hp
  simp only [releaseUnit]; (repeat' split) <;> simp [hp]

@[simp] theorem recordForged_frame (k : Nat) (s : State) {p : Field} (t : State)
    (hp : p ∉ [.mode, .mgmt, .conns, .cmd, .pools, .pot, .egress, .cipher, .xlat, .pair, .attach]) : Same p
    (recordForged k s) t ↔ Same p s t := by
  simp at hp
  simp [hp, recordForged]

@[simp] theorem unitPassed_frame (id : Nat) (u : CUnit) (tag : Bool) (s : State) {p : Field} (t : State)
    (hp : p ∉ [.out, .mode, .mgmt, .conns, .cmd, .pools, .pot, .egress, .cipher, .xlat, .media, .pair, .attach])
    : Same p (unitPassed id u tag s) t ↔ Same p s t := by
  simp at hp
  simp only [unitPassed]; (repeat' split) <;> simp [hp]

@[simp] theorem unitFailed_frame (id : Nat) (u : CUnit) (s : State) {p : Field} (t : State)
    (hp : p ∉ [.out, .mode, .mgmt, .conns, .cmd, .pools, .pot, .egress, .cipher, .xlat, .media, .pair, .attach])
    : Same p (unitFailed id u s) t ↔ Same p s t := by
  simp at hp
  simp only [unitFailed]; (repeat' split) <;> simp [hp]

@[simp] theorem clusterShort_frame (c : Nat) (s : State) {p : Field} (t : State)
    (hp : p ∉ [.out, .mode, .mgmt, .cmd, .pools, .attach]) : Same p (clusterShort c s) t ↔ Same p s t := by
  simp at hp
  simp [hp, clusterShort]

@[simp] theorem setLane_frame (l : Nat) (st : ElemState) (s : State) {p : Field} (t : State) (hp : p ∉ [.cipher])
    : Same p (setLane l st s) t ↔ Same p s t := by
  simp at hp
  simp [hp, setLane]

@[simp] theorem laneToRepair_frame (l : Nat) (s : State) {p : Field} (t : State)
    (hp : p ∉ [.out, .mode, .mgmt, .cmd, .pools, .cipher, .attach]) : Same p (laneToRepair l s) t ↔ Same p s t :=
    by
  simp at hp
  simp only [laneToRepair]; (repeat' split) <;> simp [hp]

@[simp] theorem countMismatch_frame (l : Nat) (s : State) {p : Field} (t : State) (hp : p ∉ [.mgmt]) : Same p
    (countMismatch l s) t ↔ Same p s t := by
  simp at hp
  simp [hp, countMismatch]

@[simp] theorem unitMismatch_frame (id : Nat) (u : CUnit) (sumA : BitVec 64) (sumB : BitVec 64) (s : State)
    {p : Field} (t : State)
    (hp : p ∉ [.out, .mode, .mgmt, .conns, .cmd, .pools, .pot, .egress, .cipher, .xlat, .media, .pair, .attach])
    : Same p (unitMismatch id u sumA sumB s) t ↔ Same p s t := by
  simp at hp
  simp [hp, unitMismatch]

@[simp] theorem newKey_frame (s : State) {p : Field} (t : State) (hp : p ∉ [.fresh]) : Same p (newKey s).2 t ↔
    Same p s t := by
  simp at hp
  simp [hp, newKey]

@[simp] theorem putKey_frame (ns : Nat) (gen : Nat) (k : Option Key) (old : Option Key) (s : State) {p : Field}
    (t : State) (hp : p ∉ [.mgmt, .keys, .pair]) : Same p (putKey ns gen k old s) t ↔ Same p s t := by
  simp at hp
  simp [hp, putKey]

@[simp] theorem cryptoEraseEffect_frame (c : WCtx) (s : State) {p : Field} (t : State) (hp : p ∉ [.keys]) : Same
    p (cryptoEraseEffect c s) t ↔ Same p s t := by
  simp at hp
  simp [hp, cryptoEraseEffect]

@[simp] theorem cryptoSwitch_frame (ns : Nat) (s : State) {p : Field} (t : State)
    (hp : p ∉ [.fresh, .mode, .mgmt, .cmd, .pools, .pot, .cipher, .keys, .xlat, .pair]) : Same p
    (cryptoSwitch ns s) t ↔ Same p s t := by
  simp at hp
  simp [hp, cryptoSwitch]

@[simp] theorem escrowEffect_frame (c : WCtx) (s : State) {p : Field} (t : State) (hp : p ∉ [.keys]) : Same p
    (escrowEffect c s) t ↔ Same p s t := by
  simp at hp
  simp [hp, escrowEffect]

@[simp] theorem keyImportEffect_frame (c : WCtx) (s : State) {p : Field} (t : State) (hp : p ∉ [.keys]) : Same p
    (keyImportEffect c s) t ↔ Same p s t := by
  simp at hp
  simp [hp, keyImportEffect]

@[simp] theorem pskEffect_frame (c : WCtx) (s : State) {p : Field} (t : State) (hp : p ∉ [.mgmt, .keys, .pair]) :
    Same p (pskEffect c s) t ↔ Same p s t := by
  simp at hp
  simp [hp, pskEffect]

end Sys2Proof.Machine
end

