-- ==== Sys2Proof/Laws/FrameBuffers.lean ====
section
/-! SUPPORT. What each operation of Buffers.lean leaves unchanged, part by part. -/

namespace Sys2Proof.Machine

set_option linter.all false

@[simp] theorem retryMisses_frame (a0 : Nat) (a1 : State) {p : Field} (t : State)
    (hp : p ∉ [.out, .mode, .mgmt, .conns, .cmd, .pools, .pot, .egress, .cipher, .xlat, .media, .pair, .attach])
    : Same p (retryMisses a0 a1) t ↔ Same p a1 t := by
  simp at hp
  induction a0 generalizing a1 with
  | zero => simp [hp, retryMisses]
  | succ n ih => unfold retryMisses; dsimp only; (repeat' split) <;> simp [hp, ih]

@[simp] theorem retryProgs_frame (s : State) {p : Field} (t : State) (hp : p ∉ [.mgmt, .pools, .xlat, .media]) :
    Same p (retryProgs s) t ↔ Same p s t := by
  simp at hp
  simp [hp, retryProgs]

@[simp] theorem retryRecons_frame (s : State) {p : Field} (t : State) (hp : p ∉ [.mgmt, .pools, .xlat, .media]) :
    Same p (retryRecons s) t ↔ Same p s t := by
  simp at hp
  simp only [retryRecons]; (repeat' split) <;> simp (disch := (first | (simp [hp]; done) | (intros; (try dsimp only); (repeat' split) <;> try simp [hp]))) [hp]

@[simp] theorem retryJobs_frame (s : State) {p : Field} (t : State)
    (hp : p ∉ [.mgmt, .pools, .xlat, .media, .pair]) : Same p (retryJobs s) t ↔ Same p s t := by
  simp at hp
  simp [hp, retryJobs]

@[simp] theorem handStep_frame (id : Nat) (s : State) {p : Field} (t : State) (hp : p ∉ [.pot]) : Same p
    (handStep id s) t ↔ Same p s t := by
  simp at hp
  simp [hp, handStep]

@[simp] theorem handVisit_frame (s : State) {p : Field} (t : State) (hp : p ∉ [.mode, .mgmt, .pools, .pot]) :
    Same p (handVisit s) t ↔ Same p s t := by
  simp at hp
  simp only [handVisit]; (repeat' split) <;> simp [hp]

@[simp] theorem handRun_frame (a0 : Nat) (a1 : State) {p : Field} (t : State)
    (hp : p ∉ [.mode, .mgmt, .pools, .pot]) : Same p (handRun a0 a1) t ↔ Same p a1 t := by
  simp at hp
  induction a0 generalizing a1 with
  | zero => simp [hp, handRun]
  | succ n ih => unfold handRun; (repeat' split) <;> simp [hp, ih]

@[simp] theorem potResized_frame (s : State) {p : Field} (t : State) (hp : p ∉ [.mgmt, .pot]) : Same p
    (potResized s) t ↔ Same p s t := by
  simp at hp
  simp [hp, potResized]

@[simp] theorem potSizeEffect_frame (c : WCtx) (s : State) {p : Field} (t : State)
    (hp : p ∉ [.mgmt, .dict, .pot, .pair]) : Same p (potSizeEffect c s) t ↔ Same p s t := by
  simp at hp
  simp [hp, potSizeEffect]

end Sys2Proof.Machine
end

