-- ==== Sys2Proof/Laws/FrameSwitchCore.lean ====
section
/-! SUPPORT. What each operation of SwitchCore.lean leaves unchanged, part by part. -/

namespace Sys2Proof.Machine

set_option linter.all false

theorem voqPut_frame {k : Nat} {c : Cell} {s t : State} (h : voqPut k c s = some t) {p : Field} (u : State)
    (hp : p ∉ [.mgmt, .core]) : Same p t u ↔ Same p s u := by
  simp at hp
  unfold voqPut at h; dsimp only at h; (repeat' split at h) <;> cases h <;> simp [hp]

theorem voqPutAll_frame {k n i : Nat} {m : CoreMsg} {s t : State} (h : voqPutAll k m n i s = some t) {p : Field}
    (u : State) (hp : p ∉ [.mgmt, .core]) : Same p t u ↔ Same p s u := by
  induction n generalizing s i with
  | zero => simp only [voqPutAll, Option.some.injEq] at h; subst h; rfl
  | succ n ih =>
    simp only [voqPutAll, Option.bind_eq_some_iff] at h
    obtain ⟨v, hv, h⟩ := h
    exact (ih h).trans (voqPut_frame hv u hp)

@[simp] theorem voqRefused_frame (inp : Nat) (s : State) {p : Field} (t : State) (hp : p ∉ [.mgmt]) : Same p
    (voqRefused inp s) t ↔ Same p s t := by
  simp at hp
  simp [hp, voqRefused]

@[simp] theorem putOffers_frame (k : Nat) (l : List (CoreMsg × Nat)) (s : State) {p : Field} (t : State)
    (hp : p ∉ [.core]) : Same p (putOffers k l s) t ↔ Same p s t := by
  simp at hp
  simp [hp, putOffers]

@[simp] theorem offerCells_frame (k : Nat) (a1 : Nat) (a2 : State) {p : Field} (t : State)
    (hp : p ∉ [.mgmt, .core]) : Same p (offerCells k a1 a2) t ↔ Same p a2 t := by
  induction a1 generalizing a2 with
  | zero => simp [offerCells]
  | succ n ih =>
    unfold offerCells; split
    · rfl
    · split
      · rename_i h
        split at h
        · cases h
        · rw [ih, ← voqPut_frame h t hp]; simp at hp; simp [hp]
      · simp at hp; simp [hp]

@[simp] theorem offerAgain_frame (k : Nat) (s : State) {p : Field} (t : State) (hp : p ∉ [.mgmt, .core]) : Same p
    (offerAgain k s) t ↔ Same p s t := by
  simp at hp
  simp [hp, offerAgain]

@[simp] theorem offerMessage_frame (inp : Nat) (out : Nat) (m : CoreMsg) (s : State) {p : Field} (t : State)
    (hp : p ∉ [.mgmt, .core]) : Same p (offerMessage inp out m s) t ↔ Same p s t := by
  simp at hp
  simp [hp, offerMessage]

@[simp] theorem offerNew_frame (inp : Nat) (out : Nat) (m : CoreMsg) (s : State) {p : Field} (t : State)
    (hp : p ∉ [.mgmt, .core]) : Same p (offerNew inp out m s) t ↔ Same p s t := by
  simp at hp
  simp only [offerNew]; (repeat' split) <;> simp [hp]

@[simp] theorem refillCredits_frame (out : Nat) (s : State) {p : Field} (t : State) (hp : p ∉ [.core]) : Same p
    (refillCredits out s) t ↔ Same p s t := by
  simp at hp
  simp [hp, refillCredits]

@[simp] theorem slotClass_frame (out : Nat) (s : State) {p : Field} (t : State) (hp : p ∉ [.core]) : Same p
    (slotClass out s).2 t ↔ Same p s t := by
  simp at hp
  simp only [slotClass]; (repeat' split) <;> simp [hp]

@[simp] theorem rowFault_frame (row : Nat) (s : State) {p : Field} (t : State) (hp : p ∉ [.mgmt, .core, .repair])
    : Same p (rowFault row s) t ↔ Same p s t := by
  simp at hp
  simp [hp, rowFault]

@[simp] theorem rowError_frame (row : Nat) (s : State) {p : Field} (t : State) (hp : p ∉ [.mgmt, .core, .repair])
    : Same p (rowError row s) t ↔ Same p s t := by
  simp at hp
  simp [hp, rowError]

theorem popCell_frame {k : Nat} {c : Cell} {s t : State} (h : popCell k s = some (c, t)) {p : Field} (u : State)
    (hp : p ∉ [.mgmt, .core]) : Same p t u ↔ Same p s u := by
  simp at hp
  unfold popCell at h
  (repeat' split at h) <;> cases h <;> simp [hp]

@[simp] theorem sendCell_frame (inp : Nat) (out : Nat) (cls : Nat) (ecc : Nat) (row : Nat) (s : State)
    {p : Field} (t : State) (hp : p ∉ [.mgmt, .core, .repair]) : Same p (sendCell inp out cls ecc row s) t ↔ Same
    p s t := by
  simp at hp
  unfold sendCell; dsimp only; split
  · rfl
  · rename_i h; rw [← popCell_frame h t (by simp [hp])]; (repeat' split) <;> simp [hp]

@[simp] theorem noteSlot_frame (out : Nat) (class0 : Bool) (s : State) {p : Field} (t : State) (hp : p ∉ [.core])
    : Same p (noteSlot out class0 s) t ↔ Same p s t := by
  simp at hp
  simp [hp, noteSlot]

@[simp] theorem sendClass_frame (out : Nat) (ecc : Nat) (row : Nat) (cls : Option Nat) (s : State) {p : Field}
    (t : State) (hp : p ∉ [.mgmt, .core, .repair]) : Same p (sendClass out ecc row cls s) t ↔ Same p s t := by
  simp at hp
  simp only [sendClass]; (repeat' split) <;> simp [hp]

@[simp] theorem endRound_frame (out : Nat) (s : State) {p : Field} (t : State) (hp : p ∉ [.core]) : Same p
    (endRound out s) t ↔ Same p s t := by
  simp at hp
  simp [hp, endRound]

@[simp] theorem cellSlot_frame (out : Nat) (ecc : Nat) (row : Nat) (s : State) {p : Field} (t : State)
    (hp : p ∉ [.mgmt, .core, .repair]) : Same p (cellSlot out ecc row s) t ↔ Same p s t := by
  simp at hp
  simp [hp, cellSlot]

@[simp] theorem reissueMessage_frame (inp : Nat) (out : Nat) (m : CoreMsg) (s : State) {p : Field} (t : State)
    (hp : p ∉ [.mgmt, .core]) : Same p (reissueMessage inp out m s) t ↔ Same p s t := by
  simp at hp
  simp only [reissueMessage]; (repeat' split) <;> simp [hp]

@[simp] theorem ackArrives_frame (writer : Nat) (num : Nat) (s : State) {p : Field} (t : State)
    (hp : p ∉ [.mgmt, .core]) : Same p (ackArrives writer num s) t ↔ Same p s t := by
  simp at hp
  simp [hp, ackArrives]

@[simp] theorem messageArrives_frame (inp : Nat) (out : Nat) (cells : List Cell) (s : State) {p : Field}
    (t : State) (hp : p ∉ [.mgmt, .core]) : Same p (messageArrives inp out cells s) t ↔ Same p s t := by
  simp at hp
  simp only [messageArrives]; (repeat' split) <;> simp [hp]

@[simp] theorem blockTakes_frame (inp : Nat) (out : Nat) (cls : Nat) (ecc : Nat) (s : State) {p : Field}
    (t : State) (hp : p ∉ [.mgmt, .core]) : Same p (blockTakes inp out cls ecc s) t ↔ Same p s t := by
  simp at hp
  simp only [blockTakes]; (repeat' split) <;> simp [hp]

@[simp] theorem popMessage_frame (k : Nat) (a1 : Nat) (a2 : State) {p : Field} (t : State)
    (hp : p ∉ [.mgmt, .core]) : Same p (popMessage k a1 a2) t ↔ Same p a2 t := by
  induction a1 generalizing a2 with
  | zero => simp [popMessage]
  | succ n ih =>
    unfold popMessage; split
    · rename_i h
      split
      · exact popCell_frame h t hp
      · exact (ih _).trans (popCell_frame h t hp)
    · rfl

@[simp] theorem memoryRead_frame (ctl : Nat) (req : Nat) (cls : Nat) (bytes : Bytes) (s : State) {p : Field}
    (t : State) (hp : p ∉ [.mgmt, .core]) : Same p (memoryRead ctl req cls bytes s) t ↔ Same p s t := by
  simp at hp
  unfold memoryRead; dsimp only; split
  · rfl
  · split
    · rename_i h
      split at h
      · simp [hp, voqPutAll_frame h]
      · cases h
    · rfl

@[simp] theorem writeVisible_frame (ctl : Nat) (req : Nat) (num : Nat) (s : State) {p : Field} (t : State)
    (hp : p ∉ [.mgmt, .core]) : Same p (writeVisible ctl req num s) t ↔ Same p s t := by
  simp at hp
  simp [hp, writeVisible]

end Sys2Proof.Machine
end

