-- ==== Sys2Proof/Laws/FrameTranslation.lean ====
section
/-! SUPPORT. What each operation of Translation.lean leaves unchanged, part by part. -/

namespace Sys2Proof.Machine

set_option linter.all false

@[simp] theorem clearMaps_frame (s : State) {p : Field} (t : State) (hp : p ∉ [.xlat]) : Same p (clearMaps s) t ↔
    Same p s t := by
  simp at hp
  simp [hp, clearMaps]

@[simp] theorem formatEffect_frame (c : WCtx) (s : State) {p : Field} (t : State)
    (hp : p ∉ [.out, .mgmt, .pools, .xlat, .media, .pair]) : Same p (formatEffect c s) t ↔ Same p s t := by
  simp at hp
  simp [hp, formatEffect]

@[simp] theorem formatEnd_frame (st : EpStatus) (s : State) {p : Field} (t : State)
    (hp : p ∉ [.out, .mgmt, .xlat, .pair, .attach]) : Same p (formatEnd st s) t ↔ Same p s t := by
  simp at hp
  simp only [formatEnd]; (repeat' split) <;> simp [hp]

@[simp] theorem admitAll_frame (g : Geo) (s : State) {p : Field} (t : State)
    (hp : p ∉ [.mgmt, .xlat, .media, .pair]) : Same p (admitAll g s) t ↔ Same p s t := by
  simp at hp
  simp only [admitAll]; (repeat' split) <;> simp (disch := (first | (simp [hp]; done) | (intros; (try dsimp only); (repeat' split) <;> try simp [hp]))) [hp]

@[simp] theorem formatWon_frame (s : State) {p : Field} (t : State)
    (hp : p ∉ [.fresh, .out, .mode, .mgmt, .pools, .keys, .xlat, .media, .pair, .attach]) : Same p (formatWon s)
    t ↔ Same p s t := by
  simp at hp
  simp only [formatWon]; (repeat' split) <;> simp [hp]

@[simp] theorem formatLost_frame (s : State) {p : Field} (t : State)
    (hp : p ∉ [.out, .mgmt, .pools, .xlat, .media, .pair, .attach]) : Same p (formatLost s) t ↔ Same p s t := by
  simp at hp
  simp [hp, formatLost]

@[simp] theorem reserveLbs_frame (ns : Nat) (s : State) {p : Field} (t : State) (hp : p ∉ [.cmd]) : Same p
    (reserveLbs ns s) t ↔ Same p s t := by
  simp at hp
  simp only [reserveLbs]; (repeat' split) <;> simp [hp]

@[simp] theorem returnLbs_frame (ns : Nat) (s : State) {p : Field} (t : State)
    (hp : p ∉ [.mode, .mgmt, .cmd, .pools, .pot, .xlat, .pair]) : Same p (returnLbs ns s) t ↔ Same p s t := by
  simp at hp
  simp [hp, returnLbs]

@[simp] theorem nsEnableApplied_frame (ns : Nat) (on : Bool) (s : State) {p : Field} (t : State)
    (hp : p ∉ [.fresh, .out, .mode, .mgmt, .conns, .cmd, .pools, .pot, .egress, .keys, .xlat, .pair, .attach]) :
    Same p (nsEnableApplied ns on s) t ↔ Same p s t := by
  simp at hp
  simp [hp, nsEnableApplied]

@[simp] theorem nsEnableEffect_frame (c : WCtx) (s : State) {p : Field} (t : State)
    (hp : p ∉ [.fresh, .out, .mode, .mgmt, .dict, .conns, .cmd, .pools, .pot, .egress, .keys, .xlat, .pair, .attach])
    : Same p (nsEnableEffect c s) t ↔ Same p s t := by
  simp at hp
  simp [hp, nsEnableEffect]

@[simp] theorem writeProtectApplied_frame (ns : Nat) (before : Bool) (s : State) {p : Field} (t : State)
    (hp : p ∉ [.out, .mgmt, .conns, .cmd, .egress, .pair, .attach]) : Same p (writeProtectApplied ns before s) t
    ↔ Same p s t := by
  simp at hp
  simp [hp, writeProtectApplied]

@[simp] theorem writeProtectEffect_frame (c : WCtx) (s : State) {p : Field} (t : State)
    (hp : p ∉ [.out, .mgmt, .dict, .conns, .cmd, .egress, .pair, .attach]) : Same p (writeProtectEffect c s) t ↔
    Same p s t := by
  simp at hp
  simp [hp, writeProtectEffect]

@[simp] theorem gather_frame (lb : Nat) (s : State) {p : Field} (t : State)
    (hp : p ∉ [.mgmt, .pools, .xlat, .media, .pair]) : Same p (gather lb s) t ↔ Same p s t := by
  simp at hp
  simp only [gather]; (repeat' split) <;> simp [hp]

@[simp] theorem fillExpired_frame (lb : Nat) (s : State) {p : Field} (t : State) (hp : p ∉ [.mgmt, .xlat, .pair])
    : Same p (fillExpired lb s) t ↔ Same p s t := by
  simp at hp
  simp [hp, fillExpired]

@[simp] theorem dueMerge_frame (l : List Nat) (s : State) {p : Field} (t : State) (hp : p ∉ [.xlat]) : Same p
    (dueMerge l s) t ↔ Same p s t := by
  simp at hp
  simp [hp, dueMerge]

@[simp] theorem oldLogs_frame (s : State) {p : Field} (t : State) (hp : p ∉ [.mgmt, .xlat, .pair]) : Same p
    (oldLogs s) t ↔ Same p s t := by
  simp at hp
  simp [hp, oldLogs]

@[simp] theorem mergeCommit_frame (lb : Nat) (id : Nat) (j : Job) (s : State) {p : Field} (t : State)
    (hp : p ∉ [.mgmt, .pools, .xlat, .pair]) : Same p (mergeCommit lb id j s) t ↔ Same p s t := by
  simp at hp
  simp only [mergeCommit]; (repeat' split) <;> simp [hp]

@[simp] theorem bandRelease_frame (b : Nat) (s : State) {p : Field} (t : State)
    (hp : p ∉ [.mgmt, .pools, .xlat, .media, .pair]) : Same p (bandRelease b s) t ↔ Same p s t := by
  simp at hp
  simp only [bandRelease]; (repeat' split) <;> simp [hp]

@[simp] theorem systemBands_frame (a0 : Nat) (a1 : State) {p : Field} (t : State)
    (hp : p ∉ [.mgmt, .xlat, .media, .pair]) : Same p (systemBands a0 a1).2 t ↔ Same p a1 t := by
  simp at hp
  induction a0 generalizing a1 with
  | zero => simp [systemBands]
  | succ n ih => unfold systemBands; dsimp only; split <;> simp [hp, ih]

@[simp] theorem imageStripe_frame (g : Geo) (bands : List Nat) (i : Nat) (l : List Bytes) (s : State) {p : Field}
    (t : State) (hp : p ∉ [.mgmt, .pools, .xlat, .media]) : Same p (imageStripe g bands i l s) t ↔ Same p s t :=
    by
  simp at hp
  simp only [imageStripe]; (repeat' split) <;> simp [hp]

@[simp] theorem checkpoint_frame (g : Geo) (s : State) {p : Field} (t : State)
    (hp : p ∉ [.mgmt, .pools, .xlat, .media, .pair]) : Same p (checkpoint g s) t ↔ Same p s t := by
  simp at hp
  unfold checkpoint; dsimp only; (repeat' split) <;> simp_all

end Sys2Proof.Machine
end

