-- ==== Sys2Proof/Laws/FrameMedia.lean ====
section
/-! SUPPORT. What each operation of Media.lean leaves unchanged, part by part. -/

namespace Sys2Proof.Machine

set_option linter.all false

@[simp] theorem reclaim_frame (b : Nat) (e : Band) (s : State) {p : Field} (t : State)
    (hp : p ∉ [.mgmt, .pools, .xlat, .media, .pair]) : Same p (reclaim b e s) t ↔ Same p s t := by
  simp at hp
  simp [hp, reclaim]

@[simp] theorem releaseEmpty_frame (s : State) {p : Field} (t : State)
    (hp : p ∉ [.mgmt, .pools, .xlat, .media, .pair]) : Same p (releaseEmpty s) t ↔ Same p s t := by
  simp at hp
  simp [hp, releaseEmpty]

@[simp] theorem reclaimStep_frame (s : State) {p : Field} (t : State)
    (hp : p ∉ [.mgmt, .pools, .xlat, .media, .pair]) : Same p (reclaimStep s) t ↔ Same p s t := by
  simp at hp
  simp only [reclaimStep]; (repeat' split) <;> simp [hp]

@[simp] theorem compactionCommit_frame (id : Nat) (j : Job) (s : State) {p : Field} (t : State)
    (hp : p ∉ [.mgmt, .pools, .xlat, .media, .pair]) : Same p (compactionCommit id j s) t ↔ Same p s t := by
  simp at hp
  simp only [compactionCommit]; (repeat' split) <;> simp [hp]

@[simp] theorem wearLevel_frame (c : Nat) (s : State) {p : Field} (t : State)
    (hp : p ∉ [.mgmt, .pools, .xlat, .media]) : Same p (wearLevel c s) t ↔ Same p s t := by
  simp at hp
  simp only [wearLevel]; (repeat' split) <;> simp [hp]

@[simp] theorem moveSwitch_frame (id : Nat) (j : Job) (s : State) {p : Field} (t : State)
    (hp : p ∉ [.mgmt, .pools, .xlat, .media, .pair]) : Same p (moveSwitch id j s) t ↔ Same p s t := by
  simp at hp
  simp only [moveSwitch]; (repeat' split) <;> simp [hp]

@[simp] theorem scrubAll_frame (s : State) {p : Field} (t : State)
    (hp : p ∉ [.mgmt, .pools, .xlat, .media, .pair]) : Same p (scrubAll s) t ↔ Same p s t := by
  simp at hp
  simp [hp, scrubAll]

@[simp] theorem rebuildNext_frame (s : State) {p : Field} (t : State)
    (hp : p ∉ [.mgmt, .pools, .xlat, .media, .pair]) : Same p (rebuildNext s) t ↔ Same p s t := by
  simp at hp
  simp only [rebuildNext]; (repeat' split) <;> simp [hp]

@[simp] theorem issueToTarget_frame (b : Nat) (pos : Nat) (m : Member) (s : State) {p : Field} (t : State)
    (hp : p ∉ [.xlat, .media]) : Same p (issueToTarget b pos m s) t ↔ Same p s t := by
  simp at hp
  simp only [issueToTarget]; (repeat' split) <;> simp (disch := (first | (simp [hp]; done) | (intros; (try dsimp only); (repeat' split) <;> try simp [hp]))) [hp]

@[simp] theorem rebuildSwitch_frame (id : Nat) (j : Job) (s : State) {p : Field} (t : State)
    (hp : p ∉ [.mgmt, .pools, .xlat, .media, .pair]) : Same p (rebuildSwitch id j s) t ↔ Same p s t := by
  simp at hp
  simp only [rebuildSwitch]; (repeat' split) <;> simp [hp]

@[simp] theorem lostClear_frame (n : Nat) (s : State) {p : Field} (t : State) (hp : p ∉ [.mgmt, .xlat, .pair]) :
    Same p (lostClear n s) t ↔ Same p s t := by
  simp at hp
  simp (maxDischargeDepth := 9) [hp, lostClear]

end Sys2Proof.Machine
end

