-- ==== Sys2Proof/Laws/FrameCarriers.lean ====
section
/-! SUPPORT. What each operation of Carriers.lean leaves unchanged, part by part. -/

namespace Sys2Proof.Machine

set_option linter.all false

@[simp] theorem roundHeld_frame (r : Round) (s : State) {p : Field} (t : State)
    (hp : p ∉ [.fresh, .out, .mode, .mgmt, .net, .conns, .cmd, .pools, .pot, .egress, .cipher, .keys, .xlat, .media, .pair, .attach])
    : Same p (roundHeld r s) t ↔ Same p s t := by
  simp at hp
  simp only [roundHeld]; (repeat' split) <;> simp [hp]

@[simp] theorem roundFailed_frame (r : Round) (s : State) {p : Field} (t : State)
    (hp : p ∉ [.out, .mode, .mgmt, .net, .conns, .cmd, .pools, .pot, .egress, .cipher, .xlat, .media, .pair, .attach])
    : Same p (roundFailed r s) t ↔ Same p s t := by
  simp at hp
  simp only [roundFailed]; (repeat' split) <;> simp [hp]

@[simp] theorem settleRound_frame (deadline : Bool) (s : State) {p : Field} (t : State)
    (hp : p ∉ [.fresh, .out, .mode, .mgmt, .net, .conns, .cmd, .pools, .pot, .egress, .cipher, .keys, .xlat, .media, .pair, .attach])
    : Same p (settleRound deadline s) t ↔ Same p s t := by
  simp at hp
  simp only [settleRound]; (repeat' split) <;> simp [hp]

@[simp] theorem answered_frame (c : Nat) (held : Bool) (s : State) {p : Field} (t : State)
    (hp : p ∉ [.fresh, .out, .mode, .mgmt, .net, .conns, .cmd, .pools, .pot, .egress, .cipher, .keys, .xlat, .media, .pair, .attach])
    : Same p (answered c held s) t ↔ Same p s t := by
  simp at hp
  simp [hp, answered]

@[simp] theorem carrierRejected_frame (c : Nat) (value : Nat) (s : State) {p : Field} (t : State)
    (hp : p ∉ [.mgmt, .media, .pair]) : Same p (carrierRejected c value s) t ↔ Same p s t := by
  simp at hp
  simp [hp, carrierRejected]

@[simp] theorem linkFalls_frame (c : Nat) (s : State) {p : Field} (t : State)
    (hp : p ∉ [.out, .mode, .mgmt, .conns, .cmd, .pools, .pot, .egress, .cipher, .xlat, .media, .pair, .attach])
    : Same p (linkFalls c s) t ↔ Same p s t := by
  simp at hp
  simp [hp, linkFalls]

@[simp] theorem laneFails_frame (c : Nat) (lane : Nat) (s : State) {p : Field} (t : State)
    (hp : p ∉ [.out, .mode, .mgmt, .conns, .cmd, .pools, .pot, .egress, .cipher, .xlat, .media, .pair, .attach, .repair])
    : Same p (laneFails c lane s) t ↔ Same p s t := by
  simp at hp
  simp [hp, laneFails]

@[simp] theorem laneMargin_frame (c : Nat) (lane : Nat) (mv : Nat) (mui : Nat) (s : State) {p : Field}
    (t : State)
    (hp : p ∉ [.out, .mode, .mgmt, .conns, .cmd, .pools, .pot, .egress, .cipher, .xlat, .media, .pair, .attach, .repair])
    : Same p (laneMargin c lane mv mui s) t ↔ Same p s t := by
  simp at hp
  simp only [laneMargin]; (repeat' split) <;> simp [hp]

@[simp] theorem readmitEffect_frame (c : WCtx) (s : State) {p : Field} (t : State)
    (hp : p ∉ [.out, .mode, .mgmt, .conns, .cmd, .pools, .pot, .egress, .cipher, .xlat, .media, .pair, .attach])
    : Same p (readmitEffect c s) t ↔ Same p s t := by
  simp at hp
  simp [hp, readmitEffect]

@[simp] theorem carrierFatal_frame (c : Nat) (st : CarStatus) (s : State) {p : Field} (t : State)
    (hp : p ∉ [.out, .mode, .mgmt, .conns, .cmd, .pools, .pot, .egress, .cipher, .xlat, .media, .pair, .attach])
    : Same p (carrierFatal c st s) t ↔ Same p s t := by
  simp at hp
  simp [hp, carrierFatal]

@[simp] theorem tagConflict_frame (c : Nat) (s : State) {p : Field} (t : State)
    (hp : p ∉ [.out, .mode, .mgmt, .conns, .cmd, .pools, .pot, .egress, .cipher, .xlat, .media, .pair, .attach])
    : Same p (tagConflict c s) t ↔ Same p s t := by
  simp at hp
  simp [hp, tagConflict]

@[simp] theorem otherStatus_frame (c : Nat) (st : CarStatus) (s : State) {p : Field} (t : State)
    (hp : p ∉ [.out, .mode, .mgmt, .conns, .cmd, .pools, .pot, .egress, .cipher, .xlat, .media, .pair, .attach])
    : Same p (otherStatus c st s) t ↔ Same p s t := by
  simp at hp
  simp only [otherStatus]; (repeat' split) <;> simp [hp]

@[simp] theorem adminFailed_frame (c : Nat) (op : CarOp) (level : Nat) (st : CarStatus) (s : State) {p : Field}
    (t : State)
    (hp : p ∉ [.out, .mode, .mgmt, .conns, .cmd, .pools, .pot, .egress, .cipher, .xlat, .media, .pair, .attach])
    : Same p (adminFailed c op level st s) t ↔ Same p s t := by
  simp at hp
  simp [hp, adminFailed]

@[simp] theorem adminOk_frame (c : Nat) (op : CarOp) (level : Nat) (s : State) {p : Field} (t : State)
    (hp : p ∉ [.media]) : Same p (adminOk c op level s) t ↔ Same p s t := by
  simp at hp
  simp [hp, adminOk]

@[simp] theorem reservedNow_frame (c : Nat) (v : BitVec 64) (s : State) {p : Field} (t : State)
    (hp : p ∉ [.mgmt, .xlat, .media, .pair]) : Same p (reservedNow c v s) t ↔ Same p s t := by
  simp at hp
  simp [hp, reservedNow]

@[simp] theorem reserveDone_frame (c : Nat) (st : CarStatus) (prior : BitVec 64) (s : State) {p : Field}
    (t : State)
    (hp : p ∉ [.fresh, .out, .mode, .mgmt, .net, .conns, .cmd, .pools, .pot, .egress, .cipher, .keys, .xlat, .media, .pair, .attach])
    : Same p (reserveDone c st prior s) t ↔ Same p s t := by
  simp at hp
  simp only [reserveDone]; (repeat' split) <;> simp [hp]

@[simp] theorem valueRead_frame (c : Nat) (v : BitVec 64) (s : State) {p : Field} (t : State)
    (hp : p ∉ [.fresh, .out, .mode, .mgmt, .net, .conns, .cmd, .pools, .pot, .egress, .cipher, .keys, .xlat, .media, .pair, .attach])
    : Same p (valueRead c v s) t ↔ Same p s t := by
  simp at hp
  simp only [valueRead]; (repeat' split) <;> simp [hp]

@[simp] theorem carrierEvent_frame (c : Nat) (code : Nat) (s : State) {p : Field} (t : State)
    (hp : p ∉ [.out, .mode, .mgmt, .conns, .cmd, .pools, .pot, .egress, .cipher, .xlat, .media, .pair, .attach])
    : Same p (carrierEvent c code s) t ↔ Same p s t := by
  simp at hp
  simp [hp, carrierEvent]

@[simp] theorem stripePage_frame (id : Nat) (pos : Nat) (s : State) {p : Field} (t : State)
    (hp : p ∉ [.mgmt, .pools, .xlat, .media, .pair]) : Same p (stripePage id pos s) t ↔ Same p s t := by
  simp at hp
  simp only [stripePage]; (repeat' split) <;> simp [hp]

@[simp] theorem dropQueued_frame (c : Nat) (eu : Nat) (s : State) {p : Field} (t : State)
    (hp : p ∉ [.mgmt, .pools, .xlat, .media, .pair]) : Same p (dropQueued c eu s) t ↔ Same p s t := by
  simp at hp
  simp only [dropQueued]; (repeat' split) <;> simp (disch := (first | (simp [hp]; done) | (intros; (try dsimp only); (repeat' split) <;> try simp [hp]))) [hp]

@[simp] theorem retarget_frame (id : Nat) (j : Job) (s : State) {p : Field} (t : State)
    (hp : p ∉ [.mgmt, .pools, .xlat, .media, .pair]) : Same p (retarget id j s) t ↔ Same p s t := by
  simp at hp
  unfold retarget; dsimp only; split
  · simp [hp]
  · rename_i h; simp [hp, takeTalon_frame h]

@[simp] theorem euFailed_frame (c : Nat) (eu : Nat) (s : State) {p : Field} (t : State)
    (hp : p ∉ [.mgmt, .pools, .xlat, .media, .pair]) : Same p (euFailed c eu s) t ↔ Same p s t := by
  simp at hp
  simp only [euFailed]; (repeat' split) <;> simp [hp]

@[simp] theorem journalCopyFailed_frame (c : Nat) (band : Nat) (s : State) {p : Field} (t : State)
    (hp : p ∉ [.mgmt, .xlat, .media]) : Same p (journalCopyFailed c band s) t ↔ Same p s t := by
  simp at hp
  simp only [journalCopyFailed]; (repeat' split) <;> simp [hp]

@[simp] theorem requeue_frame (c : Nat) (m : MediaCmd) (s : State) {p : Field} (t : State) (hp : p ∉ [.media]) :
    Same p (requeue c m s) t ↔ Same p s t := by
  simp at hp
  simp [hp, requeue]

@[simp] theorem mediaStatus_frame (c : Nat) (m : MediaCmd) (st : CarStatus) (s : State) {p : Field} (t : State)
    (hp : p ∉ [.out, .mode, .mgmt, .conns, .cmd, .pools, .pot, .egress, .cipher, .xlat, .media, .pair, .attach])
    : Same p (mediaStatus c m st s) t ↔ Same p s t := by
  simp at hp
  simp only [mediaStatus]; (repeat' split) <;> simp [hp]

theorem takeOut_frame {c cid : Nat} {m : MediaCmd} {s t : State} (h : takeOut c cid s = some (m, t)) {p : Field}
    (u : State) (hp : p ∉ [.media]) : Same p t u ↔ Same p s u := by
  simp at hp
  simp only [takeOut, Option.map_eq_some_iff, Prod.mk.injEq] at h
  obtain ⟨x, -, -, rfl⟩ := h
  simp [hp]

@[simp] theorem mediaDone_same (c : Nat) (cid : Nat) (k : MediaCmd → State → State) (s : State) {p : Field}
    (t : State) (hp : p ∉ [.mgmt, .xlat, .media, .pair]) (hk : ∀ m s, Same p (k m s) t ↔ Same p s t) :
    Same p (mediaDone c cid k s) t ↔ Same p s t := by
  simp at hp
  unfold mediaDone; (repeat' split) <;> first | (simp [hp, hk]; done) | (rename_i h; simp [hp, hk, takeOut_frame h]; done) | (rename_i h _; simp [hp, hk, takeOut_frame h])

@[simp] theorem readSucceeded_frame (c : Nat) (m : MediaCmd) (corrected : Nat) (l : List Bytes) (s : State)
    {p : Field} (t : State)
    (hp : p ∉ [.out, .mode, .mgmt, .conns, .cmd, .pools, .pot, .egress, .cipher, .xlat, .media, .pair, .attach])
    : Same p (readSucceeded c m corrected l s) t ↔ Same p s t := by
  simp at hp
  simp [hp, readSucceeded]

@[simp] theorem programSucceeded_frame (m : MediaCmd) (s : State) {p : Field} (t : State)
    (hp : p ∉ [.mgmt, .pools, .xlat, .media, .pair]) : Same p (programSucceeded m s) t ↔ Same p s t := by
  simp at hp
  simp only [programSucceeded]; (repeat' split) <;> simp [hp]

@[simp] theorem programFails_frame (c : Nat) (m : MediaCmd) (s : State) {p : Field} (t : State)
    (hp : p ∉ [.mgmt, .pools, .xlat, .media, .pair]) : Same p (programFails c m s) t ↔ Same p s t := by
  simp at hp
  simp only [programFails]; (repeat' split) <;> simp [hp]

@[simp] theorem eraseFails_frame (c : Nat) (m : MediaCmd) (s : State) {p : Field} (t : State)
    (hp : p ∉ [.mgmt, .pools, .xlat, .media, .pair]) : Same p (eraseFails c m s) t ↔ Same p s t := by
  simp at hp
  simp [hp, eraseFails]

@[simp] theorem limitMissed_frame (c : Nat) (value : Nat) (s : State) {p : Field} (t : State)
    (hp : p ∉ [.out, .mode, .mgmt, .conns, .cmd, .pools, .pot, .egress, .cipher, .xlat, .media, .pair, .attach])
    : Same p (limitMissed c value s) t ↔ Same p s t := by
  simp at hp
  simp [hp, limitMissed]

end Sys2Proof.Machine
end

