-- ==== Sys2Proof/Laws/FrameAttach.lean ====
section
/-! SUPPORT. What each operation of Attach.lean leaves unchanged, part by part. -/

namespace Sys2Proof.Machine

set_option linter.all false

@[simp] theorem clearCtrl_frame (s : State) {p : Field} (t : State) (hp : p ∉ [.cmd, .pools, .pot, .attach]) :
    Same p (clearCtrl s) t ↔ Same p s t := by
  simp at hp
  simp (maxDischargeDepth := 9) [hp, clearCtrl]

@[simp] theorem resetFunction_frame (s : State) {p : Field} (t : State) (hp : p ∉ [.cmd, .pools, .pot, .attach])
    : Same p (resetFunction s) t ↔ Same p s t := by
  simp at hp
  simp [hp, resetFunction]

@[simp] theorem attachDown_frame (s : State) {p : Field} (t : State) (hp : p ∉ [.mgmt, .attach]) : Same p
    (attachDown s) t ↔ Same p s t := by
  simp at hp
  simp [hp, attachDown]

@[simp] theorem grantStore_frame (s : State) {p : Field} (t : State) (hp : p ∉ [.mgmt, .pools, .attach]) : Same p
    (grantStore s) t ↔ Same p s t := by
  simp at hp
  simp [hp, grantStore]

@[simp] theorem attachEnableApplied_frame (on : Bool) (s : State) {p : Field} (t : State)
    (hp : p ∉ [.mgmt, .cmd, .pools, .pot, .attach]) : Same p (attachEnableApplied on s) t ↔ Same p s t := by
  simp at hp
  simp [hp, attachEnableApplied]

@[simp] theorem attachEnableEffect_frame (c : WCtx) (s : State) {p : Field} (t : State)
    (hp : p ∉ [.mgmt, .dict, .cmd, .pools, .pot, .pair, .attach]) : Same p (attachEnableEffect c s) t ↔ Same p s
    t := by
  simp at hp
  simp [hp, attachEnableEffect]

@[simp] theorem sqDoorbell_frame (qid : Nat) (tail : Nat) (s : State) {p : Field} (t : State)
    (hp : p ∉ [.attach]) : Same p (sqDoorbell qid tail s) t ↔ Same p s t := by
  simp at hp
  simp only [sqDoorbell]; (repeat' split) <;> simp [hp]

@[simp] theorem cqDoorbell_frame (qid : Nat) (head : Nat) (s : State) {p : Field} (t : State)
    (hp : p ∉ [.out, .attach]) : Same p (cqDoorbell qid head s) t ↔ Same p s t := by
  simp at hp
  simp only [cqDoorbell]; (repeat' split) <;> simp [hp]

@[simp] theorem winCommit_frame (mask : BitVec 16) (shadow : List (Fin 16 × Win)) (s : State) {p : Field}
    (t : State) (hp : p ∉ [.mgmt, .attach]) : Same p (winCommit mask shadow s) t ↔ Same p s t := by
  simp at hp
  simp [hp, winCommit]

@[simp] theorem peerRefused_frame (s : State) {p : Field} (t : State) (hp : p ∉ [.out, .mgmt]) : Same p
    (peerRefused s) t ↔ Same p s t := by
  simp at hp
  simp [hp, peerRefused]

@[simp] theorem peerWrite_frame (win : Fin 16) (off : Nat) (bytes : Bytes) (s : State) {p : Field} (t : State)
    (hp : p ∉ [.out, .mgmt, .attach]) : Same p (peerWrite win off bytes s) t ↔ Same p s t := by
  simp at hp
  simp only [peerWrite]; (repeat' split) <;> simp [hp]

@[simp] theorem peerRead_frame (win : Fin 16) (off : Nat) (len : Nat) (s : State) {p : Field} (t : State)
    (hp : p ∉ [.out, .mgmt]) : Same p (peerRead win off len s) t ↔ Same p s t := by
  simp at hp
  simp only [peerRead]; (repeat' split) <;> simp [hp]

@[simp] theorem bmeClear_frame (s : State) {p : Field} (t : State) (hp : p ∉ [.mgmt, .cmd, .pot, .attach]) : Same
    p (bmeClear s) t ↔ Same p s t := by
  simp at hp
  simp [hp, bmeClear]

@[simp] theorem fetchMore_frame (s : State) {p : Field} (t : State) (hp : p ∉ [.out, .mgmt, .attach]) : Same p
    (fetchMore s) t ↔ Same p s t := by
  simp at hp
  simp [hp, fetchMore]

@[simp] theorem bmeSet_frame (s : State) {p : Field} (t : State)
    (hp : p ∉ [.out, .mgmt, .conns, .cmd, .pools, .egress, .pair, .attach]) : Same p (bmeSet s) t ↔ Same p s t :=
    by
  simp at hp
  simp [hp, bmeSet]

@[simp] theorem hostRead_frame (tag : Nat) (sectors : List Bytes) (s : State) {p : Field} (t : State)
    (hp : p ∉ [.out, .mgmt, .cmd, .cipher, .xlat, .attach]) : Same p (hostRead tag sectors s) t ↔ Same p s t :=
    by
  simp at hp
  simp only [hostRead]; (repeat' split) <;> simp [hp]

@[simp] theorem hostReadLost_frame (tag : Nat) (s : State) {p : Field} (t : State)
    (hp : p ∉ [.out, .mgmt, .conns, .cmd, .pools, .egress, .pair, .attach]) : Same p (hostReadLost tag s) t ↔
    Same p s t := by
  simp at hp
  simp only [hostReadLost]; (repeat' split) <;> simp [hp]

end Sys2Proof.Machine
end

