-- ==== Sys2Proof/Laws/FrameRecords.lean ====
section
/-! SUPPORT. What each operation of Records.lean leaves unchanged, part by part. -/

namespace Sys2Proof.Machine

set_option linter.all false

@[simp] theorem ringPut_frame (r : CycleRec) (s : State) {p : Field} (t : State) (hp : p ∉ [.pair]) : Same p
    (ringPut r s) t ↔ Same p s t := by
  simp at hp
  simp [hp, ringPut]

@[simp] theorem sealRecord_frame (handover : Bool) (join : Bool) (s : State) {p : Field} (t : State)
    (hp : p ∉ [.mgmt, .pair]) : Same p (sealRecord handover join s).2 t ↔ Same p s t := by
  simp at hp
  simp [hp, sealRecord]

@[simp] theorem baysOff_frame (s : State) {p : Field} (t : State) (hp : p ∉ [.bays]) : Same p (baysOff s) t ↔
    Same p s t := by
  simp at hp
  simp [hp, baysOff]

end Sys2Proof.Machine
end

