-- ==== Sys2Proof/Laws/FramePower.lean ====
section
/-! SUPPORT. What each operation of Power.lean leaves unchanged, part by part. -/

namespace Sys2Proof.Machine

set_option linter.all false

@[simp] theorem onFeed_frame (f : Nat) (g : FeedSt → FeedSt) (s : State) {p : Field} (t : State)
    (hp : p ∉ [.power]) : Same p (onFeed f g s) t ↔ Same p s t := by
  simp at hp
  simp [hp, onFeed]

@[simp] theorem settleNode_frame (s : State) {p : Field} (t : State) (hp : p ∉ [.power]) : Same p (settleNode s)
    t ↔ Same p s t := by
  simp at hp
  simp [hp, settleNode]

@[simp] theorem feedTo_frame (f : Nat) (st : FeedState) (mv : Nat) (s : State) {p : Field} (t : State)
    (hp : p ∉ [.power]) : Same p (feedTo f st mv s) t ↔ Same p s t := by
  simp at hp
  simp [hp, feedTo]

@[simp] theorem feedSame_frame (f : Nat) (mv : Nat) (s : State) {p : Field} (t : State) (hp : p ∉ [.power]) :
    Same p (feedSame f mv s) t ↔ Same p s t := by
  simp at hp
  simp [hp, feedSame]

@[simp] theorem bayRamp_frame (b : Nat) (s : State) {p : Field} (t : State) (hp : p ∉ [.bays]) : Same p
    (bayRamp b s) t ↔ Same p s t := by
  simp at hp
  simp [hp, bayRamp]

@[simp] theorem bayStart_frame (b : Nat) (s : State) {p : Field} (t : State) (hp : p ∉ [.bays]) : Same p
    (bayStart b s) t ↔ Same p s t := by
  simp at hp
  simp [hp, bayStart]

@[simp] theorem bayTo_frame (b : Nat) (st : BayState) (s : State) {p : Field} (t : State) (hp : p ∉ [.bays]) :
    Same p (bayTo b st s) t ↔ Same p s t := by
  simp at hp
  simp [hp, bayTo]

@[simp] theorem baysStart_frame (s : State) {p : Field} (t : State) (hp : p ∉ [.bays]) : Same p (baysStart s) t ↔
    Same p s t := by
  simp at hp
  simp [hp, baysStart]

@[simp] theorem bayPresent_frame (b : Nat) (s : State) {p : Field} (t : State) (hp : p ∉ [.bays]) : Same p
    (bayPresent b s) t ↔ Same p s t := by
  simp at hp
  simp [hp, bayPresent]

@[simp] theorem sidebandRead_frame (b : Nat) (id : Sideband) (s : State) {p : Field} (t : State)
    (hp : p ∉ [.mgmt, .media, .repair]) : Same p (sidebandRead b id s) t ↔ Same p s t := by
  simp at hp
  simp [hp, sidebandRead]

@[simp] theorem baySeated_frame (b : Nat) (id : Sideband) (s : State) {p : Field} (t : State)
    (hp : p ∉ [.mgmt, .media, .bays, .repair]) : Same p (baySeated b id s) t ↔ Same p s t := by
  simp at hp
  simp [hp, baySeated]

@[simp] theorem baySeatingLost_frame (b : Nat) (pins : BitVec 2) (s : State) {p : Field} (t : State)
    (hp : p ∉ [.mgmt, .bays]) : Same p (baySeatingLost b pins s) t ↔ Same p s t := by
  simp at hp
  simp [hp, baySeatingLost]

@[simp] theorem bayRemoved_frame (b : Nat) (s : State) {p : Field} (t : State) (hp : p ∉ [.bays]) : Same p
    (bayRemoved b s) t ↔ Same p s t := by
  simp at hp
  simp [hp, bayRemoved]

@[simp] theorem startFault_frame (b : Nat) (code : Nat) (s : State) {p : Field} (t : State)
    (hp : p ∉ [.mgmt, .bays]) : Same p (startFault b code s) t ↔ Same p s t := by
  simp at hp
  simp [hp, startFault]

@[simp] theorem bayTrip_frame (b : Nat) (code : Nat) (s : State) {p : Field} (t : State)
    (hp : p ∉ [.mgmt, .bays]) : Same p (bayTrip b code s) t ↔ Same p s t := by
  simp at hp
  simp [hp, bayTrip]

@[simp] theorem bayFault_frame (b : Nat) (inOn : Option Nat) (inRamp : Option Nat) (s : State) {p : Field}
    (t : State) (hp : p ∉ [.mgmt, .bays]) : Same p (bayFault b inOn inRamp s) t ↔ Same p s t := by
  simp at hp
  simp only [bayFault]; (repeat' split) <;> simp [hp]

@[simp] theorem cooldownEnd_frame (b : Nat) (s : State) {p : Field} (t : State) (hp : p ∉ [.bays]) : Same p
    (cooldownEnd b s) t ↔ Same p s t := by
  simp at hp
  simp [hp, cooldownEnd]

@[simp] theorem bayLockApplied_frame (b : Nat) (on : Bool) (s : State) {p : Field} (t : State) (hp : p ∉ [.bays])
    : Same p (bayLockApplied b on s) t ↔ Same p s t := by
  simp at hp
  simp only [bayLockApplied]; (repeat' split) <;> simp [hp]

@[simp] theorem bayLockEffect_frame (c : WCtx) (s : State) {p : Field} (t : State)
    (hp : p ∉ [.mgmt, .dict, .pair, .bays]) : Same p (bayLockEffect c s) t ↔ Same p s t := by
  simp at hp
  simp [hp, bayLockEffect]

@[simp] theorem bayClearEffect_frame (c : WCtx) (s : State) {p : Field} (t : State) (hp : p ∉ [.bays]) : Same p
    (bayClearEffect c s) t ↔ Same p s t := by
  simp at hp
  simp [hp, bayClearEffect]

@[simp] theorem auxTrip_frame (b : Nat) (s : State) {p : Field} (t : State) (hp : p ∉ [.mgmt, .bays]) : Same p
    (auxTrip b s) t ↔ Same p s t := by
  simp at hp
  simp [hp, auxTrip]

@[simp] theorem holdupTestEffect_frame (c : WCtx) (s : State) {p : Field} (t : State) (hp : p ∉ [.power]) : Same
    p (holdupTestEffect c s) t ↔ Same p s t := by
  simp at hp
  simp [hp, holdupTestEffect]

@[simp] theorem testEnds_frame (s : State) {p : Field} (t : State) (hp : p ∉ [.mgmt, .power, .bays, .repair]) :
    Same p (testEnds s) t ↔ Same p s t := by
  simp at hp
  simp [hp, testEnds]

@[simp] theorem holdupMeasurement_frame (uF : Nat) (s : State) {p : Field} (t : State)
    (hp : p ∉ [.mgmt, .power, .bays, .repair]) : Same p (holdupMeasurement uF s) t ↔ Same p s t := by
  simp at hp
  simp [hp, holdupMeasurement]

end Sys2Proof.Machine
end

