-- ==== Sys2Proof/Laws/FrameRepair.lean ====
section
/-! SUPPORT. What each operation of Repair.lean leaves unchanged, part by part. -/

namespace Sys2Proof.Machine

set_option linter.all false

@[simp] theorem onEngine_frame (e : Nat) (f : Eng → Eng) (s : State) {p : Field} (t : State) (hp : p ∉ [.repair])
    : Same p (onEngine e f s) t ↔ Same p s t := by
  simp at hp
  simp [hp, onEngine]

@[simp] theorem retireEngine_frame (e : Nat) (source : Nat) (s : State) {p : Field} (t : State)
    (hp : p ∉ [.mgmt, .repair]) : Same p (retireEngine e source s) t ↔ Same p s t := by
  simp at hp
  simp [hp, retireEngine]

@[simp] theorem seatEngine_frame (i : Nat) (stage : Nat) (s : State) {p : Field} (t : State)
    (hp : p ∉ [.mgmt, .repair]) : Same p (seatEngine i stage s) t ↔ Same p s t := by
  simp at hp
  simp [hp, seatEngine]

@[simp] theorem fillSeat_frame (e : Nat) (stage : Nat) (s : State) {p : Field} (t : State)
    (hp : p ∉ [.out, .mode, .mgmt, .cmd, .pools, .attach, .repair]) : Same p (fillSeat e stage s) t ↔ Same p s t
    := by
  simp at hp
  simp only [fillSeat]; (repeat' split) <;> simp [hp]

@[simp] theorem suspectEngine_frame (e : Nat) (s : State) {p : Field} (t : State)
    (hp : p ∉ [.out, .mode, .mgmt, .cmd, .pools, .attach, .repair]) : Same p (suspectEngine e s) t ↔ Same p s t
    := by
  simp at hp
  simp [hp, suspectEngine]

@[simp] theorem enginePasses_frame (e : Nat) (s : State) {p : Field} (t : State) (hp : p ∉ [.mgmt, .repair]) :
    Same p (enginePasses e s) t ↔ Same p s t := by
  simp at hp
  simp only [enginePasses]; (repeat' split) <;> simp [hp]

@[simp] theorem laneTested_frame (l : Nat) (source : Nat) (pass : Bool) (s : State) {p : Field} (t : State)
    (hp : p ∉ [.mgmt, .cipher, .repair]) : Same p (laneTested l source pass s) t ↔ Same p s t := by
  simp at hp
  simp [hp, laneTested]

@[simp] theorem spareTests_frame (s : State) {p : Field} (t : State) (hp : p ∉ [.cipher, .repair]) : Same p
    (spareTests s) t ↔ Same p s t := by
  simp at hp
  simp [hp, spareTests]

@[simp] theorem selfTestEffect_frame (c : WCtx) (s : State) {p : Field} (t : State)
    (hp : p ∉ [.out, .mode, .mgmt, .cmd, .pools, .cipher, .bays, .attach, .repair]) : Same p (selfTestEffect c s)
    t ↔ Same p s t := by
  simp at hp
  simp only [selfTestEffect]; (repeat' split) <;> simp [hp]

@[simp] theorem selfTestDone_frame (pass : Bool) (s : State) {p : Field} (t : State)
    (hp : p ∉ [.mgmt, .pools, .cipher, .bays, .repair]) : Same p (selfTestDone pass s) t ↔ Same p s t := by
  simp at hp
  simp only [selfTestDone]; (repeat' split) <;> simp [hp]

@[simp] theorem repairClearEffect_frame (c : WCtx) (s : State) {p : Field} (t : State)
    (hp : p ∉ [.media, .repair]) : Same p (repairClearEffect c s) t ↔ Same p s t := by
  simp at hp
  simp only [repairClearEffect]; (repeat' split) <;> simp [hp]

@[simp] theorem caddyBlockFails_frame (s : State) {p : Field} (t : State) (hp : p ∉ [.mgmt, .xlat, .repair]) :
    Same p (caddyBlockFails s) t ↔ Same p s t := by
  simp at hp
  simp [hp, caddyBlockFails]

@[simp] theorem supplyMonitor_frame (d : Nat) (slack : Int) (s : State) {p : Field} (t : State)
    (hp : p ∉ [.mgmt, .repair]) : Same p (supplyMonitor d slack s) t ↔ Same p s t := by
  simp at hp
  simp [hp, supplyMonitor]

@[simp] theorem lifeSecond_frame (core : Int) (port : Int) (s : State) {p : Field} (t : State)
    (hp : p ∉ [.repair]) : Same p (lifeSecond core port s) t ↔ Same p s t := by
  simp at hp
  simp [hp, lifeSecond]

end Sys2Proof.Machine
end

