-- ==== Sys2Proof/Laws/FrameModes.lean ====
section
/-! SUPPORT. What each operation of Modes.lean leaves unchanged, part by part. -/

namespace Sys2Proof.Machine

set_option linter.all false

@[simp] theorem replayConfig_frame (s : State) {p : Field} (t : State) (hp : p ∉ [.dict]) : Same p
    (replayConfig s) t ↔ Same p s t := by
  simp at hp
  simp only [replayConfig]; (repeat' split) <;> simp (disch := (first | (simp [hp]; done) | (intros; (try dsimp only); (repeat' split) <;> try simp [hp]))) [hp]

theorem bootDeal_frame {ok : Nat → Bool} {s t : State} (h : bootDeal ok s = some t) {p : Field} (u : State)
    (hp : p ∉ [.mgmt, .repair]) : Same p t u ↔ Same p s u := by
  simp at hp
  unfold bootDeal at h; dsimp only at h; (repeat' split at h) <;> cases h <;> simp [hp]

@[simp] theorem bootFails_frame (cause : Nat) (s : State) {p : Field} (t : State)
    (hp : p ∉ [.mode, .mgmt, .power, .bays]) : Same p (bootFails cause s) t ↔ Same p s t := by
  simp at hp
  simp [hp, bootFails]

@[simp] theorem pickSlot_frame (s : State) {p : Field} (t : State) (hp : p ∉ [.mgmt]) : Same p (pickSlot s).2 t ↔
    Same p s t := by
  simp at hp
  simp only [pickSlot]; (repeat' split) <;> simp [hp]

@[simp] theorem mapsFromCheckpoint_frame (s : State) {p : Field} (t : State) (hp : p ∉ [.xlat]) : Same p
    (mapsFromCheckpoint s) t ↔ Same p s t := by
  simp at hp
  simp [hp, mapsFromCheckpoint]

@[simp] theorem bootComplete_frame (ownImage : Bool) (partnerImage : Bool) (journalOk : Bool) (s : State)
    {p : Field} (t : State) (hp : p ∉ [.out, .mode, .mgmt, .cmd, .pools, .xlat, .media, .pair, .attach]) : Same p
    (bootComplete ownImage partnerImage journalOk s) t ↔ Same p s t := by
  simp at hp
  simp [hp, bootComplete]

@[simp] theorem statCheckpoint_frame (s : State) {p : Field} (t : State) (hp : p ∉ [.mgmt]) : Same p
    (statCheckpoint s) t ↔ Same p s t := by
  simp at hp
  simp [hp, statCheckpoint]

@[simp] theorem quiesce_frame (by_ : QuiesceBy) (s : State) {p : Field} (t : State)
    (hp : p ∉ [.out, .mode, .mgmt, .cmd, .pools, .attach]) : Same p (quiesce by_ s) t ↔ Same p s t := by
  simp at hp
  simp [hp, quiesce]

@[simp] theorem serviceOff_frame (s : State) {p : Field} (t : State)
    (hp : p ∉ [.out, .mode, .mgmt, .net, .conns, .cmd, .pools, .pot, .egress, .cipher, .xlat, .media, .pair, .attach])
    : Same p (serviceOff s) t ↔ Same p s t := by
  simp at hp
  simp only [serviceOff]; (repeat' split) <;> simp [hp]

@[simp] theorem serviceEnableEffect_frame (c : WCtx) (s : State) {p : Field} (t : State)
    (hp : p ∉ [.out, .mode, .mgmt, .dict, .net, .conns, .cmd, .pools, .pot, .egress, .cipher, .xlat, .media, .pair, .attach])
    : Same p (serviceEnableEffect c s) t ↔ Same p s t := by
  simp at hp
  simp [hp, serviceEnableEffect]

@[simp] theorem powerPolicyApplied_frame (s : State) {p : Field} (t : State) (hp : p ∉ [.mode, .mgmt]) : Same p
    (powerPolicyApplied s) t ↔ Same p s t := by
  simp at hp
  simp [hp, powerPolicyApplied]

@[simp] theorem powerPolicyEffect_frame (c : WCtx) (s : State) {p : Field} (t : State)
    (hp : p ∉ [.mode, .mgmt, .dict, .pair]) : Same p (powerPolicyEffect c s) t ↔ Same p s t := by
  simp at hp
  simp [hp, powerPolicyEffect]

@[simp] theorem loadSecond_frame (delivered : Nat) (received : Nat) (commands : Nat) (s : State) {p : Field}
    (t : State) (hp : p ∉ [.mode, .mgmt]) : Same p (loadSecond delivered received commands s) t ↔ Same p s t :=
    by
  simp at hp
  simp only [loadSecond]; (repeat' split) <;> simp [hp]

end Sys2Proof.Machine
end

