-- ==== Sys2Proof/Laws/FramePairCore.lean ====
section
/-! SUPPORT. What each operation of PairCore.lean leaves unchanged, part by part. -/

namespace Sys2Proof.Machine

set_option linter.all false

@[simp] theorem standbyCmd_frame (p : Nat × Cmd) (s : State) {q : Field} (t : State) (hp : q ∉ [.cmd, .cipher]) :
    Same q (standbyCmd p s) t ↔ Same q s t := by
  simp at hp
  simp only [standbyCmd]; (repeat' split) <;> simp [hp]

@[simp] theorem leaveActive_frame (s : State) {p : Field} (t : State)
    (hp : p ∉ [.mode, .conns, .cmd, .pools, .xlat, .media, .pair]) : Same p (leaveActive s) t ↔ Same p s t := by
  simp at hp
  simp [hp, leaveActive]

@[simp] theorem becomeStandby_frame (s : State) {p : Field} (t : State)
    (hp : p ∉ [.out, .mode, .mgmt, .conns, .cmd, .pools, .cipher, .xlat, .media, .pair, .attach]) : Same p
    (becomeStandby s) t ↔ Same p s t := by
  simp at hp
  simp [hp, becomeStandby]

@[simp] theorem becomeCold_frame (s : State) {p : Field} (t : State)
    (hp : p ∉ [.out, .mode, .mgmt, .net, .conns, .cmd, .pools, .pot, .egress, .cipher, .xlat, .media, .pair, .attach])
    : Same p (becomeCold s) t ↔ Same p s t := by
  simp at hp
  simp [hp, becomeCold]

@[simp] theorem handoverDone_frame (s : State) {p : Field} (t : State)
    (hp : p ∉ [.out, .mode, .mgmt, .net, .conns, .cmd, .pools, .pot, .egress, .cipher, .xlat, .media, .pair, .attach])
    : Same p (handoverDone s) t ↔ Same p s t := by
  simp at hp
  simp only [handoverDone]; (repeat' split) <;> simp [hp]

@[simp] theorem drained_frame (s : State) {p : Field} (t : State)
    (hp : p ∉ [.out, .mode, .mgmt, .net, .conns, .cmd, .pools, .pot, .egress, .cipher, .xlat, .media, .pair, .attach])
    : Same p (drained s) t ↔ Same p s t := by
  simp at hp
  simp [hp, drained]

@[simp] theorem rejoinFails_frame (s : State) {p : Field} (t : State)
    (hp : p ∉ [.out, .mode, .mgmt, .net, .conns, .cmd, .pools, .pot, .egress, .cipher, .xlat, .media, .pair, .attach])
    : Same p (rejoinFails s) t ↔ Same p s t := by
  simp at hp
  simp [hp, rejoinFails]

@[simp] theorem joinAbandoned_frame (s : State) {p : Field} (t : State) (hp : p ∉ [.mgmt, .pair]) : Same p
    (joinAbandoned s) t ↔ Same p s t := by
  simp at hp
  simp [hp, joinAbandoned]

@[simp] theorem partnerGone_frame (s : State) {p : Field} (t : State)
    (hp : p ∉ [.out, .mgmt, .pools, .media, .pair]) : Same p (partnerGone s) t ↔ Same p s t := by
  simp at hp
  simp [hp, partnerGone]

@[simp] theorem roleSwapEffect_frame (a0 : WCtx) (s : State) {p : Field} (t : State)
    (hp : p ∉ [.out, .mode, .mgmt, .cmd, .pools, .attach]) : Same p (roleSwapEffect a0 s) t ↔ Same p s t := by
  simp at hp
  simp [hp, roleSwapEffect]

@[simp] theorem forceSoloEffect_frame (a0 : WCtx) (s : State) {p : Field} (t : State)
    (hp : p ∉ [.out, .mgmt, .pools, .media, .pair]) : Same p (forceSoloEffect a0 s) t ↔ Same p s t := by
  simp at hp
  simp [hp, forceSoloEffect]

@[simp] theorem rejoinRequestEffect_frame (c : WCtx) (s : State) {p : Field} (t : State)
    (hp : p ∉ [.fresh, .out, .mode, .mgmt, .cmd, .pools, .pair, .attach]) : Same p (rejoinRequestEffect c s) t ↔
    Same p s t := by
  simp at hp
  simp [hp, rejoinRequestEffect]

end Sys2Proof.Machine
end

