-- ==== Sys2Proof/Laws/FrameHandlers.lean ====
section
/-! SUPPORT. What each operation of Handlers.lean leaves unchanged, part by part. -/

namespace Sys2Proof.Machine

set_option linter.all false

@[simp] theorem anchorApplied_frame (k : Nat) (before : Bool) (s : State) {p : Field} (t : State)
    (hp : p ∉ [.mgmt]) : Same p (anchorApplied k before s) t ↔ Same p s t := by
  simp at hp
  simp [hp, anchorApplied]

@[simp] theorem loadSlotApplied_frame (c : WCtx) (s : State) {p : Field} (t : State) (hp : p ∉ [.mgmt]) : Same p
    (loadSlotApplied c s) t ↔ Same p s t := by
  simp at hp
  simp [hp, loadSlotApplied]

@[simp] theorem loadDataApplied_frame (c : WCtx) (s : State) {p : Field} (t : State) (hp : p ∉ [.mgmt]) : Same p
    (loadDataApplied c s) t ↔ Same p s t := by
  simp at hp
  simp [hp, loadDataApplied]

@[simp] theorem loadCommitWith_frame (img : ImageCheck) (c : WCtx) (s : State) {p : Field} (t : State)
    (hp : p ∉ [.mgmt]) : Same p (loadCommitWith img c s) t ↔ Same p s t := by
  simp at hp
  simp [hp, loadCommitWith]

@[simp] theorem loadCommitApplied_frame (c : WCtx) (s : State) {p : Field} (t : State) (hp : p ∉ [.mgmt]) : Same
    p (loadCommitApplied c s) t ↔ Same p s t := by
  simp at hp
  simp [hp, loadCommitApplied]

@[simp] theorem nonceApplied_frame (c : WCtx) (s : State) {p : Field} (t : State) (hp : p ∉ [.mgmt]) : Same p
    (nonceApplied c s) t ↔ Same p s t := by
  simp at hp
  simp [hp, nonceApplied]

@[simp] theorem ctrTick_frame (b : Nat) (s : State) {p : Field} (t : State) (hp : p ∉ [.fresh, .mgmt]) : Same p
    (ctrTick b s) t ↔ Same p s t := by
  simp at hp
  simp [hp, ctrTick]

@[simp] theorem ctrSnapshot_frame (b : Nat) (s : State) {p : Field} (t : State) (hp : p ∉ [.fresh, .mgmt]) : Same
    p (ctrSnapshot b s) t ↔ Same p s t := by
  simp at hp
  simp [hp, ctrSnapshot]

@[simp] theorem ctrClear_frame (b : Nat) (i : Nat) (s : State) {p : Field} (t : State) (hp : p ∉ [.mgmt]) : Same
    p (ctrClear b i s) t ↔ Same p s t := by
  simp at hp
  simp [hp, ctrClear]

@[simp] theorem configReset_frame (s : State) {p : Field} (t : State)
    (hp : p ∉ [.out, .mode, .mgmt, .dict, .net, .conns, .cmd, .pools, .pot, .egress, .cipher, .xlat, .pair, .bays, .attach])
    : Same p (configReset s) t ↔ Same p s t := by
  simp at hp
  simp [hp, configReset]

@[simp] theorem discoveryDiff_frame (old : State) (s : State) {p : Field} (t : State)
    (hp : p ∉ [.mgmt, .conns, .cmd, .egress, .pair]) : Same p (discoveryDiff old s) t ↔ Same p s t := by
  simp at hp
  simp [hp, discoveryDiff]

@[simp] theorem fullBucket_frame (kind : Nat) (r : Nat) (s : State) {p : Field} (t : State) (hp : p ∉ [.cmd]) :
    Same p (fullBucket kind r s) t ↔ Same p s t := by
  simp at hp
  simp [hp, fullBucket]

@[simp] theorem fullHostEg_frame (kind : Nat) (r : Nat) (s : State) {p : Field} (t : State) (hp : p ∉ [.egress])
    : Same p (fullHostEg kind r s) t ↔ Same p s t := by
  simp at hp
  simp [hp, fullHostEg]

@[simp] theorem fullClassEg_frame (kind : Nat) (cls : Nat) (s : State) {p : Field} (t : State)
    (hp : p ∉ [.egress]) : Same p (fullClassEg kind cls s) t ↔ Same p s t := by
  simp at hp
  simp [hp, fullClassEg]

@[simp] theorem pskCleared_frame (r : Nat) (s : State) {p : Field} (t : State) (hp : p ∉ [.mgmt, .keys, .pair]) :
    Same p (pskCleared r s) t ↔ Same p s t := by
  simp at hp
  simp [hp, pskCleared]

@[simp] theorem retireWorn_frame (s : State) {p : Field} (t : State) (hp : p ∉ [.mgmt, .xlat, .media, .pair]) :
    Same p (retireWorn s) t ↔ Same p s t := by
  simp at hp
  simp (maxDischargeDepth := 9) [hp, retireWorn]

@[simp] theorem followConfig_frame (idx : Nat) (sub : Nat) (r : Nat) (v : Val) (old : State) (s : State)
    {p : Field} (t : State)
    (hp : p ∉ [.out, .mode, .mgmt, .net, .conns, .cmd, .pools, .pot, .egress, .cipher, .xlat, .pair, .bays, .attach])
    : Same p (followConfig idx sub r v old s) t ↔ Same p s t := by
  simp at hp
  simp only [followConfig]; (repeat' split) <;> simp [hp]

@[simp] theorem applyConfig_frame (idx : Nat) (sub : Nat) (r : Nat) (v : Val) (s : State) {p : Field} (t : State)
    (hp : p ∉ [.out, .mode, .mgmt, .dict, .net, .conns, .cmd, .pools, .pot, .egress, .cipher, .xlat, .pair, .bays, .attach])
    : Same p (applyConfig idx sub r v s) t ↔ Same p s t := by
  simp at hp
  simp only [applyConfig]; (repeat' split) <;> simp [hp]

end Sys2Proof.Machine
end

