-- ==== Sys2Proof/Laws/FrameValues.lean ====
section
/-! SUPPORT. What each operation of Values.lean leaves unchanged, part by part. -/

namespace Sys2Proof.Machine

set_option linter.all false

@[simp] theorem getValue_frame (sess : Nat) (x : Session) (o : Obj) (sub : Nat) (s : State) {p : Field}
    (t : State) (hp : p ∉ [.fresh, .mgmt]) : Same p (getValue sess x o sub s).2 t ↔ Same p s t := by
  simp at hp
  simp only [getValue]; (repeat' split) <;> simp [hp]

@[simp] theorem getOne_frame (sess : Nat) (idx : Nat) (sub : Nat) (x : Session) (s : State) {p : Field}
    (t : State) (hp : p ∉ [.fresh, .mgmt]) : Same p (getOne sess idx sub x s).2.2 t ↔ Same p s t := by
  simp at hp
  simp only [getOne]; (repeat' split) <;> simp [hp]

end Sys2Proof.Machine
end

