-- ==== Sys2Proof/Laws/FrameManage.lean ====
section
/-! SUPPORT. What each operation of Manage.lean leaves unchanged, part by part. -/

namespace Sys2Proof.Machine

set_option linter.all false

@[simp] theorem sessionFor_frame (key : Nat) (path : Path) (priv : Priv) (s : State) {p : Field} (t : State)
    (hp : p ∉ [.mgmt]) : Same p (sessionFor key path priv s) t ↔ Same p s t := by
  simp at hp
  simp [hp, sessionFor]

@[simp] theorem sessionRefused_frame (s : State) {p : Field} (t : State) (hp : p ∉ [.mgmt]) : Same p
    (sessionRefused s) t ↔ Same p s t := by
  simp at hp
  simp [hp, sessionRefused]

@[simp] theorem dtlsHandshake_frame (path : Path) (anchor : Option Nat) (ok : Bool) (s : State) {p : Field}
    (t : State) (hp : p ∉ [.mgmt]) : Same p (dtlsHandshake path anchor ok s) t ↔ Same p s t := by
  simp at hp
  simp only [dtlsHandshake]; (repeat' split) <;> simp [hp]

@[simp] theorem answerReq_frame (sess : Nat) (trans : Nat) (req : Req) (pairScope : Bool) (r : Resp) (s : State)
    {p : Field} (t : State) (hp : p ∉ [.out, .mgmt, .pair, .attach]) : Same p
    (answerReq sess trans req pairScope r s) t ↔ Same p s t := by
  simp at hp
  simp [hp, answerReq]

@[simp] theorem sendOwed_frame (s : State) {p : Field} (t : State) (hp : p ∉ [.out, .mgmt, .pair]) : Same p
    (sendOwed s) t ↔ Same p s t := by
  simp at hp
  simp [hp, sendOwed]

@[simp] theorem getItems_frame (sess : Nat) (x : Session) (a2 : Nat) (a3 : List (Nat × Nat)) (a4 : State)
    {p : Field} (t : State) (hp : p ∉ [.fresh, .mgmt]) : Same p (getItems sess x a2 a3 a4).2 t ↔ Same p a4 t :=
    by
  simp at hp
  induction a3 generalizing x a2 a4 with
  | nil => simp [hp, getItems]
  | cons y l ih => obtain ⟨i, j⟩ := y; unfold getItems; dsimp only; simp [hp, ih]

@[simp] theorem runGet_frame (sess : Nat) (trans : Nat) (x : Session) (idx : Nat) (sub : Nat) (s : State)
    {p : Field} (t : State) (hp : p ∉ [.fresh, .out, .mgmt, .pair, .attach]) : Same p
    (runGet sess trans x idx sub s) t ↔ Same p s t := by
  simp at hp
  simp [hp, runGet]

@[simp] theorem runGetMulti_frame (sess : Nat) (trans : Nat) (x : Session) (items : List (Nat × Nat)) (s : State)
    {p : Field} (t : State) (hp : p ∉ [.fresh, .out, .mgmt, .pair, .attach]) : Same p
    (runGetMulti sess trans x items s) t ↔ Same p s t := by
  simp at hp
  simp [hp, runGetMulti]

@[simp] theorem groupPut_frame (l : List WCtx) (s : State) {p : Field} (t : State)
    (hp : p ∉ [.mgmt, .dict, .pair]) : Same p (groupPut l s) t ↔ Same p s t := by
  simp at hp
  simp only [groupPut]; (repeat' split) <;> simp [hp]

@[simp] theorem runSubscribe_frame (sess : Nat) (trans : Nat) (x : Session) (filters : List EvFilter)
    (period : Nat) (samples : List (Nat × Nat)) (s : State) {p : Field} (t : State)
    (hp : p ∉ [.out, .mgmt, .pair, .attach]) : Same p (runSubscribe sess trans x filters period samples s) t ↔
    Same p s t := by
  simp at hp
  simp [hp, runSubscribe]

@[simp] theorem samplePeriod_frame (sess : Nat) (s : State) {p : Field} (t : State) (hp : p ∉ [.fresh, .mgmt]) :
    Same p (samplePeriod sess s) t ↔ Same p s t := by
  simp at hp
  simp only [samplePeriod]; (repeat' split) <;> simp [hp]

@[simp] theorem notify_frame (sess : Nat) (s : State) {p : Field} (t : State) (hp : p ∉ [.out, .mgmt]) : Same p
    (notify sess s) t ↔ Same p s t := by
  simp at hp
  simp only [notify]; (repeat' split) <;> simp [hp]

end Sys2Proof.Machine
end

