-- ==== Sys2Proof/Laws/FrameReplica.lean ====
section
/-! SUPPORT. What each operation of Replica.lean leaves unchanged, part by part. -/

namespace Sys2Proof.Machine

set_option linter.all false

@[simp] theorem askLack_frame (l : Lack) (s : State) {p : Field} (t : State)
    (hp : p ∉ [.out, .mgmt, .pools, .pair]) : Same p (askLack l s) t ↔ Same p s t := by
  simp at hp
  simp [hp, askLack]

@[simp] theorem noteLack_frame (l : Lack) (now_ : Bool) (s : State) {p : Field} (t : State)
    (hp : p ∉ [.out, .mgmt, .pools, .pair]) : Same p (noteLack l now_ s) t ↔ Same p s t := by
  simp at hp
  simp [hp, noteLack]

@[simp] theorem settleLacks_frame (s : State) {p : Field} (t : State) (hp : p ∉ [.pools, .pair]) : Same p
    (settleLacks s) t ↔ Same p s t := by
  simp at hp
  simp [hp, settleLacks]

@[simp] theorem askDue_frame (ended : Nat) (s : State) {p : Field} (t : State)
    (hp : p ∉ [.out, .mgmt, .pools, .pair]) : Same p (askDue ended s) t ↔ Same p s t := by
  simp at hp
  simp [hp, askDue]

@[simp] theorem noteEntry_frame (n : Nat) (later : List RecEntry) (e : RecEntry) (s : State) {p : Field}
    (t : State) (hp : p ∉ [.out, .mgmt, .conns, .pools, .xlat, .pair]) : Same p (noteEntry n later e s) t ↔ Same
    p s t := by
  simp at hp
  simp only [noteEntry]; (repeat' split) <;> simp [hp]

@[simp] theorem noteRecord_frame (n : Nat) (a1 : List RecEntry) (a2 : List RecEntry) (a3 : State) {p : Field}
    (t : State) (hp : p ∉ [.out, .mgmt, .conns, .pools, .xlat, .pair]) : Same p (noteRecord n a1 a2 a3) t ↔ Same
    p a3 t := by
  simp at hp
  induction a1 generalizing a3 with
  | nil => simp [hp, noteRecord]
  | cons x l ih => unfold noteRecord; (repeat' split) <;> simp [hp, ih]

@[simp] theorem followConn_frame (n : Nat) (k : Nat) (info : ConnInfo) (s : State) {p : Field} (t : State)
    (hp : p ∉ [.conns]) : Same p (followConn n k info s) t ↔ Same p s t := by
  simp at hp
  simp [hp, followConn]

@[simp] theorem followTls_frame (k : Nat) (tls : Option TlsOpen) (s : State) {p : Field} (t : State)
    (hp : p ∉ [.mgmt, .conns, .cipher]) : Same p (followTls k tls s) t ↔ Same p s t := by
  simp at hp
  simp only [followTls]; (repeat' split) <;> simp [hp]

@[simp] theorem followQueue_frame (k : Nat) (q : Option QueueInfo) (s : State) {p : Field} (t : State)
    (hp : p ∉ [.conns, .cmd]) : Same p (followQueue k q s) t ↔ Same p s t := by
  simp at hp
  simp only [followQueue]; (repeat' split) <;> simp [hp]

@[simp] theorem followOpen_frame (n : Nat) (k : Nat) (info : ConnInfo) (tls : Option TlsOpen)
    (q : Option QueueInfo) (s : State) {p : Field} (t : State) (hp : p ∉ [.mgmt, .conns, .cmd, .cipher]) : Same p
    (followOpen n k info tls q s) t ↔ Same p s t := by
  simp at hp
  simp [hp, followOpen]

@[simp] theorem followEnd_frame (k : Nat) (reason : Nat) (s : State) {p : Field} (t : State)
    (hp : p ∉ [.mode, .mgmt, .conns, .cmd, .pools, .pot, .egress, .cipher, .xlat, .pair, .attach]) : Same p
    (followEnd k reason s) t ↔ Same p s t := by
  simp at hp
  simp only [followEnd]; (repeat' split) <;> simp [hp]

@[simp] theorem followNotice_frame (c : Nat) (cid : Nat) (dw0 : Nat) (s : State) {p : Field} (t : State)
    (hp : p ∉ [.cmd]) : Same p (followNotice c cid dw0 s) t ↔ Same p s t := by
  simp at hp
  simp [hp, followNotice]

@[simp] theorem followCompletion_frame (k : Nat) (cid : Nat) (st : Status) (dw0 : Nat) (n : Nat) (s : State)
    {p : Field} (t : State) (hp : p ∉ [.conns, .cmd]) : Same p (followCompletion k cid st dw0 n s) t ↔ Same p s t
    := by
  simp at hp
  simp only [followCompletion]; (repeat' split) <;> simp [hp]

@[simp] theorem followSolicit_frame (k : Nat) (cid : Nat) (ttag : Nat) (s : State) {p : Field} (t : State)
    (hp : p ∉ [.mgmt, .cmd, .pools]) : Same p (followSolicit k cid ttag s) t ↔ Same p s t := by
  simp at hp
  simp only [followSolicit]; (repeat' split) <;> simp [hp]

@[simp] theorem followMsg_frame (n : Nat) (k : Nat) (m : HostMsg) (s : State) {p : Field} (t : State)
    (hp : p ∉ [.mgmt, .conns, .cmd, .pools]) : Same p (followMsg n k m s) t ↔ Same p s t := by
  simp at hp
  simp only [followMsg]; (repeat' split) <;> simp [hp]

@[simp] theorem followPlan_frame (n : Nat) (k : Nat) (pos : Nat) (tlsSeq : Nat) (checks : List (BitVec 32))
    (m : HostMsg) (s : State) {p : Field} (t : State) (hp : p ∉ [.mgmt, .conns, .cmd, .pools, .pair]) : Same p
    (followPlan n k pos tlsSeq checks m s) t ↔ Same p s t := by
  simp at hp
  simp only [followPlan]; (repeat' split) <;> simp [hp]

@[simp] theorem followPosition_frame (k : Nat) (pos : Nat) (tlsSeq : Nat) (m : HostMsg) (s : State) {p : Field}
    (t : State) (hp : p ∉ [.conns]) : Same p (followPosition k pos tlsSeq m s) t ↔ Same p s t := by
  simp at hp
  simp only [followPosition]; (repeat' split) <;> simp [hp]

@[simp] theorem settlePlaced_frame (n : Nat) (conn : Nat) (cid : Nat) (cycle : Nat) (q : Nat × Slot) (s : State)
    {p : Field} (t : State) (hp : p ∉ [.mode, .mgmt, .pools, .pot, .xlat]) : Same p
    (settlePlaced n conn cid cycle q s) t ↔ Same p s t := by
  simp at hp
  simp [hp, settlePlaced]

@[simp] theorem followPlace_frame (later : List RecEntry) (n : Nat) (conn : Nat) (cid : Nat) (ns : Nat)
    (lba : Nat) (k : Nat) (cycle : Nat) (s : State) {p : Field} (t : State)
    (hp : p ∉ [.mode, .mgmt, .cmd, .pools, .pot, .xlat]) : Same p (followPlace later n conn cid ns lba k cycle s)
    t ↔ Same p s t := by
  simp at hp
  simp only [followPlace]; (repeat' split) <;> simp [hp]

@[simp] theorem followZero_frame (n : Nat) (conn : Nat) (cid : Nat) (ns : Nat) (lba : Nat) (k : Nat)
    (cycle : Nat) (s : State) {p : Field} (t : State) (hp : p ∉ [.mode, .mgmt, .cmd, .pools, .pot, .xlat]) : Same
    p (followZero n conn cid ns lba k cycle s) t ↔ Same p s t := by
  simp at hp
  simp only [followZero]; (repeat' split) <;> simp [hp]

@[simp] theorem followLb_frame (lb : Nat) (e : LbEntry) (s : State) {p : Field} (t : State) (hp : p ∉ [.xlat]) :
    Same p (followLb lb e s) t ↔ Same p s t := by
  simp at hp
  simp [hp, followLb]

@[simp] theorem followBand_frame (b : Nat) (e : Option Band) (s : State) {p : Field} (t : State)
    (hp : p ∉ [.xlat]) : Same p (followBand b e s) t ↔ Same p s t := by
  simp at hp
  simp only [followBand]; (repeat' split) <;> simp [hp]

@[simp] theorem followLog_frame (b : Nat) (r : LogRec) (commits : Nat) (s : State) {p : Field} (t : State)
    (hp : p ∉ [.xlat]) : Same p (followLog b r commits s) t ↔ Same p s t := by
  simp at hp
  simp [hp, followLog]

@[simp] theorem followSlot_frame (ns : Nat) (lba : Nat) (cycle : Nat) (st : SlotState) (dest : Nat) (s : State)
    {p : Field} (t : State) (hp : p ∉ [.xlat]) : Same p (followSlot ns lba cycle st dest s) t ↔ Same p s t := by
  simp at hp
  simp only [followSlot]; (repeat' split) <;> simp [hp]

@[simp] theorem followDiscard_frame (cycle : Nat) (ns : Nat) (lba : Nat) (n : Nat) (s : State) {p : Field}
    (t : State) (hp : p ∉ [.mode, .mgmt, .pools, .pot, .xlat]) : Same p (followDiscard cycle ns lba n s) t ↔ Same
    p s t := by
  simp at hp
  simp only [followDiscard]; (repeat' split) <;> simp [hp]

@[simp] theorem followAdmitted_frame (c : Nat) (d : Descr) (bad : List Nat) (s : State) {p : Field} (t : State)
    (hp : p ∉ [.mgmt, .media]) : Same p (followAdmitted c d bad s) t ↔ Same p s t := by
  simp at hp
  simp [hp, followAdmitted]

@[simp] theorem followWear_frame (c : Nat) (eu : Nat) (n : Nat) (fN : Nat) (fS : Nat) (slc : Bool) (s : State)
    {p : Field} (t : State) (hp : p ∉ [.media]) : Same p (followWear c eu n fN fS slc s) t ↔ Same p s t := by
  simp at hp
  simp [hp, followWear]

@[simp] theorem followRetire_frame (c : Nat) (eu : Nat) (s : State) {p : Field} (t : State)
    (hp : p ∉ [.mgmt, .media]) : Same p (followRetire c eu s) t ↔ Same p s t := by
  simp at hp
  simp [hp, followRetire]

@[simp] theorem followLost_frame (e : Lost) (s : State) {p : Field} (t : State) (hp : p ∉ [.xlat]) : Same p
    (followLost e s) t ↔ Same p s t := by
  simp at hp
  simp [hp, followLost]

@[simp] theorem followNsKey_frame (ns : Nat) (gen : Nat) (k : Option Key) (s : State) {p : Field} (t : State)
    (hp : p ∉ [.keys]) : Same p (followNsKey ns gen k s) t ↔ Same p s t := by
  simp at hp
  simp [hp, followNsKey]

@[simp] theorem followPsk_frame (r : Nat) (v : Bytes) (s : State) {p : Field} (t : State) (hp : p ∉ [.keys]) :
    Same p (followPsk r v s) t ↔ Same p s t := by
  simp at hp
  simp [hp, followPsk]

@[simp] theorem followContext_frame (conn : Nat) (cid : Nat) (opc : Nat) (ns : Nat) (nsid : Nat) (slba : Nat)
    (nlb : Nat) (host : Nat) (cls : Option AdmClass) (disp : Bool) (trump : Bool) (ttag : Nat) (status : Status)
    (sgl : Sgl) (s : State) {p : Field} (t : State) (hp : p ∉ [.cmd]) : Same p
    (followContext conn cid opc ns nsid slba nlb host cls disp trump ttag status sgl s) t ↔ Same p s t := by
  simp at hp
  simp [hp, followContext]

theorem applyConn_frame {n : Nat} {e : RecEntry} {s t : State} (h : applyConn n e s = some t) {p : Field}
    (u : State) (hp : p ∉ [.mode, .mgmt, .conns, .cmd, .pools, .pot, .egress, .cipher, .xlat, .pair, .attach]) :
    Same p t u ↔ Same p s u := by
  simp at hp
  unfold applyConn at h; dsimp only at h; (repeat' split at h) <;> first | (cases h; simp [hp]; done) | (cases h; done)

@[simp] theorem applyConn_getD_frame (n : Nat) (e : RecEntry) (s : State) {p : Field} (t : State)
    (hp : p ∉ [.mode, .mgmt, .conns, .cmd, .pools, .pot, .egress, .cipher, .xlat, .pair, .attach]) :
    Same p ((applyConn n e s).getD s) t ↔ Same p s t := by
  cases h : applyConn n e s with
  | none => rfl
  | some u => exact applyConn_frame h t hp

@[simp] theorem followCarrier_frame (c : Nat) (st : CarState) (s : State) {p : Field} (t : State)
    (hp : p ∉ [.media]) : Same p (followCarrier c st s) t ↔ Same p s t := by
  simp at hp
  simp only [followCarrier]; (repeat' split) <;> simp [hp]

@[simp] theorem applyMap_frame (later : List RecEntry) (n : Nat) (e : RecEntry) (s : State) {p : Field}
    (t : State)
    (hp : p ∉ [.out, .mode, .mgmt, .dict, .net, .conns, .cmd, .pools, .pot, .egress, .cipher, .keys, .xlat, .media, .pair, .bays, .attach])
    : Same p (applyMap later n e s) t ↔ Same p s t := by
  simp at hp
  simp only [applyMap]; (repeat' split) <;> simp [hp]

@[simp] theorem applyEntry_frame (later : List RecEntry) (n : Nat) (e : RecEntry) (s : State) {p : Field}
    (t : State)
    (hp : p ∉ [.out, .mode, .mgmt, .dict, .net, .conns, .cmd, .pools, .pot, .egress, .cipher, .keys, .xlat, .media, .pair, .bays, .attach])
    : Same p (applyEntry later n e s) t ↔ Same p s t := by
  simp at hp
  unfold applyEntry; split
  · rename_i h; split <;> simp [hp, applyConn_frame h]
  · simp [hp]

@[simp] theorem applyEntries_frame (n : Nat) (a1 : List RecEntry) (a2 : List RecEntry) (a3 : State) {p : Field}
    (t : State)
    (hp : p ∉ [.out, .mode, .mgmt, .dict, .net, .conns, .cmd, .pools, .pot, .egress, .cipher, .keys, .xlat, .media, .pair, .bays, .attach])
    : Same p (applyEntries n a1 a2 a3) t ↔ Same p a3 t := by
  simp at hp
  induction a1 generalizing a2 a3 with
  | nil => simp [hp, applyEntries]
  | cons e l ih => unfold applyEntries; simp [hp, ih]

@[simp] theorem applyRecord_frame (r : CycleRec) (s : State) {p : Field} (t : State)
    (hp : p ∉ [.out, .mode, .mgmt, .dict, .net, .conns, .cmd, .pools, .pot, .egress, .cipher, .keys, .xlat, .media, .pair, .bays, .attach])
    : Same p (applyRecord r s) t ↔ Same p s t := by
  simp at hp
  unfold applyRecord; dsimp only; split <;> simp [hp]

@[simp] theorem joins_frame (cold : Bool) (s : State) {p : Field} (t : State)
    (hp : p ∉ [.out, .mode, .mgmt, .cmd, .pools, .pair, .attach]) : Same p (joins cold s) t ↔ Same p s t := by
  simp at hp
  simp [hp, joins]

@[simp] theorem afterConfirm_frame (r : CycleRec) (s : State) {p : Field} (t : State)
    (hp : p ∉ [.out, .mode, .mgmt, .net, .conns, .cmd, .pools, .pot, .egress, .cipher, .xlat, .media, .pair, .attach])
    : Same p (afterConfirm r s) t ↔ Same p s t := by
  simp at hp
  simp [hp, afterConfirm]

theorem confirmOne_frame {s t : State} (h : confirmOne s = some t) {p : Field} (u : State)
    (hp : p ∉ [.out, .mode, .mgmt, .dict, .net, .conns, .cmd, .pools, .pot, .egress, .cipher, .keys, .xlat, .media, .pair, .bays, .attach]) :
    Same p t u ↔ Same p s u := by
  simp at hp
  unfold confirmOne at h; dsimp only at h
  split at h
  · cases h
  · split at h
    · cases h
    · split at h <;> (cases h; simp [hp])

@[simp] theorem confirmAll_frame (a0 : Nat) (a1 : State) {p : Field} (t : State)
    (hp : p ∉ [.out, .mode, .mgmt, .dict, .net, .conns, .cmd, .pools, .pot, .egress, .cipher, .keys, .xlat, .media, .pair, .bays, .attach])
    : Same p (confirmAll a0 a1) t ↔ Same p a1 t := by
  simp at hp
  induction a0 generalizing a1 with
  | zero => simp [hp, confirmAll]
  | succ n ih =>
    unfold confirmAll; dsimp only; split
    · simp [hp]
    · split
      · rename_i h; simp [hp, ih, confirmOne_frame h]
      · simp [hp]

@[simp] theorem tryConfirm_frame (s : State) {p : Field} (t : State)
    (hp : p ∉ [.out, .mode, .mgmt, .dict, .net, .conns, .cmd, .pools, .pot, .egress, .cipher, .keys, .xlat, .media, .pair, .bays, .attach])
    : Same p (tryConfirm s) t ↔ Same p s t := by
  simp at hp
  simp [hp, tryConfirm]

end Sys2Proof.Machine
end

