-- ==== Sys2Proof/Laws/FrameCycle.lean ====
section
/-! SUPPORT. What each operation of Cycle.lean leaves unchanged, part by part. -/

namespace Sys2Proof.Machine

set_option linter.all false

@[simp] theorem nameConn_frame (p : Nat × Conn) (s : State) {q : Field} (t : State) (hp : q ∉ [.mgmt, .pair]) :
    Same q (nameConn p s) t ↔ Same q s t := by
  simp at hp
  simp [hp, nameConn]

@[simp] theorem nameConns_frame (s : State) {p : Field} (t : State) (hp : p ∉ [.mgmt, .pair]) : Same p
    (nameConns s) t ↔ Same p s t := by
  simp at hp
  simp [hp, nameConns]

@[simp] theorem sendSnapshot_frame (s : State) {p : Field} (t : State) (hp : p ∉ [.out, .mgmt, .pools, .pair]) :
    Same p (sendSnapshot s) t ↔ Same p s t := by
  simp at hp
  simp [hp, sendSnapshot]

@[simp] theorem joinDone_frame (s : State) {p : Field} (t : State)
    (hp : p ∉ [.out, .mode, .mgmt, .cmd, .pools, .pair, .attach]) : Same p (joinDone s) t ↔ Same p s t := by
  simp at hp
  simp [hp, joinDone]

@[simp] theorem releaseAtBoundary_frame (s : State) {p : Field} (t : State)
    (hp : p ∉ [.out, .mgmt, .conns, .cmd, .pools, .egress, .pair, .attach]) : Same p (releaseAtBoundary s) t ↔
    Same p s t := by
  simp at hp
  simp [hp, releaseAtBoundary]

@[simp] theorem lagCheck_frame (ended : Nat) (s : State) {p : Field} (t : State)
    (hp : p ∉ [.out, .mgmt, .pools, .media, .pair]) : Same p (lagCheck ended s) t ↔ Same p s t := by
  simp at hp
  simp [hp, lagCheck]

@[simp] theorem sendHeartbeat_frame (s : State) {p : Field} (t : State) (hp : p ∉ [.out, .pair]) : Same p
    (sendHeartbeat s) t ↔ Same p s t := by
  simp at hp
  simp [hp, sendHeartbeat]

@[simp] theorem boundaryDecides_frame (s : State) {p : Field} (t : State)
    (hp : p ∉ [.out, .mode, .mgmt, .conns, .cmd, .pools, .egress, .xlat, .media, .pair, .attach]) : Same p
    (boundaryDecides s) t ↔ Same p s t := by
  simp at hp
  simp [hp, boundaryDecides]

@[simp] theorem noteEdges_frame (n : Nat) (s : State) {p : Field} (t : State) (hp : p ∉ [.conns]) : Same p
    (noteEdges n s) t ↔ Same p s t := by
  simp at hp
  simp [hp, noteEdges]

@[simp] theorem boundaryFollows_frame (s : State) {p : Field} (t : State)
    (hp : p ∉ [.out, .mode, .mgmt, .dict, .net, .conns, .cmd, .pools, .pot, .egress, .cipher, .keys, .xlat, .media, .pair, .bays, .attach])
    : Same p (boundaryFollows s) t ↔ Same p s t := by
  simp at hp
  simp [hp, boundaryFollows]

@[simp] theorem retryGather_frame (s : State) {p : Field} (t : State)
    (hp : p ∉ [.mgmt, .pools, .xlat, .media, .pair]) : Same p (retryGather s) t ↔ Same p s t := by
  simp at hp
  simp [hp, retryGather]

@[simp] theorem retrySnapshot_frame (s : State) {p : Field} (t : State) (hp : p ∉ [.out, .mgmt, .pools, .pair]) :
    Same p (retrySnapshot s) t ↔ Same p s t := by
  simp at hp
  simp [hp, retrySnapshot]

@[simp] theorem rerequest_frame (pool : Nat) (s : State) {p : Field} (t : State)
    (hp : p ∉ [.out, .mode, .mgmt, .conns, .cmd, .pools, .pot, .egress, .cipher, .xlat, .media, .pair, .attach])
    : Same p (rerequest pool s) t ↔ Same p s t := by
  simp at hp
  simp [hp, rerequest]

@[simp] theorem confirmed_frame (n : Nat) (s : State) {p : Field} (t : State)
    (hp : p ∉ [.out, .mode, .mgmt, .net, .conns, .cmd, .pools, .pot, .egress, .cipher, .xlat, .media, .pair, .attach])
    : Same p (confirmed n s) t ↔ Same p s t := by
  simp at hp
  simp only [confirmed]; (repeat' split) <;> simp [hp]

@[simp] theorem joinerTakes_frame (n : Nat) (e : RecEntry) (s : State) {p : Field} (t : State)
    (hp : p ∉ [.mode, .mgmt, .conns, .cmd, .pools, .pot, .egress, .cipher, .xlat, .pair, .attach]) : Same p
    (joinerTakes n e s) t ↔ Same p s t := by
  simp at hp
  unfold joinerTakes; split <;> first | exact applyConn_getD_frame _ _ _ _ (by simp [hp]) | rfl | (split <;> simp [hp])

@[simp] theorem recordArrives_frame (r : CycleRec) (s : State) {p : Field} (t : State)
    (hp : p ∉ [.out, .mode, .mgmt, .dict, .net, .conns, .cmd, .pools, .pot, .egress, .cipher, .keys, .xlat, .media, .pair, .bays, .attach])
    : Same p (recordArrives r s) t ↔ Same p s t := by
  simp at hp
  simp (maxDischargeDepth := 9) [hp, recordArrives]

@[simp] theorem streamFill_frame (conn : Nat) (pos : Nat) (len : Nat) (s : State) {p : Field} (t : State)
    (hp : p ∉ [.out, .mgmt, .pools, .media, .pair]) : Same p (streamFill conn pos len s) t ↔ Same p s t := by
  simp at hp
  simp only [streamFill]; (repeat' split) <;> simp [hp]

@[simp] theorem sectorFill_frame (ns : Nat) (a : Nat) (s : State) {p : Field} (t : State)
    (hp : p ∉ [.out, .mgmt, .pools, .xlat, .media, .pair]) : Same p (sectorFill ns a s) t ↔ Same p s t := by
  simp at hp
  simp only [sectorFill]; (repeat' split) <;> simp [hp]

@[simp] theorem answerFill_frame (r : FillReq) (s : State) {p : Field} (t : State)
    (hp : p ∉ [.out, .mgmt, .pools, .xlat, .media, .pair]) : Same p (answerFill r s) t ↔ Same p s t := by
  simp at hp
  simp only [answerFill]; (repeat' split) <;> simp [hp]

@[simp] theorem streamArrives_frame (conn : Nat) (pos : Nat) (b : Bytes) (s : State) {p : Field} (t : State)
    (hp : p ∉ [.out, .mode, .mgmt, .dict, .net, .conns, .cmd, .pools, .pot, .egress, .cipher, .keys, .xlat, .media, .pair, .bays, .attach])
    : Same p (streamArrives conn pos b s) t ↔ Same p s t := by
  simp at hp
  simp [hp, streamArrives]

@[simp] theorem askAgain_frame (ns : Nat) (a : Nat) (s : State) {p : Field} (t : State) (hp : p ∉ [.pair]) : Same
    p (askAgain ns a s) t ↔ Same p s t := by
  simp at hp
  simp [hp, askAgain]

@[simp] theorem sectorArrives_frame (x : MirSector) (s : State) {p : Field} (t : State)
    (hp : p ∉ [.mgmt, .xlat, .pair]) : Same p (sectorArrives x s) t ↔ Same p s t := by
  simp at hp
  simp [hp, sectorArrives]

@[simp] theorem snapshotStarts_frame (cycle : Nat) (s : State) {p : Field} (t : State)
    (hp : p ∉ [.pools, .xlat, .pair]) : Same p (snapshotStarts cycle s) t ↔ Same p s t := by
  simp at hp
  simp [hp, snapshotStarts]

@[simp] theorem snapshotArrives_frame (cycle : Nat) (entries : List RecEntry) (percent : Nat) (last : Bool)
    (s : State) {p : Field} (t : State)
    (hp : p ∉ [.out, .mode, .mgmt, .dict, .net, .conns, .cmd, .pools, .pot, .egress, .cipher, .keys, .xlat, .media, .pair, .bays, .attach])
    : Same p (snapshotArrives cycle entries percent last s) t ↔ Same p s t := by
  simp at hp
  simp [hp, snapshotArrives]

end Sys2Proof.Machine
end

