-- ==== Sys2Proof/Laws/FramePairRows.lean ====
section
/-! SUPPORT. What each operation of PairRows.lean leaves unchanged, part by part. -/

namespace Sys2Proof.Machine

set_option linter.all false

@[simp] theorem linkUp_frame (s : State) {p : Field} (t : State) (hp : p ∉ [.fresh, .out, .pair]) : Same p
    (linkUp s) t ↔ Same p s t := by
  simp at hp
  simp [hp, linkUp]

@[simp] theorem linkLost_frame (s : State) {p : Field} (t : State)
    (hp : p ∉ [.out, .mode, .mgmt, .net, .conns, .cmd, .pools, .pot, .egress, .cipher, .xlat, .media, .pair, .attach])
    : Same p (linkLost s) t ↔ Same p s t := by
  simp at hp
  simp [hp, linkLost]

@[simp] theorem standbyDecision_frame (s : State) {p : Field} (t : State)
    (hp : p ∉ [.out, .mode, .mgmt, .net, .conns, .cmd, .pools, .pot, .egress, .cipher, .xlat, .media, .pair, .attach])
    : Same p (standbyDecision s) t ↔ Same p s t := by
  simp at hp
  simp [hp, standbyDecision]

@[simp] theorem heartbeatLost_frame (s : State) {p : Field} (t : State)
    (hp : p ∉ [.out, .mode, .mgmt, .net, .conns, .cmd, .pools, .pot, .egress, .cipher, .xlat, .media, .pair, .attach])
    : Same p (heartbeatLost s) t ↔ Same p s t := by
  simp at hp
  simp [hp, heartbeatLost]

@[simp] theorem pairAsserted_frame (s : State) {p : Field} (t : State)
    (hp : p ∉ [.out, .mode, .mgmt, .net, .conns, .cmd, .pools, .pot, .egress, .cipher, .xlat, .media, .pair, .attach])
    : Same p (pairAsserted s) t ↔ Same p s t := by
  simp at hp
  simp [hp, pairAsserted]

@[simp] theorem lineLow_frame (line : Nat) (s : State) {p : Field} (t : State)
    (hp : p ∉ [.out, .mode, .mgmt, .cmd, .pools, .media, .pair, .attach]) : Same p (lineLow line s) t ↔ Same p s
    t := by
  simp at hp
  simp [hp, lineLow]

@[simp] theorem notePartner_frame (p : PairInfo) (s : State) {q : Field} (t : State)
    (hp : q ∉ [.mgmt, .net, .pair]) : Same q (notePartner p s) t ↔ Same q s t := by
  simp at hp
  simp [hp, notePartner]

@[simp] theorem sameId_frame (s : State) {p : Field} (t : State)
    (hp : p ∉ [.fresh, .out, .mode, .mgmt, .net, .conns, .cmd, .pools, .pot, .egress, .cipher, .xlat, .media, .pair, .attach])
    : Same p (sameId s) t ↔ Same p s t := by
  simp at hp
  simp [hp, sameId]

@[simp] theorem agreeKey_frame (p : PairInfo) (s : State) {q : Field} (t : State) (hp : q ∉ [.fresh, .keys]) :
    Same q (agreeKey p s) t ↔ Same q s t := by
  simp at hp
  simp [hp, agreeKey]

@[simp] theorem takeArray_frame (key : BitVec 256) (id : BitVec 64) (s : State) {p : Field} (t : State)
    (hp : p ∉ [.keys, .xlat, .pair]) : Same p (takeArray key id s) t ↔ Same p s t := by
  simp at hp
  simp [hp, takeArray]

@[simp] theorem joinerPaired_frame (p : PairInfo) (s : State) {q : Field} (t : State)
    (hp : q ∉ [.fresh, .out, .keys, .pair]) : Same q (joinerPaired p s) t ↔ Same q s t := by
  simp at hp
  simp [hp, joinerPaired]

@[simp] theorem joinerHears_frame (p : PairInfo) (s : State) {q : Field} (t : State)
    (hp : q ∉ [.fresh, .out, .mode, .mgmt, .net, .conns, .cmd, .pools, .pot, .egress, .cipher, .keys, .xlat, .media, .pair, .attach])
    : Same q (joinerHears p s) t ↔ Same q s t := by
  simp at hp
  simp only [joinerHears]; (repeat' split) <;> simp [hp]

@[simp] theorem servingHears_frame (p : PairInfo) (s : State) {q : Field} (t : State)
    (hp : q ∉ [.fresh, .out, .mgmt, .pools, .keys, .media, .pair]) : Same q (servingHears p s) t ↔ Same q s t :=
    by
  simp at hp
  simp [hp, servingHears]

@[simp] theorem isolatedHears_frame (p : PairInfo) (s : State) {q : Field} (t : State)
    (hp : q ∉ [.fresh, .out, .mode, .mgmt, .cmd, .pools, .keys, .xlat, .media, .pair, .attach]) : Same q
    (isolatedHears p s) t ↔ Same q s t := by
  simp at hp
  simp only [isolatedHears]; (repeat' split) <;> simp [hp]

@[simp] theorem pairingArrives_frame (p : PairInfo) (s : State) {q : Field} (t : State)
    (hp : q ∉ [.fresh, .out, .mode, .mgmt, .net, .conns, .cmd, .pools, .pot, .egress, .cipher, .keys, .xlat, .media, .pair, .attach])
    : Same q (pairingArrives p s) t ↔ Same q s t := by
  simp at hp
  simp [hp, pairingArrives]

@[simp] theorem rejoinAgain_frame (s : State) {p : Field} (t : State)
    (hp : p ∉ [.fresh, .out, .mode, .mgmt, .cmd, .pools, .pair, .attach]) : Same p (rejoinAgain s) t ↔ Same p s t
    := by
  simp at hp
  simp [hp, rejoinAgain]

@[simp] theorem pairWaitEnds_frame (s : State) {p : Field} (t : State)
    (hp : p ∉ [.out, .mode, .mgmt, .pools, .media, .pair]) : Same p (pairWaitEnds s) t ↔ Same p s t := by
  simp at hp
  simp [hp, pairWaitEnds]

end Sys2Proof.Machine
end

