-- ==== Sys2Proof/Laws/Calibration.lean ====
section
/-! SUPPORT. What each operation that touches the bays leaves of 12 R340: no bay is calibrated whose 12 V output
is on or starts. -/

namespace Sys2Proof.Machine

set_option linter.all false

/-- One bay is calibrated only while its output is off. -/
def OffWhileCalibrated (x : BaySt) : Prop := x.calibrating = true → x.state ≠ .ramp ∧ x.state ≠ .on

theorem CalibratesOff.of_bays {s u : State} (hs : CalibratesOff s) (h : Same .bays u s) : CalibratesOff u := by
  intro b; rw [bayOf_of h.bays_eq]; exact hs b

theorem CalibratesOff.onBay {s : State} (hs : CalibratesOff s) {b : Nat} {f : BaySt → BaySt}
    (hf : b < 24 → OffWhileCalibrated (bayOf s b) → OffWhileCalibrated (f (bayOf s b))) :
    CalibratesOff (onBay b f s) := by
  intro c
  by_cases h : c.val = b
  · subst h; rw [bayOf_onBay_self f s c.isLt]; exact hf c.isLt (hs c)
  · rw [bayOf_onBay_ne f s h]; exact hs c

theorem CalibratesOff.map {s : State} (hs : CalibratesOff s) {f : BaySt → BaySt}
    (hf : ∀ x, OffWhileCalibrated x → OffWhileCalibrated (f x)) :
    CalibratesOff (s.onBays fun v => v.map f) := by
  intro b
  have e : bayOf (s.onBays fun v => v.map f) b.val = f (bayOf s b.val) := by simp [bayOf, atNat, b.isLt]
  rw [e]; exact hf _ (hs b)

theorem CalibratesOff.when {f : State → State} (hf : ∀ s, CalibratesOff s → CalibratesOff (f s)) (c : Bool)
    {s : State} (hs : CalibratesOff s) : CalibratesOff (Machine.when c f s) := by
  unfold Machine.when; split
  · exact hf s hs
  · exact hs

theorem CalibratesOff.each {α : Type} {f : α → State → State}
    (hf : ∀ a s, CalibratesOff s → CalibratesOff (f a s)) (l : List α) :
    ∀ {s : State}, CalibratesOff s → CalibratesOff (Machine.each l f s) := by
  induction l with
  | nil => exact fun hs => hs
  | cons a l ih => exact fun hs => ih (hf a _ hs)

theorem CalibratesOff.raise {s : State} (hs : CalibratesOff s) (a b c d e : Nat) :
    CalibratesOff (Machine.raise a b c d e s) := hs.of_bays (by simp)

theorem CalibratesOff.bump {s : State} (hs : CalibratesOff s) (a b c : Nat) :
    CalibratesOff (Machine.bump a b c s) := hs.of_bays (by simp)

/-! ### The bays (12 R331 to R339) -/

theorem calibratesOff_bayRamp {s : State} (hs : CalibratesOff s) (b : Nat) : CalibratesOff (bayRamp b s) :=
  hs.onBay fun _ _ h => by simp at h

theorem calibratesOff_bayTo {s : State} (hs : CalibratesOff s) (b : Nat) {st : BayState} (h1 : st ≠ .ramp)
    (h2 : st ≠ .on) : CalibratesOff (bayTo b st s) :=
  hs.onBay fun _ _ _ => ⟨h1, h2⟩

theorem calibratesOff_bayStart {s : State} (hs : CalibratesOff s) (b : Nat) : CalibratesOff (bayStart b s) := by
  unfold bayStart; split
  · exact hs.onBay fun _ _ _ => ⟨by simp, by simp⟩
  · exact calibratesOff_bayRamp hs b

theorem calibratesOff_baysStart {s : State} (hs : CalibratesOff s) : CalibratesOff (baysStart s) := by
  refine CalibratesOff.each (fun b s hs => ?_) _ hs
  dsimp only; split
  · exact hs
  split
  · exact calibratesOff_bayTo hs b (by simp) (by simp)
  split
  · exact calibratesOff_bayStart (hs.onBay fun _ _ _ => ⟨by simp, by simp⟩) b
  · exact hs.onBay fun _ _ _ => ⟨by simp, by simp⟩

theorem calibratesOff_bayPresent {s : State} (hs : CalibratesOff s) (b : Nat) : CalibratesOff (bayPresent b s) := by
  have h1 : CalibratesOff (onBay b (fun x => { x with prsnt := true }) s) := hs.onBay fun _ h => h
  unfold bayPresent; dsimp only; split
  · split
    · exact calibratesOff_bayStart (h1.onBay fun _ _ _ => ⟨by simp, by simp⟩) b
    · exact h1.onBay fun _ _ _ => ⟨by simp, by simp⟩
  · exact h1

theorem calibratesOff_baySeated {s : State} (hs : CalibratesOff s) (b : Nat) (i : Sideband) :
    CalibratesOff (baySeated b i s) := by
  unfold baySeated; dsimp only
  have h : ∀ u, CalibratesOff u → CalibratesOff (sidebandRead b i u) := fun u hu => hu.of_bays (by simp)
  have h := h _ (hs.onBay (b := b) (f := fun x => { x with
    seat1 := true, seat2 := true, seated := true, auxTrips := [],
    aux := if x.aux = .latched then .on else x.aux }) fun _ h => h)
  split
  · exact calibratesOff_bayStart h b
  · exact h

theorem calibratesOff_baySeatingLost {s : State} (hs : CalibratesOff s) (b : Nat) (pins : BitVec 2) :
    CalibratesOff (baySeatingLost b pins s) := by
  unfold baySeatingLost; dsimp only
  have h : CalibratesOff (onBay b (fun x => { x with
    seat1 := x.seat1 && !pins.getLsbD 0, seat2 := x.seat2 && !pins.getLsbD 1,
    seated := x.seated && pins = 0 }) s) := hs.onBay fun _ h => h
  split
  · exact h
  · refine CalibratesOff.raise ?_ _ _ _ _ _
    refine CalibratesOff.onBay ?_ fun _ h => h
    refine calibratesOff_bayTo h b ?_ ?_ <;> split <;> simp

theorem calibratesOff_bayRemoved {s : State} (hs : CalibratesOff s) (b : Nat) : CalibratesOff (bayRemoved b s) := by
  unfold bayRemoved; dsimp only; split
  · exact calibratesOff_bayTo (hs.onBay fun _ h => h) b (by simp) (by simp)
  · exact hs.onBay fun _ h => h

theorem calibratesOff_startFault {s : State} (hs : CalibratesOff s) (b c : Nat) : CalibratesOff (startFault b c s) := by
  unfold startFault; dsimp only
  refine CalibratesOff.raise (CalibratesOff.bump ?_ _ _ _) _ _ _ _ _
  exact (calibratesOff_bayTo hs b (by simp) (by simp)).onBay fun _ h => h

theorem calibratesOff_bayTrip {s : State} (hs : CalibratesOff s) (b c : Nat) : CalibratesOff (bayTrip b c s) := by
  unfold bayTrip; dsimp only
  split <;>
    refine CalibratesOff.raise (calibratesOff_bayTo (CalibratesOff.bump ?_ _ _ _) b (by simp) (by simp)) _ _ _ _ _ <;>
    exact hs.onBay fun _ h => h

theorem calibratesOff_bayFault {s : State} (hs : CalibratesOff s) (b : Nat) (i j : Option Nat) :
    CalibratesOff (bayFault b i j s) := by
  unfold bayFault; split
  · exact calibratesOff_bayTrip hs b _
  · exact calibratesOff_startFault hs b _
  · exact hs

theorem calibratesOff_cooldownEnd {s : State} (hs : CalibratesOff s) (b : Nat) : CalibratesOff (cooldownEnd b s) := by
  unfold cooldownEnd; dsimp only; split
  · exact hs
  split
  · refine hs.onBay fun _ _ _ => ?_
    dsimp only; split <;> simp
  split
  · exact calibratesOff_bayTo hs b (by simp) (by simp)
  · exact calibratesOff_bayRamp (hs.onBay fun _ h => h) b

theorem calibratesOff_bayLockApplied {s : State} (hs : CalibratesOff s) (b : Nat) (on : Bool) :
    CalibratesOff (bayLockApplied b on s) := by
  unfold bayLockApplied; split
  · exact calibratesOff_bayTo hs b (by simp) (by simp)
  · exact calibratesOff_bayTo hs b (by simp) (by simp)
  · split
    · exact calibratesOff_bayRamp (calibratesOff_bayTo hs b (by simp) (by simp)) b
    · exact hs
  · exact hs

theorem calibratesOff_bayClearEffect {s : State} (hs : CalibratesOff s) (c : WCtx) :
    CalibratesOff (bayClearEffect c s) :=
  CalibratesOff.when (fun _ h => h.onBay fun _ _ _ => ⟨by simp, by simp⟩) _ hs

theorem calibratesOff_auxTrip {s : State} (hs : CalibratesOff s) (b : Nat) : CalibratesOff (auxTrip b s) := by
  unfold auxTrip; dsimp only; split
  · exact hs
  · exact CalibratesOff.raise (hs.onBay fun _ h => h) _ _ _ _ _

theorem calibratesOff_testEnds {s : State} (hs : CalibratesOff s) : CalibratesOff (testEnds s) := by
  unfold testEnds; dsimp only
  split
  · exact calibratesOff_baysStart (hs.of_bays (by simp))
  · exact hs.of_bays (by simp)

theorem calibratesOff_holdupMeasurement {s : State} (hs : CalibratesOff s) (n : Nat) :
    CalibratesOff (holdupMeasurement n s) := by
  unfold holdupMeasurement; dsimp only; split
  · exact hs
  split
  · exact calibratesOff_testEnds (hs.of_bays (by simp))
  · exact hs.of_bays (by simp)

theorem calibratesOff_baysOff (s : State) : CalibratesOff (baysOff s) := by
  intro b h
  simp [baysOff, bayOf, atNat, b.isLt] at h

/-! ### Stops and starts (12 R342; 14 R369, R374) -/

theorem calibratesOff_stopAll (s : State) : CalibratesOff (stopAll s) :=
  (calibratesOff_baysOff _).of_bays ((with_attach_same _ _ _ (by simp)).2 ((State.onPools_same _ _ _ (by simp)).2
    ((State.onCmd_same _ _ _ (by simp)).2 ((endSessions_same _ _ (by simp)).2 (same_refl _ _)))))

theorem calibratesOff_enterReset (c : Nat) (s : State) : CalibratesOff (enterReset c s) :=
  (calibratesOff_stopAll s).of_bays (by simp [enterReset])

theorem calibratesOff_enterHoldup {s : State} (hs : CalibratesOff s) : CalibratesOff (enterHoldup s) := by
  unfold enterHoldup; split
  · exact hs
  · have h (u : State) : CalibratesOff (enterMode .holdup (stopAll u)) := (calibratesOff_stopAll u).of_bays (by simp)
    exact h _

theorem calibratesOff_checkFeeds {s : State} (hs : CalibratesOff s) : CalibratesOff (checkFeeds s) := by
  unfold checkFeeds; split
  · exact calibratesOff_enterHoldup hs
  · exact hs

theorem calibratesOff_coldStart {s : State} (hs : CalibratesOff s) : CalibratesOff (coldStart s) := by
  intro b h
  have e : (bayOf (coldStart s) b.val) = { bayOf s b.val with lastFault := 0 } := by
    have : (coldStart s).bays = s.bays.map fun b => { b with lastFault := 0 } := by
      unfold coldStart; dsimp only
      refine (Same.bays_eq ((abandonProgs_frame _ _ (by simp)).2 (same_refl _ _))).trans ?_
      refine (Same.bays_eq ((replayConfig_frame _ _ (by simp)).2 (same_refl _ _))).trans ?_
      simp
    simp [bayOf, this, atNat, b.isLt]
  rw [e] at h ⊢
  exact hs b h

theorem calibratesOff_bootFails {s : State} (hs : CalibratesOff s) (c : Nat) : CalibratesOff (bootFails c s) := by
  unfold bootFails; dsimp only
  exact calibratesOff_baysStart (hs.of_bays (by simp))

theorem calibratesOff_startBoot {s : State} (hs : CalibratesOff s) (c : Nat) (r : Bool) (ok : Nat → Bool)
    (cages : List (Group × List Nat)) : CalibratesOff (startBoot c r ok cages s) := by
  unfold startBoot; dsimp only
  generalize hx : pickSlot _ = x
  have h1 : x.2.bays = (coldStart s).bays := by
    rw [← hx]; refine Same.bays_eq ?_; simp only [pickSlot_frame _ _ (p := .bays) (by simp)]; split <;> simp
  obtain ⟨k, u⟩ := x
  have hu : CalibratesOff u := (calibratesOff_coldStart hs).of_bays h1
  cases k with
  | none => exact calibratesOff_bootFails hu _
  | some k =>
    dsimp only
    split
    · exact calibratesOff_bootFails (hu.of_bays (by simp)) _
    · rename_i v hv
      exact hu.of_bays (by have := fun w => bootDeal_frame hv (p := .bays) w (by simp); simp [this])

theorem calibratesOff_alwaysOnStops (s : State) : CalibratesOff (alwaysOnStops s) := by
  unfold alwaysOnStops; dsimp only
  exact (calibratesOff_stopAll _).map fun _ h => h

theorem calibratesOff_selfTestEffect {s : State} (hs : CalibratesOff s) (c : WCtx) :
    CalibratesOff (selfTestEffect c s) := by
  unfold selfTestEffect; split
  · exact hs
  · dsimp only
    split
    · split <;> exact hs.of_bays (by simp)
    · split
      · split <;> exact hs.of_bays (by simp)
      · exact hs.of_bays (by simp)
    · refine CalibratesOff.onBay (hs.of_bays (by simp)) fun _ _ h => ?_
      revert h
      generalize bayOf _ _ = x
      cases hx : x.state <;> simp [bayBusy, hx]

theorem calibratesOff_selfTestDone {s : State} (hs : CalibratesOff s) (p : Bool) :
    CalibratesOff (selfTestDone p s) := by
  unfold selfTestDone; split
  · exact hs
  · dsimp only
    refine CalibratesOff.raise ?_ _ _ _ _ _
    split
    · split <;> exact hs.of_bays (by simp)
    · exact hs.of_bays (by simp)
    · refine CalibratesOff.onBay (hs.of_bays (by simp)) fun _ _ h => ?_
      simp at h

/-! ### Writes and requests (15 R405, R406) -/

theorem calibratesOff_bayLocks {s : State} (hs : CalibratesOff s) (l : List Nat) :
    CalibratesOff (each l (fun b s => bayLockApplied b false s) s) :=
  CalibratesOff.each (fun b _ h => calibratesOff_bayLockApplied h b false) l hs

theorem calibratesOff_configReset {s : State} (hs : CalibratesOff s) : CalibratesOff (configReset s) := by
  unfold configReset; dsimp only
  refine CalibratesOff.raise ?_ _ _ _ _ _
  generalize hv : each _ (fun b s => bayLockApplied b false s) _ = v
  have h : CalibratesOff v := by
    rw [← hv]; exact calibratesOff_bayLocks (hs.of_bays (by simp)) _
  exact h.of_bays (by simp)

theorem calibratesOff_restartEffect (c : WCtx) (s : State) : CalibratesOff (restartEffect c s) :=
  calibratesOff_enterReset _ _

theorem calibratesOff_fwActivateEffect (c : WCtx) (s : State) : CalibratesOff (fwActivateEffect c s) :=
  calibratesOff_enterReset _ _

theorem calibratesOff_effectAfter {s : State} (hs : CalibratesOff s) (c : WCtx) (old : State) :
    CalibratesOff (effectAfter c old s) := by
  unfold effectAfter
  split <;> first
    | with_reducible exact hs
    | with_reducible exact calibratesOff_restartEffect _ _
    | with_reducible exact calibratesOff_fwActivateEffect _ _
    | with_reducible exact calibratesOff_bayLockApplied hs _ _
    | with_reducible exact calibratesOff_bayClearEffect hs c
    | with_reducible exact calibratesOff_selfTestEffect hs c
    | with_reducible exact calibratesOff_configReset hs
    | (refine hs.of_bays ?_; simp; done)
    | (split <;> first | exact hs | (refine hs.of_bays ?_; simp; done))

theorem calibratesOff_writeOne {s : State} (hs : CalibratesOff s) (c : WCtx) : CalibratesOff (writeOne c s) :=
  calibratesOff_effectAfter (hs.of_bays (by simp)) c s

theorem calibratesOff_followConfig {s : State} (hs : CalibratesOff s) (i b r : Nat) (v : Val) (old : State) :
    CalibratesOff (followConfig i b r v old s) := by
  unfold followConfig
  split <;> first
    | with_reducible exact hs
    | with_reducible exact calibratesOff_bayLockApplied hs _ _
    | (refine hs.of_bays ?_; simp; done)
    | ((repeat' split) <;> first | exact hs | (refine hs.of_bays ?_; simp; done))

theorem calibratesOff_applyConfig {s : State} (hs : CalibratesOff s) (i b r : Nat) (v : Val) :
    CalibratesOff (applyConfig i b r v s) := by
  unfold applyConfig; split
  · exact hs
  split
  · exact calibratesOff_followConfig (hs.of_bays (by simp)) _ _ _ _ _
  · exact calibratesOff_followConfig hs _ _ _ _ _

theorem CalibratesOff.answered {s : State} (hs : CalibratesOff s) (a b : Nat) (q : Req) (p : Bool) (r : Resp) :
    CalibratesOff (answerReq a b q p r s) := hs.of_bays (by simp)

theorem CalibratesOff.replied {s : State} (hs : CalibratesOff s) (a b : Nat) (q : Req) (r : Resp) :
    CalibratesOff (reply a b q r s) := hs.of_bays (by simp)

theorem calibratesOff_runSet {s : State} (hs : CalibratesOff s) (a b : Nat) (x : Session) (g : Nat) (it : Item) :
    CalibratesOff (runSet a b x g it s) := by
  unfold runSet; dsimp only; split
  · exact hs.of_bays (by simp)
  split
  · exact hs.answered _ _ _ _ _
  split
  · split
    · exact hs.answered _ _ _ _ _
    · split
      · exact calibratesOff_writeOne hs _
      · exact (calibratesOff_writeOne hs _).answered _ _ _ _ _
  · exact hs.answered _ _ _ _ _

theorem calibratesOff_groupApply {s : State} (hs : CalibratesOff s) (l : List WCtx) : CalibratesOff (groupApply l s) := by
  refine CalibratesOff.each (fun c t h => calibratesOff_effectAfter h c s) l ?_
  unfold groupPut; dsimp only
  have h : ∀ u : State, CalibratesOff u → CalibratesOff (each l putValue u) := fun u hu =>
    CalibratesOff.each (fun c t h => h.of_bays (by simp)) l hu
  split
  · split
    · exact (h s hs).of_bays (by simp)
    · exact h s hs
  · exact h s hs

theorem calibratesOff_runGroup {s : State} (hs : CalibratesOff s) (a b : Nat) (x : Session) (g : Nat)
    (l : List Item) : CalibratesOff (runGroup a b x g l s) := by
  unfold runGroup; dsimp only; split
  · exact hs.of_bays (by simp)
  split
  · exact hs.answered _ _ _ _ _
  split
  · exact hs.answered _ _ _ _ _
  split
  · exact hs.answered _ _ _ _ _
  split
  · exact hs.answered _ _ _ _ _
  · split
    · exact calibratesOff_groupApply hs _
    · exact (calibratesOff_groupApply hs _).answered _ _ _ _ _

theorem calibratesOff_runReq {s : State} (hs : CalibratesOff s) (a b : Nat) (x : Session) (q : Req) :
    CalibratesOff (runReq a b x q s) := by
  unfold runReq; split <;> first
    | with_reducible exact calibratesOff_runSet hs _ _ _ _ _
    | with_reducible exact calibratesOff_runGroup hs _ _ _ _ _
    | (refine hs.of_bays ?_; simp; done)

theorem calibratesOff_runOrWait {s : State} (hs : CalibratesOff s) (a b : Nat) (x : Session) (q : Req) :
    CalibratesOff (runOrWait a b x q s) := by
  unfold runOrWait; split
  · exact hs.of_bays (by simp)
  · exact calibratesOff_runReq hs _ _ _ _

theorem calibratesOff_runWaiting {s : State} (hs : CalibratesOff s) : CalibratesOff (runWaiting s) := by
  unfold runWaiting; dsimp only; split
  · exact hs
  · refine CalibratesOff.each (fun q t h => ?_) _ (hs.of_bays (by simp))
    split
    · split
      · exact calibratesOff_runReq h _ _ _ _
      · exact h
    · exact h

/-- A request that is heard: whatever it does. -/
theorem CalibratesOff.heard {s : State} (hs : CalibratesOff s) (a : Nat) {k : Session → State → State}
    (hk : ∀ x u, CalibratesOff u → CalibratesOff (k x u)) : CalibratesOff (withSession a k s) := by
  unfold withSession; split
  · exact hs
  split
  · exact hs
  split
  · exact hs.of_bays (by simp)
  · exact hk _ _ (hs.of_bays (by simp))

theorem calibratesOff_receiveReq {s : State} (hs : CalibratesOff s) (a b : Nat) (q : Req) :
    CalibratesOff (receiveReq a b q s) := by
  refine hs.heard a fun x u hu => ?_
  split
  · exact hu.of_bays (by simp)
  split
  · split
    · exact hu
    · exact hu.of_bays (by simp)
  · exact calibratesOff_runOrWait hu _ _ _ _

theorem calibratesOff_namedReq {s : State} (hs : CalibratesOff s) (a : Nat) (q : Req) :
    CalibratesOff (namedReq a q s) := hs.heard a fun _ _ hu => calibratesOff_runOrWait hu _ _ _ _

theorem calibratesOff_tunnelled {s : State} (hs : CalibratesOff s) (m : Tunnel) : CalibratesOff (tunnelled m s) := by
  unfold tunnelled; split
  · exact CalibratesOff.heard (hs.of_bays (by simp)) _ fun _ _ hu => calibratesOff_runOrWait hu _ _ _ _
  · split
    · exact hs.of_bays (by simp)
    · exact hs

theorem calibratesOff_mailbox {s : State} (hs : CalibratesOff s) (n : Nat) (q : Req) :
    CalibratesOff (mailbox n q s) := by
  unfold mailbox; dsimp only; split
  · exact hs
  · exact CalibratesOff.heard (hs.of_bays (by simp)) _ fun _ _ hu =>
      calibratesOff_runOrWait (hu.of_bays (by simp)) _ _ _ _

/-- A named write: its effect, when it passes. -/
theorem CalibratesOff.written {s : State} (hs : CalibratesOff s) (waits : Bool) (i : Nat) (own : WCtx → State → EpStatus)
    {f : WCtx → State → State} (hf : ∀ c u, CalibratesOff u → CalibratesOff (f c u)) (w : Write) :
    CalibratesOff (writeWhen waits i own f w s) := by
  refine hs.heard _ fun x u hu => ?_
  dsimp only; split
  · exact hu.of_bays (by simp)
  split
  · exact hu.of_bays (by simp)
  split
  · split
    · exact (hf _ _ hu).replied _ _ _ _
    · exact hu.of_bays (by simp)
  · exact hu.of_bays (by simp)

theorem CalibratesOff.writtenLater {s : State} (hs : CalibratesOff s) (i : Nat) (own : WCtx → State → EpStatus)
    {f : WCtx → State → State} (hf : ∀ c u, CalibratesOff u → CalibratesOff (f c u)) (w : Write) :
    CalibratesOff (writeLater i own f w s) := by
  refine hs.heard _ fun x u hu => ?_
  dsimp only; split
  · exact hu.of_bays (by simp)
  split
  · exact hu.of_bays (by simp)
  split
  · split
    · exact hf _ _ hu
    · exact hu.of_bays (by simp)
  · exact hu.of_bays (by simp)

/-! ### Records of the partner (10 R272 to R278) -/

theorem calibratesOff_applyMap {s : State} (hs : CalibratesOff s) (l : List RecEntry) (n : Nat) (e : RecEntry) :
    CalibratesOff (applyMap l n e s) := by
  unfold applyMap; split <;> first
    | with_reducible exact hs
    | with_reducible exact calibratesOff_applyConfig hs _ _ _ _
    | (refine hs.of_bays ?_; simp; done)

theorem calibratesOff_applyEntry {s : State} (hs : CalibratesOff s) (l : List RecEntry) (n : Nat) (e : RecEntry) :
    CalibratesOff (applyEntry l n e s) := by
  unfold applyEntry; split
  · rename_i t ht
    split
    · exact hs.of_bays (by have := fun w => applyConn_frame ht (p := .bays) w (by simp); simp [this])
    · exact hs
  · exact calibratesOff_applyMap hs l n e

theorem calibratesOff_applyEntries (n : Nat) (l : List RecEntry) :
    ∀ (after : List RecEntry) {s : State}, CalibratesOff s → CalibratesOff (applyEntries n l after s) := by
  induction l with
  | nil => exact fun _ _ hs => hs
  | cons e l ih => exact fun after _ hs => ih after (calibratesOff_applyEntry hs _ n e)

theorem calibratesOff_applyRecord {s : State} (hs : CalibratesOff s) (r : CycleRec) :
    CalibratesOff (applyRecord r s) := by
  unfold applyRecord; dsimp only
  have h := calibratesOff_applyEntries r.cycle r.entries
    (laterEntries r.cycle (s.onPair fun p => { p with epoch := r.epoch }))
    (s := s.onPair fun p => { p with epoch := r.epoch }) (hs.of_bays (by simp))
  split
  · exact h.of_bays (by simp)
  · exact h

theorem calibratesOff_confirmOne {s t : State} (hs : CalibratesOff s) (h : confirmOne s = some t) :
    CalibratesOff t := by
  unfold confirmOne at h
  split at h
  · cases h
  · rename_i n r rest hw
    have hr := calibratesOff_applyRecord hs r
    dsimp only at h
    (repeat' split at h) <;> cases h <;> exact hr.of_bays (by simp)

theorem calibratesOff_confirmAll (n : Nat) : ∀ {s : State}, CalibratesOff s → CalibratesOff (confirmAll n s) := by
  induction n with
  | zero => exact fun hs => hs
  | succ n ih =>
    intro s hs
    unfold confirmAll; dsimp only; split
    · exact hs
    split
    · rename_i t ht; exact ih (calibratesOff_confirmOne hs ht)
    · exact hs

theorem calibratesOff_tryConfirm {s : State} (hs : CalibratesOff s) : CalibratesOff (tryConfirm s) :=
  calibratesOff_confirmAll _ (hs.of_bays (by simp))

theorem calibratesOff_boundaryFollows {s : State} (hs : CalibratesOff s) : CalibratesOff (boundaryFollows s) := by
  unfold boundaryFollows; dsimp only
  have h : ∀ u : State, CalibratesOff u → CalibratesOff (when (beats u) sendHeartbeat u) := fun u hu =>
    hu.of_bays (by simp)
  refine h _ (CalibratesOff.when (fun u hu => calibratesOff_tryConfirm (hu.of_bays (by simp))) _ (hs.of_bays (by simp)))

theorem calibratesOff_recordArrives {s : State} (hs : CalibratesOff s) (r : CycleRec) :
    CalibratesOff (recordArrives r s) := by
  unfold recordArrives; dsimp only; split
  · exact hs
  · exact calibratesOff_tryConfirm (hs.of_bays (by simp (maxDischargeDepth := 9)))

theorem calibratesOff_streamArrives {s : State} (hs : CalibratesOff s) (c n : Nat) (b : Bytes) :
    CalibratesOff (streamArrives c n b s) := calibratesOff_tryConfirm (hs.of_bays (by simp))

theorem calibratesOff_snapshotArrives {s : State} (hs : CalibratesOff s) (n : Nat) (l : List RecEntry) (p : Nat)
    (b : Bool) : CalibratesOff (snapshotArrives n l p b s) := by
  unfold snapshotArrives; dsimp only; split
  · exact hs
  · generalize hv : applyEntries n l [] _ = v
    have h : CalibratesOff v := by
      rw [← hv]; refine calibratesOff_applyEntries n l [] (hs.of_bays ?_); split <;> simp
    split
    · exact calibratesOff_tryConfirm (h.of_bays (by simp))
    · exact h.of_bays (by simp)

/-- A frame that is accepted: whatever it brings. -/
theorem CalibratesOff.framed {s : State} (hs : CalibratesOff s) (m : MirHdr) {k : State → State}
    (hk : ∀ u, CalibratesOff u → CalibratesOff (k u)) : CalibratesOff (whenFrame m k s) := by
  unfold whenFrame; split
  · rename_i t ht; exact hk _ (hs.of_bays (by have := fun w => acceptFrame_frame ht (p := .bays) w (by simp); simp [this]))
  · exact hs

/-! ### Commands -/

theorem CalibratesOff.awoken {s : State} (hs : CalibratesOff s) {f : State → State}
    (hf : ∀ u, CalibratesOff u → CalibratesOff (f u)) : CalibratesOff (awake f s) := by
  unfold awake; split
  · exact hf s hs
  · exact hs

/-- Around its effect a command leaves the bays alone. -/
theorem CalibratesOff.acted {t : Time} {f : State → State} {s u : State} (hs : CalibratesOff s)
    (hf : ∀ v, CalibratesOff v → CalibratesOff (f v)) (h : act t f s = .next u) : CalibratesOff u := by
  rw [act_next h]
  have h1 : CalibratesOff (advance t s) := hs.of_bays (by simp)
  exact (hf _ h1).of_bays (finish_bays t s _)

end Sys2Proof.Machine
end

