-- ==== Sys2Proof/Tests/Slice0.lean ====
section
/-! SUPPORT. Tests: what WellFormed refuses, states and operands that meet the hypotheses of each statement, clause
by clause, and results the spec states. The named states are small changes of the state after reset. -/

set_option linter.unusedVariables false

open Sys2Proof Sys2Proof.Machine

namespace Sys2Proof.Machine

set_option Elab.async false

/-! ### States from which the witnesses start -/

/-- After reset, in a mode. -/
def md (m : Mode) : State := settle (State.reset.onMode fun x => { x with mode := m, restarted := false })

/-- With a value in the dictionary. -/
def State.with (s : State) (idx sub rec : Nat) (v : Val) : State := putDict idx sub rec v s
def State.num (s : State) (idx sub rec : Nat) (n : Int) : State := putDict idx sub rec (.num n) s

/-- A management session of the factory. -/
def sessW : Session :=
  { path := .mgmtPort, priv := .factory, anchor := 5, sel := [], lastMsg := 0, kept := [], nonce := none, sub := none,
    notifySeq := 0, notifyQ := [], gap := false, notifyAt := [], sampleQ := [], loading := false }

/-- With session 1. -/
def State.sess (s : State) (f : Session → Session := id) : State := s.onMgmt fun m => { m with sessions := [(1, f sessW)] }

/-- What a write names, by the checks. -/
def ctxW : WCtx :=
  { sess := 1, x := sessW, obj := ⟨0, 0, 0, .u8, 0, .ro, .observer, 0, 0, 0, 0⟩, sub := 0, rcd := 0, val := .num 0, trans := 0,
    req := .get 0 0 }

/-- A connection. -/
def infoW (kd : Transport) : ConnInfo :=
  { kind := kd, port := 0, src := [], svc := 0, listen := 4420, isn := 100, peerIsn := 200, mss := 1460, wnd := 65535, wscale := false,
    sack := false, tstamps := false, ecn := false, dscp := 0, pcp := 0, respRes := 0 }
def connW (kd : Transport) : Conn :=
  { connNew (infoW kd) false State.reset with txNext := 200, txUna := 100, ctrl := some 1, qid := 1, sqsize := 16 }
def State.conn (s : State) (x : Conn) : State := { s with conns := [(1, x)] }
def tlsOn (x : Conn) : Conn := { x with tls := { x.tls with active := true, cluster := 1 } }
/-- Port 1 carries service address 1, served. -/
def mac1 : Bytes := [3, 0, 0, 0, 0, 1]
def v4 : Bytes := [0, 0, 0, 0, 0, 0, 0, 0, 0, 0, 0xFF, 0xFF, 10, 0, 0, 1]
def v6 : Bytes := [0x20, 1, 0, 0, 0, 0, 0, 0, 0, 0, 0, 0, 0, 0, 0, 1]
def State.svc (s : State) (a : Bytes) : State :=
  let s := (((s.num 0x3022 1 0 1).with 0x3020 1 0 (.oct a)).with 0x3010 1 0 (.oct mac1)).num 0x3002 1 0 1
  s.onNet fun n => { n with svcs := updNat n.svcs 0 fun _ => { served := true, dad := false } }
def State.port0 (s : State) (f : PortSt → PortSt) : State := onPort 0 (fun x => f { x with up := true }) s
def State.linked (s : State) : State := s.onPair fun p => { p with link := 2, rxSeq := 7, partnerMode := 5, partnerKind := 1, paired := true }
def hdrW : MirHdr := { mode := 5, cycle := 0, epoch := 0, seq := 7, credit := 100, ack := 0, checkOk := true }
def ethW (b : FrameBody) : EthFrame := { len := 100, fcsOk := true, fecBad := none, corrected := 0, tags := 0, vlan := 0, dst := 0xFFFFFFFFFFFF, body := b }
/-- A descriptor of 8,192 bytes. -/
def sglW : Sgl := { typeOk := true, len := 8192, addr := 0x1000, key := 7, inval := false }
/-- An admin command. -/
def admW (src : Src) : AdmCmd := { src, cid := 9, fuse := 0, sgl := sglW }
def cmdW (src : Src) (o : Opc) (ph : Phase) : Cmd :=
  { cmdNew o { src, cid := 9, nsid := 1, slba := 0, nlb := 2, trump := false, fuse := 0, prot := false, sgl := sglW, bar2 := none } 1 1 none 0 0 0 [] with phase := ph, ttag := 4, data := [none, none] }
def State.cmd1 (s : State) (c : Cmd) : State := s.onCmd fun d => { d with cmds := [(1, c)], nextCmd := 2 }
/-- What its Connect fixed. -/
def queueW : QueueInfo :=
  { ctrl := 1, qid := 0, sqsize := 16, subsys := 1, host := 1, hostNqn := [7], discovery := false, kato := 1000, sqFlow := true,
    lastCmd := 0, aenConfig := 0, changedNs := [], cc := 0, csts := 0 }
/-- A controller of subsystem 1 and host 1, on connection 2. -/
def ctrlW : Ctrl := { ctrlNew 2 queueW with ioq := [(1, 1)] }
/-- Controller 1 with its admin queue on connection 2 and an I/O queue on connection 1. -/
def State.host1 (s : State) (kd : Transport) (f : Ctrl → Ctrl := id) : State :=
  let x := { connW kd with host := 1 }
  ({ s with conns := [(1, x), (2, { x with qid := 0 })] }).onCmd fun d => { d with ctrls := [(1, f ctrlW)] }
/-- Six carriers in service, with free and talon erase units. -/
def State.cars (s : State) : State := s.onMedia fun m => { m with
  cars := Vector.ofFn fun i => if i.val < 6 then
    { Car.reset with state := .inService, serial := [BitVec.ofNat 8 i.val], linkUp := true, width := 4, ready := true, tagBound := true, listsRead := true, free := [2, 3, 4, 5, 6, 7], talon := [20, 21], talonInit := 2 }
    else Car.reset }
/-- Namespace 1 of subsystem 1, of two LBs of 512 sectors. -/
def geoW : Geo := { eMiB := 1, pKiB := 4, w0 := 4, euTotal := 1000, talonTotal := 10, overprov := 10 }
def State.ns1 (s : State) : State :=
  let s := (((s.cars.num 0x5200 0 0 4).num 0x3221 0 1 1).num 0x3222 0 1 1).num 0x3223 0 1 1024
  (s.onCmd fun d => { d with ns := [(1, { base := 0, count := 2, roExhaust := false, roFloor := false })] }).onXlat fun x =>
    { x with geo := some geoW }
/-- An I/O command of two sectors on namespace 1. -/
def ioW (src : Src) : IoCmd :=
  { src, cid := 9, nsid := 1, slba := 0, nlb := 2, trump := false, fuse := 0, prot := false, sgl := sglW, bar2 := none }
/-- The attach controller runs, with an entry waiting on queues 0 and 1. -/
def State.att (s : State) : State :=
  ((s.num 0x6203 0 0 1).num 0x6204 0 0 1).onAttach fun a => { a with
    ccEn := true, bme := true, speed := 4, width := 4, perst := false,
    sqs := [(0, { attQNew 16 0 with gens := [0] }), (1, { attQNew 16 1 with gens := [0] })],
    cqs := [(0, attQNew 16 0), (1, attQNew 16 1)] }
def bufW : Buf :=
  { ns := 1, lba := 0, len := 2, state := .cached, count := 1, f := 0, open_ := true, openedAt := 0, admissible := true, potRef := true,
    data := [some [1], some [2]], attached := [], failed := none, slotRefs := [], bandRefs := [] }
def State.buf1 (s : State) (b : Buf) : State :=
  (s.onPot fun p => { p with bufs := [(1, b)], nextBuf := 2 }).onPools fun v => updNat v 0 fun q => { q with used := 2 }
/-- Band `b`, of the carriers 0 to 3. -/
def bandW (k : BandKind) : Band :=
  { kind := k, isOpen := true, awaitResync := false, verify := false, retiring := false, ns := 1, owner := 0, program := 0, readers := 0,
    openseq := 1, members := [⟨0, 0, .good⟩, ⟨1, 0, .good⟩, ⟨2, 0, .good⟩, ⟨3, 0, .good⟩], retryPos := 0, readCount := 0, spares := [4, 5] }
def State.band (s : State) (b : Nat) (e : Band) : State := s.onXlat fun x => { x with bands := Tbl.put x.bands b e }
def State.lb (s : State) (lb : Nat) (e : LbEntry) : State := s.onXlat fun x => { x with lbs := Tbl.put x.lbs lb e }
def lbW (bands : List Nat) (st : LbState) (fill : Nat) : LbEntry :=
  { bands, set := bands.length, state := st, fill, epoch := 0, hasRuns := false, fillClosed := false }
def slotW (lba : Nat) (st : SlotState) : Slot :=
  { ns := 1, lba, cycle := 0, state := st, dest := if st = .placed then noBand else 1, data := [1], zlen := 0, gone := [], seq := lba, was := .placed, late := [], zdone := 0, readers := 0, conn := 1, cid := 9 }
def State.slots (s : State) (l : List Slot) : State := s.onXlat fun x => { x with slots := l.mapIdx fun i a => (i, a) }
def progW : Prog :=
  { band := 1, stripe := 0, dest := .direct, lb := 0, pages := [], waiting := [], slots := [(1, 0, 0)], parts := [], build := 0, parity := 0, runs := [], done := true, cycle := 0 }
def State.prog (s : State) (p : Prog) : State := s.onXlat fun x => { x with progs := [(1, p)], nextProg := 2 }
def jobW (k : JobKind) : Job :=
  { kind := k, targets := [2], car := 0, eu := 5, hi := 0, next := 0, total := 256, got := [], want := [], granules := 0, programming := false,
    verified := 0, ready := true, paused := false, epoch := 0, src := [], urgent := false, static := false }
def State.job (s : State) (j : Job) : State := s.onXlat fun x => { x with jobs := [(1, j)], nextJob := 2 }
def runW : Run := { lb := 0, start := 0, len := 2, kind := .log, epoch := 0, band := 1, slot := 0 }
def descrW (serial : Byte) : Descr :=
  { signature := carrierSignature, checkOk := true, protocol := 1, vendor := [], model := [], serial := [serial], firmware := [],
    euCount := 100, euSize := 1, pageSize := 4, pagesSlc := 64, cellBits := 4, dies := 2, cyclesNative := 3000, cyclesSlc := 50000,
    levelsNative := 8, levelsSlc := 4, correctBits := 100, powerMax := 20, readDisturb := 1000, tempWarn := 70, tempCrit := 80, badCapacity := 64,
    image := [] }
def cmdM (o : CarOp) (p : Purpose) : MediaCmd :=
  { op := o, eu := 3, page := 0, sector := 0, count := 1, level := 0, data := [], queue := 3, purpose := p, band := 1, header := [], tries := 0,
    reissued := false, issuedAt := 0 }
def State.car0 (s : State) (f : Car → Car) : State := onCar 0 f s

def unitW (op : UnitOp) : CUnit :=
  { op, ns := 1, lba := 0, input := [1], cluster := 0, laneA := 0, laneB := 1, sumA := 0, sumB := 0, held := false, oldKey := false }
def State.unit1 (s : State) (op : UnitOp) : State := s.onCipher fun c => { c with units := [(1, unitW op)], nextUnit := 2, resident := [1] }

/-- A cell of stripe data. -/
def cellW (last shared : Bool) : Cell := { kind := .stripe, num := 1, data := [1], last, shared, poison := false }
def voqW (n m : Nat) : Voq := { cells := List.replicate n (cellW false false) ++ List.replicate m (cellW true true), stalled := false }
def State.voq (s : State) (k : Nat) (v : Voq) : State := s.onCore fun c => { c with voqs := Tbl.put c.voqs k v }

/-- With an identity of its own. -/
def State.id0 (s : State) : State := { s with ident := { serial := [1], tag := 5, macBase := 0, pairIdHigh := false, noAttach := false } }
def pairW : PairInfo :=
  { serial := [2], pairIdHigh := true, kind := 1, certOk := true, verLo := 1, verHi := 2, groups := List.replicate 8 0, mode := 3, epoch := 9,
    arrayId := 0, arrayKey := none, committed := 5, wasActive := true, share := 0 }
def recW (n : Nat) : CycleRec :=
  { format := 2, handover := false, cold := false, join := false, length := 64, cycle := n, epoch := 9, clock := 80000, confirmed := 0, entries := [] }
def State.feed (s : State) (f : Nat) (st : FeedState) (mv : Nat) : State :=
  s.onPower fun p => { p with feeds := updNat p.feeds f fun _ => { state := st, mv } }
def State.bay0 (s : State) (f : BaySt → BaySt) : State := onBay 0 f s
/-- The attach endpoint is up, with a window store and window 1 open. -/
def winW : Win := { offset := 2, length := 1, enable := true, peerWrite := true, peerRead := true }
def State.win (s : State) : State := (s.att.onAttach fun a => { a with
  storeSize := 16, shadow := updNat a.shadow 1 fun _ => winW, active := updNat a.active 1 fun _ => winW }).id0
def imgOk : ImageCheck := { digestOk := true, sigOk := true, version := 1 }

/-- The session and the context of a write, as its checks find them. -/
def xOf (w : Write) (s : State) : Session := (Tbl.get? s.mgmt.sessions w.sess).getD sessW
def cOf (idx : Nat) (t : Time) (w : Write) (s : State) : WCtx :=
  ((checkSet w.sess (xOf w s) idx w.sub none w.val (atSession t w.sess s)).2).getD ctxW

def okOf (e : Except Status Bytes) : Bytes := match e with | .ok b => b | .error _ => []
def fhW : FrameHdr := { src := 0, vlan := 0, pcp := 0, dscp := 0, ect := false, df := false, tsval := none }
def txW (m : HostMsg) : TxFrame := { msg := m, len := 100, sent := 0, plan := none, cmd := 0, pos := 100, checks := [], prot := none }


/-! ### Checks that hold when they answer true -/

theorem all_of {α : Type} {o : Option α} {P : α → Prop} [DecidablePred P]
    (h : o.all (fun a => decide (P a)) = true) : ∀ a, o = some a → P a := by
  intro a e; subst e; simpa using h

def takenB (idx : Nat) (own : WCtx → State → EpStatus) (t : Time) (w : Write) (s : State) : Bool :=
  decide (Tbl.get? s.mgmt.sessions w.sess = some (xOf w s)) && reachable (xOf w s).path s && grants s poolMgmt 1 &&
    !inMode [.takeover] s && !forwardsTo idx s &&
    decide (checkSet w.sess (xOf w s) idx w.sub none w.val (atSession t w.sess s) = (.ok, some (cOf idx t w s))) &&
    decide (own (cOf idx t w s) (atSession t w.sess s) = .ok)

theorem taken_of {idx : Nat} {own : WCtx → State → EpStatus} {t : Time} {w : Write} {s : State}
    (h : takenB idx own t w s = true) : WriteTaken idx own t w (xOf w s) (cOf idx t w s) s := by
  simp only [takenB, Bool.and_eq_true, decide_eq_true_eq, Bool.not_eq_true'] at h
  obtain ⟨⟨⟨⟨⟨⟨h1, h2⟩, h3⟩, h4⟩, h5⟩, h6⟩, h7⟩ := h
  exact ⟨⟨h1, h2, h3⟩, h4, h5, h6, h7⟩

theorem ok_of {ε α : Type} [DecidableEq α] {e : Except ε α} {a : α}
    (h : (match e with | .ok b => decide (b = a) | .error _ => false) = true) : e = .ok a := by
  cases e with
  | ok b => exact congrArg _ (of_decide_eq_true h)
  | error _ => cases h

theorem okOf_eq {e : Except Status Bytes} (h : (match e with | .ok _ => true | .error _ => false) = true) :
    e = .ok (okOf e) := by
  cases e with
  | ok b => rfl
  | error _ => cases h

theorem error_of {ε α : Type} [DecidableEq ε] {e : Except ε α} {a : ε}
    (h : (match e with | .error b => decide (b = a) | .ok _ => false) = true) : e = .error a := by
  cases e with
  | error b => exact congrArg _ (of_decide_eq_true h)
  | ok _ => cases h

theorem geo_of {P : Geo → Descr → Bool} {o : Option Geo} {d : Option Descr}
    (h : (o.all fun g => d.all fun d => P g d) = true) : ∀ g e, o = some g → d = some e → P g e = true := by
  intro g e hg he
  simpa [hg, he] using h

theorem slots_of {id : Nat} {l : List (Nat × Nat × Nat)} {s : State}
    (h : (l.all fun n => (slotOfProg id n s).all fun q => decide (q.2.readers = 0)) = true) :
    ∀ n ∈ l, ∀ k x, slotOfProg id n s = some (k, x) → x.readers = 0 := by
  intro n hn k x hx
  have := List.all_eq_true.mp h n hn
  simpa [hx] using this

theorem logTarget_shared {ns b : Nat} {e : Nat × Slot × Nat × Nat} {s : State}
    (h1 : (caddyAbove (cfg 0x5022 s) s && 0 < stageLimit s) = false)
    (h2 : ((openOf .seqLog ns e.2.2.1 s).filter fun b =>
      e.2.1.zlen = 0 && (Tbl.get? s.xlat.logs b).any fun r => r.writePtr = e.2.2.2) = none)
    (h3 : ((lbAt s e.2.2.1).state = .mapped && e.2.2.2 = 0 && e.2.1.zlen = 0 &&
      (seqLogOf e.2.2.1 s).isNone) = false)
    (h4 : openOf .sharedLog ns 0 s = some b) : logTarget ns e s = (.sharedLog, 0, some b, s) := by
  unfold logTarget
  rw [if_neg (by rw [h1]; simp)]
  dsimp only
  rw [h2]; dsimp only
  rw [if_neg (by rw [h3]; simp), h4]

def entryWaitsB (q : Nat) (s : State) : Bool :=
  attachRuns s && (((Tbl.get? s.attach.sqs q).bind fun x => x.gens.head?).isSome)

theorem entryWaits_of {q : Nat} {s : State} (h : entryWaitsB q s = true) : EntryWaits q s := by
  simp only [entryWaitsB, Bool.and_eq_true] at h
  refine ⟨h.1, ?_⟩
  cases hx : Tbl.get? s.attach.sqs q with
  | none => simp [hx] at h
  | some x =>
    cases hg : x.gens.head? with
    | none => simp [hx, hg] at h
    | some g => exact ⟨x, g, rfl, hg⟩

def adminTakenB (a : AdmCmd) (k : Option Nat) (s : State) : Bool :=
  decide (a.fuse = 0) && match a.src with
  | .fabric c => decides s && !inMode [.takeover] s && k.isSome &&
    (connOf s c).any fun x => decide (x.ctrl = k) && decide (x.qid = 0) && !overrun c x a.cid s
  | .attach q => decide (q = 0) && decide (k = none) && entryWaitsB 0 s

theorem adminTaken_of {a : AdmCmd} {k : Option Nat} {s : State} (h : adminTakenB a k s = true) :
    AdminTaken a k s := by
  simp only [adminTakenB, Bool.and_eq_true, decide_eq_true_eq] at h
  refine ⟨h.1, ?_⟩
  have h := h.2
  cases hs : a.src with
  | fabric c =>
    rw [hs] at h; dsimp only at h ⊢
    simp only [Bool.and_eq_true, Bool.not_eq_true'] at h
    obtain ⟨⟨⟨h1, h2⟩, h3⟩, h4⟩ := h
    refine ⟨⟨h1, h2⟩, ?_⟩
    cases hx : connOf s c with
    | none => simp [hx] at h4
    | some x =>
      obtain ⟨id, hid⟩ := Option.isSome_iff_exists.mp h3
      simp only [hx, Option.any_some, Bool.and_eq_true, decide_eq_true_eq, Bool.not_eq_true'] at h4
      exact ⟨x, id, rfl, h4.1.1.trans hid, hid, h4.1.2, h4.2⟩
  | attach q =>
    rw [hs] at h; dsimp only at h ⊢
    simp only [Bool.and_eq_true, decide_eq_true_eq] at h
    exact ⟨h.1.1, h.1.2, entryWaits_of h.2⟩

def ioTakenB (o : Opc) (c : IoCmd) (ns host : Nat) (dealloc : Bool) (ranges : List (Nat × Nat)) (t : Time)
    (s : State) : Bool :=
  inMode [.solo, .active] s && !contextsFull s &&
    decide (∀ p ∈ s.cmd.cmds, p.2.src ≠ c.src ∧ p.2.phase ≠ .held) &&
    decide (statusOf o c (subsysOf c.src s) dealloc ranges s = (.success, ns)) &&
    decide (admission (cmdNew o c ns host none 0 0 0 ranges) (advance t s) = some .committed) &&
    match c.src with
    | .fabric k => (connOf s k).any fun x => x.ctrl.isSome && decide (x.qid ≠ 0) && decide (x.host = host) &&
      !overrun k x c.cid s
    | .attach q => decide (q ≠ 0) && entryWaitsB q s && decide (host = attachHost s) && decide (c.bar2 = none)

theorem ioTaken_of {o : Opc} {c : IoCmd} {ns host : Nat} {d : Bool} {r : List (Nat × Nat)} {t : Time} {s : State}
    (h : ioTakenB o c ns host d r t s = true) : IoTaken o c ns host d r t s := by
  simp only [ioTakenB, Bool.and_eq_true, Bool.not_eq_true', decide_eq_true_eq] at h
  obtain ⟨⟨⟨⟨⟨h1, h2⟩, h3⟩, h4⟩, h5⟩, h6⟩ := h
  refine ⟨h1, h2, h3, h4, h5, ?_⟩
  cases hs : c.src with
  | fabric k =>
    rw [hs] at h6; dsimp only at h6 ⊢
    cases hx : connOf s k with
    | none => simp [hx] at h6
    | some x =>
      simp only [hx, Option.any_some, Bool.and_eq_true, decide_eq_true_eq, Bool.not_eq_true'] at h6
      obtain ⟨id, hid⟩ := Option.isSome_iff_exists.mp h6.1.1.1
      exact ⟨x, id, rfl, hid, h6.1.1.2, h6.1.2, h6.2⟩
  | attach q =>
    rw [hs] at h6; dsimp only at h6 ⊢
    simp only [Bool.and_eq_true, decide_eq_true_eq] at h6
    exact ⟨h6.1.1.1, entryWaits_of h6.1.1.2, h6.1.2, h6.2⟩

theorem effectAfter_none {c : WCtx} (h : c.obj.idx = 0x4101) (a b : State) : effectAfter c a b = b := by
  unfold effectAfter; rw [h]; rfl

theorem effects_of {l : List WCtx} (h : (l.all fun c => c.obj.idx = 0x4101 || c.obj.idx = 0x2010) = true) :
    ∀ c ∈ l, ∀ a b, effectAfter c a b = b := by
  intro c hc a b
  have h := List.all_eq_true.mp h c hc
  simp only [Bool.or_eq_true, decide_eq_true_eq] at h
  unfold effectAfter
  rcases h with h | h <;> rw [h] <;> rfl

theorem setPasses_of {sess trans g : Nat} {x : Session} {it : Item} {c : WCtx} {s : State}
    (h : (decide (forwardsTo it.index s = false ∧ staleGen g s = false ∧
      checkSet sess x it.index it.sub (some it.ty) it.val s = (.ok, some c) ∧ wholeCheck c s = .ok ∧
      storedObj c.obj = true ∧ scopeOf c.obj ≠ .session ∧ c.obj.idx = 0x4101)) = true) :
    SetPasses sess trans x g it c s := by
  simp only [decide_eq_true_eq] at h
  obtain ⟨h1, h2, h3, h4, h5, h6, h7⟩ := h
  exact ⟨h1, h2, h3, h4, h5, h6, fun a b =>
    effectAfter_none (c := { c with trans, req := .set g it }) h7 a b⟩

def settledB (s : State) : Bool :=
  decide (s.pair.faultOut = if s.mode.mode.faulted || s.mode.healthLost then 0 else 3) &&
    decide (s.mode.mode.potEmpty = true → s.pot.bufs = [] ∧ s.pot.ring = [] ∧ s.pot.hand = none ∧ s.pot.mark = none ∧
      s.pot.handOn = false ∧ s.pot.missQ = [] ∧ poolUsed s poolPour = 0)

theorem settled_of {s : State} (h : settledB s = true) : Settled s := by
  simp only [settledB, Bool.and_eq_true, decide_eq_true_eq] at h
  exact h


/-! ### What WellFormed refuses: one ill-formed command for each check -/

def badWrite : Write := { sess := 1, sub := 256, val := .num 0 }
def headW : AdmHead := (admW (.fabric 1)).toAdmHead
def badItem : Item := { index := 65536, sub := 0, ty := .u8, val := .num 0 }

theorem test_wf_address : ([.arpRequest 0 0 [1], .neighborSolicitation 0 0 [] true, .icmpEchoRequest 0 0 [1],
    .neighbourReply 0 0 [1] 0, .tcpSyn 0 { infoW .tcp with src := [1] }, .tcpSyn 0 { infoW .tcp with src := v4, mss := 65536 },
    .roceCmRequest 0 (infoW .rdma)] : List Instr).all (fun i => !i.wf) = true := by decide +kernel

theorem test_wf_sectors : ([.roceReadResponse 0 1 1 0 [[1]], .h2cData 0 1 1 0 [[]], .hostReadCompletion 0 1 [[1]],
    .carrierReadDone 0 0 1 .success 0 [[1]], .sectorData 0 hdrW [{ ns := 1, lba := 0, cycle := 0, data := [1] }]] :
    List Instr).all (fun i => !i.wf) = true := by decide +kernel

theorem test_wf_io : ([.read 0 { ioW (.fabric 1) with nlb := 0 }, .read 0 { ioW (.fabric 1) with nlb := 65537 },
    .write 0 { ioW (.fabric 1) with cid := 65536 } none, .write 0 (ioW (.fabric 1)) (some [[1]]),
    .writeZeroes 0 { ioW (.fabric 1) with nsid := 4294967296 }, .flush 0 { ioW (.fabric 1) with slba := 2 ^ 64 },
    .datasetManagement 0 (ioW (.fabric 1)) true (List.replicate 257 (0, 1))] :
    List Instr).all (fun i => !i.wf) = true := by decide +kernel

theorem test_wf_admin : ([.getLogPage 0 headW 65536 1 true, .identify 0 headW 65536 0 1, .abort 0 headW 65536 0 0,
    .setFeatures 0 headW 65536 7 false 0, .getFeatures 0 headW 65536 7 0, .asynchronousEventRequest 0 headW 65536, .keepAlive 0 headW 65536, .tlsRecord 0 1 256 ⟨5, none⟩] :
    List Instr).all (fun i => !i.wf) = true := by decide +kernel

theorem test_wf_requests : ([.connect 0 1 65536 [] [] 0 ⟨0, true⟩ 0 0, .connect 0 1 0 (List.replicate 224 1) [] 0 ⟨0, true⟩ 0 0,
    .connect 0 1 0 [] (List.replicate 224 1) 0 ⟨0, true⟩ 0 0, .connect 0 1 0 [] [] 65536 ⟨0, true⟩ 0 0,
    .connect 0 1 0 [] [] 0 ⟨65536, true⟩ 0 0,
    .set 0 1 1 false 0 badItem, .set 0 1 1 false 0 { badItem with index := 0, sub := 256 }, .configWrite 0 1 badItem,
    .setGroup 0 1 1 false 0 [], .setGroup 0 1 1 false 0 [badItem],
    .subscribe 0 1 1 (List.replicate 17 { lo := 0, hi := 0, sev := 0 }) 100 [],
    .subscribe 0 1 1 [] 100 (List.replicate 65 (0, 0)), .peerWrite 0 1 0 [], .peerWrite 0 1 (2 ^ 64) [1]] :
    List Instr).all (fun i => !i.wf) = true := by decide +kernel

theorem test_wf_writes : ([
    .recal 0 badWrite, .groupConfig 0 badWrite, .groupMac 0 badWrite, .potSize 0 badWrite, .format 0
    badWrite, .nsWriteProtect 0 badWrite, .carrierReadmit 0 badWrite, .lostClear 0 badWrite,
    .nsCryptoErase 0 badWrite, .escrowKek 0 badWrite, .arrayKeyImport 0 badWrite, .pskValue 0 badWrite,
    .rejoinRequest 0 badWrite, .roleSwap 0 badWrite, .fwActivate 0 badWrite, .forceSolo 0 badWrite,
    .bayLock 0 badWrite, .bayClear 0 badWrite, .holdupTest 0 badWrite, .serviceEnable 0 badWrite,
    .restart 0 badWrite, .powerPolicy 0 badWrite, .selfTestEngine 0 badWrite, .selfTestLane 0 badWrite,
    .selfTestBay 0 badWrite, .repairClear 0 badWrite, .configReset 0 badWrite, .attestNonce 0 badWrite,
    .loadSlot 0 badWrite, .loadData 0 badWrite, .ctrSnapshot 0 badWrite, .ctrValue 0 badWrite,
    .ctrControl 0 badWrite, .portEnable 0 badWrite, .attachEnable 0 badWrite, .anchorCert 0 badWrite
    true, .loadCommit 0 badWrite imgOk] : List Instr).all (fun i => !i.wf) = true := by
  decide +kernel

/-! ### States and operands that meet the hypotheses of each statement -/

theorem test_meets_StepRunsFront : ∃ s : State, s.pending = [] := ⟨State.reset, rfl⟩

theorem test_meets_ResetValues : ∃ idx sub r o, objOf idx = some o ∧ dval idx sub r State.reset = o.default sub :=
  ⟨0x4101, 0, 0, (objOf 0x4101).getD ctxW.obj, by decide +kernel, by decide +kernel⟩

theorem test_meets_StepKeepsSettled : ∃ s u : State, Settled s ∧ step s = .next u :=
  ⟨{ State.reset with pending := [.portUp 5 31] }, _, settled_of (by decide +kernel), rfl⟩

theorem test_meets_CalibrationRule_step : ∃ s u : State, CalibratesOff s ∧ step s = .next u :=
  ⟨{ State.reset with pending := [.bayDebounceEnd 5 23] }, _, by unfold CalibratesOff; decide +kernel, rfl⟩

theorem test_meets_HostFrame : ∃ (c : Instr) (s u : State), chapter c ≤ 3 ∧ Settled s ∧ exec c s = .next u :=
  ⟨.nsWriteProtect 5 badWrite, md .solo, _, by decide, settled_of (by decide +kernel), rfl⟩

theorem test_meets_DataFrame : ∃ (c : Instr) (s u : State),
    4 ≤ chapter c ∧ chapter c ≤ 9 ∧ Settled s ∧ exec c s = .next u :=
  ⟨.maskReseed 5, md .solo, _, by decide, by decide, settled_of (by decide +kernel), rfl⟩

theorem test_meets_PairFrame : ∃ (c : Instr) (s u : State),
    (chapter c = 10 ∨ chapter c = 11) ∧ Settled s ∧ exec c s = .next u :=
  ⟨.mirrorAckIdle 5, md .solo, _, by decide, settled_of (by decide +kernel), rfl⟩

theorem test_meets_PlatformFrame : ∃ (c : Instr) (s u : State), 12 ≤ chapter c ∧ Settled s ∧ exec c s = .next u :=
  ⟨.eventLogFlush 5, md .solo, _, by decide, settled_of (by decide +kernel), rfl⟩

theorem test_meets_PortFrame : ∃ (t : Time) (p : Port) (s u : State) (q : Nat),
    exec (.portDown t p) s = .next u ∧ q ≠ p.val := ⟨5, 31, md .solo, _, 0, rfl, by decide⟩

theorem test_meets_ConnectionFrame : ∃ (t : Time) (k j : Nat) (s u : State),
    exec (.rateRecovery t k) s = .next u ∧ j ≠ k := ⟨5, 1, 2, md .solo, _, rfl, by decide⟩

theorem test_meets_BayFrame : ∃ (t : Time) (b : Bay) (k : Nat) (s u : State),
    exec (.bayRemoved t b) s = .next u ∧ k ≠ b.val := ⟨5, 23, 0, md .solo, _, rfl, by decide⟩

theorem test_meets_FeedFrame : ∃ (t : Time) (f : Feed) (mv : Nat) (s u : State),
    exec (.feedLost t f mv) s = .next u ∧ (feedOf s (1 - f.val)).enabled = true :=
  ⟨5, 0, 0, (md .active).feed 1 .low 10500, _, rfl, by decide +kernel⟩


theorem test_meets_PortRows :
    (∃ (p : Port) (s : State),
        lanesOn s = true ∧
        portPresent p.val s = true ∧
        flag 0x3002 (p.val + 1) 0 s = true ∧
        (portOf s p.val).recal = false ∧
        (portOf s p.val).up = false ∧
        atNat s.net.appOk (p.val / 4) = some true) ∧
    (∃ (p : Port) (s : State),
        (portOf s p.val).up = true) ∧
    (∃ (t : Time) (w : Write) (x : Session) (c : WCtx) (s : State),
        WriteTaken 0x3005 recalCheck t w x c s ∧
        w.val = .num 1) ∧
    (∃ (s : State),
        inMode [.reset, .holdup] s = false) ∧
    (∃ (s : State),
        inMode [.reset, .holdup] s = false) ∧
    (∃ (t : Time) (w : Write) (x : Session) (c : WCtx) (s : State),
        WriteTaken 0x3000 noCheck t w x c s) ∧
    (∃ (t : Time) (w : Write) (x : Session) (c : WCtx) (s : State),
        WriteTaken 0x3002 noCheck t w x c s) ∧
    (∃ (t : Time) (w : Write) (x : Session) (c : WCtx) (s : State),
        WriteTaken 0x3002 noCheck t w x c s) := ⟨
    ⟨0, ((md .solo).onNet fun n => { n with appOk := updNat n.appOk 0 fun _ => true }), by decide +kernel⟩,
    ⟨0, ((md .solo).port0 id), by decide +kernel⟩,
    ⟨5, ({ sess := 1, sub := 1, val := .num 1 } : Write), _, _, ((md .solo).sess), (taken_of (by decide +kernel)), by decide +kernel⟩,
    ⟨((md .solo).port0 id), by decide +kernel⟩,
    ⟨((md .solo).port0 id), by decide +kernel⟩,
    ⟨5, ({ sess := 1, sub := 1, val := .num 2 } : Write), _, _, ((md .isolated).sess), (taken_of (by decide +kernel))⟩,
    ⟨5, ({ sess := 1, sub := 1, val := .num 0 } : Write), _, _, (((md .solo).sess).port0 id), (taken_of (by decide +kernel))⟩,
    ⟨5, ({ sess := 1, sub := 32, val := .num 1 } : Write), _, _, ((md .solo).sess), (taken_of (by decide +kernel))⟩⟩

theorem test_meets_FrameRows :
    (∃ (t : Time) (w : Write) (x : Session) (c : WCtx) (s : State),
        WriteTaken 0x3010 groupMacCheck t w x c s) ∧
    (∃ (p : Port) (f : EthFrame) (conn : Nat) (pos : Nat) (b : Bytes) (s : State),
        (portOf s p.val).up = true ∧
        lanesOn s = true ∧
        f.fecBad = none ∧
        f.fcsOk = true ∧
        f.len ≤ dnat 0x3003 (p.val + 1) 0 s ∧
        f.tags < 2 ∧
        acceptsDst p.val f.dst s = true ∧
        f.body = .stream conn pos b ∧
        vlanOk p.val f s = true ∧
        inMode [.solo, .active, .quiesced] s = true ∧
        p.val ∈ servicePorts s ∧
        b.length ≤ retentionBytes) ∧
    (∃ (p : Port) (f : EthFrame) (s : State) (n : _),
        (portOf s p.val).up = true ∧
        lanesOn s = true ∧
        f.fecBad = some n) ∧
    (∃ (p : Port) (f : EthFrame) (s : State),
        (portOf s p.val).up = true ∧
        lanesOn s = true ∧
        f.fecBad = none ∧
        f.fcsOk = false) ∧
    (∃ (p : Port) (addr : Bytes) (s : State),
        transmits s = true ∧
        isV4 addr = true ∧
        servedAt p.val addr s = true) ∧
    (∃ (p : Port) (addr : Bytes) (s : State),
        transmits s = true ∧
        holdsV6 p.val addr s = true) ∧
    (∃ (s : State),
        transmits s = true) ∧
    (∃ (p : Port) (addr : Bytes) (s : State),
        transmits s = true ∧
        servedAt p.val addr s = true ∧
        (portOf s p.val).echoCount < 1000) ∧
    (∃ (k : Nat) (mtu : Nat) (x : Conn) (s : State),
        receives s = true ∧
        connOf s k = some x ∧
        x.info.kind = .tcp ∧
        mtu < x.pmtu) := ⟨
    ⟨5, ({ sess := 1, sub := 1, val := .oct mac1 } : Write), _, _, ((md .isolated).sess), (taken_of (by decide +kernel))⟩,
    ⟨0, (ethW (.stream 1 2 [7])), 1, 2, ([7] : Bytes), ((((md .solo).svc v4).port0 id).id0), by decide +kernel⟩,
    ⟨0, ({ ethW .pause with fecBad := some 3 } : EthFrame), ((md .solo).port0 id), 3, by decide +kernel⟩,
    ⟨0, ({ ethW .pause with fcsOk := false } : EthFrame), ((md .solo).port0 id), by decide +kernel⟩,
    ⟨0, v4, (((md .solo).svc v4)), by decide +kernel⟩,
    ⟨0, v6, (((md .solo).svc v6)), by decide +kernel⟩,
    ⟨((md .active).linked), by decide +kernel⟩,
    ⟨0, v4, (((md .solo).svc v4)), by decide +kernel⟩,
    ⟨1, 1400, (connW .tcp), (((md .solo).conn (connW .tcp))), by decide +kernel⟩⟩

theorem test_meets_DeliveryRows :
    (∃ (s : State),
        mayServe s = true ∧
        s.mode.restarted = false ∧
        s.mode.holdIsolated = false ∧
        partnerServes s = false ∧
        s.pair.round = none) ∧
    (∃ (b : Bay) (s : State),
        s.pair.round = some .solo ∧
        s.pair.asked = [b.val] ∧
        (carOf s b.val).asking.headD (nextValue s) = nextValue s ∧
        b.val ∉ s.pair.won ∧
        (seatedBays s).length < 2 * (s.pair.won.length + 1) ∧
        (∀ k : Bay, (carOf s k.val).state ≠ .lost ∧ ((carOf s k.val).state = .inService → sameCarrier (carOf s k.val) = true))) ∧
    (∃ (k : Fin 64) (s : State),
        (atNat s.net.svcs k.val).map (·.dad) = some true) ∧
    (∃ (k : Fin 64) (s : State),
        (atNat s.net.svcs k.val).map (·.dad) = some true) ∧
    (∃ (p : Nat) (s : State),
        probing s = true ∧
        p ∈ servicePorts s ∧
        groupMacSet p s = true ∧
        (portOf s p).up = true) ∧
    (∃ (p : Nat) (s : State),
        probing s = true ∧
        p ∈ servicePorts s ∧
        groupMacSet p s = true ∧
        (portOf s p).up = true) ∧
    (∃ (h : MirHdr) (ports : List Port) (down : List Port) (p : Port) (s : State),
        FrameTaken h s ∧
        p ∈ ports ∧
        p ∉ down ∧
        (portOf s p.val).probeOut = true) ∧
    (∃ (h : MirHdr) (down : List Port) (p : Port) (s : State),
        FrameTaken h s ∧
        p ∈ down ∧
        probing s = true ∧
        p.val ∈ servicePorts s ∧
        groupMacSet p.val s = true) ∧
    (∃ (t : Time) (s : State),
        s.mode.mode = .active ∧
        s.pair.cold = true ∧
        s.pair.partnerKind ≠ 2 ∧
        confirmedLong (advance t s) = true) ∧
    (∃ (s : State),
        s.mode.mode = .coldStandby ∧
        s.pair.partnerKind ≠ 2 ∧
        entropyState s ≠ 2) ∧
    (∃ (p : Port) (prio : Nat) (s : State),
        lanesOn s = true ∧
        (portOf s p.val).up = true ∧
        prio = dnat 0x3009 (p.val + 1) 0 s ∧
        prio < 8) ∧
    (∃ (p : Port) (prio : Nat) (s : State),
        lanesOn s = true ∧
        (portOf s p.val).up = true ∧
        prio = dnat 0x3009 (p.val + 1) 0 s ∧
        prio < 8) ∧
    (∃ (t : Time) (p : Port) (e : Time) (s : State),
        (portOf s p.val).pauseUntil = some e ∧
        e ≤ max s.now t) ∧
    (∃ (t : Time) (p : Port) (e : Time) (s : State),
        (portOf s p.val).pausedFrom = some e ∧
        e + 100000000 ≤ max s.now t) := ⟨
    ⟨(((((((md .isolated).num 0x2001 0 0 1).onKeys fun k => { k with arrayKey := some 1 }).onPower fun p => { p with cap := 934 }).bay0 fun b => { b with seated := true }).car0 fun c => { c with linkUp := true })), by decide +kernel⟩,
    ⟨0, ((((md .isolated).bay0 fun b => { b with seated := true }).onPair fun p => { p with round := some .solo, asked := [0] }).id0), by decide +kernel⟩,
    ⟨0, (((md .solo).svc v4).onNet fun n => { n with svcs := updNat n.svcs 0 fun _ => { served := false, dad := true } }), by decide +kernel⟩,
    ⟨0, (((md .solo).svc v4).onNet fun n => { n with svcs := updNat n.svcs 0 fun _ => { served := false, dad := true } }), by decide +kernel⟩,
    ⟨0, (((((md .active).linked).svc v4).port0 fun x => { x with probeOut := true, probeOk := 2, probeMiss := 2 })), by decide +kernel⟩,
    ⟨0, (((((md .active).linked).svc v4).port0 fun x => { x with probeOut := false, probeOk := 2, probeMiss := 2 })), by decide +kernel⟩,
    ⟨hdrW, ([0, 0] : List Port), ([1] : List Port), 0, (((((md .active).linked).svc v4).port0 fun x => { x with probeOut := true, probeOk := 2 })), (by unfold FrameTaken; decide +kernel), by decide +kernel⟩,
    ⟨hdrW, ([0] : List Port), 0, (((((md .active).linked).svc v4).port0 fun x => { x with probeOut := true, probeOk := 2 })), (by unfold FrameTaken; decide +kernel), by decide +kernel⟩,
    ⟨20000000000, (((((md .active).linked).svc v4).port0 fun x => { x with dual := 1 }).onPair fun p => { p with cold := true }), by decide +kernel⟩,
    ⟨((md .coldStandby).linked), by decide +kernel⟩,
    ⟨0, 3, (((md .solo).num 0x3009 1 0 3).port0 id), by decide +kernel⟩,
    ⟨0, 3, (((md .solo).num 0x3009 1 0 3).port0 id), by decide +kernel⟩,
    ⟨5, 0, 5, ((md .solo).port0 fun x => { x with pauseUntil := some 5 }), by decide +kernel⟩,
    ⟨100000000, 0, 0, ((md .solo).port0 fun x => { x with pausedFrom := some 0 }), by decide +kernel⟩⟩

theorem test_meets_ConnectionRows :
    (∃ (info : ConnInfo) (s : State),
        transmits s = true ∧
        svcServes info s = true ∧
        (info.listen = cfg 0x3102 s ∨ info.listen = cfg 0x3103 s) ∧
        connRefused info.src s = false ∧
        (s.conns.filter fun p => p.2.half).length < 1024) ∧
    (∃ (info : ConnInfo) (s : State),
        transmits s = true ∧
        svcServes info s = true ∧
        (info.listen = cfg 0x3102 s ∨ info.listen = cfg 0x3103 s) ∧
        connRefused info.src s = false ∧
        (s.conns.filter fun p => p.2.half).length < 1024) ∧
    (∃ (info : ConnInfo) (s : State),
        transmits s = true ∧
        svcServes info s = true ∧
        connRefused info.src s = false) ∧
    (∃ (k : Nat) (h : Hello) (x : Conn) (s : State),
        decides s = true ∧
        connOf s k = some x ∧
        x.info.kind = .tcp ∧
        x.tls.active = false ∧
        cfg 0x3110 s ≠ 0 ∧
        helloFault h s = none) ∧
    (∃ (k : Nat) (x : Conn) (s : State),
        receives s = true ∧
        connOf s k = some x ∧
        x.tls.active = true) ∧
    (∃ (k : Nat) (x : Conn) (s : State),
        decides s = true ∧
        connOf s k = some x ∧
        x.tls.active = true ∧
        cfg 0x3111 s ≤ x.tls.txRecords ∧
        x.tls.kuPlanned = false) ∧
    (∃ (k : Nat) (x : Conn) (s : State),
        decides s = true ∧
        connOf s k = some x ∧
        x.tls.active = true) ∧
    (∃ (k : Nat) (x : Conn) (s : State),
        decides s = true ∧
        connOf s k = some x) ∧
    (∃ (k : Nat) (x : Conn) (s : State),
        transmits s = true ∧
        connOf s k = some x ∧
        x.txUna < x.txNext) ∧
    (∃ (k : Nat) (x : Conn) (s : State),
        transmits s = true ∧
        connOf s k = some x ∧
        x.missing ≠ []) := ⟨
    ⟨(infoW .tcp), ((md .solo).svc v4), by decide +kernel⟩,
    ⟨(infoW .tcp), (((md .solo).svc v4).conn (connW .tcp)), by decide +kernel⟩,
    ⟨(infoW .rdma), (((md .active).linked).svc v4), by decide +kernel⟩,
    ⟨1, ({ suiteOk := true, version13 := true, pskDhe := true, pskKe := true, secp384 := false, secp256 := true, earlyData := false, pskRec := some 1, hostNqn := [1], fault := none } : Hello), (connW .tcp), ((((((((md .solo).conn (connW .tcp)).num 0x3110 0 0 1).num 0x5311 0 1 1).num 0x5312 0 1 1).with 0x3211 0 1 (.oct [1])).onKeys fun k => { k with psk := [(1, [])] })), by decide +kernel⟩,
    ⟨1, (tlsOn (connW .tcp)), ((md .solo).conn (tlsOn (connW .tcp))), by decide +kernel⟩,
    ⟨1, ({ tlsOn (connW .tcp) with tls := { (tlsOn (connW .tcp)).tls with txRecords := 16777216 } } : Conn), ((md .solo).conn ({ tlsOn (connW .tcp) with tls := { (tlsOn (connW .tcp)).tls with txRecords := 16777216 } })), by decide +kernel⟩,
    ⟨1, (tlsOn (connW .tcp)), ((md .solo).conn (tlsOn (connW .tcp))), by decide +kernel⟩,
    ⟨1, (connW .tcp), (((md .solo).conn (connW .tcp))), by decide +kernel⟩,
    ⟨1, (connW .tcp), (((md .solo).conn (connW .tcp))), by decide +kernel⟩,
    ⟨1, ({ connW .tcp with missing := [(1, 2)] } : Conn), ((md .solo).conn { connW .tcp with missing := [(1, 2)] }), by decide +kernel⟩⟩

theorem test_meets_StreamRows :
    (∃ (k : Nat) (len : Nat) (x : Conn) (s : State),
        receives s = true ∧
        inMode [.takeover] s = false ∧
        connOf s k = some x ∧
        contextsFull s = false ∧
        grants s poolTcpRx (granulesFor len) = true ∧
        0 < len ∧
        len ≤ cfg 0x3105 s ∧
        x.ooo = []) ∧
    (∃ (k : Nat) (pos : Nat) (x : Conn) (s : State),
        receives s = true ∧
        connOf s k = some x ∧
        x.txUna ≤ pos ∧
        pos ≤ x.txNext) ∧
    (∃ (k : Nat) (pos : Nat) (x : Conn) (s : State),
        receives s = true ∧
        connOf s k = some x ∧
        x.txUna ≤ pos ∧
        pos ≤ x.txNext) ∧
    (∃ (k : Nat) (psn : Nat) (x : Conn) (s : State),
        receives s = true ∧
        connOf s k = some x ∧
        x.txUna ≤ psn + 1 ∧
        psn + 1 ≤ x.txNext) ∧
    (∃ (k : Nat) (x : Conn) (s : State),
        decides s = true ∧
        connOf s k = some x ∧
        x.txUna < x.txNext ∧
        x.retries < 7 ∧
        (∀ r ∈ x.refs, x.txUna < r.1)) ∧
    (∃ (t : Time) (k : Nat) (x : Conn) (e : Time) (s : State),
        transmits s = true ∧
        connOf s k = some x ∧
        x.info.kind = .tcp ∧
        x.tcp.timer = some e ∧
        e ≤ max s.now t ∧
        x.txUna < x.tcp.sent) ∧
    (∃ (k : Nat) (x : Conn) (s : State),
        transmits s = true ∧
        connOf s k = some x ∧
        x.info.kind = .rdma ∧
        x.txUna < x.txNext) ∧
    (∃ (k : Nat) (x : Conn) (s : State),
        transmits s = true ∧
        connOf s k = some x ∧
        x.info.kind = .rdma ∧
        x.txUna < x.txNext) ∧
    (∃ (k : Nat) (len : Nat) (x : Conn) (s : State),
        receives s = true ∧
        inMode [.takeover] s = false ∧
        connOf s k = some x ∧
        x.info.kind = .rdma ∧
        contextsFull s = false ∧
        grants s poolRoceRx (granulesFor len) = true) ∧
    (∃ (k : Nat) (x : Conn) (s : State),
        transmits s = true ∧
        connOf s k = some x ∧
        x.info.kind = .rdma) ∧
    (∃ (k : Nat) (ctype : Nat) (len : Nat) (c : Nat) (x : Conn) (s : State),
        decides s = true ∧
        connOf s k = some x ∧
        x.tls.active = true ∧
        len ≤ 16384 ∧
        x.tls.rxRecords < 16777216 ∧
        ctype ∈ [21, 22, 23] ∧
        clusterFrom s (tlsCluster k x) = some c) ∧
    (∃ (k : Nat) (ctype : Nat) (len : Nat) (x : Conn) (s : State),
        decides s = true ∧
        connOf s k = some x ∧
        x.tls.active = true ∧
        (16384 < len ∨ 16777216 ≤ x.tls.rxRecords ∨ ctype ∉ [20, 21, 22, 23])) ∧
    (∃ (k : Nat) (ctype : Nat) (len : Nat) (x : Conn) (s : State),
        decides s = true ∧
        connOf s k = some x ∧
        x.tls.active = true ∧
        (16384 < len ∨ 16777216 ≤ x.tls.rxRecords ∨ ctype ∉ [20, 21, 22, 23])) := ⟨
    ⟨1, 10, (connW .tcp), (((md .solo).conn (connW .tcp))), by decide +kernel⟩,
    ⟨1, 100, (connW .tcp), (((md .solo).conn (connW .tcp))), by decide +kernel⟩,
    ⟨1, 200, (connW .tcp), (((md .solo).conn (connW .tcp))), by decide +kernel⟩,
    ⟨1, 199, (connW .rdma), (((md .solo).conn (connW .rdma))), by decide +kernel⟩,
    ⟨1, (connW .rdma), (((md .solo).conn (connW .rdma))), by decide +kernel⟩,
    ⟨5, 1, ({ connW .tcp with tcp := { (connW .tcp).tcp with timer := some 5, sent := 200 } } : Conn), 5, (((md .solo).conn { connW .tcp with tcp := { (connW .tcp).tcp with timer := some 5, sent := 200 } })), by decide +kernel⟩,
    ⟨1, ({ connW .rdma with retries := 6 } : Conn), ((md .solo).conn { connW .rdma with retries := 6 }), by decide +kernel⟩,
    ⟨1, ({ connW .rdma with retries := 7 } : Conn), ((md .solo).conn { connW .rdma with retries := 7 }), by decide +kernel⟩,
    ⟨1, 0, (connW .rdma), (((md .solo).conn (connW .rdma))), by decide +kernel⟩,
    ⟨1, (connW .rdma), (((md .solo).conn (connW .rdma))), by decide +kernel⟩,
    ⟨1, 23, 16384, 0, (tlsOn (connW .tcp)), ((md .solo).conn (tlsOn (connW .tcp))), by decide +kernel⟩,
    ⟨1, 23, 16385, (tlsOn (connW .tcp)), ((md .solo).conn (tlsOn (connW .tcp))), by decide +kernel⟩,
    ⟨1, 24, 10, (tlsOn (connW .tcp)), ((md .solo).conn (tlsOn (connW .tcp))), by decide +kernel⟩⟩

theorem test_meets_RateRows :
    (∃ (k : Nat) (ttag : Nat) (off : Nat) (id : Nat) (i : Nat) (sectors : List Bytes) (c : Cmd) (s : State),
        receives s = true ∧
        cmdOf s id = some c ∧
        (s.cmd.cmds.find? fun p => p.2.src = .fabric k && p.2.ttag = ttag && p.2.phase = .receiving) = some (id, c) ∧
        i < sectors.length ∧
        off + i < c.data.length) ∧
    (∃ (t : Time) (k : Nat) (x : Conn) (s : State),
        transmits s = true ∧
        connOf s k = some x ∧
        x.info.kind = .rdma ∧
        (∀ a, x.cnpAt = some a → a + cfg 0x3133 s ≤ max s.now t)) ∧
    (∃ (t : Time) (k : Nat) (x : Conn) (s : State),
        transmits s = true ∧
        connOf s k = some x ∧
        x.info.kind = .rdma ∧
        (∀ a, x.cutAt = some a → a + cfg 0x3133 s ≤ max s.now t)) ∧
    (∃ (k : Nat) (r : Nat) (x : Conn) (s : State),
        connOf s k = some x ∧
        x.cap = some r) ∧
    (∃ (k : Nat) (r : Nat) (x : Conn) (s : State),
        connOf s k = some x ∧
        x.cap = some r) ∧
    (∃ (p : Port) (q : Nat × FrameHdr × HostMsg) (rest : List (Nat × FrameHdr × HostMsg)) (s : State),
        transmits s = true ∧
        (portOf s p.val).up = true ∧
        ctrlFrames s p.val = some (q :: rest) ∧
        ctrlReady q s = true ∧
        grants s poolControl 1 = true) ∧
    (∃ (t : Time) (p : Port) (k : Nat) (x : Conn) (f : TxFrame) (rest : List TxFrame) (s : State),
        transmits s = true ∧
        (portOf s p.val).up = true ∧
        ctrlFrames s p.val = some [] ∧
        (atNat s.egress.ports p.val).map (·.pipeline) = some 0 ∧
        queuedOn p.val s = [(k, x)] ∧
        connOf s k = some x ∧
        k < closingBase ∧
        x.sendQ = f :: rest ∧
        egEligible x (advance t s) = true ∧
        grants s poolControl 1 = true ∧
        (f.sent = 0 → planMatches f = true) ∧
        x.tls.active = false) ∧
    (∃ (t : Time) (p : Port) (k : Nat) (x : Conn) (f : TxFrame) (rest : List TxFrame) (s : State),
        transmits s = true ∧
        (portOf s p.val).up = true ∧
        ctrlFrames s p.val = some [] ∧
        (atNat s.egress.ports p.val).map (·.pipeline) = some 0 ∧
        queuedOn p.val s = [(k, x)] ∧
        connOf s k = some x ∧
        k < closingBase ∧
        x.sendQ = f :: rest ∧
        egEligible x (advance t s) = true ∧
        grants s poolControl 1 = true ∧
        (f.sent = 0 → planMatches f = true) ∧
        x.tls.active = false) ∧
    (∃ (t : Time) (p : Port) (k : Nat) (x : Conn) (f : TxFrame) (rest : List TxFrame) (s : State) (c : _),
        transmits s = true ∧
        (portOf s p.val).up = true ∧
        ctrlFrames s p.val = some [] ∧
        (atNat s.egress.ports p.val).map (·.pipeline) = some 0 ∧
        queuedOn p.val s = [(k, x)] ∧
        connOf s k = some x ∧
        k < closingBase ∧
        x.sendQ = f :: rest ∧
        egEligible x (advance t s) = true ∧
        grants s poolControl 1 = true ∧
        (f.sent = 0 → planMatches f = true) ∧
        x.tls.active = true ∧
        x.info.kind = .tcp ∧
        clusterFrom s (tlsCluster k x) = some c) := ⟨
    ⟨1, 4, 1, 1, 0, ([[5], [6]] : List Bytes), (cmdW (.fabric 1) .write .receiving), (((md .solo).conn (connW .rdma)).cmd1 (cmdW (.fabric 1) .write .receiving)), by decide +kernel⟩,
    ⟨5, 1, (connW .rdma), (((md .solo).conn (connW .rdma))), (by decide +kernel), (by decide +kernel), (by decide +kernel), (all_of (by decide +kernel))⟩,
    ⟨5, 1, ({ connW .rdma with cap := some 300 } : Conn), ((md .solo).conn { connW .rdma with cap := some 300 }), (by decide +kernel), (by decide +kernel), (by decide +kernel), (all_of (by decide +kernel))⟩,
    ⟨1, 300, ({ connW .rdma with cap := some 300 } : Conn), ((md .solo).conn { connW .rdma with cap := some 300 }), by decide +kernel⟩,
    ⟨1, 399999, ({ connW .rdma with cap := some 399999 } : Conn), ((md .solo).conn { connW .rdma with cap := some 399999 }), by decide +kernel⟩,
    ⟨0, ((1, fhW, .cnp)), ([(2, fhW, .rst)] : List (Nat × FrameHdr × HostMsg)), (((md .solo).port0 id).onEgress fun e => { e with ports := updNat e.ports 0 fun x => { x with ctrlQ := [(1, fhW, .cnp), (2, fhW, .rst)] } }), by decide +kernel⟩,
    ⟨1000000000, 0, 1, ({ connW .tcp with host := 1, sendQ := [txW (.r2t 9 1 0 8192)], headed := false } : Conn), (txW (.r2t 9 1 0 8192)), ([] : List TxFrame), (((((md .solo).host1 .tcp).conn ({ connW .tcp with host := 1, sendQ := [txW (.r2t 9 1 0 8192)], headed := false })).port0 id).onNet fun n => { n with neighbours := [{ port := 0, addr := [], mac := 1 }] }), by decide +kernel⟩,
    ⟨1000000000, 0, 1, ({ connW .tcp with host := 1, sendQ := [{ txW (.r2t 9 1 0 8192) with len := 5000, pos := 100 }], headed := false } : Conn), ({ txW (.r2t 9 1 0 8192) with len := 5000, pos := 100 } : TxFrame), ([] : List TxFrame), (((((md .solo).host1 .tcp).conn ({ connW .tcp with host := 1, sendQ := [{ txW (.r2t 9 1 0 8192) with len := 5000, pos := 100 }], headed := false })).port0 id).onNet fun n => { n with neighbours := [{ port := 0, addr := [], mac := 1 }] }), by decide +kernel⟩,
    ⟨1000000000, 0, 1, (tlsOn { connW .tcp with host := 1, sendQ := [txW (.r2t 9 1 0 8192)] }), (txW (.r2t 9 1 0 8192)), ([] : List TxFrame), (((((md .solo).host1 .tcp).conn ((tlsOn { connW .tcp with host := 1, sendQ := [txW (.r2t 9 1 0 8192)] }))).port0 id).onNet fun n => { n with neighbours := [{ port := 0, addr := [], mac := 1 }] }), 0, by decide +kernel⟩⟩

theorem test_meets_ControllerRows :
    (∃ (k : Nat) (subnqn : Bytes) (hostnqn : Bytes) (qid : Nat) (sqsize : Nat) (cntlid : Nat) (x : Conn) (a : Assoc) (s : State),
        Deciding s ∧
        connOf s k = some x ∧
        x.ctrl = none ∧
        connectNames x.info.listen subnqn hostnqn s = .ok a ∧
        connectLimits a hostnqn qid sqsize cntlid s = none) ∧
    (∃ (k : Nat) (subnqn : Bytes) (hostnqn : Bytes) (qid : Nat) (sqsize : Nat) (cntlid : Nat) (x : Conn) (a : Assoc) (s : State),
        Deciding s ∧
        connOf s k = some x ∧
        x.ctrl = none ∧
        connectNames x.info.listen subnqn hostnqn s = .ok a ∧
        connectLimits a hostnqn qid sqsize cntlid s = none) ∧
    (∃ (k : Nat) (subnqn : Bytes) (hostnqn : Bytes) (qid : Nat) (sqsize : Nat) (cntlid : Nat) (x : Conn) (e : Status × ConnectField) (s : State),
        Deciding s ∧
        connOf s k = some x ∧
        x.ctrl = none ∧
        (connectNames x.info.listen subnqn hostnqn s = .error e ∨ ∃ a, connectNames x.info.listen subnqn hostnqn s = .ok a ∧ connectLimits a hostnqn qid sqsize cntlid s = some e)) ∧
    (∃ (k : Nat) (cid : Nat) (id : Nat) (offset : Nat) (c : Ctrl) (s : State) (v : _),
        AdminTaken (fabricsCmd k cid) (some id) s ∧
        Tbl.get? s.cmd.ctrls id = some c ∧
        (offset, v) ∈ [(0x00, capValue), (0x08, Config.property 8), (0x14, c.cc), (0x1C, c.csts)]) ∧
    (∃ (k : Nat) (cid : Nat) (id : Nat) (offset : Nat) (c : Ctrl) (s : State),
        AdminTaken (fabricsCmd k cid) (some id) s ∧
        Tbl.get? s.cmd.ctrls id = some c ∧
        offset ∉ [0x00, 0x08, 0x14, 0x1C]) ∧
    (∃ (k : Nat) (cid : Nat) (id : Nat) (c : Ctrl) (s : State),
        AdminTaken (fabricsCmd k cid) (some id) s ∧
        Tbl.get? s.cmd.ctrls id = some c) ∧
    (∃ (k : Nat) (cid : Nat) (id : Nat) (c : Ctrl) (s : State),
        AdminTaken (fabricsCmd k cid) (some id) s ∧
        Tbl.get? s.cmd.ctrls id = some c) ∧
    (∃ (k : Nat) (cid : Nat) (id : Nat) (x : Conn) (s : State),
        Deciding s ∧
        transmits s = true ∧
        connOf s k = some x ∧
        x.ctrl = some id ∧
        overrun k x cid s = false) ∧
    (∃ (a : AdmCmd) (id : Nat) (c : Ctrl) (s : State),
        AdminTaken a (some id) s ∧
        Tbl.get? s.cmd.ctrls id = some c) ∧
    (∃ (t : Time) (id : Nat) (c : Ctrl) (s : State),
        transmits s = true ∧
        Tbl.get? s.cmd.ctrls id = some c ∧
        c.kato ≠ 0 ∧
        c.lastCmd + c.kato * 1000000 ≤ max s.now t) := ⟨
    ⟨1, ([8] : Bytes), ([7] : Bytes), 0, 15, 0xFFFF, ({ connW .tcp with ctrl := none, qid := 0 } : Conn), ({ subsys := 1, host := 1, discovery := false } : Assoc), (((((((md .solo).conn { connW .tcp with ctrl := none, qid := 0 }).with 0x3201 0 1 (.oct [8])).with 0x3211 0 1 (.oct [7])).num 0x3202 0 1 1).with 0x3203 0 1 (.oct (1 :: List.replicate 127 0)))), (by unfold Deciding; decide +kernel), (by decide +kernel), (by decide +kernel), (ok_of (by decide +kernel)), by decide +kernel⟩,
    ⟨3, ([8] : Bytes), ([7] : Bytes), 64, 15, 1, ({ connW .tcp with ctrl := none, qid := 0 } : Conn), ({ subsys := 1, host := 1, discovery := false } : Assoc), (((((((((md .solo).host1 .tcp).onConns fun m => m ++ [(3, { connW .tcp with ctrl := none, qid := 0 })])).with 0x3201 0 1 (.oct [8])).with 0x3211 0 1 (.oct [7])).num 0x3202 0 1 1).with 0x3203 0 1 (.oct (1 :: List.replicate 127 0)))), (by unfold Deciding; decide +kernel), (by decide +kernel), (by decide +kernel), (ok_of (by decide +kernel)), by decide +kernel⟩,
    ⟨1, ([6] : Bytes), ([7] : Bytes), 0, 15, 0xFFFF, ({ connW .tcp with ctrl := none, qid := 0 } : Conn), ((.connectInvalid, .subnqn)), (((((((md .solo).conn { connW .tcp with ctrl := none, qid := 0 }).with 0x3201 0 1 (.oct [8])).with 0x3211 0 1 (.oct [7])).num 0x3202 0 1 1).with 0x3203 0 1 (.oct (1 :: List.replicate 127 0)))), (by unfold Deciding; decide +kernel), (by decide +kernel), (by decide +kernel), (.inl (error_of (by decide +kernel)))⟩,
    ⟨2, 7, 1, 0x14, ctrlW, (((md .solo).host1 .tcp)), 0, (adminTaken_of (by decide +kernel)), by decide +kernel⟩,
    ⟨2, 7, 1, 0x10, ctrlW, (((md .solo).host1 .tcp)), (adminTaken_of (by decide +kernel)), by decide +kernel⟩,
    ⟨2, 7, 1, ctrlW, (((md .solo).host1 .tcp)), (adminTaken_of (by decide +kernel)), by decide +kernel⟩,
    ⟨2, 7, 1, ctrlW, ((((md .active).linked).host1 .tcp)), (adminTaken_of (by decide +kernel)), by decide +kernel⟩,
    ⟨2, 7, 1, ({ connW .tcp with host := 1, qid := 0 } : Conn), (((md .solo).host1 .tcp)), (by unfold Deciding; decide +kernel), by decide +kernel⟩,
    ⟨(admW (.fabric 2)), 1, ctrlW, (((md .solo).host1 .tcp)), (adminTaken_of (by decide +kernel)), by decide +kernel⟩,
    ⟨1000000000, 1, ctrlW, (((md .solo).host1 .tcp)), by decide +kernel⟩⟩

theorem test_meets_AdminRows :
    (∃ (a : AdmCmd) (id : Nat) (lid : Nat) (b : Bytes) (c : Ctrl) (s : State),
        AdminTaken a (some id) s ∧
        Tbl.get? s.cmd.ctrls id = some c ∧
        c.discovery = false ∧
        (lid, b) ∈ [(1, errorPage c.errLog), (2, smartPage c.subsys c.unitsRead c.unitsWritten s), (4, changedPage c.changedNs), (5, effectsPage)]) ∧
    (∃ (a : AdmCmd) (id : Nat) (lid : Nat) (b : Bytes) (c : Ctrl) (s : State),
        AdminTaken a (some id) s ∧
        Tbl.get? s.cmd.ctrls id = some c ∧
        c.discovery = false ∧
        (lid, b) ∈ [(1, errorPage c.errLog), (2, smartPage c.subsys c.unitsRead c.unitsWritten s), (4, changedPage c.changedNs), (5, effectsPage)]) ∧
    (∃ (a : AdmCmd) (id : Nat) (lid : Nat) (c : Ctrl) (s : State),
        AdminTaken a (some id) s ∧
        Tbl.get? s.cmd.ctrls id = some c ∧
        c.discovery = false ∧
        lid ∉ [1, 2, 4, 5]) ∧
    (∃ (a : AdmCmd) (id : Nat) (c : Ctrl) (s : State),
        AdminTaken a (some id) s ∧
        Tbl.get? s.cmd.ctrls id = some c ∧
        c.discovery = true ∧
        badSgl a = false) ∧
    (∃ (a : AdmCmd) (lid : Nat) (b : Bytes) (s : State),
        AdminTaken a none s ∧
        (lid, b) ∈ [(1, errorPage s.attach.errLog), (2, smartPage (cfg 0x6203 s) s.attach.unitsRead s.attach.unitsWritten s), (4, changedPage s.attach.changedNs), (5, effectsPage), (0x0C, anaPage s)]) ∧
    (∃ (a : AdmCmd) (k : Option Nat) (cns : Nat) (nsid : Nat) (s : State) (st : _),
        AdminTaken a k s ∧
        identifyPage a k cns nsid s = .error st) ∧
    (∃ (a : AdmCmd) (k : Option Nat) (cns : Nat) (nsid : Nat) (s : State) (st : _),
        AdminTaken a k s ∧
        identifyPage a k cns nsid s = .error st) ∧
    (∃ (a : AdmCmd) (k : Option Nat) (cns : Nat) (nsid : Nat) (s : State) (b : _),
        AdminTaken a k s ∧
        identifyPage a k cns nsid s = .ok b) ∧
    (∃ (a : AdmCmd) (k : Nat) (id : Nat) (sqid : Nat) (target : Nat) (y : Ctrl) (q : Nat × Nat) (s : State) (n : _) (c : _),
        a.src = .fabric k ∧
        AdminTaken a (some id) s ∧
        Tbl.get? s.cmd.ctrls id = some y ∧
        y.ioq.find? (fun q => q.1 = sqid) = some q ∧
        sqid ≠ 0 ∧
        let mine := s.cmd.cmds.find? fun p => decide (p.2.src = .fabric q.2) && p.2.cid = target && !dispatched p.2.phase
        y.aborts + y.heldAborts.length < 8 ∧
        mine = some (n, c) ∧
        cmdOf s n = some c ∧
        q.2 ≠ k ∧
        s.pair.paired = false ∧
        c.bmeHeld = false) ∧
    (∃ (a : AdmCmd) (k : Nat) (id : Nat) (sqid : Nat) (target : Nat) (y : Ctrl) (q : Nat × Nat) (s : State),
        a.src = .fabric k ∧
        AdminTaken a (some id) s ∧
        Tbl.get? s.cmd.ctrls id = some y ∧
        y.ioq.find? (fun q => q.1 = sqid) = some q ∧
        sqid ≠ 0 ∧
        let mine := s.cmd.cmds.find? fun p => decide (p.2.src = .fabric q.2) && p.2.cid = target && !dispatched p.2.phase
        y.aborts + y.heldAborts.length < 8 ∧
        mine = none) ∧
    (∃ (a : AdmCmd) (k : Nat) (id : Nat) (sqid : Nat) (target : Nat) (y : Ctrl) (q : Nat × Nat) (s : State),
        a.src = .fabric k ∧
        AdminTaken a (some id) s ∧
        Tbl.get? s.cmd.ctrls id = some y ∧
        y.ioq.find? (fun q => q.1 = sqid) = some q ∧
        sqid ≠ 0 ∧
        let mine := s.cmd.cmds.find? fun p => decide (p.2.src = .fabric q.2) && p.2.cid = target && !dispatched p.2.phase
        8 ≤ y.aborts + y.heldAborts.length) ∧
    (∃ (a : AdmCmd) (k : Option Nat) (s : State) (id : _) (c : _),
        AdminTaken a k s ∧
        k = some id ∧
        Tbl.get? s.cmd.ctrls id = some c) ∧
    (∃ (a : AdmCmd) (k : Option Nat) (s : State) (id : _) (c : _),
        AdminTaken a k s ∧
        k = some id ∧
        Tbl.get? s.cmd.ctrls id = some c) ∧
    (∃ (a : AdmCmd) (k : Option Nat) (s : State),
        AdminTaken a k s ∧
        k = none) ∧
    (∃ (a : AdmCmd) (k : Option Nat) (s : State),
        AdminTaken a k s) ∧
    (∃ (a : AdmCmd) (k : Option Nat) (s : State),
        AdminTaken a k s) ∧
    (∃ (a : AdmCmd) (k : Option Nat) (s : State),
        AdminTaken a k s) ∧
    (∃ (a : AdmCmd) (k : Option Nat) (s : State) (fid : _),
        AdminTaken a k s ∧
        fid ∉ [0x07, 0x0B, 0x0F]) ∧
    (∃ (a : AdmCmd) (k : Option Nat) (fid : Nat) (v : Nat) (s : State),
        AdminTaken a k s ∧
        ((fid, v) ∈ [(0x07, 63 + 63 * 65536), (0x0B, ((k.bind fun i => Tbl.get? s.cmd.ctrls i).map (·.aenConfig)).getD s.attach.features)] ∨ (k.isSome ∧ fid = 0x0F ∧ v = ((k.bind fun i => Tbl.get? s.cmd.ctrls i).map (·.kato)).getD 0))) ∧
    (∃ (a : AdmCmd) (k : Option Nat) (fid : Nat) (v : Nat) (s : State),
        AdminTaken a k s ∧
        ((fid, v) ∈ [(0x07, 63 + 63 * 65536), (0x0B, ((k.bind fun i => Tbl.get? s.cmd.ctrls i).map (·.aenConfig)).getD s.attach.features)] ∨ (k.isSome ∧ fid = 0x0F ∧ v = ((k.bind fun i => Tbl.get? s.cmd.ctrls i).map (·.kato)).getD 0))) ∧
    (∃ (a : AdmCmd) (k : Option Nat) (fid : Nat) (s : State),
        AdminTaken a k s ∧
        fid ∉ [0x07, 0x0B, 0x0F]) := ⟨
    ⟨(admW (.fabric 2)), 1, 5, effectsPage, ctrlW, (((md .solo).host1 .tcp)), (adminTaken_of (by decide +kernel)), (by decide +kernel), (by decide +kernel), by simp⟩,
    ⟨(admW (.fabric 2)), 1, 4, (changedPage [1]), ({ ctrlW with changedNs := [1] } : Ctrl), (((md .solo).host1 .tcp fun c => { c with changedNs := [1] })), (adminTaken_of (by decide +kernel)), (by decide +kernel), (by decide +kernel), by simp⟩,
    ⟨(admW (.fabric 2)), 1, 3, ctrlW, (((md .solo).host1 .tcp)), (adminTaken_of (by decide +kernel)), by decide +kernel⟩,
    ⟨(admW (.fabric 2)), 1, ({ ctrlW with discovery := true } : Ctrl), (((md .solo).host1 .tcp fun c => { c with discovery := true })), (adminTaken_of (by decide +kernel)), by decide +kernel⟩,
    ⟨(admW (.attach 0)), 5, effectsPage, (((md .solo).att)), (adminTaken_of (by decide +kernel)), by simp⟩,
    ⟨(admW (.fabric 2)), (some 1), 0, 2, ((((md .solo).host1 .tcp).ns1)), .invalidNs, (adminTaken_of (by decide +kernel)), (error_of (by decide +kernel))⟩,
    ⟨(admW (.attach 0)), none, 5, 1, ((((md .solo).att).ns1)), .invalidField, (adminTaken_of (by decide +kernel)), (error_of (by decide +kernel))⟩,
    ⟨(admW (.fabric 2)), (some 1), 2, 0, ((((md .solo).host1 .tcp).ns1)), (okOf (identifyPage (admW (.fabric 2)) (some 1) 2 0 (((md .solo).host1 .tcp).ns1))), (adminTaken_of (by decide +kernel)), (okOf_eq (by decide +kernel))⟩,
    ⟨(admW (.fabric 2)), 2, 1, 1, 9, ctrlW, ((1, 1)), ((((md .solo).host1 .tcp).cmd1 (cmdW (.fabric 1) .read .waiting))), 1, (cmdW (.fabric 1) .read .waiting), (by decide +kernel), (adminTaken_of (by decide +kernel)), (by decide +kernel), (by decide +kernel), (by decide +kernel), (by decide +kernel), (by decide +kernel), (by decide +kernel), (by decide +kernel), (by decide +kernel), by decide +kernel⟩,
    ⟨(admW (.fabric 2)), 2, 1, 1, 8, ctrlW, ((1, 1)), ((((md .solo).host1 .tcp).cmd1 (cmdW (.fabric 1) .read .waiting))), (by decide +kernel), (adminTaken_of (by decide +kernel)), (by decide +kernel), (by decide +kernel), (by decide +kernel), (by decide +kernel), by decide +kernel⟩,
    ⟨(admW (.fabric 2)), 2, 1, 1, 8, ({ ctrlW with aborts := 8 } : Ctrl), ((1, 1)), (((md .solo).host1 .tcp fun c => { c with aborts := 8 })), (by decide +kernel), (adminTaken_of (by decide +kernel)), (by decide +kernel), (by decide +kernel), (by decide +kernel), by decide +kernel⟩,
    ⟨(admW (.fabric 2)), (some 1), (((md .solo).host1 .tcp)), 1, ctrlW, (adminTaken_of (by decide +kernel)), by decide +kernel⟩,
    ⟨(admW (.fabric 2)), (some 1), (((md .solo).host1 .tcp)), 1, ctrlW, (adminTaken_of (by decide +kernel)), by decide +kernel⟩,
    ⟨(admW (.attach 0)), none, (((md .solo).att)), (adminTaken_of (by decide +kernel)), by decide +kernel⟩,
    ⟨(admW (.fabric 2)), (some 1), (((md .solo).host1 .tcp)), (adminTaken_of (by decide +kernel))⟩,
    ⟨(admW (.attach 0)), none, (((md .solo).att)), (adminTaken_of (by decide +kernel))⟩,
    ⟨(admW (.fabric 2)), (some 1), (((md .solo).host1 .tcp)), (adminTaken_of (by decide +kernel))⟩,
    ⟨(admW (.fabric 2)), (some 1), (((md .solo).host1 .tcp)), 0x20, (adminTaken_of (by decide +kernel)), by decide +kernel⟩,
    ⟨(admW (.fabric 2)), (some 1), 7, (63 + 63 * 65536), (((md .solo).host1 .tcp)), (adminTaken_of (by decide +kernel)), by decide +kernel⟩,
    ⟨(admW (.fabric 2)), (some 1), 0x0F, 1000, (((md .solo).host1 .tcp)), (adminTaken_of (by decide +kernel)), by decide +kernel⟩,
    ⟨(admW (.attach 0)), none, 1, (((md .solo).att)), (adminTaken_of (by decide +kernel)), by decide +kernel⟩⟩

theorem test_meets_QueueRows :
    (∃ (a : AdmCmd) (id : Nat) (c : Ctrl) (s : State),
        AdminTaken a (some id) s ∧
        Tbl.get? s.cmd.ctrls id = some c ∧
        c.aers.length < 4 ∧
        c.changedNs = [] ∧
        c.logChanged = false) ∧
    (∃ (a : AdmCmd) (id : Nat) (c : Ctrl) (s : State),
        AdminTaken a (some id) s ∧
        Tbl.get? s.cmd.ctrls id = some c ∧
        c.aers.length < 4 ∧
        c.changedNs ≠ [] ∧
        c.nsNotice = false ∧
        noticeOn c.aenConfig 8 = true) ∧
    (∃ (a : AdmCmd) (id : Nat) (c : Ctrl) (s : State),
        AdminTaken a (some id) s ∧
        Tbl.get? s.cmd.ctrls id = some c ∧
        4 ≤ c.aers.length) ∧
    (∃ (a : AdmCmd) (s : State),
        AdminTaken a none s ∧
        s.attach.aers.length < 4 ∧
        s.attach.changedNs = [] ∧
        s.attach.anaChanged = false) ∧
    (∃ (a : AdmCmd) (s : State),
        AdminTaken a none s ∧
        4 ≤ s.attach.aers.length) ∧
    (∃ (k : Nat) (cid : Nat) (id : Nat) (s : State),
        AdminTaken (fabricsCmd k cid) (some id) s) ∧
    (∃ (q : Nat) (s : State),
        EntryWaits q s) ∧
    (∃ (qid : Nat) (size : Nat) (s : State) (st : _),
        EntryWaits 0 s ∧
        queueStatus qid size = some st) ∧
    (∃ (qid : Nat) (size : Nat) (s : State),
        EntryWaits 0 s ∧
        queueStatus qid size = none) ∧
    (∃ (qid : Nat) (size : Nat) (s : State),
        EntryWaits 0 s ∧
        queueStatus qid size = none) ∧
    (∃ (s : State),
        EntryWaits 0 s) ∧
    (∃ (s : State),
        EntryWaits 0 s) := ⟨
    ⟨(admW (.fabric 2)), 1, ctrlW, (((md .solo).host1 .tcp)), (adminTaken_of (by decide +kernel)), by decide +kernel⟩,
    ⟨(admW (.fabric 2)), 1, ({ ctrlW with changedNs := [1], aenConfig := 256 } : Ctrl), (((md .solo).host1 .tcp fun c => { c with changedNs := [1], aenConfig := 256 })), (adminTaken_of (by decide +kernel)), by decide +kernel⟩,
    ⟨(admW (.fabric 2)), 1, ({ ctrlW with aers := [1,2,3,4] } : Ctrl), (((md .solo).host1 .tcp fun c => { c with aers := [1,2,3,4] })), (adminTaken_of (by decide +kernel)), by decide +kernel⟩,
    ⟨(admW (.attach 0)), (((md .solo).att)), (adminTaken_of (by decide +kernel)), by decide +kernel⟩,
    ⟨(admW (.attach 0)), ((((md .solo).att).onAttach fun a => { a with aers := [1,2,3,4] })), (adminTaken_of (by decide +kernel)), by decide +kernel⟩,
    ⟨2, 7, 1, (((md .solo).host1 .tcp)), (adminTaken_of (by decide +kernel))⟩,
    ⟨1, (((md .solo).att)), (entryWaits_of (by decide +kernel))⟩,
    ⟨0, 16, (((md .solo).att)), .invalidQueue, (entryWaits_of (by decide +kernel)), by decide +kernel⟩,
    ⟨64, 1024, (((md .solo).att)), (entryWaits_of (by decide +kernel)), by decide +kernel⟩,
    ⟨64, 1024, (((md .solo).att)), (entryWaits_of (by decide +kernel)), by decide +kernel⟩,
    ⟨(((md .solo).att)), (entryWaits_of (by decide +kernel))⟩,
    ⟨((((md .solo).att).onAttach fun a => { a with cqs := a.cqs ++ [(2, attQNew 4 2)] })), (entryWaits_of (by decide +kernel))⟩⟩

theorem test_meets_IoRows :
    (∃ (k : Nat) (c : IoCmd) (x : Conn) (id : Nat) (s : State),
        c.src = .fabric k ∧
        inMode [.solo, .active, .quiesced] s = true ∧
        connOf s k = some x ∧
        x.ctrl = some id ∧
        x.qid ≠ 0 ∧
        contextsFull s = false ∧
        overrun k x c.cid s = false ∧
        (∀ p ∈ s.cmd.cmds, p.2.src ≠ c.src) ∧
        let answers := fun (o : Opc) (d : Bool) (r : List (Nat × Nat)) (u : State) => SentOn k [ioCpl k c (statusOf o c (subsysOf c.src s) d r s).1 s] s u
        let fails := fun (o : Opc) (d : Bool) (r : List (Nat × Nat)) => (statusOf o c (subsysOf c.src s) d r s).1 ≠ .success
        fails .flush false []) ∧
    (∃ (k : Nat) (c : IoCmd) (x : Conn) (id : Nat) (s : State),
        c.src = .fabric k ∧
        inMode [.solo, .active, .quiesced] s = true ∧
        connOf s k = some x ∧
        x.ctrl = some id ∧
        x.qid ≠ 0 ∧
        contextsFull s = false ∧
        overrun k x c.cid s = false ∧
        (∀ p ∈ s.cmd.cmds, p.2.src ≠ c.src) ∧
        let answers := fun (o : Opc) (d : Bool) (r : List (Nat × Nat)) (u : State) => SentOn k [ioCpl k c (statusOf o c (subsysOf c.src s) d r s).1 s] s u
        let fails := fun (o : Opc) (d : Bool) (r : List (Nat × Nat)) => (statusOf o c (subsysOf c.src s) d r s).1 ≠ .success
        fails .read false []) ∧
    (∃ (k : Nat) (c : IoCmd) (x : Conn) (id : Nat) (s : State),
        c.src = .fabric k ∧
        inMode [.solo, .active, .quiesced] s = true ∧
        connOf s k = some x ∧
        x.ctrl = some id ∧
        x.qid ≠ 0 ∧
        contextsFull s = false ∧
        overrun k x c.cid s = false ∧
        (∀ p ∈ s.cmd.cmds, p.2.src ≠ c.src) ∧
        let answers := fun (o : Opc) (d : Bool) (r : List (Nat × Nat)) (u : State) => SentOn k [ioCpl k c (statusOf o c (subsysOf c.src s) d r s).1 s] s u
        let fails := fun (o : Opc) (d : Bool) (r : List (Nat × Nat)) => (statusOf o c (subsysOf c.src s) d r s).1 ≠ .success
        fails .write false []) ∧
    (∃ (k : Nat) (c : IoCmd) (x : Conn) (id : Nat) (s : State),
        c.src = .fabric k ∧
        inMode [.solo, .active, .quiesced] s = true ∧
        connOf s k = some x ∧
        x.ctrl = some id ∧
        x.qid ≠ 0 ∧
        contextsFull s = false ∧
        overrun k x c.cid s = false ∧
        (∀ p ∈ s.cmd.cmds, p.2.src ≠ c.src) ∧
        let answers := fun (o : Opc) (d : Bool) (r : List (Nat × Nat)) (u : State) => SentOn k [ioCpl k c (statusOf o c (subsysOf c.src s) d r s).1 s] s u
        let fails := fun (o : Opc) (d : Bool) (r : List (Nat × Nat)) => (statusOf o c (subsysOf c.src s) d r s).1 ≠ .success
        fails .writeZeroes false []) ∧
    (∃ (k : Nat) (c : IoCmd) (dealloc : Bool) (ranges : List (Nat × Nat)) (x : Conn) (id : Nat) (s : State),
        c.src = .fabric k ∧
        inMode [.solo, .active, .quiesced] s = true ∧
        connOf s k = some x ∧
        x.ctrl = some id ∧
        x.qid ≠ 0 ∧
        contextsFull s = false ∧
        overrun k x c.cid s = false ∧
        (∀ p ∈ s.cmd.cmds, p.2.src ≠ c.src) ∧
        let answers := fun (o : Opc) (d : Bool) (r : List (Nat × Nat)) (u : State) => SentOn k [ioCpl k c (statusOf o c (subsysOf c.src s) d r s).1 s] s u
        let fails := fun (o : Opc) (d : Bool) (r : List (Nat × Nat)) => (statusOf o c (subsysOf c.src s) d r s).1 ≠ .success
        (ranges = [] ∨ dealloc = true) ∧
        fails .dsm dealloc ranges) ∧
    (∃ (t : Time) (c : IoCmd) (ns : Nat) (host : Nat) (s : State),
        IoTaken .flush c ns host false [] t s) ∧
    (∃ (t : Time) (c : IoCmd) (ns : Nat) (host : Nat) (s : State),
        IoTaken .flush c ns host false [] t s) ∧
    (∃ (t : Time) (c : IoCmd) (ns : Nat) (host : Nat) (k : Nat) (b : Nat) (buf : Buf) (s : State),
        c.src = .fabric k ∧
        IoTaken .read c ns host false [] t s ∧
        matching (cmdNew .read c ns host none 0 0 0 []) (advance t s) = some (b, buf) ∧
        buf.state ≠ .filling ∧
        (∀ q ∈ s.pair.planned, q.conn ≠ k)) ∧
    (∃ (t : Time) (c : IoCmd) (ns : Nat) (host : Nat) (s : State),
        IoTaken .read c ns host false [] t s ∧
        matching (cmdNew .read c ns host none 0 0 0 []) (advance t s) = none ∧
        grants s poolPour c.nlb = false) ∧
    (∃ (t : Time) (c : IoCmd) (ns : Nat) (host : Nat) (s : State),
        IoTaken .read c ns host false [] t s ∧
        matching (cmdNew .read c ns host none 0 0 0 []) (advance t s) = none ∧
        grants s poolPour c.nlb = false) ∧
    (∃ (t : Time) (c : IoCmd) (ns : Nat) (host : Nat) (s : State) (k : _) (x : _),
        IoTaken .write c ns host false [] t s ∧
        exhaustedNow s = false ∧
        s.media.floorRo = false ∧
        noBand8 s = false ∧
        s.cmd.solicitQ = [] ∧
        c.src = .fabric k ∧
        connOf s k = some x ∧
        (x.info.kind = .rdma → 0 < x.info.respRes) ∧
        grants (giveBack (rxPool x) (x.capsules.headD 0) s) poolWriteIn c.nlb = true) ∧
    (∃ (t : Time) (c : IoCmd) (ns : Nat) (host : Nat) (s : State) (k : _) (x : _),
        IoTaken .write c ns host false [] t s ∧
        exhaustedNow s = false ∧
        s.media.floorRo = false ∧
        noBand8 s = false ∧
        s.cmd.solicitQ = [] ∧
        c.src = .fabric k ∧
        connOf s k = some x ∧
        (x.info.kind = .rdma → 0 < x.info.respRes) ∧
        grants (giveBack (rxPool x) (x.capsules.headD 0) s) poolWriteIn c.nlb = true) ∧
    (∃ (t : Time) (c : IoCmd) (ns : Nat) (host : Nat) (s : State) (q : _),
        IoTaken .write c ns host false [] t s ∧
        exhaustedNow s = false ∧
        s.media.floorRo = false ∧
        noBand8 s = false ∧
        s.cmd.solicitQ = [] ∧
        c.src = .attach q ∧
        grants s poolAttach c.nlb = true) ∧
    (∃ (t : Time) (c : IoCmd) (ns : Nat) (host : Nat) (k : Nat) (x : Conn) (l : List Bytes) (s : State),
        c.src = .fabric k ∧
        IoTaken .write c ns host false [] t s ∧
        exhaustedNow s = false ∧
        s.media.floorRo = false ∧
        noBand8 s = false ∧
        connOf s k = some x ∧
        l.length ≤ 2 ∧
        (x.capsules = [] → grants s (rxPool x) l.length = true)) ∧
    (∃ (t : Time) (c : IoCmd) (ns : Nat) (host : Nat) (s : State),
        IoTaken .writeZeroes c ns host false [] t s ∧
        exhaustedNow s = false ∧
        s.media.floorRo = false ∧
        noBand8 s = false ∧
        partLbs c.slba c.nlb s = []) ∧
    (∃ (t : Time) (c : IoCmd) (ns : Nat) (host : Nat) (s : State),
        IoTaken .writeZeroes c ns host false [] t s ∧
        exhaustedNow s = false ∧
        s.media.floorRo = false ∧
        noBand8 s = false ∧
        partLbs c.slba c.nlb s = []) ∧
    (∃ (t : Time) (c : IoCmd) (ns : Nat) (host : Nat) (s : State),
        IoTaken .writeZeroes c ns host false [] t s ∧
        exhaustedNow s = false ∧
        s.media.floorRo = false ∧
        noBand8 s = false ∧
        partLbs c.slba c.nlb s ≠ [] ∧
        wholeLbs ns c.slba c.nlb s = []) ∧
    (∃ (t : Time) (c : IoCmd) (ns : Nat) (host : Nat) (s : State),
        IoTaken .writeZeroes c ns host false [] t s ∧
        exhaustedNow s = false ∧
        s.media.floorRo = false ∧
        noBand8 s = false ∧
        partLbs c.slba c.nlb s ≠ [] ∧
        wholeLbs ns c.slba c.nlb s = []) ∧
    (∃ (t : Time) (c : IoCmd) (ns : Nat) (host : Nat) (ranges : List (Nat × Nat)) (s : State),
        IoTaken .dsm c ns host true ranges t s) ∧
    (∃ (t : Time) (c : IoCmd) (ns : Nat) (host : Nat) (ranges : List (Nat × Nat)) (s : State),
        IoTaken .dsm c ns host true ranges t s) ∧
    (∃ (k : Nat) (ttag : Nat) (off : Nat) (sectors : List Bytes) (x : Conn) (s : State) (n : _) (c : _) (i : _),
        Deciding s ∧
        connOf s k = some x ∧
        let hit := s.cmd.cmds.find? fun p => decide (p.2.src = .fabric k) && p.2.ttag = ttag && decide (p.2.phase = .receiving)
        hit = some (n, c) ∧
        cmdOf s n = some c ∧
        off + sectors.length ≤ c.nlb ∧
        i < sectors.length ∧
        off + i < c.data.length) ∧
    (∃ (k : Nat) (ttag : Nat) (x : Conn) (s : State),
        Deciding s ∧
        connOf s k = some x ∧
        let hit := s.cmd.cmds.find? fun p => decide (p.2.src = .fabric k) && p.2.ttag = ttag && decide (p.2.phase = .receiving)
        hit = none) := ⟨
    ⟨1, ({ ioW (.fabric 1) with nsid := 5 } : IoCmd), ({ connW .tcp with host := 1 } : Conn), 1, ((((md .solo).host1 .tcp).ns1)), (by decide +kernel), (by decide +kernel), (by decide +kernel), (by decide +kernel), (by decide +kernel), (by decide +kernel), (by decide +kernel), (by decide +kernel), by decide +kernel⟩,
    ⟨1, ({ ioW (.fabric 1) with nsid := 5 } : IoCmd), ({ connW .tcp with host := 1 } : Conn), 1, ((((md .solo).host1 .tcp).ns1)), (by decide +kernel), (by decide +kernel), (by decide +kernel), (by decide +kernel), (by decide +kernel), (by decide +kernel), (by decide +kernel), (by decide +kernel), by decide +kernel⟩,
    ⟨1, ({ ioW (.fabric 1) with nsid := 5 } : IoCmd), ({ connW .tcp with host := 1 } : Conn), 1, ((((md .solo).host1 .tcp).ns1)), (by decide +kernel), (by decide +kernel), (by decide +kernel), (by decide +kernel), (by decide +kernel), (by decide +kernel), (by decide +kernel), (by decide +kernel), by decide +kernel⟩,
    ⟨1, ({ ioW (.fabric 1) with nsid := 5 } : IoCmd), ({ connW .tcp with host := 1 } : Conn), 1, ((((md .solo).host1 .tcp).ns1)), (by decide +kernel), (by decide +kernel), (by decide +kernel), (by decide +kernel), (by decide +kernel), (by decide +kernel), (by decide +kernel), (by decide +kernel), by decide +kernel⟩,
    ⟨1, ({ ioW (.fabric 1) with nsid := 5 } : IoCmd), true, ([] : List (Nat × Nat)), ({ connW .tcp with host := 1 } : Conn), 1, ((((md .solo).host1 .tcp).ns1)), (by decide +kernel), (by decide +kernel), (by decide +kernel), (by decide +kernel), (by decide +kernel), (by decide +kernel), (by decide +kernel), (by decide +kernel), (by decide +kernel), by decide +kernel⟩,
    ⟨5, (ioW (.fabric 1)), 1, 1, ((((md .solo).host1 .tcp).ns1)), (ioTaken_of (by decide +kernel))⟩,
    ⟨5, (ioW (.fabric 1)), 1, 1, (((((md .active).linked).host1 .tcp).ns1)), (ioTaken_of (by decide +kernel))⟩,
    ⟨5, (ioW (.fabric 1)), 1, 1, 1, 1, bufW, (((((md .solo).host1 .tcp).ns1).buf1 bufW)), (by decide +kernel), (ioTaken_of (by decide +kernel)), by decide +kernel⟩,
    ⟨5, (ioW (.fabric 1)), 1, 1, (((((md .solo).host1 .tcp).ns1).onPools fun v => updNat v 0 fun q => { q with used := 10485760 })), (ioTaken_of (by decide +kernel)), by decide +kernel⟩,
    ⟨5, (ioW (.attach 1)), 1, 1, (((((md .solo).att).ns1).onPools fun v => updNat v 0 fun q => { q with used := 10485760 })), (ioTaken_of (by decide +kernel)), by decide +kernel⟩,
    ⟨5, (ioW (.fabric 1)), 1, 1, ((((md .solo).host1 .tcp).ns1)), 1, ({ connW .tcp with host := 1 }), (ioTaken_of (by decide +kernel)), by decide +kernel⟩,
    ⟨5, (ioW (.fabric 1)), 1, 1, (((((md .solo).host1 .rdma).ns1).onConns fun m => Tbl.put m 1 { connW .rdma with host := 1, info := { infoW .rdma with respRes := 4 } })), 1, ({ connW .rdma with host := 1, info := { infoW .rdma with respRes := 4 } }), (ioTaken_of (by decide +kernel)), by decide +kernel⟩,
    ⟨5, (ioW (.attach 1)), 1, 1, ((((md .solo).att).ns1)), 1, (ioTaken_of (by decide +kernel)), by decide +kernel⟩,
    ⟨5, (ioW (.fabric 1)), 1, 1, 1, ({ connW .tcp with host := 1 } : Conn), ([[1],[2]] : List Bytes), ((((md .solo).host1 .tcp).ns1)), (by decide +kernel), (ioTaken_of (by decide +kernel)), by decide +kernel⟩,
    ⟨5, ({ ioW (.fabric 1) with nlb := 512 } : IoCmd), 1, 1, ((((md .solo).host1 .tcp).ns1)), (ioTaken_of (by decide +kernel)), by decide +kernel⟩,
    ⟨5, ({ ioW (.attach 1) with nlb := 512 } : IoCmd), 1, 1, ((((md .solo).att).ns1)), (ioTaken_of (by decide +kernel)), by decide +kernel⟩,
    ⟨5, (ioW (.fabric 1)), 1, 1, ((((md .solo).host1 .tcp).ns1)), (ioTaken_of (by decide +kernel)), by decide +kernel⟩,
    ⟨5, (ioW (.fabric 1)), 1, 1, (((((md .active).linked).host1 .tcp).ns1)), (ioTaken_of (by decide +kernel)), by decide +kernel⟩,
    ⟨5, (ioW (.fabric 1)), 1, 1, ([(0, 512)] : List (Nat × Nat)), ((((md .solo).host1 .tcp).ns1)), (ioTaken_of (by decide +kernel))⟩,
    ⟨5, (ioW (.attach 1)), 1, 1, ([(0, 512)] : List (Nat × Nat)), ((((md .solo).att).ns1)), (ioTaken_of (by decide +kernel))⟩,
    ⟨1, 4, 1, ([[5]] : List Bytes), ({ connW .tcp with host := 1 } : Conn), (((((md .solo).host1 .tcp).ns1).cmd1 (cmdW (.fabric 1) .write .receiving))), 1, (cmdW (.fabric 1) .write .receiving), 0, (by unfold Deciding; decide +kernel), (by decide +kernel), (by decide +kernel), (by decide +kernel), (by decide +kernel), (by decide +kernel), by decide +kernel⟩,
    ⟨1, 5, ({ connW .tcp with host := 1 } : Conn), (((((md .solo).host1 .tcp).ns1).cmd1 (cmdW (.fabric 1) .write .receiving))), (by unfold Deciding; decide +kernel), (by decide +kernel), by decide +kernel⟩⟩

theorem test_meets_AdmissionRows :
    (∃ (t : Time) (n : Nat) (k : Nat) (c : Cmd) (x : Conn) (s : State),
        inMode [.solo, .active] s = true ∧
        s.cmd.cmds.filter (fun p => p.2.phase = .held) = [(n, c)] ∧
        cmdOf s n = some c ∧
        c.src = .fabric k ∧
        connOf s k = some x ∧
        c.opc = .flush ∧
        c.status = .success ∧
        c.orphan = false ∧
        c.bmeHeld = false ∧
        (admission c (advance t s)).isSome ∧
        startable n c s = true) ∧
    (∃ (n : Nat) (k : Nat) (c : Cmd) (x : Conn) (s : State),
        inMode [.solo, .active] s = true ∧
        s.cmd.cmds.filter (fun p => decide (p.2.src = c.src) && decide (p.2.phase = .waiting)) = [(n, c)] ∧
        cmdOf s n = some c ∧
        c.src = .fabric k ∧
        connOf s k = some x ∧
        c.opc = .flush ∧
        c.status = .success ∧
        c.orphan = false ∧
        c.bmeHeld = false ∧
        startable n c s = true) := ⟨
    ⟨5, 1, 1, (cmdW (.fabric 1) .flush .held), ({ connW .tcp with host := 1 } : Conn), (((((md .solo).host1 .tcp).ns1).cmd1 (cmdW (.fabric 1) .flush .held))), by decide +kernel⟩,
    ⟨1, 1, (cmdW (.fabric 1) .flush .waiting), ({ connW .tcp with host := 1 } : Conn), (((((md .solo).host1 .tcp).ns1).cmd1 (cmdW (.fabric 1) .flush .waiting))), by decide +kernel⟩⟩

theorem test_meets_GranuleRequestRule :
    (∃ (n : Nat) (s : State),
        s.cmd.solicitQ = [] ∧
        s.pot.missQ = [] ∧
        s.mode.mode.potEmpty = false ∧
        1 ≤ n ∧
        n ≤ 2048) ∧
    (∃ (n : Nat) (s : State),
        s.cmd.solicitQ = [] ∧
        s.pot.missQ = [] ∧
        s.mode.mode.potEmpty = false ∧
        1 ≤ n ∧
        n ≤ 2048) := ⟨
    ⟨1, ((md .solo)), (by decide +kernel), (by decide +kernel), (by decide +kernel), (by decide +kernel), by decide +kernel⟩,
    ⟨2048, (((md .solo).onPools fun v => updNat v 1 fun q => { q with used := 1048576 - 2047 })), (by decide +kernel), (by decide +kernel), (by decide +kernel), (by decide +kernel), by decide +kernel⟩⟩

theorem test_meets_PotRows :
    (∃ (n : Nat) (id : Nat) (k : Nat) (c : Cmd) (s : State),
        ((List.range 32).filterMap fun p => (solicitOf p s).head?).find? (fun id => ((cmdOf s id).map (·.nlb)) = some n) = some id ∧
        cmdOf s id = some c ∧
        c.src = .fabric k ∧
        grants s poolWriteIn c.nlb = true) ∧
    (∃ (t : Time) (id : Nat) (b : Nat) (c : Cmd) (buf : Buf) (s : State),
        inMode [.solo, .active, .quiesced] s = true ∧
        s.pot.missQ = [id] ∧
        cmdOf s id = some c ∧
        matching c (advance t s) = some (b, buf) ∧
        Tbl.get? s.pot.bufs b = some buf ∧
        buf.state = .filling) ∧
    (∃ (t : Time) (id : Nat) (b : Nat) (c : Cmd) (buf : Buf) (s : State),
        inMode [.solo, .active, .quiesced] s = true ∧
        s.pot.missQ = [id] ∧
        cmdOf s id = some c ∧
        matching c (advance t s) = some (b, buf) ∧
        Tbl.get? s.pot.bufs b = some buf ∧
        buf.state = .filling ∧
        s.cmd.solicitQ = [] ∧
        s.xlat.jobs = [] ∧
        s.xlat.progs = [] ∧
        s.media.recons = []) ∧
    (∃ (id : Nat) (k : Nat) (c : Cmd) (x : Conn) (s : State),
        inMode [.solo, .active] s = true ∧
        s.cmd.solicitQ = [id] ∧
        cmdOf s id = some c ∧
        c.src = .fabric k ∧
        connOf s k = some x ∧
        x.info.port < 32 ∧
        maySolicit c s = true ∧
        grants s poolWriteIn c.nlb = true) ∧
    (∃ (b : Nat) (s : State) (buf : _),
        inMode [.solo, .active, .quiesced] s = true ∧
        Tbl.get? s.pot.bufs b = some buf ∧
        2 ≤ buf.count) ∧
    (∃ (b : Nat) (s : State) (buf : _),
        inMode [.solo, .active, .quiesced] s = true ∧
        Tbl.get? s.pot.bufs b = some buf ∧
        buf.count = 1) ∧
    (∃ (b : Nat) (s : State) (buf : _),
        inMode [.solo, .active, .quiesced] s = true ∧
        Tbl.get? s.pot.bufs b = some buf ∧
        buf.count = 0) ∧
    (∃ (t : Time) (b : Nat) (buf : Buf) (s : State),
        s.mode.mode.potEmpty = false ∧
        Tbl.get? s.pot.bufs b = some buf ∧
        buf.openedAt + cfg 0x4101 s ≤ max s.now t) ∧
    (∃ (b : Nat) (buf : Buf) (s : State),
        pourFree s < cfg 0x4104 s ∧
        pourFree s < cfg 0x4105 s ∧
        s.pot.hand = some b ∧
        Tbl.get? s.pot.bufs b = some buf ∧
        buf.count = 1 ∧
        buf.f = 0) ∧
    (∃ (t : Time) (w : Write) (x : Session) (c : WCtx) (s : State),
        WriteTaken 0x4100 noCheck t w x c s ∧
        poolUsed s poolPour ≤ w.val.toNat * 256) := ⟨
    ⟨2, 1, 1, ({ cmdW (.fabric 1) .write .solicit with nlb := 2 } : Cmd), ((((((md .solo).host1 .tcp).ns1).cmd1 { cmdW (.fabric 1) .write .solicit with nlb := 2 }).onCmd fun d => { d with solicitQ := [1] })), by decide +kernel⟩,
    ⟨5, 1, 1, ({ cmdW (.fabric 1) .read .missQ with nlb := 2 } : Cmd), ({ bufW with state := .filling } : Buf), (((((((md .solo).host1 .tcp).ns1).cmd1 { cmdW (.fabric 1) .read .missQ with nlb := 2 }).buf1 { bufW with state := .filling }).onPot fun p => { p with missQ := [1] })), by decide +kernel⟩,
    ⟨5, 1, 1, ({ cmdW (.fabric 1) .read .missQ with nlb := 2 } : Cmd), ({ bufW with state := .filling } : Buf), (((((((md .solo).host1 .tcp).ns1).cmd1 { cmdW (.fabric 1) .read .missQ with nlb := 2 }).buf1 { bufW with state := .filling }).onPot fun p => { p with missQ := [1] })), by decide +kernel⟩,
    ⟨1, 1, ({ cmdW (.fabric 1) .write .solicit with nlb := 2 } : Cmd), ({ connW .tcp with host := 1 } : Conn), ((((((md .solo).host1 .tcp).ns1).cmd1 { cmdW (.fabric 1) .write .solicit with nlb := 2 }).onCmd fun d => { d with solicitQ := [1] })), by decide +kernel⟩,
    ⟨1, (((md .solo).buf1 { bufW with count := 2 })), ({ bufW with count := 2 }), by decide +kernel⟩,
    ⟨1, (((md .solo).buf1 { bufW with count := 1 })), ({ bufW with count := 1 }), by decide +kernel⟩,
    ⟨1, (((md .solo).buf1 { bufW with count := 0 })), ({ bufW with count := 0 }), by decide +kernel⟩,
    ⟨100000000, 1, bufW, (((md .solo).buf1 bufW)), by decide +kernel⟩,
    ⟨1, bufW, ((((md .solo).buf1 bufW).onPot fun p => { p with ring := [1], hand := some 1 }).onPools fun v => updNat v 0 fun q => { q with used := 10485760 }), by decide +kernel⟩,
    ⟨5, ({ sess := 1, sub := 0, val := .num 4096 } : Write), _, _, ((md .isolated).sess), (taken_of (by decide +kernel)), by decide +kernel⟩⟩

theorem test_meets_CipherUnitRows :
    (∃ (id : Nat) (v : CUnit) (a : BitVec 64) (b : BitVec 64) (ta : Bool) (tb : Bool) (s : State) (n : _) (i : _) (j : _) (c : _),
        Tbl.get? s.cipher.units id = some v ∧
        v.held = false ∧
        unitAgrees v a b ta tb = true ∧
        v.op = .write n i ∧
        cmdOf s n = some c ∧
        c.phase = .encrypting ∧
        i < c.enc.length ∧
        j ≠ i ∧
        c.enc[j]? = some none) ∧
    (∃ (id : Nat) (v : CUnit) (a : BitVec 64) (b : BitVec 64) (ta : Bool) (tb : Bool) (s : State) (n : _) (i : _) (j : _) (buf : _),
        Tbl.get? s.cipher.units id = some v ∧
        v.held = false ∧
        unitAgrees v a b ta tb = true ∧
        v.op = .hostRead n i ∧
        Tbl.get? s.pot.bufs n = some buf ∧
        buf.state = .filling ∧
        i < buf.data.length ∧
        j ≠ i ∧
        buf.data[j]? = some none ∧
        s.mode.mode.potEmpty = false) ∧
    (∃ (id : Nat) (v : CUnit) (a : BitVec 64) (b : BitVec 64) (ta : Bool) (tb : Bool) (s : State) (k : _) (ct : _) (len : _) (fault : _) (x : _),
        Tbl.get? s.cipher.units id = some v ∧
        v.held = false ∧
        unitAgrees v a b ta tb = true ∧
        v.op = .ingress k ct len fault ∧
        k ∈ s.cipher.resident ∧
        recordBefore id v s = false ∧
        connOf s k = some x ∧
        ta = true ∧
        ingressFault x ct fault = none) ∧
    (∃ (id : Nat) (v : CUnit) (a : BitVec 64) (b : BitVec 64) (ta : Bool) (tb : Bool) (s : State) (k : _) (ct : _) (len : _) (fault : _) (x : _) (code : _),
        Tbl.get? s.cipher.units id = some v ∧
        v.held = false ∧
        unitAgrees v a b ta tb = true ∧
        v.op = .ingress k ct len fault ∧
        k ∈ s.cipher.resident ∧
        recordBefore id v s = false ∧
        connOf s k = some x ∧
        ta = true ∧
        ingressFault x ct fault = some code ∧
        decides s = true) ∧
    (∃ (id : Nat) (v : CUnit) (a : BitVec 64) (b : BitVec 64) (ta : Bool) (tb : Bool) (s : State) (k : _) (ct : _) (len : _) (fault : _) (x : _) (code : _),
        Tbl.get? s.cipher.units id = some v ∧
        v.held = false ∧
        unitAgrees v a b ta tb = true ∧
        v.op = .ingress k ct len fault ∧
        k ∈ s.cipher.resident ∧
        recordBefore id v s = false ∧
        connOf s k = some x ∧
        ta = true ∧
        ingressFault x ct fault = some code ∧
        decides s = true) ∧
    (∃ (id : Nat) (v : CUnit) (a : BitVec 64) (b : BitVec 64) (ta : Bool) (tb : Bool) (s : State) (p : _) (k : _) (off : _) (len : _) (last : _) (m : _) (h : _) (pr : _) (q : _) (x : _),
        Tbl.get? s.cipher.units id = some v ∧
        v.held = false ∧
        unitAgrees v a b ta tb = true ∧
        v.op = .egress p k off len last m h pr ∧
        k ∈ s.cipher.resident ∧
        recordBefore id v s = false ∧
        flowOf s k = some x ∧
        transmits s = true ∧
        atNat s.egress.ports p = some q) ∧
    (∃ (id : Nat) (v : CUnit) (a : BitVec 64) (b : BitVec 64) (ta : Bool) (tb : Bool) (s : State) (p : _) (k : _) (off : _) (len : _) (last : _) (m : _) (h : _) (pr : _) (q : _) (x : _),
        Tbl.get? s.cipher.units id = some v ∧
        v.held = false ∧
        unitAgrees v a b ta tb = true ∧
        v.op = .egress p k off len last m h pr ∧
        k ∈ s.cipher.resident ∧
        recordBefore id v s = false ∧
        flowOf s k = some x ∧
        transmits s = true ∧
        atNat s.egress.ports p = some q) ∧
    (∃ (id : Nat) (v : CUnit) (s : State),
        Tbl.get? s.cipher.units id = some v ∧
        v.held = false ∧
        unitConn v = none) ∧
    (∃ (id : Nat) (v : CUnit) (a : BitVec 64) (b : BitVec 64) (s : State),
        Tbl.get? s.cipher.units id = some v ∧
        v.held = false ∧
        unitConn v = none ∧
        v.laneA ≠ v.laneB ∧
        a ≠ b ∧
        2 ≤ (retryLanes v s).length) := ⟨
    ⟨1, (unitW (.write 1 1)), 5, 5, true, true, ((((((md .solo).host1 .tcp).ns1).cmd1 { cmdW (.fabric 1) .write .encrypting with enc := [none, none] }).unit1 (.write 1 1))), 1, 1, 0, ({ cmdW (.fabric 1) .write .encrypting with enc := [none, none] }), by decide +kernel⟩,
    ⟨1, (unitW (.hostRead 1 1)), 5, 5, true, true, ((((((md .solo).host1 .tcp).ns1).buf1 { bufW with state := .filling, data := [none, none] }).unit1 (.hostRead 1 1))), 1, 1, 0, ({ bufW with state := .filling, data := [none, none] }), by decide +kernel⟩,
    ⟨1, (unitW (.ingress 1 22 9 none)), 5, 5, true, true, (((((md .solo).host1 .tcp).ns1).unit1 (.ingress 1 22 9 none))), 1, 22, 9, none, ({ connW .tcp with host := 1 }), by decide +kernel⟩,
    ⟨1, (unitW (.ingress 1 23 9 none)), 5, 5, true, true, (((((md .solo).host1 .tcp).ns1).unit1 (.ingress 1 23 9 none))), 1, 23, 9, none, ({ connW .tcp with host := 1 }), 10, by decide +kernel⟩,
    ⟨1, (unitW (.ingress 1 22 9 (some 51))), 5, 5, true, true, (((((md .solo).host1 .tcp).ns1).unit1 (.ingress 1 22 9 (some 51)))), 1, 22, 9, (some 51), ({ connW .tcp with host := 1 }), 51, by decide +kernel⟩,
    ⟨1, (unitW (.egress 0 1 0 9 true .fin fhW none)), 5, 5, true, true, ((((((md .solo).host1 .tcp).ns1).onEgress fun e => { e with ports := updNat e.ports 0 fun x => { x with pipeline := 2 } }).unit1 (.egress 0 1 0 9 true .fin fhW none))), 0, 1, 0, 9, true, .fin, fhW, none, ({ v := 0, ctrlQ := [], pipeline := 2 }), ({ connW .tcp with host := 1 }), by decide +kernel⟩,
    ⟨1, (unitW (.egress 0 1 0 9 false .fin fhW none)), 5, 5, true, true, ((((((md .solo).host1 .tcp).ns1).onEgress fun e => { e with ports := updNat e.ports 0 fun x => { x with pipeline := 2 } }).unit1 (.egress 0 1 0 9 false .fin fhW none))), 0, 1, 0, 9, false, .fin, fhW, none, ({ v := 0, ctrlQ := [], pipeline := 2 }), ({ connW .tcp with host := 1 }), by decide +kernel⟩,
    ⟨1, (unitW (.write 1 1)), (((((md .solo).host1 .tcp).ns1).unit1 (.write 1 1))), by decide +kernel⟩,
    ⟨1, (unitW (.write 1 1)), 5, 6, (((((md .solo).host1 .tcp).ns1).unit1 (.write 1 1))), by decide +kernel⟩⟩

theorem test_meets_IngressTagFailure :
    (∃ (id : Nat) (k : Nat) (ct : Nat) (len : Nat) (fault : Option Nat) (v : CUnit) (x : Conn) (s : State),
        Tbl.get? s.cipher.units id = some v ∧
        v.op = .ingress k ct len fault ∧
        v.held = false ∧
        k ∈ s.cipher.resident ∧
        recordBefore id v s = false ∧
        connOf s k = some x ∧
        x.info.kind = .tcp ∧
        (x.tls.skipEarly && !x.tls.finished) = false ∧
        transmits s = true ∧
        (∀ p ∈ s.conns, p.2.refs = [] ∧ p.1 < closingBase)) ∧
    (∃ (id : Nat) (k : Nat) (ct : Nat) (len : Nat) (fault : Option Nat) (v : CUnit) (x : Conn) (s : State),
        Tbl.get? s.cipher.units id = some v ∧
        v.op = .ingress k ct len fault ∧
        v.held = false ∧
        k ∈ s.cipher.resident ∧
        recordBefore id v s = false ∧
        connOf s k = some x ∧
        x.info.kind = .tcp ∧
        (x.tls.skipEarly && !x.tls.finished) = false ∧
        transmits s = true ∧
        (∀ p ∈ s.conns, p.2.refs = [] ∧ p.1 < closingBase)) := ⟨
    ⟨1, 1, 23, 9, none, (unitW (.ingress 1 23 9 none)), ({ connW .tcp with host := 1 } : Conn), (((((md .solo).host1 .tcp).ns1).unit1 (.ingress 1 23 9 none))), by decide +kernel⟩,
    ⟨1, 1, 23, 9, none, (unitW (.ingress 1 23 9 none)), ({ connW .tcp with host := 1 } : Conn), ((((((md .active).linked).host1 .tcp).ns1).unit1 (.ingress 1 23 9 none))), by decide +kernel⟩⟩

theorem test_meets_SharedCellRule :
    (∃ (inp : SwPort) (out : SwPort) (m : CoreMsg) (s : State),
        let k := voqKey inp.val out.val (kindClass m.kind)
        let q := voqAt k s
        let a := (dval 0x4202 0 0 s).toInt
        let free := s.core.sharedFree
        let below : Prop := if 0 ≤ a then voqShared q < free * 2 ^ a.toNat else voqShared q * 2 ^ (-a).toNat < free
        inp ≠ out ∧
        outputShut out.val s = false ∧
        m.names = none ∧
        offersAt k s = [] ∧
        16 ≤ voqReserved q) ∧
    (∃ (inp : SwPort) (out : SwPort) (m : CoreMsg) (s : State),
        let k := voqKey inp.val out.val (kindClass m.kind)
        let q := voqAt k s
        let a := (dval 0x4202 0 0 s).toInt
        let free := s.core.sharedFree
        let below : Prop := if 0 ≤ a then voqShared q < free * 2 ^ a.toNat else voqShared q * 2 ^ (-a).toNat < free
        inp ≠ out ∧
        outputShut out.val s = false ∧
        m.names = none ∧
        offersAt k s = [] ∧
        16 ≤ voqReserved q) := ⟨
    ⟨1, 2, ({ kind := .stripe, num := 1, bytes := [], names := none } : CoreMsg), (((md .solo).voq (voqKey 1 2 2) (voqW 16 0)).onCore fun c => { c with sharedFree := 140928 }), (by decide +kernel), (by decide +kernel), (by decide +kernel), (by decide +kernel), by decide +kernel⟩,
    ⟨1, 2, ({ kind := .stripe, num := 1, bytes := [], names := none } : CoreMsg), ((((md .solo).voq (voqKey 1 2 2) (voqW 16 1)).onCore fun c => { c with sharedFree := 9 }).num 0x4202 0 0 (-3)), (by decide +kernel), (by decide +kernel), (by decide +kernel), (by decide +kernel), by decide +kernel⟩⟩

theorem test_meets_SwitchCoreRows :
    (∃ (inp : SwPort) (out : SwPort) (m : CoreMsg) (s : State),
        let k := voqKey inp.val out.val (kindClass m.kind)
        inp ≠ out ∧
        outputShut out.val s = false ∧
        m.names = none ∧
        offersAt k s = [] ∧
        voqReserved (voqAt k s) + msgCells m ≤ 16) ∧
    (∃ (inp : SwPort) (out : SwPort) (m : CoreMsg) (s : State),
        let k := voqKey inp.val out.val (kindClass m.kind)
        inp ≠ out ∧
        m.names = none ∧
        offersAt k s = [] ∧
        (outputShut out.val s = true ∨ (16 ≤ voqReserved (voqAt k s) ∧ sharedGrant (voqShared (voqAt k s)) s.core.sharedFree (sharedAlpha s) = false))) ∧
    (∃ (inp : SwPort) (out : SwPort) (m : CoreMsg) (n : Nat) (s : State),
        inp ≠ out ∧
        m.names = some n ∧
        (inp.val, n) ∉ s.core.acks) ∧
    (∃ (out : SwPort) (i : Nat) (cls : Nat) (c : Cell) (rest : List Cell) (s : State),
        let k := voqKey i out.val cls
        (slotClass out.val s).1 = some cls ∧
        nextInput out.val cls s = some i ∧
        (voqAt k s).cells = c :: rest ∧
        offersAt k s = []) ∧
    (∃ (out : SwPort) (i : Nat) (cls : Nat) (c : Cell) (rest : List Cell) (s : State),
        let k := voqKey i out.val cls
        (slotClass out.val s).1 = some cls ∧
        nextInput out.val cls s = some i ∧
        (voqAt k s).cells = c :: rest ∧
        offersAt k s = []) ∧
    (∃ (out : SwPort) (s : State),
        classReady out.val 0 s = true ∧
        (((Tbl.get? s.core.hist out.val).getD []).filter id).length < cfg 0x4201 s) ∧
    (∃ (out : SwPort) (inp : SwPort) (cls : SwClass) (ecc : Fin 3) (c : Cell) (rest : List Cell) (s : State),
        let k := voqKey inp.val out.val cls.val
        let cells := (Tbl.get? s.core.taken k).getD [] ++ [{ c with poison := c.poison || ecc = 2 }]
        let m : CoreMsg := { kind := c.kind, num := c.num, bytes := cells.flatMap (·.data), names := none }
        (Tbl.get? s.core.inBuf k).getD [] = c :: rest) ∧
    (∃ (out : SwPort) (inp : SwPort) (cls : SwClass) (ecc : Fin 3) (c : Cell) (rest : List Cell) (s : State),
        let k := voqKey inp.val out.val cls.val
        let cells := (Tbl.get? s.core.taken k).getD [] ++ [{ c with poison := c.poison || ecc = 2 }]
        let m : CoreMsg := { kind := c.kind, num := c.num, bytes := cells.flatMap (·.data), names := none }
        (Tbl.get? s.core.inBuf k).getD [] = c :: rest) ∧
    (∃ (ctl : SwPort) (req : SwPort) (cls : SwClass) (bytes : Bytes) (num : Nat) (s : State),
        let k := voqKey req.val ctl.val cls.val
        let r := voqKey ctl.val req.val cls.val
        let m : CoreMsg := { kind := .memReply cls, num, bytes, names := none }
        memoryPort ctl.val = true ∧
        req ≠ ctl ∧
        received ctl.val cls.val s < 64 ∧
        readAtHead k s = some num ∧
        offersAt k s = [] ∧
        offersAt r s = [] ∧
        voqReserved (voqAt r s) + msgCells m ≤ 16) ∧
    (∃ (ctl : SwPort) (req : SwPort) (cls : SwClass) (bytes : Bytes) (num : Nat) (s : State),
        let k := voqKey req.val ctl.val cls.val
        let r := voqKey ctl.val req.val cls.val
        let m : CoreMsg := { kind := .memReply cls, num, bytes, names := none }
        memoryPort ctl.val = true ∧
        req ≠ ctl ∧
        received ctl.val cls.val s < 64 ∧
        readAtHead k s = some num ∧
        offersAt k s = [] ∧
        offersAt r s = [] ∧
        16 ≤ voqReserved (voqAt r s) ∧
        sharedGrant (voqShared (voqAt r s)) s.core.sharedFree (sharedAlpha s) = false) ∧
    (∃ (ctl : SwPort) (req : SwPort) (num : Nat) (s : State),
        let k := voqKey ctl.val req.val 0
        (ctl.val, req.val, num) ∈ s.core.written ∧
        outputShut req.val s = false ∧
        offersAt k s = [] ∧
        voqReserved (voqAt k s) < 16) ∧
    (∃ (inp : SwPort) (out : SwPort) (cls : SwClass) (s : State),
        let k := voqKey inp.val out.val cls.val
        (voqAt k s).cells ≠ [] ∧
        (voqAt k s).stalled = false) := ⟨
    ⟨1, 2, ({ kind := .stripe, num := 1, bytes := List.replicate 300 7, names := none } : CoreMsg), (((md .solo).voq (voqKey 1 2 2) (voqW 14 1))), (by decide +kernel), (by decide +kernel), (by decide +kernel), (by decide +kernel), by decide +kernel⟩,
    ⟨1, 2, ({ kind := .stripe, num := 1, bytes := [], names := none } : CoreMsg), ((((md .solo).voq (voqKey 1 2 2) (voqW 16 8)).onCore fun c => { c with sharedFree := 8 })), (by decide +kernel), (by decide +kernel), (by decide +kernel), by decide +kernel⟩,
    ⟨1, 2, ({ kind := .descriptor, num := 1, bytes := [], names := some 4 } : CoreMsg), 4, ((md .solo)), by decide +kernel⟩,
    ⟨2, 1, 2, (cellW false false), ((voqW 0 1).cells), (((md .solo).voq (voqKey 1 2 2) (voqW 1 1))), (by decide +kernel), (by decide +kernel), (by decide +kernel), by decide +kernel⟩,
    ⟨2, 1, 2, (cellW false false), ((voqW 0 1).cells), (((md .solo).voq (voqKey 1 2 2) (voqW 1 1))), (by decide +kernel), (by decide +kernel), (by decide +kernel), by decide +kernel⟩,
    ⟨2, (((md .solo).voq (voqKey 1 2 0) (voqW 1 1))), by decide +kernel⟩,
    ⟨14, 1, 2, 0, (cellW true true), ([] : List Cell), (((md .solo).onCore fun c => { c with inBuf := [(voqKey 1 14 2, [cellW true true])] })), by decide +kernel⟩,
    ⟨14, 1, 2, 0, (cellW false true), ([] : List Cell), (((md .solo).onCore fun c => { c with inBuf := [(voqKey 1 14 2, [cellW false true])] })), by decide +kernel⟩,
    ⟨14, 5, 1, (List.replicate 256 0), 3, (((md .solo).voq (voqKey 5 14 1) { cells := [{ kind := .memRead 1 256, num := 3, data := [], last := true, shared := false, poison := false }], stalled := false })), (by decide +kernel), (by decide +kernel), (by decide +kernel), (by decide +kernel), (by decide +kernel), (by decide +kernel), by decide +kernel⟩,
    ⟨14, 5, 1, (List.replicate 256 0), 3, (((((md .solo).voq (voqKey 5 14 1) { cells := [{ kind := .memRead 1 256, num := 3, data := [], last := true, shared := false, poison := false }], stalled := false }).voq (voqKey 14 5 1) (voqW 16 0)).onCore fun c => { c with sharedFree := 0 })), (by decide +kernel), (by decide +kernel), (by decide +kernel), (by decide +kernel), (by decide +kernel), (by decide +kernel), (by decide +kernel), by decide +kernel⟩,
    ⟨14, 5, 3, (((md .solo).onCore fun c => { c with written := [(14, 5, 3)] })), (by decide +kernel), (by decide +kernel), (by decide +kernel), by decide +kernel⟩,
    ⟨1, 2, 3, (((md .solo).voq (voqKey 1 2 3) (voqW 1 0))), (by decide +kernel), by decide +kernel⟩⟩

theorem test_meets_NamespaceRows :
    (∃ (t : Time) (w : Write) (x : Session) (c : WCtx) (s : State),
        WriteTaken 0x5005 formatCheck t w x c s) ∧
    (∃ (t : Time) (w : Write) (x : Session) (c : WCtx) (s : State),
        WriteTaken 0x5005 formatCheck t w x c s) ∧
    (∃ (stored : Bool) (s : State),
        s.xlat.formatting = true ∧
        s.pair.round = none ∧
        (stored = true ∨ s.pair.link ≠ 2)) ∧
    (∃ (stored : Bool) (s : State),
        s.xlat.formatting = true ∧
        s.pair.round = none ∧
        (stored = true ∨ s.pair.link ≠ 2)) ∧
    (∃ (t : Time) (sess : Nat) (b : Nat) (x : Session) (c : WCtx) (s : State),
        WriteTaken 0x3225 nsEnableCheck t { sess, sub := 0, val := .num 1 } x c s ∧
        nsEnabled c.rcd s = false ∧
        lbBase c.rcd s = some b) ∧
    (∃ (t : Time) (sess : Nat) (x : Session) (c : WCtx) (s : State),
        WriteTaken 0x3225 nsEnableCheck t { sess, sub := 0, val := .num 0 } x c s ∧
        nsEnabled c.rcd s = true) ∧
    (∃ (t : Time) (w : Write) (x : Session) (c : WCtx) (s : State),
        WriteTaken 0x3227 noCheck t w x c s) ∧
    (∃ (t : Time) (w : Write) (x : Session) (c : WCtx) (s : State),
        WriteTaken 0x3227 noCheck t w x c s) := ⟨
    ⟨5, ({ sess := 1, sub := 0, val := .num 0x5A5A } : Write), _, _, ((((md .isolated).sess).onPair fun p => { p with partnerMode := 255 })), (taken_of (by decide +kernel))⟩,
    ⟨5, ({ sess := 1, sub := 0, val := .num 0x5A5A } : Write), _, _, (((((md .isolated).sess).onPair fun p => { p with partnerMode := 255 }).onBays fun v => updNat v 3 fun b => { b with seated := true })), (taken_of (by decide +kernel))⟩,
    ⟨true, ((((((md .isolated).sess).onPair fun p => { p with partnerMode := 255 })).onXlat fun x => { x with formatting := true, geo := some geoW, formatBy := none })), by decide +kernel⟩,
    ⟨false, ((((((md .isolated).sess).onPair fun p => { p with partnerMode := 255 })).onXlat fun x => { x with formatting := true, geo := some geoW, formatBy := some (1, 2, .set 0 { index := 0x5005, sub := 0, ty := .u32, val := .num 0x5A5A }) })), by decide +kernel⟩,
    ⟨5, 1, 0, (xOf { sess := 1, sub := 0, val := .num 1 } (((((((md .solo).sess fun x => { x with sel := [(0x3220, 1)] }).cars.onXlat fun x => { x with geo := some geoW }).num 0x3223 0 1 1024).num 0x3221 0 1 1).num 0x3222 0 1 1))), (cOf 0x3225 5 { sess := 1, sub := 0, val := .num 1 } (((((((md .solo).sess fun x => { x with sel := [(0x3220, 1)] }).cars.onXlat fun x => { x with geo := some geoW }).num 0x3223 0 1 1024).num 0x3221 0 1 1).num 0x3222 0 1 1))), (((((((md .solo).sess fun x => { x with sel := [(0x3220, 1)] }).cars.onXlat fun x => { x with geo := some geoW }).num 0x3223 0 1 1024).num 0x3221 0 1 1).num 0x3222 0 1 1)), (taken_of (by decide +kernel)), by decide +kernel⟩,
    ⟨5, 1, (xOf { sess := 1, sub := 0, val := .num 0 } ((((((md .solo).sess fun x => { x with sel := [(0x3220, 1)] }).cars.onXlat fun x => { x with geo := some geoW }).num 0x3223 0 1 1024).ns1))), (cOf 0x3225 5 { sess := 1, sub := 0, val := .num 0 } ((((((md .solo).sess fun x => { x with sel := [(0x3220, 1)] }).cars.onXlat fun x => { x with geo := some geoW }).num 0x3223 0 1 1024).ns1))), ((((((md .solo).sess fun x => { x with sel := [(0x3220, 1)] }).cars.onXlat fun x => { x with geo := some geoW }).num 0x3223 0 1 1024).ns1)), (taken_of (by decide +kernel)), by decide +kernel⟩,
    ⟨5, ({ sess := 1, sub := 0, val := .num 0 } : Write), _, _, (((((md .solo).sess fun x => { x with sel := [(0x3220, 1)] }).cars.onXlat fun x => { x with geo := some geoW }).num 0x3223 0 1 1024)), (taken_of (by decide +kernel))⟩,
    ⟨5, ({ sess := 1, sub := 0, val := .num 1 } : Write), _, _, (((((md .solo).sess fun x => { x with sel := [(0x3220, 1)] }).cars.onXlat fun x => { x with geo := some geoW }).num 0x3223 0 1 1024)), (taken_of (by decide +kernel))⟩⟩

theorem test_meets_PlacementRows :
    (∃ (id : Nat) (rest : List Nat) (c : Cmd) (s : State),
        decides s = true ∧
        s.xlat.placeQ = id :: rest ∧
        cmdOf s id = some c ∧
        slotsNeeded c + slotsPromised s ≤ caddyFree s ∧
        c.opc = .write) ∧
    (∃ (id : Nat) (rest : List Nat) (c : Cmd) (s : State),
        decides s = true ∧
        s.xlat.placeQ = id :: rest ∧
        cmdOf s id = some c ∧
        slotsNeeded c + slotsPromised s ≤ caddyFree s ∧
        c.opc = .write) ∧
    (∃ (id : Nat) (rest : List Nat) (c : Cmd) (s : State),
        decides s = true ∧
        s.xlat.placeQ = id :: rest ∧
        cmdOf s id = some c ∧
        slotsNeeded c + slotsPromised s ≤ caddyFree s ∧
        (c.opc = .writeZeroes ∨ c.opc = .dsm) ∧
        c.orphan = false ∧
        c.bmeHeld = false) ∧
    (∃ (id : Nat) (rest : List Nat) (c : Cmd) (s : State),
        decides s = true ∧
        s.xlat.placeQ = id :: rest ∧
        cmdOf s id = some c ∧
        slotsNeeded c + slotsPromised s ≤ caddyFree s ∧
        (c.opc = .writeZeroes ∨ c.opc = .dsm) ∧
        c.orphan = false ∧
        c.bmeHeld = false) ∧
    (∃ (id : Nat) (rest : List Nat) (c : Cmd) (s : State),
        decides s = true ∧
        s.xlat.placeQ = id :: rest ∧
        cmdOf s id = some c ∧
        caddyFree s < slotsNeeded c + slotsPromised s) ∧
    (∃ (lb : Nat) (ns : Nat) (first : Nat) (b : Nat) (g : Geo) (sl : List (Nat × Slot)) (bd : Band) (s : State),
        let e := lbAt s lb
        let w := setWidth lb s
        let st := stripeOf g w e.fill
        let l := locate g w e.fill
        decides s = true ∧
        s.xlat.geo = some g ∧
        nsOfLb lb s = some (ns, first) ∧
        e.state ≠ .merging ∧
        w ≠ 0 ∧
        e.fill < g.lbSectors ∧
        runWithin lb st.1 st.2 s = false ∧
        Tbl.has s.xlat.fills lb = true ∧
        (∀ p ∈ s.xlat.progs, p.2.lb = lb → p.2.dest = .direct → p.2.done = true) ∧
        resyncing lb s = false ∧
        stripeSlots ns first st.1 st.2 s = some sl ∧
        e.bands[l.i]? = some b ∧
        bandAt s b = some bd ∧
        degraded bd < 2 ∧
        bd.isOpen = true ∧
        grants s poolStripe (stripeSectors g w) = true) ∧
    (∃ (lb : Nat) (s : State),
        decides s = true ∧
        Tbl.has s.xlat.fills lb = true ∧
        (lbAt s lb).fillClosed = false ∧
        (stripeLacks lb s = true ∨ caddyAbove (cfg 0x5022 s) s = true)) ∧
    (∃ (t : Time) (ns : Nat) (b : Nat) (g : Geo) (e0 : Nat × Slot × Nat × Nat) (l : List (Nat × Slot × Nat × Nat)) (bd : Band) (s : State),
        decides s = true ∧
        s.xlat.geo = some g ∧
        (waitingSlots ns s).filter (fun e => logBound e s) = e0 :: l ∧
        logTarget ns e0 (advance t s) = (.sharedLog, 0, some b, advance t s) ∧
        bandAt s b = some bd ∧
        bd.kind = .sharedLog ∧
        grants s poolStripe (stripeSectors g bd.width) = true) ∧
    (∃ (id : Nat) (p : Prog) (s : State),
        decides s = true ∧
        s.xlat.placeQ = [] ∧
        Tbl.get? s.xlat.progs id = some p ∧
        p.done = true ∧
        (s.pair.paired = false ∨ p.cycle ≤ s.pair.committed) ∧
        replacing p.band s = false ∧
        (∀ n ∈ p.slots, ∀ k x, slotOfProg id n s = some (k, x) → x.readers = 0)) ∧
    (∃ (id : Nat) (p : Prog) (s : State),
        decides s = true ∧
        s.xlat.placeQ = [] ∧
        Tbl.get? s.xlat.progs id = some p ∧
        p.done = true ∧
        (s.pair.paired = false ∨ p.cycle ≤ s.pair.committed) ∧
        replacing p.band s = false ∧
        (∀ n ∈ p.slots, ∀ k x, slotOfProg id n s = some (k, x) → x.readers = 0)) := ⟨
    ⟨1, ([] : List Nat), ({ cmdW (.fabric 1) .write .placing with nlb := 2 } : Cmd), ((((((md .solo).host1 .tcp).ns1).cmd1 ({ cmdW (.fabric 1) .write .placing with nlb := 2 })).onXlat fun x => { x with placeQ := [1] })), by decide +kernel⟩,
    ⟨1, ([] : List Nat), ({ cmdW (.fabric 1) .write .placing with nlb := 2 } : Cmd), (((((((md .active).linked).host1 .tcp).ns1).cmd1 ({ cmdW (.fabric 1) .write .placing with nlb := 2 })).onXlat fun x => { x with placeQ := [1] })), by decide +kernel⟩,
    ⟨1, ([] : List Nat), ({ cmdW (.fabric 1) .writeZeroes .placing with nlb := 2, ranges := [(0, 2)] } : Cmd), ((((((md .solo).host1 .tcp).ns1).cmd1 ({ cmdW (.fabric 1) .writeZeroes .placing with nlb := 2, ranges := [(0, 2)] })).onXlat fun x => { x with placeQ := [1] })), by decide +kernel⟩,
    ⟨1, ([] : List Nat), ({ cmdW (.fabric 1) .writeZeroes .placing with nlb := 2, ranges := [(0, 2)] } : Cmd), (((((((md .active).linked).host1 .tcp).ns1).cmd1 ({ cmdW (.fabric 1) .writeZeroes .placing with nlb := 2, ranges := [(0, 2)] })).onXlat fun x => { x with placeQ := [1] })), by decide +kernel⟩,
    ⟨1, ([] : List Nat), ({ cmdW (.fabric 1) .write .placing with nlb := 1835009 } : Cmd), ((((((md .solo).host1 .tcp).ns1).cmd1 ({ cmdW (.fabric 1) .write .placing with nlb := 1835009 })).onXlat fun x => { x with placeQ := [1] })), by decide +kernel⟩,
    ⟨0, 1, 0, 1, geoW, ([(0, slotW 0 .placed), (1, slotW 1 .placed)] : List (Nat × Slot)), (bandW .data), ((((((md .solo).ns1.band 1 (bandW .data)).lb 0 (lbW [1] .filling 0)).slots [slotW 0 .placed, slotW 1 .placed, slotW 600 .placed]).onXlat fun x => { x with fills := [(0, { since := 0 })] })), (by decide +kernel), (by decide +kernel), (by decide +kernel), (by decide +kernel), (by decide +kernel), (by decide +kernel), (by decide +kernel), (by decide +kernel), (by decide +kernel), (by decide +kernel), (by decide +kernel), (by decide +kernel), (by decide +kernel), (by decide +kernel), (by decide +kernel), by decide +kernel⟩,
    ⟨0, ((((((((md .solo).ns1.band 1 (bandW .data)).lb 0 (lbW [1] .filling 0)).slots [slotW 0 .placed, slotW 1 .placed, slotW 600 .placed]).onXlat fun x => { x with fills := [(0, { since := 0 })] })).onXlat fun x => { x with slots := [] })), by decide +kernel⟩,
    ⟨5, 1, 2, geoW, ((0, slotW 0 .placed, 0, 0)), ([] : List (Nat × Slot × Nat × Nat)), ({ bandW .sharedLog with program := 3 } : Band), (((((md .solo).ns1.slots [slotW 0 .placed]).lb 0 { lbW [1] .filling 2 with fillClosed := true }).band 2 { bandW .sharedLog with program := 3 }).onXlat fun x => { x with logs := [(2, { kind := .sharedLog, ns := 1, owner := 0, stripes := 256, writePtr := 0, origins := [], openedAt := 0 })] }), (by decide +kernel), (by decide +kernel), (by decide +kernel), (logTarget_shared (by decide +kernel) (by decide +kernel) (by decide +kernel) (by decide +kernel)), by decide +kernel⟩,
    ⟨1, progW, ((((((md .solo).host1 .tcp).ns1).slots [slotW 0 .programmed]).prog progW)), (by decide +kernel), (by decide +kernel), (by decide +kernel), (by decide +kernel), (by decide +kernel), (by decide +kernel), (slots_of (by decide +kernel))⟩,
    ⟨1, progW, (((((((md .active).linked).host1 .tcp).ns1).slots [slotW 0 .programmed]).prog progW)), (by decide +kernel), (by decide +kernel), (by decide +kernel), (by decide +kernel), (by decide +kernel), (by decide +kernel), (slots_of (by decide +kernel))⟩⟩

theorem test_meets_MergeRows :
    (∃ (lb : Nat) (s : State),
        decides s = true ∧
        (lbAt s lb).state ≠ .merging ∧
        ((lbAt s lb).fillClosed = true ∨ seqLogFull lb s = true)) ∧
    (∃ (lb : Nat) (ns : Nat) (first : Nat) (g : Geo) (s : State) (b : _) (n : _),
        decides s = true ∧
        mergeWanted lb s = true ∧
        foldTurn lb s = true ∧
        s.xlat.geo = some g ∧
        nsOfLb lb s = some (ns, first) ∧
        mergeDeferred lb s = false ∧
        resyncing lb s = false ∧
        jobRuns (fun k => match k with | .merge l _ _ => l = lb | _ => false) s = false ∧
        needsFull lb s = false ∧
        mergeChoice lb s = (.switch, n) ∧
        seqLogOf lb s = some b) ∧
    (∃ (t : Time) (lb : Nat) (ns : Nat) (first : Nat) (g : Geo) (s : State),
        decides s = true ∧
        mergeWanted lb s = true ∧
        foldTurn lb s = true ∧
        s.xlat.geo = some g ∧
        nsOfLb lb s = some (ns, first) ∧
        mergeDeferred lb s = false ∧
        resyncing lb s = false ∧
        jobRuns (fun k => match k with | .merge l _ _ => l = lb | _ => false) s = false ∧
        needsFull lb s = true ∧
        widthNow s ≠ 0 ∧
        let n := stripeSectors g (widthNow s)
        let need := (mergeHi g lb s + n * g.stripes - 1) / (n * g.stripes)
        let fold := s.xlat.runs.any fun r => r.lb = lb && decide (r.kind = .staging)
        let queue := jobQueue (jobNew (.merge lb .full fold)) s
        grants s poolMerge n = true ∧
        need ≤ (fullTargets ns lb (widthNow s) need queue (request poolMerge n (advance t s)).2).1.length) ∧
    (∃ (lb : Nat) (id : Nat) (l : Nat) (j : Job) (k : MergeKind) (fold : Bool) (s : State),
        decides s = true ∧
        mergeReady lb s = some (id, j) ∧
        (lbAt s lb).state = .merging ∧
        j.kind = .merge l k fold) ∧
    (∃ (lb : Nat) (id : Nat) (l : Nat) (j : Job) (k : MergeKind) (fold : Bool) (s : State),
        decides s = true ∧
        mergeReady lb s = some (id, j) ∧
        (lbAt s lb).state = .merging ∧
        j.kind = .merge l k fold) ∧
    (∃ (b : Nat) (e : Band) (s : State),
        decides s = true ∧
        bandAt s b = some e ∧
        runsIn b s = [] ∧
        e.retiring = true ∧
        e.readers = 0 ∧
        (∀ p ∈ s.xlat.progs, p.2.band = b → p.2.done = true) ∧
        bandUnconfirmed b s = false) ∧
    (∃ (b : Nat) (e : Band) (s : State),
        decides s = true ∧
        bandAt s b = some e ∧
        runsIn b s = [] ∧
        e.retiring = true ∧
        e.readers = 0 ∧
        (∀ p ∈ s.xlat.progs, p.2.band = b → p.2.done = true) ∧
        bandUnconfirmed b s = false) ∧
    (∃ (b : Nat) (e : Band) (s : State),
        decides s = true ∧
        bandAt s b = some e ∧
        runsIn b s = [] ∧
        e.kind ∈ [.sharedLog, .seqLog, .staging] ∧
        (e.isOpen = false ∨ 0 < e.program) ∧
        (∀ p ∈ s.xlat.progs, p.2.band ≠ b) ∧
        (∀ p ∈ s.xlat.jobs, b ∉ p.2.targets)) ∧
    (∃ (t : Time) (g : Geo) (s : State),
        let n := stripeSectors g (widthNow s)
        let need := ((chunks n (asSectors (imageBytes s))).length + g.stripes - 1) / g.stripes
        let r := systemBands need (advance t s)
        decides s = true ∧
        s.xlat.geo = some g ∧
        s.xlat.ckptRun = none ∧
        0 < n ∧
        0 < g.stripes ∧
        need ≤ r.1.length) ∧
    (∃ (s : State),
        mediaAllowed s = true ∧
        s.xlat.geo.isSome = true) := ⟨
    ⟨0, (((md .solo).ns1).lb 0 { lbW [1] .mapped 4 with fillClosed := true }), by decide +kernel⟩,
    ⟨0, 1, 0, geoW, (((((md .solo).ns1.band 1 (bandW .data)).band 2 { bandW .seqLog with owner := 0 }).lb 0 { lbW [1] .mapped 0 with hasRuns := true }).onXlat fun x => { x with logs := [(2, { kind := .seqLog, ns := 1, owner := 0, stripes := 256, writePtr := 0, origins := [], openedAt := 0 })] }), 2, 0, by decide +kernel⟩,
    ⟨5, 0, 1, 0, geoW, (((((md .solo).ns1.band 1 (bandW .data)).lb 0 { lbW [1] .mapped 4 with hasRuns := true }).onXlat fun x => { x with relocate := [1], runs := [{ runW with band := 3 }] })), (by decide +kernel), (by decide +kernel), (by decide +kernel), (by decide +kernel), (by decide +kernel), (by decide +kernel), (by decide +kernel), (by decide +kernel), (by decide +kernel), (by decide +kernel), (by decide +kernel), by decide +kernel⟩,
    ⟨0, 1, 0, ({ jobW (.merge 0 .full false) with hi := 4 } : Job), (.full : MergeKind), false, ((((((md .solo).ns1.band 1 (bandW .data)).band 2 { bandW .mergeTarget with isOpen := true }).lb 0 { lbW [1] .merging 0 with hasRuns := true }).job { jobW (.merge 0 .full false) with hi := 4 })), by decide +kernel⟩,
    ⟨0, 1, 0, ({ jobW (.merge 0 .full false) with hi := 4 } : Job), (.full : MergeKind), false, ((((((((((md .active).linked).host1 .tcp).ns1)).band 1 (bandW .data)).band 2 { bandW .mergeTarget with isOpen := true }).lb 0 { lbW [1] .merging 0 with hasRuns := true }).job { jobW (.merge 0 .full false) with hi := 4 })), by decide +kernel⟩,
    ⟨1, ({ bandW .sharedLog with retiring := true } : Band), (((md .solo).ns1).band 1 { bandW .sharedLog with retiring := true }), by decide +kernel⟩,
    ⟨1, ({ bandW .sharedLog with retiring := true } : Band), (((((md .active).linked).host1 .tcp).ns1).band 1 { bandW .sharedLog with retiring := true }), by decide +kernel⟩,
    ⟨1, ({ bandW .sharedLog with program := 3 } : Band), (((md .solo).ns1).band 1 { bandW .sharedLog with program := 3 }), by decide +kernel⟩,
    ⟨5, geoW, ((md .solo).ns1), (by decide +kernel), (by decide +kernel), (by decide +kernel), (by decide +kernel), (by decide +kernel), by decide +kernel⟩,
    ⟨((md .solo).ns1), by decide +kernel⟩⟩

theorem test_meets_LifecycleRows :
    (∃ (s : State),
        decides s = true ∧
        s.xlat.geo.isSome = true ∧
        reclaimCandidates s = []) ∧
    (∃ (s : State),
        decides s = true ∧
        s.xlat.geo.isSome = true ∧
        reclaimCandidates s = []) ∧
    (∃ (b : Nat) (e : Band) (s : State),
        decides s = true ∧
        s.xlat.geo.isSome = true ∧
        reclaimCandidates s = [(b, e)] ∧
        e.kind ≠ .sharedLog ∧
        e.retiring = false ∧
        runsIn b s ≠ [] ∧
        heldBack b s = false ∧
        (∀ p ∈ s.xlat.jobs, b ∉ p.2.targets) ∧
        s.xlat.victims = [] ∧
        freeBelow 0x5112 s = true ∧
        freeBelow 0x5111 s = true) ∧
    (∃ (id : Nat) (v : Nat) (b : Nat) (j : Job) (r : Run) (s : State),
        decides s = true ∧
        Tbl.get? s.xlat.jobs id = some j ∧
        j.ready = true ∧
        j.kind = .compact v ∧
        j.targets = [b] ∧
        replacing b s = false ∧
        movedRuns s j.src (runsPlaced b j.hi j.src 0) = [r]) ∧
    (∃ (c : Bay) (lo : Nat) (s : State),
        let x := carOf s c.val
        let l := dataMembers c.val s
        let w := l.map fun m => wearOf x m.2.2.1
        let diff := w.foldl max 0 - lo
        let on := if x.moveOn then decide (cfg 0x5120 s * 10 * 80 < diff * 100) else decide (cfg 0x5120 s * 10 < diff)
        decides s = true ∧
        x.state = .inService ∧
        leastBy id w = some lo ∧
        on = false) ∧
    (∃ (c : Bay) (lo : Nat) (s : State),
        let x := carOf s c.val
        let l := dataMembers c.val s
        let w := l.map fun m => wearOf x m.2.2.1
        let diff := w.foldl max 0 - lo
        let on := if x.moveOn then decide (cfg 0x5120 s * 10 * 80 < diff * 100) else decide (cfg 0x5120 s * 10 < diff)
        decides s = true ∧
        x.state = .inService ∧
        leastBy id w = some lo ∧
        on = false) ∧
    (∃ (c : Bay) (lo : Nat) (s : State) (m : _) (eu : _) (e : _),
        let x := carOf s c.val
        let l := dataMembers c.val s
        let w := l.map fun m => wearOf x m.2.2.1
        let diff := w.foldl max 0 - lo
        let on := if x.moveOn then decide (cfg 0x5120 s * 10 * 80 < diff * 100) else decide (cfg 0x5120 s * 10 < diff)
        decides s = true ∧
        x.state = .inService ∧
        leastBy id w = some lo ∧
        on = true ∧
        staticMove c.val s = false ∧
        let least := l.filter fun m => wearOf x m.2.2.1 = lo && !movesNow m.1 m.2.1 s
        least.find? (fun m => some m.2.2.2 = leastBy id (least.map fun m => m.2.2.2)) = some m ∧
        mostBy (wearOf x) x.free = some eu ∧
        bandAt s m.1 = some e ∧
        memberReadable e m.2.1 = true) ∧
    (∃ (c : Bay) (lo : Nat) (s : State) (m : _) (eu : _) (e : _),
        let x := carOf s c.val
        let l := dataMembers c.val s
        let w := l.map fun m => wearOf x m.2.2.1
        let diff := w.foldl max 0 - lo
        let on := if x.moveOn then decide (cfg 0x5120 s * 10 * 80 < diff * 100) else decide (cfg 0x5120 s * 10 < diff)
        decides s = true ∧
        x.state = .inService ∧
        leastBy id w = some lo ∧
        on = true ∧
        staticMove c.val s = false ∧
        let least := l.filter fun m => wearOf x m.2.2.1 = lo && !movesNow m.1 m.2.1 s
        least.find? (fun m => some m.2.2.2 = leastBy id (least.map fun m => m.2.2.2)) = some m ∧
        mostBy (wearOf x) x.free = some eu ∧
        bandAt s m.1 = some e ∧
        memberReadable e m.2.1 = true) ∧
    (∃ (id : Nat) (b : Nat) (pos : Nat) (j : Job) (e : Band) (m : Member) (s : State),
        decides s = true ∧
        Tbl.get? s.xlat.jobs id = some j ∧
        j.ready = true ∧
        j.kind = .move b pos ∧
        bandAt s b = some e ∧
        memberAt e pos = some m ∧
        m.mstate = .good ∧
        m.carrier = j.car ∧
        e.program ≤ j.total ∧
        (∀ p ∈ s.xlat.progs, p.2.band = b → p.2.done = true)) ∧
    (∃ (s : State),
        decides s = true) ∧
    (∃ (s : State),
        decides s = true ∧
        s.media.exhausted = true ∧
        freeBelow 0x5111 s = false) ∧
    (∃ (t : Time) (b : Bay) (m : MediaCmd) (s : State),
        let c := carOf s b.val
        mediaAllowed s = true ∧
        c.state = .inService ∧
        c.linkUp = true ∧
        c.ready = true ∧
        c.tagBound = true ∧
        c.out.length < cfg 0x6043 s ∧
        c.queue = [m] ∧
        2 ≤ m.queue ∧
        m.queue ≤ 9 ∧
        issuable (advance t s) c m = true) := ⟨
    ⟨((md .solo).ns1), by decide +kernel⟩,
    ⟨(((md .solo).ns1).onMedia fun m => { m with cars := m.cars.map fun c => { c with free := List.range 2 } }), by decide +kernel⟩,
    ⟨1, ({ bandW .staging with isOpen := false } : Band), (((((((md .solo).ns1).onMedia fun m => { m with cars := m.cars.map fun c => { c with free := [] } }).band 1 { bandW .staging with isOpen := false }).lb 0 { lbW [2] .merging 0 with hasRuns := true }).onXlat fun x => { x with runs := [{ runW with kind := .staging }] })), by decide +kernel⟩,
    ⟨1, 1, 2, ({ jobW (.compact 1) with hi := 6, src := [runW] } : Job), ({ runW with band := 2, slot := 7 } : Run), (((((md .solo).ns1.band 1 { bandW .sharedLog with isOpen := false }).band 2 (bandW .sharedLog)).job { jobW (.compact 1) with hi := 6, src := [runW] }).onXlat fun x => { x with runs := [runW], lbs := [(0, { lbW [4] .mapped 0 with hasRuns := true })] }), by decide +kernel⟩,
    ⟨0, 100, (((((md .solo).ns1).band 1 (bandW .data)).band 3 { bandW .data with openseq := 2, members := [⟨0, 9, .good⟩, ⟨1, 9, .good⟩, ⟨2, 9, .good⟩, ⟨3, 9, .good⟩] }).car0 fun c => { c with wear := [(0, 100), (3, 7), (9, 110)], free := [2, 3], moveOn := false, descr := some (descrW 0) }), (by decide +kernel), (by decide +kernel), (by decide +kernel), by decide +kernel⟩,
    ⟨0, 100, (((((md .solo).ns1).band 1 (bandW .data)).band 3 { bandW .data with openseq := 2, members := [⟨0, 9, .good⟩, ⟨1, 9, .good⟩, ⟨2, 9, .good⟩, ⟨3, 9, .good⟩] }).car0 fun c => { c with wear := [(0, 100), (3, 7), (9, 100)], free := [2, 3], moveOn := true, descr := some (descrW 0) }), (by decide +kernel), (by decide +kernel), (by decide +kernel), by decide +kernel⟩,
    ⟨0, 100, (((((md .solo).ns1).band 1 (bandW .data)).band 3 { bandW .data with openseq := 2, members := [⟨0, 9, .good⟩, ⟨1, 9, .good⟩, ⟨2, 9, .good⟩, ⟨3, 9, .good⟩] }).car0 fun c => { c with wear := [(0, 100), (3, 7), (9, 50000)], free := [2, 3], moveOn := true, descr := some (descrW 0) }), ((1, 0, 0, 1)), 3, (bandW .data), (by decide +kernel), (by decide +kernel), (by decide +kernel), (by decide +kernel), (by decide +kernel), (by decide +kernel), (by decide +kernel), (by decide +kernel), by decide +kernel⟩,
    ⟨0, 100, (((((md .solo).ns1).band 1 (bandW .data)).band 3 { bandW .data with openseq := 2, members := [⟨0, 9, .good⟩, ⟨1, 9, .good⟩, ⟨2, 9, .good⟩, ⟨3, 9, .good⟩] }).car0 fun c => { c with wear := [(0, 100), (3, 7), (9, 50000)], free := [2, 3], moveOn := false, descr := some (descrW 0) }), ((1, 0, 0, 1)), 3, (bandW .data), (by decide +kernel), (by decide +kernel), (by decide +kernel), (by decide +kernel), (by decide +kernel), (by decide +kernel), (by decide +kernel), (by decide +kernel), by decide +kernel⟩,
    ⟨1, 1, 0, (jobW (.move 1 0)), (bandW .data), (⟨0, 0, .good⟩), ((((md .solo).ns1).band 1 (bandW .data)).job (jobW (.move 1 0))), by decide +kernel⟩,
    ⟨((((md .solo).ns1).band 1 { bandW .data with program := 3, isOpen := false })), by decide +kernel⟩,
    ⟨(((((md .solo).ns1).onMedia fun m => { m with cars := m.cars.map fun c => { c with free := List.range 40 } }).onMedia fun m => { m with exhausted := true }).onCmd fun d => { d with ns := [(1, { base := 0, count := 2, roExhaust := true, roFloor := false })] }), by decide +kernel⟩,
    ⟨5, 0, (cmdM .erase .eraseEu), (((md .solo).ns1).car0 fun c => { c with queue := [cmdM .erase .eraseEu] }), (by decide +kernel), (by decide +kernel), (by decide +kernel), (by decide +kernel), (by decide +kernel), (by decide +kernel), (by decide +kernel), (by decide +kernel), (by decide +kernel), by decide +kernel⟩⟩

theorem test_meets_RebuildRows :
    (∃ (t : Time) (b : Nat) (pos : Nat) (e : Band) (m : Member) (s : State),
        decides s = true ∧
        bandAt s b = some e ∧
        memberAt e pos = some m ∧
        (rebuildOrder s).find? (fun q => rebuildBands s < cfg 0x5205 s || jobRuns (fun k => match k with | .rebuild x _ => x = q.1 | _ => false) s) = some (b, pos) ∧
        (rebuildTarget e m (advance t s)).isSome = true) ∧
    (∃ (t : Time) (b : Nat) (pos : Nat) (e : Band) (m : Member) (s : State),
        decides s = true ∧
        bandAt s b = some e ∧
        memberAt e pos = some m ∧
        (rebuildOrder s).find? (fun q => rebuildBands s < cfg 0x5205 s || jobRuns (fun k => match k with | .rebuild x _ => x = q.1 | _ => false) s) = some (b, pos) ∧
        (rebuildTarget e m (advance t s)).isNone = true ∧
        ownTarget m s = false) ∧
    (∃ (id : Nat) (b : Nat) (pos : Nat) (j : Job) (e : Band) (s : State),
        decides s = true ∧
        Tbl.get? s.xlat.jobs id = some j ∧
        j.ready = true ∧
        j.kind = .rebuild b pos ∧
        bandAt s b = some e ∧
        pos < e.members.length ∧
        e.program ≤ j.total) ∧
    (∃ (t : Time) (w : Write) (x : Session) (c : WCtx) (s : State),
        WriteTaken 0x5243 lostClearCheck t w x c s) ∧
    (∃ (t : Time) (w : Write) (x : Session) (c : WCtx) (s : State),
        WriteTaken 0x5243 lostClearCheck t w x c s) ∧
    (∃ (s : State),
        decides s = true ∧
        s.media.floorRo = true ∧
        widthNow s ≠ 0) := ⟨
    ⟨5, 1, 0, ({ bandW .data with members := [⟨0, 0, .lost⟩, ⟨1, 0, .good⟩, ⟨2, 0, .good⟩, ⟨3, 0, .good⟩] } : Band), (⟨0, 0, .lost⟩), ((((md .solo).ns1).band 1 { bandW .data with members := [⟨0, 0, .lost⟩, ⟨1, 0, .good⟩, ⟨2, 0, .good⟩, ⟨3, 0, .good⟩] })), by decide +kernel⟩,
    ⟨5, 1, 0, ({ bandW .data with members := [⟨0, 0, .lost⟩, ⟨1, 0, .good⟩, ⟨2, 0, .good⟩, ⟨3, 0, .good⟩] } : Band), (⟨0, 0, .lost⟩), ((((md .solo).ns1.onMedia fun m => { m with cars := m.cars.mapIdx fun i c => { c with free := [], talon := [], state := if i = 0 then .lost else c.state } }).band 1 { bandW .data with members := [⟨0, 0, .lost⟩, ⟨1, 0, .good⟩, ⟨2, 0, .good⟩, ⟨3, 0, .good⟩] })), by decide +kernel⟩,
    ⟨1, 1, 0, ({ jobW (.rebuild 1 0) with car := 4 } : Job), ({ bandW .data with members := [⟨0, 0, .rebuilding⟩, ⟨1, 0, .good⟩, ⟨2, 0, .good⟩, ⟨3, 0, .good⟩] } : Band), ((((md .solo).ns1).band 1 { bandW .data with members := [⟨0, 0, .rebuilding⟩, ⟨1, 0, .good⟩, ⟨2, 0, .good⟩, ⟨3, 0, .good⟩] }).job { jobW (.rebuild 1 0) with car := 4 }), by decide +kernel⟩,
    ⟨5, ({ sess := 1, sub := 0, val := .num 0xFFFFFFFF } : Write), _, _, (((md .solo).sess).onXlat fun x => { x with lost := List.replicate 3 { detected := 0, lba := 0, count := 1, ns := 1, cause := 0, missing := 3, band := 1, stripe := 0 } }), (taken_of (by decide +kernel))⟩,
    ⟨5, ({ sess := 1, sub := 0, val := .num 3 } : Write), _, _, (((md .solo).sess).onXlat fun x => { x with lost := List.replicate 3 { detected := 0, lba := 0, count := 1, ns := 1, cause := 0, missing := 3, band := 1, stripe := 0 } }), (taken_of (by decide +kernel))⟩,
    ⟨((((md .solo).ns1).onMedia fun m => { m with floorRo := true }).onCmd fun d => { d with ns := [(1, { base := 0, count := 2, roExhaust := false, roFloor := true })] }), by decide +kernel⟩⟩

theorem test_meets_CarrierLinkRows :
    (∃ (b : Bay) (d : Descr) (s : State),
        let x := carOf s b.val
        let other : Bool := decide ((match x.descr with | some p => p.serial | none => x.serial) ≠ d.serial)
        let bad := if other then [] else x.badLanes
        inMode [.reset, .holdup] s = false ∧
        linkLanes bad ≠ 0 ∧
        x.state ≠ .lost) ∧
    (∃ (b : Bay) (d : Descr) (s : State),
        let x := carOf s b.val
        let other : Bool := decide ((match x.descr with | some p => p.serial | none => x.serial) ≠ d.serial)
        let bad := if other then [] else x.badLanes
        inMode [.reset, .holdup] s = false ∧
        linkLanes bad ≠ 0 ∧
        x.state ≠ .lost) ∧
    (∃ (t : Time) (b : Bay) (d : Descr) (s : State),
        let x := carOf s b.val
        serving s = true ∧
        x.state = .lost ∧
        x.descr = some d ∧
        x.serial = d.serial ∧
        linkLanes x.badLanes ≠ 0 ∧
        descrPasses x = true ∧
        (x.returns.filter fun r => max s.now t < r + 86400000000000).length < cfg 0x520A s ∧
        MembersGood b.val s) ∧
    (∃ (b : Bay) (s : State),
        (carOf s b.val).linkUp = true ∧
        serving s = true ∧
        (carOf s b.val).state = .inService ∧
        NoWork b.val s) ∧
    (∃ (b : Bay) (s : State),
        (carOf s b.val).linkUp = true ∧
        serving s = true ∧
        (carOf s b.val).state = .inService ∧
        NoWork b.val s) ∧
    (∃ (b : Bay) (lane : Fin 4) (s : State),
        let x := carOf s b.val
        lane.val ∉ x.badLanes ∧
        linkLanes (x.badLanes ++ [lane.val]) = 2) ∧
    (∃ (b : Bay) (lane : Fin 4) (s : State),
        let x := carOf s b.val
        lane.val ∉ x.badLanes ∧
        linkLanes (x.badLanes ++ [lane.val]) = 2) ∧
    (∃ (mv : Nat) (mui : Nat),
        10 ≤ mv ∧
        80 ≤ mui) ∧
    (∃ (b : Bay) (lane : Fin 4) (mv : Nat) (mui : Nat) (s : State),
        (mv < 10 ∨ mui < 80) ∧
        Tbl.get? (carOf s b.val).marginLow lane.val = none) ∧
    (∃ (t : Time) (b : Bay) (lane : Fin 4) (mv : Nat) (mui : Nat) (s : State) (since : _),
        (mv < 10 ∨ mui < 80) ∧
        Tbl.get? (carOf s b.val).marginLow lane.val = some since ∧
        since + 10000000000 ≤ max s.now t ∧
        lane.val ∉ (carOf s b.val).badLanes ∧
        linkLanes ((carOf s b.val).badLanes ++ [lane.val]) = 2) ∧
    (∃ (b : Bay) (s : State),
        (carOf s b.val).linkUp = true ∧
        descrPasses (carOf s b.val) = true ∧
        (∀ g d, s.xlat.geo = some g → (carOf s b.val).descr = some d → geometryFits g d = true)) ∧
    (∃ (b : Bay) (s : State),
        let x := carOf s b.val
        (x.linkUp && x.ready) = false ∧
        (x.linkUp = true ∨ (bayOf s b.val).state = .on) ∧
        serving s = true ∧
        (x.state = .absent ∨ x.state = .notAdmitted)) ∧
    (∃ (b : Bay) (s : State),
        let x := carOf s b.val
        (x.linkUp && x.ready) = false ∧
        (x.linkUp = true ∨ (bayOf s b.val).state = .on) ∧
        serving s = true ∧
        (x.state = .absent ∨ x.state = .notAdmitted)) ∧
    (∃ (b : Bay) (s : State),
        serving s = true ∧
        (carOf s b.val).state = .lost) ∧
    (∃ (t : Time) (w : Write) (x : Session) (c : WCtx) (s : State),
        WriteTaken 0x520B readmitCheck t w x c s ∧
        w.val.toNat = 1 ∧
        sameCarrier (carOf s (w.sub - 1)) = true ∧
        MembersGood (w.sub - 1) s) := ⟨
    ⟨0, (descrW 0), ((md .solo).cars), (by decide +kernel), (by decide +kernel), by decide +kernel⟩,
    ⟨0, (descrW 0), ((((md .solo).cars).car0 fun c => { c with descr := some (descrW 0) }).car0 fun c => { c with badLanes := [1] }), (by decide +kernel), (by decide +kernel), by decide +kernel⟩,
    ⟨5, 0, (descrW 0), (((md .solo).cars).car0 fun c => { c with state := .lost, descr := some (descrW 0), linkUp := false }), (by decide +kernel), (by decide +kernel), (by decide +kernel), (by decide +kernel), (by decide +kernel), (by decide +kernel), (by decide +kernel), by unfold MembersGood; decide +kernel⟩,
    ⟨0, (((md .solo).ns1.band 1 (bandW .data))), (by decide +kernel), (by decide +kernel), (by decide +kernel), by unfold NoWork; decide +kernel⟩,
    ⟨0, (((md .solo).ns1.band 1 (bandW .data))), (by decide +kernel), (by decide +kernel), (by decide +kernel), by unfold NoWork; decide +kernel⟩,
    ⟨0, 0, ((md .solo).cars), (by decide +kernel), by decide +kernel⟩,
    ⟨0, 3, (((md .solo).cars).car0 fun c => { c with descr := some (descrW 0) }), (by decide +kernel), by decide +kernel⟩,
    ⟨10, 80, by decide +kernel⟩,
    ⟨0, 1, 9, 80, ((md .solo).cars), by decide +kernel⟩,
    ⟨10000000003, 0, 1, 9, 80, (((md .solo).cars).car0 fun c => { c with marginLow := [(1, 3)] }), 3, by decide +kernel⟩,
    ⟨0, (((md .solo).cars).car0 fun c => { c with descr := some (descrW 0) }), (by decide +kernel), (by decide +kernel), (geo_of (by decide +kernel))⟩,
    ⟨0, (((md .solo).cars).car0 fun c => { c with state := .absent, linkUp := true, ready := false }), (by decide +kernel), (by decide +kernel), (by decide +kernel), by decide +kernel⟩,
    ⟨0, (((md .solo).cars).car0 fun c => { c with state := .notAdmitted, linkUp := true, ready := false }), (by decide +kernel), (by decide +kernel), (by decide +kernel), by decide +kernel⟩,
    ⟨0, (((md .solo).cars).car0 fun c => { c with state := .lost, descr := some (descrW 0), linkUp := false }), by decide +kernel⟩,
    ⟨5, ({ sess := 1, sub := 1, val := .num 1 } : Write), _, _, ((((md .solo).cars).sess).car0 fun c => { c with state := .heldOut, descr := some (descrW 0) }), (taken_of (by decide +kernel)), (by decide +kernel), (by decide +kernel), by unfold MembersGood; decide +kernel⟩⟩

theorem test_meets_CarrierAdminRows :
    (∃ (b : Bay) (r : Round) (k : Nat) (s : State),
        s.pair.round = some r ∧
        r ≠ .fencing ∧
        b.val ∈ s.pair.asked ∧
        k ∈ s.pair.asked ∧
        k ≠ b.val ∧
        b.val ∉ s.pair.won ∧
        (carOf s b.val).asking.headD (nextValue s) = nextValue s) ∧
    (∃ (b : Bay) (r : Round) (k : Nat) (s : State),
        s.pair.round = some r ∧
        r ≠ .fencing ∧
        b.val ∈ s.pair.asked ∧
        k ∈ s.pair.asked ∧
        k ≠ b.val) ∧
    (∃ (b : Bay) (r : Round) (k : Nat) (s : State),
        s.pair.round = some r ∧
        r ≠ .fencing ∧
        b.val ∈ s.pair.asked ∧
        k ∈ s.pair.asked ∧
        k ≠ b.val ∧
        r ≠ .recheck) ∧
    (∃ (code : BitVec 16),
        code = 1) ∧
    (∃ (code : BitVec 16),
        code = 2) ∧
    (∃ (code : BitVec 16),
        code = 3) ∧
    (∃ (code : BitVec 16),
        code = 4) ∧
    (∃ (b : Bay) (code : BitVec 16) (s : State),
        code.toNat ≤ 6 ∧
        adminAllowed s = true ∧
        (carOf s b.val).linkUp = true) ∧
    (∃ (b : Bay) (code : BitVec 16) (s : State),
        code.toNat ≤ 6 ∧
        adminAllowed s = true ∧
        (carOf s b.val).linkUp = true) ∧
    (∃ (s : State),
        s.pair.round = some .recheck ∧
        roundWon s = true) ∧
    (∃ (s : State),
        s.pair.round = some .recheck ∧
        roundWon s = false) ∧
    (∃ (b : Bay) (s : State),
        adminAllowed s = true ∧
        (carOf s b.val).linkUp = true) := ⟨
    ⟨0, (.takeover : Round), 1, ((((md .solo).cars).onPair fun p => { p with round := some .takeover, asked := [0, 1], won := [2] }).id0), by decide +kernel⟩,
    ⟨0, (.takeover : Round), 1, ((((md .solo).cars).onPair fun p => { p with round := some .takeover, asked := [0, 1], won := [2] }).id0), by decide +kernel⟩,
    ⟨0, (.takeover : Round), 1, ((((md .solo).cars).onPair fun p => { p with round := some .takeover, asked := [0, 1], won := [2] }).id0), by decide +kernel⟩,
    ⟨1, by decide +kernel⟩,
    ⟨2, by decide +kernel⟩,
    ⟨3, by decide +kernel⟩,
    ⟨4, by decide +kernel⟩,
    ⟨0, 0, ((md .solo).cars), by decide +kernel⟩,
    ⟨0, 6, ((md .solo).cars), by decide +kernel⟩,
    ⟨((md .solo).onPair fun p => { p with round := some .recheck, won := [1] }), by decide +kernel⟩,
    ⟨((md .solo).onPair fun p => { p with round := some .recheck }), by decide +kernel⟩,
    ⟨0, ((md .solo).cars), by decide +kernel⟩⟩

theorem test_meets_MediaDoneRows :
    (∃ (b : Bay) (cid : Nat) (m : MediaCmd) (s : State) (buf : _) (i : _) (k : _) (corrected : _) (y : _) (ab : Nat × Nat),
        Tbl.get? (carOf s b.val).out cid = some m ∧
        s.xlat.sources = [] ∧
        m.purpose = .hostRead buf i ∧
        m.level = 0 ∧
        needsRefresh b.val corrected s = false ∧
        Tbl.get? s.pot.bufs buf = some y ∧
        xtsCluster s = some k ∧
        pickLanes s k = some ab) ∧
    (∃ (b : Bay) (cid : Nat) (m : MediaCmd) (s : State) (id : _) (pos : _) (p : _),
        Tbl.get? (carOf s b.val).out cid = some m ∧
        s.xlat.sources = [] ∧
        m.purpose = .stripe id pos ∧
        Tbl.get? s.xlat.progs id = some p ∧
        (p.waiting.filter fun q => q ≠ pos) ≠ []) ∧
    (∃ (b : Bay) (cid : Nat) (m : MediaCmd) (s : State) (d : _),
        Tbl.get? (carOf s b.val).out cid = some m ∧
        s.xlat.sources = [] ∧
        (carOf s b.val).descr = some d ∧
        m.eu ∉ (carOf s b.val).slc ∧
        d.cyclesNative ≠ 0) ∧
    (∃ (b : Bay) (cid : Nat) (m : MediaCmd) (s : State),
        Tbl.get? (carOf s b.val).out cid = some m ∧
        s.xlat.sources = []) ∧
    (∃ (b : Bay) (cid : Nat) (m : MediaCmd) (s : State),
        Tbl.get? (carOf s b.val).out cid = some m ∧
        s.xlat.sources = []) ∧
    (∃ (b : Bay) (cid : Nat) (m : MediaCmd) (s : State),
        Tbl.get? (carOf s b.val).out cid = some m ∧
        s.xlat.sources = []) ∧
    (∃ (b : Bay) (s : State),
        serving s = true ∧
        (carOf s b.val).state = .inService ∧
        NoWork b.val s ∧
        let lost := fun (u : State) => (carOf u b.val).state = .lost ∧ countOf 0x600A (b.val + 1) u = countOf 0x600A (b.val + 1) s + 1
        (carOf s b.val).out ≠ []) ∧
    (∃ (b : Bay) (s : State) (cid : _),
        serving s = true ∧
        (carOf s b.val).state = .inService ∧
        NoWork b.val s ∧
        let lost := fun (u : State) => (carOf u b.val).state = .lost ∧ countOf 0x600A (b.val + 1) u = countOf 0x600A (b.val + 1) s + 1
        Tbl.has (carOf s b.val).out cid = true) ∧
    (∃ (b : Bay) (s : State),
        serving s = true ∧
        (carOf s b.val).state = .inService ∧
        NoWork b.val s ∧
        let lost := fun (u : State) => (carOf u b.val).state = .lost ∧ countOf 0x600A (b.val + 1) u = countOf 0x600A (b.val + 1) s + 1
        (carOf s b.val).linkUp = true ∧
        b.val ∉ s.pair.asked) := ⟨
    ⟨0, 4, (cmdM .read (.hostRead 1 0)), (((md .solo).ns1.car0 fun c => { c with descr := some (descrW 0), out := [(4, cmdM .read (.hostRead 1 0))], fracN := 2999 }).buf1 { bufW with state := .filling, data := [none, none] }), 1, 0, 0, 2, ({ bufW with state := .filling, data := [none, none] }), ((0, 1)), by decide +kernel⟩,
    ⟨0, 4, (cmdM .program (.stripe 1 0)), (((md .solo).ns1.car0 fun c => { c with descr := some (descrW 0), out := [(4, cmdM .program (.stripe 1 0))], fracN := 2999 }).prog { progW with waiting := [0, 1], done := false }), 1, 0, ({ progW with waiting := [0, 1], done := false }), by decide +kernel⟩,
    ⟨0, 4, (cmdM .erase (.eraseEu)), (((md .solo).ns1.car0 fun c => { c with descr := some (descrW 0), out := [(4, cmdM .erase (.eraseEu))], fracN := 2999 })), (descrW 0), by decide +kernel⟩,
    ⟨0, 4, ({ cmdM .setCellMode (.setMode) with level := 0 } : MediaCmd), (((md .solo).ns1.car0 fun c => { c with descr := some (descrW 0), out := [(4, { cmdM .setCellMode (.setMode) with level := 0 })], slc := [3], fracN := 2999 })), by decide +kernel⟩,
    ⟨0, 4, ({ cmdM .setCellMode (.setMode) with level := 1 } : MediaCmd), (((md .solo).ns1.car0 fun c => { c with descr := some (descrW 0), out := [(4, { cmdM .setCellMode (.setMode) with level := 1 })], slc := [3], fracN := 2999 })), by decide +kernel⟩,
    ⟨0, 4, (cmdM .markBad (.markBad)), (((md .solo).ns1.car0 fun c => { c with descr := some (descrW 0), out := [(4, cmdM .markBad (.markBad))], fracN := 2999 })), by decide +kernel⟩,
    ⟨0, (((md .solo).ns1.car0 fun c => { c with descr := some (descrW 0), out := [(4, cmdM .markBad (.markBad))], fracN := 2999 })), (by decide +kernel), (by decide +kernel), (by unfold NoWork; decide +kernel), by decide +kernel⟩,
    ⟨0, (((md .solo).ns1.car0 fun c => { c with descr := some (descrW 0), out := [(4, cmdM .markBad (.markBad))], fracN := 2999 })), 4, (by decide +kernel), (by decide +kernel), (by unfold NoWork; decide +kernel), by decide +kernel⟩,
    ⟨0, (((md .solo).ns1.car0 fun c => { c with descr := some (descrW 0), out := [(4, cmdM .markBad (.markBad))], fracN := 2999 })), (by decide +kernel), (by decide +kernel), (by unfold NoWork; decide +kernel), (by decide +kernel), by decide +kernel⟩⟩

theorem test_meets_CipherRows :
    (∃ (id : Nat) (k : Nat) (ctype : Nat) (len : Nat) (fault : Option Nat) (c : Lane) (d : Lane) (u : CUnit) (x : Conn) (s : State),
        Tbl.get? s.cipher.units id = some u ∧
        u.held = true ∧
        u.op = .ingress k ctype len fault ∧
        c ≠ d ∧
        c.val ∈ retryLanes u s ∧
        d.val ∈ retryLanes u s ∧
        connOf s k = some x ∧
        ingressFault x ctype fault = none) ∧
    (∃ (id : Nat) (k : Nat) (ctype : Nat) (len : Nat) (fault : Option Nat) (c : Lane) (d : Lane) (u : CUnit) (x : Conn) (s : State),
        Tbl.get? s.cipher.units id = some u ∧
        u.held = true ∧
        u.op = .ingress k ctype len fault ∧
        c ≠ d ∧
        c.val ∈ retryLanes u s ∧
        d.val ∈ retryLanes u s ∧
        connOf s k = some x ∧
        ingressFault x ctype fault = none) ∧
    (∃ (k : Nat) (c : Nat) (x : Conn) (s : State),
        connOf s k = some x ∧
        x.tls.active = true ∧
        clusterTakes s (tlsCluster k x) = false ∧
        (∀ p ∈ s.cipher.units, unitConn p.2 ≠ some k) ∧
        clusterFrom s (tlsCluster k x) = some c) ∧
    (∃ (k : Nat) (s : State),
        k ∈ s.cipher.spilled) ∧
    (∃ (k : Nat) (s : State) (x : _),
        k ∈ s.cipher.spilled ∧
        connOf s k = some x) ∧
    (∃ (i : Fin 2) (s : State),
        s.cipher.sourceOk[i] = true) ∧
    (∃ (i : Fin 2) (s : State),
        s.cipher.sourceOk[i] = true) := ⟨
    ⟨1, 1, 22, 9, none, 2, 3, ({ unitW (.ingress 1 22 9 none) with held := true, sumA := 7, sumB := 8 } : CUnit), ({ connW .tcp with host := 1 } : Conn), (((((md .solo).host1 .tcp).ns1).onCipher fun c => { c with units := [(1, { unitW (.ingress 1 22 9 none) with held := true, sumA := 7, sumB := 8 })], nextUnit := 2, resident := [1] })), by decide +kernel⟩,
    ⟨1, 1, 22, 9, none, 2, 3, ({ unitW (.ingress 1 22 9 none) with held := true, sumA := 7, sumB := 8 } : CUnit), ({ connW .tcp with host := 1 } : Conn), (((((md .solo).host1 .tcp).ns1).onCipher fun c => { c with units := [(1, { unitW (.ingress 1 22 9 none) with held := true, sumA := 7, sumB := 8 })], nextUnit := 2, resident := [1] })), by decide +kernel⟩,
    ⟨1, 1, (tlsOn (connW .tcp)), ((((md .solo).conn (tlsOn (connW .tcp))).onCipher fun c => { c with lanes := Vector.ofFn fun i => if i.val < 26 then ElemState.retired else laneReset i.val })), by decide +kernel⟩,
    ⟨1, (((((md .solo).host1 .tcp).ns1).onCipher fun c => { c with spilled := [1] })), by decide +kernel⟩,
    ⟨1, (((((md .solo).host1 .tcp).ns1).onCipher fun c => { c with spilled := [1] })), ({ connW .tcp with host := 1 }), by decide +kernel⟩,
    ⟨0, (md .solo), by decide +kernel⟩,
    ⟨1, ((md .solo).onCipher fun c => { c with sourceOk := #v[false, true] }), by decide +kernel⟩⟩

theorem test_meets_KeyRows :
    (∃ (t : Time) (w : Write) (x : Session) (c : WCtx) (s : State),
        WriteTaken 0x5321 cryptoEraseCheck t w x c s) ∧
    (∃ (ns : Nat) (s : State),
        decides s = true ∧
        eraseRuns ns s = true ∧
        eraseBusy ns s = false) ∧
    (∃ (ns : Nat) (s : State),
        decides s = true ∧
        eraseRuns ns s = true ∧
        eraseBusy ns s = false) ∧
    (∃ (ns : Nat) (k : NsKey) (s : State),
        Tbl.get? s.keys.ns ns = some k) ∧
    (∃ (ns : Nat) (k : NsKey) (s : State),
        Tbl.get? s.keys.ns ns = some k) ∧
    (∃ (t : Time) (w : Write) (x : Session) (c : WCtx) (s : State),
        WriteTaken 0x5330 noCheck t w x c s) ∧
    (∃ (t : Time) (w : Write) (x : Session) (c : WCtx) (s : State),
        WriteTaken 0x5332 (fun _ s => refuseIf (!inMode [.isolated] s || s.keys.arrayKey.isSome) .mode) t w x c s) ∧
    (∃ (t : Time) (w : Write) (x : Session) (c : WCtx) (s : State),
        WriteTaken 0x5313 noCheck t w x c s) := ⟨
    ⟨5, ({ sess := 1, sub := 0, val := .num 0xC3C3 } : Write), _, _, (((((md .solo).sess fun x => { x with sel := [(0x3220, 1), (0x5310, 1)] })).onKeys fun k => { k with ns := [(1, { key := some { k1 := 1, k2 := 2 }, gen := 1, erasing := false, old := none })], kek := some [1] })), (taken_of (by decide +kernel))⟩,
    ⟨1, (((((md .solo).sess fun x => { x with sel := [(0x3220, 1), (0x5310, 1)] })).onKeys fun k => { k with ns := [(1, { key := some { k1 := 1, k2 := 2 }, gen := 1, erasing := true, old := none })], kek := some [1] })), by decide +kernel⟩,
    ⟨1, (((((md .solo).sess fun x => { x with sel := [(0x3220, 1), (0x5310, 1)] })).onKeys fun k => { k with ns := [(1, { key := some { k1 := 1, k2 := 2 }, gen := 1, erasing := true, old := some { k1 := 8, k2 := 9 } })], kek := some [1] })), by decide +kernel⟩,
    ⟨1, ({ key := some { k1 := 1, k2 := 2 }, gen := 1, erasing := false, old := some { k1 := 8, k2 := 9 } } : NsKey), (((((md .solo).sess fun x => { x with sel := [(0x3220, 1), (0x5310, 1)] })).onKeys fun k => { k with ns := [(1, { key := some { k1 := 1, k2 := 2 }, gen := 1, erasing := false, old := some { k1 := 8, k2 := 9 } })], kek := some [1] })), by decide +kernel⟩,
    ⟨1, ({ key := some { k1 := 1, k2 := 2 }, gen := 1, erasing := false, old := some { k1 := 8, k2 := 9 } } : NsKey), ((((((md .solo).sess fun x => { x with sel := [(0x3220, 1), (0x5310, 1)] })).onKeys fun k => { k with ns := [(1, { key := some { k1 := 1, k2 := 2 }, gen := 1, erasing := false, old := some { k1 := 8, k2 := 9 } })], kek := some [1] })).onCipher fun c => { c with units := [(1, { unitW (.write 1 1) with oldKey := true })] }), by decide +kernel⟩,
    ⟨5, ({ sess := 1, sub := 0, val := .oct (List.replicate 32 7) } : Write), _, _, (((((md .solo).sess fun x => { x with sel := [(0x3220, 1), (0x5310, 1)] })).onKeys fun k => { k with ns := [(1, { key := some { k1 := 1, k2 := 2 }, gen := 1, erasing := false, old := none })], kek := some [1] })), (taken_of (by decide +kernel))⟩,
    ⟨5, ({ sess := 1, sub := 0, val := .oct (List.replicate 40 7) } : Write), _, _, (((((md .isolated).sess fun x => { x with sel := [(0x3220, 1), (0x5310, 1)] })).onKeys fun k => { k with ns := [(1, { key := some { k1 := 1, k2 := 2 }, gen := 1, erasing := false, old := none })], kek := some [1] })), (taken_of (by decide +kernel))⟩,
    ⟨5, ({ sess := 1, sub := 0, val := .oct (List.replicate 48 7) } : Write), _, _, (((((md .solo).sess fun x => { x with sel := [(0x3220, 1), (0x5310, 1)] })).onKeys fun k => { k with ns := [(1, { key := some { k1 := 1, k2 := 2 }, gen := 1, erasing := false, old := none })], kek := some [1] })), (taken_of (by decide +kernel))⟩⟩

theorem test_meets_MirrorLinkRows :
    (∃ (s : State),
        inMode [.reset, .boot, .holdup] s = false) ∧
    (∃ (s : State),
        inMode [.reset, .boot, .holdup] s = false) ∧
    (∃ (s : State),
        s.pair.link ≠ 0 ∧
        inMode [.reset, .boot, .holdup, .rejoin] s = false ∧
        s.xlat.formatting = false) ∧
    (∃ (s : State),
        s.pair.link ≠ 0 ∧
        inMode [.reset, .boot, .holdup, .rejoin] s = false ∧
        s.xlat.formatting = false) ∧
    (∃ (s : State),
        s.pair.link ≠ 0 ∧
        s.mode.mode = .rejoin ∧
        Idle s ∧
        s.xlat.formatting = false) ∧
    (∃ (s : State),
        s.pair.link = 2 ∧
        s.pair.unacked ≠ [] ∧
        (∀ q ∈ s.pair.unacked, q.2 < 8)) ∧
    (∃ (s : State),
        s.pair.link = 2 ∧
        (∃ q ∈ s.pair.unacked, 8 ≤ q.2) ∧
        inMode [.reset, .boot, .holdup, .rejoin] s = false ∧
        s.xlat.formatting = false) ∧
    (∃ (s : State),
        s.pair.ackOwed = true ∧
        linkMode s = true ∧
        s.pair.link = 2) := ⟨
    ⟨((md .solo).num 0x2106 0 0 0), by decide +kernel⟩,
    ⟨(((md .active).linked.num 0x2106 0 0 1)), by decide +kernel⟩,
    ⟨((md .active).linked), by decide +kernel⟩,
    ⟨(((md .quiesced).linked)), by decide +kernel⟩,
    ⟨(((md .rejoin).linked.onPair fun p => { p with paired := false })), (by decide +kernel), (by decide +kernel), (by unfold Idle; decide +kernel), by decide +kernel⟩,
    ⟨(((md .active).linked).onPair fun p => { p with unacked := [(3, 7), (4, 1)] }), by decide +kernel⟩,
    ⟨(((md .active).linked).onPair fun p => { p with unacked := [(3, 8), (4, 1)] }), by decide +kernel⟩,
    ⟨(((md .active).linked).onPair fun p => { p with ackOwed := true }), by decide +kernel⟩⟩

theorem test_meets_MirrorFrameRows :
    (∃ (h : MirHdr) (s : State),
        FrameTaken h s ∧
        pairedModes s = true) ∧
    (∃ (h : MirHdr) (s : State),
        FrameTaken h s ∧
        pairedModes s = true) ∧
    (∃ (h : MirHdr) (r : CycleRec) (s : State),
        FrameTaken h s ∧
        s.mode.mode = .standby ∧
        s.pair.committed < r.cycle ∧
        r.entries = [] ∧
        r.handover = false ∧
        r.cold = false ∧
        s.pair.waiting = [] ∧
        s.pair.lacks = []) ∧
    (∃ (h : MirHdr) (r : CycleRec) (s : State),
        FrameTaken h s ∧
        s.mode.mode = .rejoin ∧
        s.pair.rejoinPhase = 5 ∧
        r.join = true ∧
        r.entries = [] ∧
        r.handover = false ∧
        r.cold = false ∧
        s.pair.waiting = [] ∧
        s.pair.lacks = []) ∧
    (∃ (h : MirHdr) (n : Nat) (s : State),
        FrameTaken h s ∧
        pairedModes s = true ∧
        decides s = true ∧
        s.pair.paired = true ∧
        n ≤ s.pair.lastSealed ∧
        s.mode.handover = none ∧
        s.pair.planned = []) ∧
    (∃ (h : MirHdr) (n : Nat) (s : State),
        FrameTaken h s ∧
        pairedModes s = true ∧
        decides s = true ∧
        s.pair.paired = true ∧
        n ≤ s.pair.lastSealed ∧
        s.mode.handover = none ∧
        s.pair.planned = []) ∧
    (∃ (h : MirHdr) (n : Nat) (s : State) (q : _) (cid : _) (d : _) (l : _) (x : _),
        FrameTaken h s ∧
        pairedModes s = true ∧
        decides s = true ∧
        s.pair.paired = true ∧
        n ≤ s.pair.lastSealed ∧
        s.mode.handover = none ∧
        s.pair.planned = [q] ∧
        q.frame.msg = .data cid d l ∧
        connOf s q.conn = some x ∧
        q.cycle ≤ n ∧
        q.cycle + 2 ≤ s.pair.cycle) ∧
    (∃ (h : MirHdr) (k : Nat) (pos : Nat) (len : Nat) (s : State) (b : _),
        FrameTaken h s ∧
        pairedModes s = true ∧
        decides s = true ∧
        let kept := retained (s.net.retention.length + 1) k pos len s.net.retention
        kept = some b) ∧
    (∃ (h : MirHdr) (k : Nat) (pos : Nat) (len : Nat) (s : State) (b : _),
        FrameTaken h s ∧
        pairedModes s = true ∧
        decides s = true ∧
        let kept := retained (s.net.retention.length + 1) k pos len s.net.retention
        kept = some b) ∧
    (∃ (h : MirHdr) (k : Nat) (pos : Nat) (len : Nat) (s : State),
        FrameTaken h s ∧
        pairedModes s = true ∧
        decides s = true ∧
        let kept := retained (s.net.retention.length + 1) k pos len s.net.retention
        kept = none) ∧
    (∃ (h : MirHdr) (ns : Nat) (a : Nat) (k : Nat) (x : Slot) (s : State),
        FrameTaken h s ∧
        pairedModes s = true ∧
        decides s = true ∧
        resolve ns a s = .slot k ∧
        Tbl.get? s.xlat.slots k = some x ∧
        s.pair.sectorQ = [] ∧
        1 ≤ h.credit) ∧
    (∃ (h : MirHdr) (k : Nat) (x : Conn) (s : State),
        FrameTaken h s ∧
        takesRecords s = true ∧
        s.pair.waiting = [] ∧
        connOf s k = some x ∧
        x.info.kind = .tcp) ∧
    (∃ (h : MirHdr) (m : MirSector) (s : State),
        FrameTaken h s ∧
        inMode [.standby, .coldStandby] s = true ∧
        s.pair.waiting = [] ∧
        caddyFree s ≠ 0 ∧
        (∀ p ∈ s.xlat.slots, sameCopy m p.2 = false)) ∧
    (∃ (h : MirHdr) (s : State),
        grants s poolSnapshot 1 = true ∧
        FrameTaken h s ∧
        s.mode.mode = .rejoin ∧
        s.pair.cold = false ∧
        s.pair.rejoinPhase = 3) ∧
    (∃ (h : MirHdr) (s : State),
        grants s poolSnapshot 1 = true ∧
        FrameTaken h s ∧
        s.mode.mode = .rejoin ∧
        s.pair.cold = false ∧
        s.pair.rejoinPhase = 4 ∧
        s.pair.waiting = []) ∧
    (∃ (s : State),
        grants s poolSnapshot 1 = false) ∧
    (∃ (h : MirHdr) (sess : Nat) (s : State),
        FrameTaken h s ∧
        reachable .mirror s = true ∧
        grants s poolMgmt 1 = true ∧
        sess < 65536) ∧
    (∃ (h : MirHdr) (sess : Nat) (s : State),
        FrameTaken h s ∧
        reachable .mirror s = true ∧
        grants s poolMgmt 1 = true ∧
        sess < 65536) ∧
    (∃ (h : MirHdr) (sess : Nat) (trans : Nat) (req : Req) (s : State),
        FrameTaken h s ∧
        s.mgmt.forwards = [(sess, trans, req)] ∧
        sess < 65536) := ⟨
    ⟨hdrW, ((md .active).linked), (by unfold FrameTaken; decide +kernel), by decide +kernel⟩,
    ⟨hdrW, (((md .rejoin).linked.onPair fun p => { p with paired := false })), (by unfold FrameTaken; decide +kernel), by decide +kernel⟩,
    ⟨hdrW, (recW 10), (((md .standby).linked)), (by unfold FrameTaken; decide +kernel), by decide +kernel⟩,
    ⟨hdrW, ({ recW 10 with join := true } : CycleRec), ((((md .rejoin).linked.onPair fun p => { p with paired := false })).onPair fun p => { p with rejoinPhase := 5 }), (by unfold FrameTaken; decide +kernel), by decide +kernel⟩,
    ⟨hdrW, 5, (((md .active).linked).onPair fun p => { p with lastSealed := 5, cycle := 6, ring := [(5, recW 5)] }), (by unfold FrameTaken; decide +kernel), by decide +kernel⟩,
    ⟨hdrW, 0, (((md .active).linked).onPair fun p => { p with lastSealed := 5, committed := 3 }), (by unfold FrameTaken; decide +kernel), by decide +kernel⟩,
    ⟨hdrW, 5, ((((md .active).linked).conn (connW .tcp)).onPair fun p => { p with lastSealed := 5, cycle := 7, ring := [(5, recW 5)], planned := [{ cycle := 5, conn := 1, frame := { txW (.data 9 none [[1]]) with plan := some 5 } }] }), ({ cycle := 5, conn := 1, frame := { txW (.data 9 none [[1]]) with plan := some 5 } }), 9, none, ([[1]]), (connW .tcp), (by unfold FrameTaken; decide +kernel), by decide +kernel⟩,
    ⟨hdrW, 1, 11, 3, (((md .active).linked).onNet fun n => { n with retention := [(0, 1, 10, [1, 2, 3, 4])] }), ([2, 3, 4]), (by unfold FrameTaken; decide +kernel), (by decide +kernel), (by decide +kernel), by decide +kernel⟩,
    ⟨hdrW, 1, 11, 0, (((md .active).linked).onNet fun n => { n with retention := [(0, 1, 10, [1, 2, 3, 4])] }), ([]), (by unfold FrameTaken; decide +kernel), (by decide +kernel), (by decide +kernel), by decide +kernel⟩,
    ⟨hdrW, 1, 11, 4, (((md .active).linked).onNet fun n => { n with retention := [(0, 1, 10, [1, 2, 3, 4])] }), (by unfold FrameTaken; decide +kernel), (by decide +kernel), (by decide +kernel), by decide +kernel⟩,
    ⟨hdrW, 1, 0, 0, (slotW 0 .placed), ((((md .active).linked).ns1.slots [slotW 0 .placed])), (by unfold FrameTaken; decide +kernel), by decide +kernel⟩,
    ⟨hdrW, 1, ({ connW .tcp with host := 1 } : Conn), ((((md .standby).linked).host1 .tcp)), (by unfold FrameTaken; decide +kernel), by decide +kernel⟩,
    ⟨hdrW, ({ ns := 1, lba := 7, cycle := 3, data := [9] } : MirSector), (((md .standby).linked)), (by unfold FrameTaken; decide +kernel), by decide +kernel⟩,
    ⟨hdrW, (((((md .rejoin).linked.onPair fun p => { p with paired := false })).onPair fun p => { p with rejoinPhase := 3 }).onXlat fun x => { x with runs := [runW], bands := [(1, bandW .data)] }), (by decide +kernel), (by unfold FrameTaken; decide +kernel), by decide +kernel⟩,
    ⟨hdrW, ((((md .rejoin).linked.onPair fun p => { p with paired := false })).onPair fun p => { p with rejoinPhase := 4 }), (by decide +kernel), (by unfold FrameTaken; decide +kernel), by decide +kernel⟩,
    ⟨((((md .rejoin).linked.onPair fun p => { p with paired := false })).num 0x4001 15 0 0), by decide +kernel⟩,
    ⟨hdrW, 3, ((md .active).linked), (by unfold FrameTaken; decide +kernel), by decide +kernel⟩,
    ⟨hdrW, 3, ((md .active).linked), (by unfold FrameTaken; decide +kernel), by decide +kernel⟩,
    ⟨hdrW, 3, 4, (.get 1 2 : Req), ((((md .standby).linked)).onMgmt fun m => { m with forwards := [(3, 4, .get 1 2)] }), (by unfold FrameTaken; decide +kernel), by decide +kernel⟩⟩

theorem test_meets_BoundaryRows :
    (∃ (s : State),
        s.mode.mode = .solo ∧
        s.pair.paired = false ∧
        s.pair.partnerJoining = false ∧
        s.pair.heldEntries = [] ∧
        s.pair.planned = [] ∧
        s.cmd.cmds = [] ∧
        s.mode.handover = none ∧
        s.mgmt.waiting = []) ∧
    (∃ (s : State),
        s.mode.mode = .active ∧
        s.pair.paired = true ∧
        s.pair.cold = false ∧
        s.pair.partnerJoining = false ∧
        s.pair.heldEntries = [] ∧
        s.pair.planned = [] ∧
        s.cmd.cmds = [] ∧
        s.mode.handover = none ∧
        s.mgmt.waiting = [] ∧
        s.pair.link = 2) ∧
    (∃ (s : State),
        s.mode.mode = .standby ∧
        s.pair.waiting = [] ∧
        s.pair.lacks = [] ∧
        s.pair.link = 2 ∧
        s.mgmt.waiting = []) ∧
    (∃ (s : State),
        s.mode.mode = .takeover) := ⟨
    ⟨((md .solo).onPair fun p => { p with cycle := 7 }), by decide +kernel⟩,
    ⟨(((md .active).linked).onPair fun p => { p with cycle := 7, committed := 5, entries := [.connEnd 1 0] }), by decide +kernel⟩,
    ⟨(((md .standby).linked)), by decide +kernel⟩,
    ⟨(md .takeover), by decide +kernel⟩⟩

theorem test_meets_FailoverRows :
    (∃ (s : State),
        inMode [.standby, .coldStandby] s = true ∧
        s.pair.faultIn = 3) ∧
    (∃ (s : State),
        inMode [.standby, .coldStandby] s = true ∧
        s.pair.faultIn = 3) ∧
    (∃ (s : State),
        inMode [.standby, .coldStandby] s = true ∧
        s.pair.faultIn ≠ 3) ∧
    (∃ (s : State),
        inMode [.standby, .coldStandby] s = true ∧
        s.pair.faultIn ≠ 3) ∧
    (∃ (s : State),
        inMode [.active, .quiesced] s = true ∧
        s.pair.paired = true ∧
        s.pair.lag ≠ .fencing) ∧
    (∃ (s : State),
        inMode [.active, .quiesced] s = true ∧
        s.pair.paired = true ∧
        s.pair.lag ≠ .fencing) ∧
    (∃ (s : State),
        s.mode.mode = .solo ∧
        s.pair.partnerJoining = false) ∧
    (∃ (s : State),
        s.mode.mode = .solo ∧
        s.pair.partnerJoining = false) ∧
    (∃ (s : State),
        inMode [.standby, .coldStandby] s = true) ∧
    (∃ (s : State),
        inMode [.standby, .coldStandby] s = true) ∧
    (∃ (s : State),
        inMode [.reset, .boot, .holdup] s = false ∧
        s.pair.heartbeat = true) ∧
    (∃ (s : State),
        inMode [.reset, .boot, .holdup] s = false ∧
        s.pair.heartbeat = true) ∧
    (∃ (s : State),
        inMode [.standby, .coldStandby] s = true ∧
        s.pair.heartbeat = false) ∧
    (∃ (s : State),
        inMode [.standby, .coldStandby] s = true ∧
        s.pair.heartbeat = false) ∧
    (∃ (s : State),
        s.pair.round = some .fencing) ∧
    (∃ (h : MirHdr) (s : State),
        FrameTaken h s ∧
        inMode [.standby, .coldStandby, .rejoin] s = true) ∧
    (∃ (h : MirHdr) (s : State),
        FrameTaken h s ∧
        inMode [.standby, .coldStandby, .rejoin] s = true) := ⟨
    ⟨((((md .standby).linked)).onPair fun p => { p with faultIn := 3 }), by decide +kernel⟩,
    ⟨(((md .coldStandby).linked).onPair fun p => { p with faultIn := 3 }), by decide +kernel⟩,
    ⟨((((md .standby).linked)).onPair fun p => { p with faultIn := 0 }), by decide +kernel⟩,
    ⟨(((md .coldStandby).linked).onPair fun p => { p with faultIn := 2 }), by decide +kernel⟩,
    ⟨((md .active).linked), by decide +kernel⟩,
    ⟨((md .quiesced).linked), by decide +kernel⟩,
    ⟨(md .solo), by decide +kernel⟩,
    ⟨(((md .solo).linked.onPair fun p => { p with paired := false })), by decide +kernel⟩,
    ⟨(((md .standby).linked)), by decide +kernel⟩,
    ⟨((md .coldStandby).linked), by decide +kernel⟩,
    ⟨(((md .active).linked).onPair fun p => { p with heartbeat := true }), (by decide +kernel), by decide +kernel⟩,
    ⟨((((md .standby).linked)).onPair fun p => { p with heartbeat := true }), (by decide +kernel), by decide +kernel⟩,
    ⟨(((md .standby).linked)), by decide +kernel⟩,
    ⟨(((md .standby).linked)), by decide +kernel⟩,
    ⟨(((md .active).linked).onPair fun p => { p with round := some .fencing, lag := .fencing }), by decide +kernel⟩,
    ⟨hdrW, (((md .standby).linked)), (by unfold FrameTaken; decide +kernel), by decide +kernel⟩,
    ⟨hdrW, ((md .coldStandby).linked), (by unfold FrameTaken; decide +kernel), by decide +kernel⟩⟩

theorem test_meets_RoleRows :
    (∃ (h : MirHdr) (p : PairInfo) (s : State),
        FrameTaken h s ∧
        flag 0x2106 0 0 s = true ∧
        s.mode.mode = .rejoin ∧
        s.pair.rejoinPhase ≤ 2 ∧
        pairingPasses p s = true ∧
        servesCode p.mode = true ∧
        s.keys.arrayKey.isSome = true ∧
        s.xlat.arrayId = p.arrayId) ∧
    (∃ (h : MirHdr) (p : PairInfo) (s : State),
        FrameTaken h s ∧
        flag 0x2106 0 0 s = true ∧
        s.mode.mode = .rejoin ∧
        s.pair.rejoinPhase ≤ 2 ∧
        pairingPasses p s = true ∧
        servesCode p.mode = true ∧
        s.keys.arrayKey.isSome = true ∧
        s.xlat.arrayId = p.arrayId) ∧
    (∃ (h : MirHdr) (p : PairInfo) (s : State),
        FrameTaken h s ∧
        flag 0x2106 0 0 s = true ∧
        s.mode.mode = .rejoin ∧
        s.pair.rejoinPhase ≤ 2 ∧
        pairingPasses p s = false) ∧
    (∃ (h : MirHdr) (p : PairInfo) (s : State),
        FrameTaken h s ∧
        flag 0x2106 0 0 s = true ∧
        s.mode.mode = .solo ∧
        p.mode = 8 ∧
        s.pair.lag ≠ .fencing ∧
        entropyState s ≠ 2 ∧
        s.pair.partnerJoining = false ∧
        pairingPasses p s = true) ∧
    (∃ (h : MirHdr) (p : PairInfo) (s : State),
        FrameTaken h s ∧
        flag 0x2106 0 0 s = true ∧
        s.mode.mode = .solo ∧
        p.mode = 8 ∧
        s.pair.lag ≠ .fencing ∧
        entropyState s ≠ 2 ∧
        s.pair.partnerJoining = false ∧
        pairingPasses p s = true) ∧
    (∃ (s : State),
        mayRejoin s = true ∧
        partnerSolo s = true ∧
        s.mode.holdIsolated = false ∧
        entropyState s ≠ 2) ∧
    (∃ (t : Time) (s : State),
        let now := max s.now t
        let l := s.pair.rejoinTries.filter fun x => now < x + 3600 * second
        s.mode.mode = .isolated ∧
        s.mode.holdIsolated = false ∧
        cfg 0x2153 s ≤ l.length) ∧
    (∃ (t : Time) (s : State),
        let now := max s.now t
        let l := s.pair.rejoinTries.filter fun x => now < x + 3600 * second
        s.mode.mode = .isolated ∧
        s.mode.holdIsolated = false ∧
        l.length < cfg 0x2153 s ∧
        mayRejoin s = true ∧
        partnerSolo s = true ∧
        entropyState s ≠ 2) ∧
    (∃ (t : Time) (w : Write) (x : Session) (c : WCtx) (s : State),
        WriteTaken 0x2154 rejoinRequestCheck t w x c s ∧
        w.val.toNat ≠ 0 ∧
        entropyState s ≠ 2) ∧
    (∃ (t : Time) (w : Write) (x : Session) (c : WCtx) (s : State),
        WriteTaken 0x2154 rejoinRequestCheck t w x c s ∧
        w.val.toNat ≠ 0 ∧
        entropyState s ≠ 2) ∧
    (∃ (t : Time) (s : State),
        let d := cfg 0x2143 s
        d ≠ 0 ∧
        s.pair.lastSwap + d * (86400 * second) ≤ max s.now t ∧
        s.mgmt.raisedAt = []) ∧
    (∃ (t : Time) (w : Write) (x : Session) (c : WCtx) (s : State),
        WriteTaken 0x2140 roleSwapCheck t w x c s) ∧
    (∃ (s : State),
        s.mode.mode = .quiesced ∧
        s.mode.handover = none ∧
        s.pair.paired = true ∧
        (∀ p ∈ s.cmd.cmds, dispatched p.2.phase = false)) ∧
    (∃ (s : State),
        s.mode.mode = .quiesced ∧
        s.mode.handover = none ∧
        s.pair.paired = true) ∧
    (∃ (s : State),
        s.mode.mode = .quiesced ∧
        s.mode.handover = none ∧
        s.pair.paired = false ∧
        s.mode.quiesceBy = .serviceEnable ∧
        (∀ p ∈ s.cmd.cmds, dispatched p.2.phase = false)) ∧
    (∃ (s : State),
        s.mode.mode = .quiesced ∧
        s.mode.handover = none ∧
        s.pair.paired = false ∧
        s.mode.quiesceBy = .serviceEnable ∧
        (∀ p ∈ s.cmd.cmds, dispatched p.2.phase = false)) ∧
    (∃ (t : Time) (w : Write) (x : Session) (c : WCtx) (s : State),
        WriteTaken 0x2170 fwActivateCheck t w x c s) ∧
    (∃ (t : Time) (w : Write) (x : Session) (c : WCtx) (s : State),
        WriteTaken 0x2170 fwActivateCheck t w x c s) ∧
    (∃ (t : Time) (w : Write) (x : Session) (c : WCtx) (s : State),
        WriteTaken 0x2171 forceSoloCheck t w x c s) ∧
    (∃ (s : State),
        s.mode.mode = .isolated ∧
        s.mode.restarted = true ∧
        partnerServes s = false ∧
        s.pair.round = none ∧
        let held := currentValues s
        s.keys.arrayKey = none) ∧
    (∃ (s : State),
        s.mode.mode = .isolated ∧
        s.mode.restarted = true ∧
        partnerServes s = false ∧
        s.pair.round = none ∧
        let held := currentValues s
        s.keys.arrayKey.isSome = true ∧
        strictMajority held (seatedBays s).length = true ∧
        mayServe s = true) ∧
    (∃ (s : State),
        s.mode.mode = .isolated ∧
        s.mode.restarted = true ∧
        partnerServes s = false ∧
        s.pair.round = none ∧
        let held := currentValues s
        s.keys.arrayKey.isSome = true ∧
        strictMajority held (seatedBays s).length = false) := ⟨
    ⟨hdrW, pairW, (((((((md .rejoin).linked.onPair fun p => { p with paired := false })).onPair fun p => { p with rejoinPhase := 1 }).id0).num 0x2106 0 0 1).onKeys fun k => { k with arrayKey := some 1 }), (by unfold FrameTaken; decide +kernel), by decide +kernel⟩,
    ⟨hdrW, pairW, (((((((md .rejoin).linked.onPair fun p => { p with paired := false })).onPair fun p => { p with rejoinPhase := 2 }).id0).num 0x2106 0 0 1).onKeys fun k => { k with arrayKey := some 1 }), (by unfold FrameTaken; decide +kernel), by decide +kernel⟩,
    ⟨hdrW, ({ pairW with certOk := false } : PairInfo), (((((((md .rejoin).linked.onPair fun p => { p with paired := false })).onPair fun p => { p with rejoinPhase := 1 }).id0).num 0x2106 0 0 1).onKeys fun k => { k with arrayKey := some 1 }), (by unfold FrameTaken; decide +kernel), by decide +kernel⟩,
    ⟨hdrW, ({ pairW with mode := 8, arrayId := 0 } : PairInfo), (((((md .solo).linked.onPair fun p => { p with paired := false })).id0).num 0x2106 0 0 1), (by unfold FrameTaken; decide +kernel), by decide +kernel⟩,
    ⟨hdrW, ({ pairW with mode := 8, arrayId := 3 } : PairInfo), (((((md .solo).linked.onPair fun p => { p with paired := false })).id0).num 0x2106 0 0 1), (by unfold FrameTaken; decide +kernel), by decide +kernel⟩,
    ⟨(((((md .isolated).linked.onPair fun p => { p with paired := false, partnerMode := 3, cycle := 4 }).num 0x2001 0 0 1).num 0x2106 0 0 1).onPower (fun p => { p with cap := 934 })), by decide +kernel⟩,
    ⟨5, ((((((md .isolated).linked.onPair fun p => { p with paired := false, partnerMode := 3, cycle := 4 }).num 0x2001 0 0 1).num 0x2106 0 0 1).onPower (fun p => { p with cap := 934 })).onPair fun p => { p with rejoinTries := [0, 1, 2] }), (by decide +kernel), (by decide +kernel), by decide +kernel⟩,
    ⟨5, ((((((md .isolated).linked.onPair fun p => { p with paired := false, partnerMode := 3, cycle := 4 }).num 0x2001 0 0 1).num 0x2106 0 0 1).onPower (fun p => { p with cap := 934 })).onPair fun p => { p with rejoinTries := [0, 1] }), (by decide +kernel), (by decide +kernel), (by decide +kernel), (by decide +kernel), (by decide +kernel), by decide +kernel⟩,
    ⟨5, ({ sess := 1, sub := 0, val := .num 1 } : Write), _, _, ((((((md .isolated).linked.onPair fun p => { p with paired := false, partnerMode := 3, cycle := 4 }).num 0x2001 0 0 1).num 0x2106 0 0 1).onPower (fun p => { p with cap := 934 })).sess), (taken_of (by decide +kernel)), by decide +kernel⟩,
    ⟨5, ({ sess := 1, sub := 0, val := .num 1 } : Write), _, _, (((((((md .isolated).linked.onPair fun p => { p with paired := false, partnerMode := 3, cycle := 4 }).num 0x2001 0 0 1).num 0x2106 0 0 1).onPower (fun p => { p with cap := 934 })).onPair fun p => { p with link := 1 }).sess), (taken_of (by decide +kernel)), by decide +kernel⟩,
    ⟨2592000000000000, ((md .active).linked), (by decide +kernel), (by decide +kernel), by decide +kernel⟩,
    ⟨5, ({ sess := 1, sub := 0, val := .num 0xA5A5 } : Write), _, _, (((md .active).linked).sess), (taken_of (by decide +kernel))⟩,
    ⟨(((md .quiesced).linked)), by decide +kernel⟩,
    ⟨(((md .quiesced).linked)), by decide +kernel⟩,
    ⟨(((md .quiesced).onMode fun m => { m with quiesceBy := .serviceEnable })), by decide +kernel⟩,
    ⟨(((md .quiesced).onMode fun m => { m with quiesceBy := .serviceEnable })), by decide +kernel⟩,
    ⟨5, ({ sess := 1, sub := 0, val := .num 1 } : Write), _, _, ((((md .standby).linked)).sess.onMgmt fun m => { m with images := Vector.replicate 2 (some { digestOk := true, sigOk := true, version := 1 }) }), (taken_of (by decide +kernel))⟩,
    ⟨5, ({ sess := 1, sub := 0, val := .num 2 } : Write), _, _, ((((((md .isolated).linked.onPair fun p => { p with paired := false, partnerMode := 3, cycle := 4 }).num 0x2001 0 0 1).num 0x2106 0 0 1).onPower (fun p => { p with cap := 934 })).sess.onMgmt fun m => { m with images := Vector.replicate 2 (some { digestOk := true, sigOk := true, version := 1 }) }), (taken_of (by decide +kernel))⟩,
    ⟨5, ({ sess := 1, sub := 0, val := .num 0xF00F } : Write), _, _, (((((((md .isolated).linked.onPair fun p => { p with paired := false, partnerMode := 3, cycle := 4 }).num 0x2001 0 0 1).num 0x2106 0 0 1).onPower (fun p => { p with cap := 934 })).onKeys fun k => { k with arrayKey := some 1 }).sess), (taken_of (by decide +kernel))⟩,
    ⟨((md .isolated).onMode fun m => { m with restarted := true }), (by decide +kernel), (by decide +kernel), (by decide +kernel), (by decide +kernel), by decide +kernel⟩,
    ⟨(((((((((md .isolated).linked.onPair fun p => { p with paired := false, partnerMode := 3, cycle := 4 }).num 0x2001 0 0 1).num 0x2106 0 0 1).onPower (fun p => { p with cap := 934 })).onKeys fun k => { k with arrayKey := some 1 }).onMode fun m => { m with restarted := true }).onPair fun p => { p with link := 1, reserved := [(0, 0)] }).onBays fun v => updNat v 0 fun b => { b with seated := true }), (by decide +kernel), (by decide +kernel), (by decide +kernel), (by decide +kernel), (by decide +kernel), (by decide +kernel), by decide +kernel⟩,
    ⟨(((((((((md .isolated).linked.onPair fun p => { p with paired := false, partnerMode := 3, cycle := 4 }).num 0x2001 0 0 1).num 0x2106 0 0 1).onPower (fun p => { p with cap := 934 })).onKeys fun k => { k with arrayKey := some 1 }).onMode fun m => { m with restarted := true }).onPair fun p => { p with link := 1, reserved := [(0, 7)] }).onBays fun v => updNat v 0 fun b => { b with seated := true }), (by decide +kernel), (by decide +kernel), (by decide +kernel), (by decide +kernel), (by decide +kernel), by decide +kernel⟩⟩

theorem test_meets_FeedRows :
    (∃ (f : Feed) (mv : Nat) (s : State),
        s.mode.alwaysOn = true ∧
        let st := (feedOf s f.val).state
        let other := feedOf s (1 - f.val)
        let node := (if other.enabled then max mv other.mv else mv) - 20
        (st = .absent ∨ st = .lost)) ∧
    (∃ (f : Feed) (mv : Nat) (s : State),
        s.mode.alwaysOn = true ∧
        let st := (feedOf s f.val).state
        let other := feedOf s (1 - f.val)
        let node := (if other.enabled then max mv other.mv else mv) - 20
        (st = .absent ∨ st = .lost)) ∧
    (∃ (f : Feed) (mv : Nat) (s : State),
        s.mode.alwaysOn = true ∧
        let st := (feedOf s f.val).state
        let other := feedOf s (1 - f.val)
        let node := (if other.enabled then max mv other.mv else mv) - 20
        st = .low) ∧
    (∃ (f : Feed) (mv : Nat) (s : State),
        s.mode.alwaysOn = true ∧
        let st := (feedOf s f.val).state
        let other := feedOf s (1 - f.val)
        let node := (if other.enabled then max mv other.mv else mv) - 20
        st = .low) ∧
    (∃ (f : Feed) (mv : Nat) (s : State),
        s.mode.alwaysOn = true ∧
        let st := (feedOf s f.val).state
        let other := feedOf s (1 - f.val)
        let node := (if other.enabled then max mv other.mv else mv) - 20
        st = .good) ∧
    (∃ (f : Feed) (mv : Nat) (s : State),
        s.mode.alwaysOn = true ∧
        let st := (feedOf s f.val).state
        let other := feedOf s (1 - f.val)
        let node := (if other.enabled then max mv other.mv else mv) - 20
        st = .good) ∧
    (∃ (f : Feed) (mv : Nat) (s : State),
        s.mode.alwaysOn = true ∧
        let st := (feedOf s f.val).state
        let other := feedOf s (1 - f.val)
        let node := (if other.enabled then max mv other.mv else mv) - 20
        st = .overvoltage) ∧
    (∃ (f : Feed) (mv : Nat) (s : State),
        s.mode.alwaysOn = true ∧
        let st := (feedOf s f.val).state
        let other := feedOf s (1 - f.val)
        let node := (if other.enabled then max mv other.mv else mv) - 20
        (st = .good ∨ st = .low)) ∧
    (∃ (f : Feed) (mv : Nat) (s : State),
        s.mode.alwaysOn = true ∧
        let st := (feedOf s f.val).state
        let other := feedOf s (1 - f.val)
        let node := (if other.enabled then max mv other.mv else mv) - 20
        (st = .good ∨ st = .low)) ∧
    (∃ (f : Feed) (mv : Nat) (s : State),
        s.mode.alwaysOn = true ∧
        let st := (feedOf s f.val).state
        let other := feedOf s (1 - f.val)
        let node := (if other.enabled then max mv other.mv else mv) - 20
        st = .reverse) ∧
    (∃ (f : Feed) (mv : Nat) (s : State),
        s.mode.alwaysOn = true ∧
        let st := (feedOf s f.val).state
        let other := feedOf s (1 - f.val)
        let node := (if other.enabled then max mv other.mv else mv) - 20
        st = .reverse) ∧
    (∃ (f : Feed) (s : State),
        s.mode.alwaysOn = true ∧
        let st := (feedOf s f.val).state
        let other := (feedOf s (1 - f.val)).state
        other ≠ .lost ∧
        other ≠ .overvoltage ∧
        (st = .good ∨ st = .low)) ∧
    (∃ (f : Feed) (s : State),
        s.mode.alwaysOn = true ∧
        let st := (feedOf s f.val).state
        let other := (feedOf s (1 - f.val)).state
        other ≠ .lost ∧
        other ≠ .overvoltage ∧
        (st = .good ∨ st = .low)) ∧
    (∃ (f : Feed) (s : State),
        s.mode.alwaysOn = true ∧
        let st := (feedOf s f.val).state
        let other := (feedOf s (1 - f.val)).state
        other ≠ .lost ∧
        other ≠ .overvoltage ∧
        st ≠ .overvoltage) ∧
    (∃ (f : Feed) (s : State),
        s.mode.alwaysOn = true ∧
        let st := (feedOf s f.val).state
        let other := (feedOf s (1 - f.val)).state
        other ≠ .lost ∧
        other ≠ .overvoltage ∧
        st ≠ .overvoltage) ∧
    (∃ (f : Feed) (s : State),
        s.mode.alwaysOn = true ∧
        let st := (feedOf s f.val).state
        let other := (feedOf s (1 - f.val)).state
        (other = .lost ∨ other = .overvoltage) ∧
        inMode [.reset, .holdup] s = false ∧
        (st = .good ∨ st = .low)) ∧
    (∃ (f : Feed) (s : State),
        s.mode.alwaysOn = true ∧
        let st := (feedOf s f.val).state
        let other := (feedOf s (1 - f.val)).state
        (other = .lost ∨ other = .overvoltage) ∧
        inMode [.reset, .holdup] s = false ∧
        (st = .good ∨ st = .low)) ∧
    (∃ (f : Feed) (s : State),
        s.mode.alwaysOn = true ∧
        let st := (feedOf s f.val).state
        let other := (feedOf s (1 - f.val)).state
        (other = .lost ∨ other = .overvoltage) ∧
        inMode [.reset, .holdup] s = false ∧
        st ≠ .overvoltage) ∧
    (∃ (f : Feed) (s : State),
        s.mode.alwaysOn = true ∧
        let st := (feedOf s f.val).state
        let other := (feedOf s (1 - f.val)).state
        (other = .lost ∨ other = .overvoltage) ∧
        inMode [.reset, .holdup] s = false ∧
        st ≠ .overvoltage) ∧
    (∃ (s : State),
        s.mode.mode = .holdup ∧
        s.power.holdRunning = true) ∧
    (∃ (s : State),
        s.mode.mode = .holdup ∧
        s.power.holdRunning = true) ∧
    (∃ (f : Feed) (s : State),
        s.mode.mode = .holdup ∧
        s.power.holdRunning = false ∧
        s.mode.alwaysOn = true ∧
        (feedOf s f.val).state = .good ∧
        10800 ≤ (feedOf s f.val).mv ∧
        (feedOf s f.val).mv ≤ 13200 ∧
        (slotRuns 1 s = true ∨ slotRuns 2 s = true) ∧
        (∀ e : Engine, (engineOf s e.val).state ≠ .retired) ∧
        s.mgmt.store = [] ∧
        s.pair.ring = []) ∧
    (∃ (f : Feed) (s : State),
        s.mode.mode = .holdup ∧
        s.power.holdRunning = false ∧
        s.mode.alwaysOn = true ∧
        (feedOf s f.val).state = .good ∧
        10800 ≤ (feedOf s f.val).mv ∧
        (feedOf s f.val).mv ≤ 13200 ∧
        (slotRuns 1 s = true ∨ slotRuns 2 s = true) ∧
        (∀ e : Engine, (engineOf s e.val).state ≠ .retired) ∧
        s.mgmt.store = [] ∧
        s.pair.ring = []) ∧
    (∃ (f : Feed) (s : State),
        s.mode.mode = .holdup ∧
        s.power.holdRunning = false ∧
        s.mode.alwaysOn = true ∧
        (feedOf s f.val).state = .good ∧
        10800 ≤ (feedOf s f.val).mv ∧
        (feedOf s f.val).mv ≤ 13200 ∧
        slotRuns 1 s = false ∧
        slotRuns 2 s = false) := ⟨
    ⟨0, 11900, (((md .solo).feed 0 .absent 12000).feed 1 .good 12000), (by decide +kernel), by decide +kernel⟩,
    ⟨1, 11900, (((md .solo).feed 1 .lost 12000).feed 0 .low 12500), (by decide +kernel), by decide +kernel⟩,
    ⟨0, 11900, (((md .solo).feed 0 .low 12000).feed 1 .good 12000), (by decide +kernel), by decide +kernel⟩,
    ⟨1, 11900, (((md .solo).feed 1 .low 12000).feed 0 .reverse 0), (by decide +kernel), by decide +kernel⟩,
    ⟨0, 10500, (((md .solo).feed 0 .good 12000).feed 1 .good 12000), (by decide +kernel), by decide +kernel⟩,
    ⟨0, 10500, (((md .solo).feed 0 .good 12000).feed 1 .lost 12000), (by decide +kernel), by decide +kernel⟩,
    ⟨0, 11900, (((md .solo).feed 0 .overvoltage 12000).feed 1 .good 12000), (by decide +kernel), by decide +kernel⟩,
    ⟨0, 11900, (((md .solo).feed 0 .good 12000).feed 1 .good 12000), (by decide +kernel), by decide +kernel⟩,
    ⟨1, 11900, (((md .solo).feed 1 .low 12000).feed 0 .good 12000), (by decide +kernel), by decide +kernel⟩,
    ⟨0, 10600, (((md .solo).feed 0 .reverse 12000).feed 1 .good 12000), (by decide +kernel), by decide +kernel⟩,
    ⟨0, 10599, (((md .solo).feed 0 .reverse 12000).feed 1 .good 12000), (by decide +kernel), by decide +kernel⟩,
    ⟨0, (((md .solo).feed 0 .good 12000).feed 1 .good 12000), (by decide +kernel), (by decide +kernel), (by decide +kernel), by decide +kernel⟩,
    ⟨1, (((md .solo).feed 1 .low 12000).feed 0 .reverse 12000), (by decide +kernel), (by decide +kernel), (by decide +kernel), by decide +kernel⟩,
    ⟨0, (((md .solo).feed 0 .good 12000).feed 1 .good 12000), (by decide +kernel), (by decide +kernel), (by decide +kernel), by decide +kernel⟩,
    ⟨1, (((md .solo).feed 1 .lost 12000).feed 0 .absent 12000), (by decide +kernel), (by decide +kernel), (by decide +kernel), by decide +kernel⟩,
    ⟨0, (((md .solo).feed 0 .good 12000).feed 1 .lost 0), (by decide +kernel), (by decide +kernel), (by decide +kernel), by decide +kernel⟩,
    ⟨0, ((((md .active).feed 0 .good 12000).feed 1 .lost 0).bay0 fun b => { b with state := .on }), (by decide +kernel), (by decide +kernel), (by decide +kernel), by decide +kernel⟩,
    ⟨0, (((md .solo).feed 0 .good 12000).feed 1 .lost 0), (by decide +kernel), (by decide +kernel), (by decide +kernel), by decide +kernel⟩,
    ⟨1, (((md .solo).feed 1 .lost 12000).feed 0 .lost 0), (by decide +kernel), (by decide +kernel), (by decide +kernel), by decide +kernel⟩,
    ⟨((((((md .holdup).feed 0 .good 12000).feed 1 .lost 0).onMode fun m => { m with resetN := true })).onPower fun p => { p with holdRunning := true, caddyOpen := true }), by decide +kernel⟩,
    ⟨((((((md .holdup).feed 0 .good 12000).feed 1 .lost 0).onMode fun m => { m with resetN := false })).onPower fun p => { p with holdRunning := true, caddyOpen := true }), by decide +kernel⟩,
    ⟨0, ((((((md .holdup).feed 0 .good 10800).feed 1 .lost 0).onMode fun m => { m with resetN := true })).onMgmt fun m => { m with images := updNat m.images 0 fun _ => some imgOk }), by decide +kernel⟩,
    ⟨0, ((((((md .holdup).feed 0 .good 13200).feed 1 .lost 0).onMode fun m => { m with resetN := true })).onMgmt fun m => { m with images := updNat m.images 1 fun _ => some imgOk }), by decide +kernel⟩,
    ⟨0, (((((md .holdup).feed 0 .good 12000).feed 1 .lost 0).onMode fun m => { m with resetN := true })), by decide +kernel⟩⟩

theorem test_meets_BayRows :
    (∃ (b : Bay) (s : State),
        s.mode.alwaysOn = true ∧
        baysRun s = true ∧
        (bayOf s b.val).state = .empty) ∧
    (∃ (b : Bay) (s : State),
        s.mode.alwaysOn = true ∧
        baysRun s = true ∧
        (bayOf s b.val).state = .empty) ∧
    (∃ (b : Bay) (s : State),
        s.mode.alwaysOn = true ∧
        baysRun s = true ∧
        (bayOf s b.val).state = .present) ∧
    (∃ (b : Bay) (pins : BitVec 2) (s : State),
        s.mode.alwaysOn = true ∧
        baysRun s = true ∧
        pins ≠ 0 ∧
        (bayOf s b.val).seated = true ∧
        (bayOf s b.val).state ≠ .empty) ∧
    (∃ (b : Bay) (pins : BitVec 2) (s : State),
        s.mode.alwaysOn = true ∧
        baysRun s = true ∧
        pins ≠ 0 ∧
        (bayOf s b.val).seated = true ∧
        (bayOf s b.val).state ≠ .empty) ∧
    (∃ (s : State),
        s.mode.alwaysOn = true ∧
        baysRun s = true) ∧
    (∃ (b : Bay) (mv : Nat) (s : State),
        (bayOf s b.val).state = .ramp ∧
        s.power.nodeMv ≤ mv + 200) ∧
    (∃ (b : Bay) (s : State),
        (bayOf s b.val).state = .ramp) ∧
    (∃ (b : Bay) (mA : Nat) (s : State),
        (bayOf s b.val).state = .on ∧
        3800 < mA) ∧
    (∃ (b : Bay) (mA : Nat) (s : State),
        (bayOf s b.val).state = .on ∧
        3800 < mA) ∧
    (∃ (b : Bay) (mA : Nat) (s : State),
        (bayOf s b.val).state = .on ∧
        12000 ≤ mA) ∧
    (∃ (b : Bay) (mA : Nat) (s : State),
        (bayOf s b.val).state = .on ∧
        12000 ≤ mA) ∧
    (∃ (b : Bay) (mA : Nat) (s : State),
        (bayOf s b.val).state = .on ∧
        2500 < mA) ∧
    (∃ (b : Bay) (mA : Nat) (s : State),
        (bayOf s b.val).state = .ramp ∧
        12000 ≤ mA) ∧
    (∃ (temp : Int),
        temp < 1400) ∧
    (∃ (temp : Int),
        temp < 1400) ∧
    (∃ (b : Bay) (temp : Int) (s : State),
        1400 ≤ temp ∧
        (bayOf s b.val).state = .on) ∧
    (∃ (b : Bay) (temp : Int) (s : State),
        1400 ≤ temp ∧
        (bayOf s b.val).state = .ramp) ∧
    (∃ (b : Bay) (s : State),
        (bayOf s b.val).state = .cooldown ∧
        (bayOf s b.val).temp < 1000) ∧
    (∃ (b : Bay) (s : State),
        (bayOf s b.val).state = .cooldown ∧
        (bayOf s b.val).temp < 1000) ∧
    (∃ (b : Bay) (s : State),
        (bayOf s b.val).state = .debounce ∧
        (bayOf s b.val).seated = true) ∧
    (∃ (t : Time) (w : Write) (x : Session) (c : WCtx) (s : State),
        WriteTaken 0x6111 noCheck t w x c s ∧
        let st := (bayOf s (w.sub - 1)).state
        w.val.toNat ≠ 0 ∧
        (st = .on ∨ st = .ramp)) ∧
    (∃ (t : Time) (w : Write) (x : Session) (c : WCtx) (s : State),
        WriteTaken 0x6111 noCheck t w x c s ∧
        let st := (bayOf s (w.sub - 1)).state
        w.val.toNat ≠ 0 ∧
        (st = .on ∨ st = .ramp)) ∧
    (∃ (t : Time) (w : Write) (x : Session) (c : WCtx) (s : State),
        WriteTaken 0x6111 noCheck t w x c s ∧
        let st := (bayOf s (w.sub - 1)).state
        w.val.toNat = 0 ∧
        st = .locked ∧
        (bayOf s (w.sub - 1)).seated = true) ∧
    (∃ (t : Time) (w : Write) (x : Session) (c : WCtx) (s : State),
        WriteTaken 0x6112 bayClearCheck t w x c s ∧
        w.val.toNat = 1) := ⟨
    ⟨0, ((md .solo).bay0 fun b => { b with state := .empty }), by decide +kernel⟩,
    ⟨0, (((md .solo).num 0x6111 1 0 1).bay0 fun b => { b with state := .empty, seated := true }), by decide +kernel⟩,
    ⟨0, ((md .solo).bay0 fun b => { b with state := .present }), by decide +kernel⟩,
    ⟨0, 3, ((md .solo).bay0 fun b => { b with state := .on, seated := true }), by decide +kernel⟩,
    ⟨0, 3, ((md .solo).bay0 fun b => { b with state := .latched, seated := true }), by decide +kernel⟩,
    ⟨((md .solo).bay0 fun b => { b with state := .on, seated := true, prsnt := true }), by decide +kernel⟩,
    ⟨0, 12000, (((md .solo).onPower fun p => { p with nodeMv := 12200 }).bay0 fun b => { b with state := .ramp }), by decide +kernel⟩,
    ⟨0, ((md .solo).bay0 fun b => { b with state := .ramp }), by decide +kernel⟩,
    ⟨0, 3801, ((md .solo).bay0 fun b => { b with state := .on, retries := [] }), by decide +kernel⟩,
    ⟨0, 3801, ((md .solo).bay0 fun b => { b with state := .on, retries := [5, 7, 8] }), by decide +kernel⟩,
    ⟨0, 12000, ((md .solo).bay0 fun b => { b with state := .on, retries := [] }), by decide +kernel⟩,
    ⟨0, 12000, ((md .solo).bay0 fun b => { b with state := .on, retries := [1, 2, 3] }), by decide +kernel⟩,
    ⟨0, 2501, ((md .solo).bay0 fun b => { b with state := .on }), by decide +kernel⟩,
    ⟨0, 12000, ((md .solo).bay0 fun b => { b with state := .ramp }), by decide +kernel⟩,
    ⟨1399, by decide +kernel⟩,
    ⟨(-10), by decide +kernel⟩,
    ⟨0, 1400, ((md .solo).bay0 fun b => { b with state := .on }), by decide +kernel⟩,
    ⟨0, 1400, ((md .solo).bay0 fun b => { b with state := .ramp }), by decide +kernel⟩,
    ⟨0, ((md .solo).bay0 fun b => { b with state := .cooldown, temp := 999, seated := true, reseat := true }), by decide +kernel⟩,
    ⟨0, ((md .solo).bay0 fun b => { b with state := .cooldown, temp := 999, seated := false, reseat := false }), by decide +kernel⟩,
    ⟨0, ((md .solo).bay0 fun b => { b with state := .debounce, seated := true }), by decide +kernel⟩,
    ⟨5, ({ sess := 1, sub := 1, val := .num 1 } : Write), _, _, (((md .solo).sess).bay0 fun b => { b with state := .on, seated := true }), (taken_of (by decide +kernel)), (by decide +kernel), by decide +kernel⟩,
    ⟨5, ({ sess := 1, sub := 1, val := .num 1 } : Write), _, _, (((md .solo).sess).bay0 fun b => { b with state := .ramp, seated := true }), (taken_of (by decide +kernel)), (by decide +kernel), by decide +kernel⟩,
    ⟨5, ({ sess := 1, sub := 1, val := .num 0 } : Write), _, _, (((md .solo).sess).bay0 fun b => { b with state := .locked, seated := true }), (taken_of (by decide +kernel)), (by decide +kernel), (by decide +kernel), by decide +kernel⟩,
    ⟨5, ({ sess := 1, sub := 1, val := .num 1 } : Write), _, _, (((md .isolated).sess).bay0 fun b => { b with state := .latched, seated := true, retries := [1] }), (taken_of (by decide +kernel)), by decide +kernel⟩⟩

theorem test_meets_AuxAndHoldupRows :
    (∃ (b : Bay) (s : State),
        (bayOf s b.val).aux = .on) ∧
    (∃ (b : Bay) (s : State),
        (bayOf s b.val).aux = .on) ∧
    (∃ (b : Bay) (s : State),
        (bayOf s b.val).aux = .cooldown ∧
        (bayOf s b.val).prsnt = true) ∧
    (∃ (t : Time) (w : Write) (x : Session) (c : WCtx) (s : State),
        WriteTaken 0x6105 holdupTestCheck t w x c s ∧
        w.val.toNat = 1) ∧
    (∃ (f : Feed) (s : State),
        s.power.measuring = true ∧
        (feedOf s f.val).state = .good ∧
        s.power.samples.length < 7) ∧
    (∃ (f : Feed) (s : State),
        s.power.measuring = true ∧
        (feedOf s f.val).state = .good ∧
        s.power.samples.length < 7) ∧
    (∃ (f : Feed) (s : State),
        s.power.measuring = true ∧
        (feedOf s f.val).state = .good ∧
        s.power.samples.length = 7) ∧
    (∃ (f : Feed) (s : State),
        s.power.measuring = true ∧
        (feedOf s f.val).state = .good ∧
        s.power.samples.length = 7) := ⟨
    ⟨0, ((md .solo).bay0 fun b => { b with state := .on, aux := .on, auxTrips := [] }), by decide +kernel⟩,
    ⟨0, ((md .solo).bay0 fun b => { b with state := .on, aux := .on, auxTrips := [1, 2, 3] }), by decide +kernel⟩,
    ⟨0, ((md .solo).bay0 fun b => { b with state := .on, aux := .cooldown, prsnt := true }), by decide +kernel⟩,
    ⟨5, ({ sess := 1, sub := 0, val := .num 1 } : Write), _, _, ((md .isolated).sess), (taken_of (by decide +kernel)), by decide +kernel⟩,
    ⟨0, (((md .isolated).feed 0 .good 12000).onPower fun p => { p with measuring := true, samples := List.replicate 0 1000 }), by decide +kernel⟩,
    ⟨0, (((md .isolated).feed 0 .good 12000).onPower fun p => { p with measuring := true, samples := List.replicate 6 1000 }), by decide +kernel⟩,
    ⟨1, (((md .isolated).feed 1 .good 12000).onPower fun p => { p with measuring := true, samples := List.replicate 7 1000 }), (by decide +kernel), (by decide +kernel), by decide +kernel⟩,
    ⟨1, (((md .isolated).feed 1 .good 12000).onPower fun p => { p with measuring := true, samples := List.replicate 7 900 }), (by decide +kernel), (by decide +kernel), by decide +kernel⟩⟩

theorem test_meets_CalibrationRule :
    (∃ (t : Time) (w : Write) (x : Session) (c : WCtx) (b : Bay) (s : State),
        WriteTaken 0x7100 selfTestCheck t w x c s ∧
        testOf c.nat = some (3, b.val + 1)) ∧
    (∃ (t : Time) (w : Write) (x : Session) (c : WCtx) (b : Bay) (s : State),
        WriteTaken 0x7100 selfTestCheck t w x c s ∧
        testOf c.nat = some (3, b.val + 1)) ∧
    (∃ (t : Time) (w : Write) (x : Session) (c : WCtx) (b : Bay) (s : State),
        WriteTaken 0x7100 noCheck t w x c s ∧
        testOf c.nat = some (3, b.val + 1) ∧
        (bayOf s b.val).state ∈ [.ramp, .on, .cooldown]) ∧
    (∃ (t : Time) (w : Write) (x : Session) (c : WCtx) (b : Bay) (s : State),
        WriteTaken 0x7100 noCheck t w x c s ∧
        testOf c.nat = some (3, b.val + 1) ∧
        (bayOf s b.val).state ∈ [.ramp, .on, .cooldown]) := ⟨
    ⟨5, ({ sess := 1, sub := 0, val := .num 50331649 } : Write), _, _, 0, (((md .solo).sess).bay0 fun b => { b with state := .present }), (taken_of (by decide +kernel)), by decide +kernel⟩,
    ⟨5, ({ sess := 1, sub := 0, val := .num 50331672 } : Write), _, _, 23, (((md .solo).sess).bay0 fun b => { b with state := .present }), (taken_of (by decide +kernel)), by decide +kernel⟩,
    ⟨5, ({ sess := 1, sub := 0, val := .num 50331649 } : Write), _, _, 0, (((md .solo).sess).bay0 fun b => { b with state := .ramp }), (taken_of (by decide +kernel)), by decide +kernel⟩,
    ⟨5, ({ sess := 1, sub := 0, val := .num 50331649 } : Write), _, _, 0, (((md .solo).sess).bay0 fun b => { b with state := .cooldown }), (taken_of (by decide +kernel)), by decide +kernel⟩⟩

theorem test_meets_AttachLinkRows :
    (∃ (s : State),
        cfg 0x6200 s ≠ 0 ∧
        s.ident.noAttach = false ∧
        inMode [.reset, .boot, .holdup] s = false) ∧
    (∃ (s : State),
        cfg 0x6200 s ≠ 0 ∧
        s.ident.noAttach = false ∧
        inMode [.reset, .boot, .holdup] s = false) ∧
    (∃ (s : State),
        s.attach.speed ≠ 0) ∧
    (∃ (s : State),
        s.attach.speed ≠ 0) ∧
    (∃ (s : State),
        s.attach.speed ≠ 0) ∧
    (∃ (s : State),
        s.attach.speed ≠ 0) ∧
    (∃ (s : State),
        s.attach.speed ≠ 0) ∧
    (∃ (s : State),
        s.attach.speed ≠ 0) ∧
    (∃ (t : Time) (w : Write) (x : Session) (c : WCtx) (s : State),
        WriteTaken 0x6200 attachEnableCheck t w x c s) ∧
    (∃ (t : Time) (w : Write) (x : Session) (c : WCtx) (s : State),
        WriteTaken 0x6200 attachEnableCheck t w x c s) ∧
    (∃ (s : State),
        s.attach.bme = true) ∧
    (∃ (s : State),
        s.attach.bme = true) ∧
    (∃ (s : State),
        s.attach.bme = false ∧
        endpointUp s = true ∧
        s.cmd.cmds = [] ∧
        s.attach.heldCqes = []) := ⟨
    ⟨(((md .solo).id0.num 0x6200 0 0 1)), by decide +kernel⟩,
    ⟨((((md .solo).win).num 0x6200 0 0 1)), by decide +kernel⟩,
    ⟨(((md .solo).win)), by decide +kernel⟩,
    ⟨((((((md .solo).win).ns1.onCmd fun d => { d with cmds := [(3, { cmdW (.attach 1) .write .receiving with data := [none], nlb := 1 })], nextCmd := 4 }).onAttach fun a => { a with tags := [(7, 196608)] }))), by decide +kernel⟩,
    ⟨(((md .solo).win)), by decide +kernel⟩,
    ⟨(((((md .solo).win).ns1.onCmd fun d => { d with cmds := [(3, { cmdW (.attach 1) .write .receiving with data := [none], nlb := 1 })], nextCmd := 4 }).onAttach fun a => { a with tags := [(7, 196608)] }).host1 .tcp), by decide +kernel⟩,
    ⟨(((md .solo).win)), by decide +kernel⟩,
    ⟨(((((md .solo).win).ns1.onCmd fun d => { d with cmds := [(3, { cmdW (.attach 1) .write .receiving with data := [none], nlb := 1 })], nextCmd := 4 }).onAttach fun a => { a with tags := [(7, 196608)] })), by decide +kernel⟩,
    ⟨5, ({ sess := 1, sub := 0, val := .num 0 } : Write), _, _, (((md .isolated).win).sess fun x => { x with priv := .factory }), (taken_of (by decide +kernel))⟩,
    ⟨5, ({ sess := 1, sub := 0, val := .num 1 } : Write), _, _, (((((md .isolated).win).ns1.onCmd fun d => { d with cmds := [(3, { cmdW (.attach 1) .write .receiving with data := [none], nlb := 1 })], nextCmd := 4 }).onAttach fun a => { a with tags := [(7, 196608)] }).sess fun x => { x with priv := .factory }), (taken_of (by decide +kernel))⟩,
    ⟨(((md .solo).win)), by decide +kernel⟩,
    ⟨(((((md .solo).win).ns1.onCmd fun d => { d with cmds := [(3, { cmdW (.attach 1) .write .receiving with data := [none], nlb := 1 })], nextCmd := 4 }).onAttach fun a => { a with tags := [(7, 196608)] })), by decide +kernel⟩,
    ⟨((((md .solo).win).onAttach fun a => { a with bme := false, pba := [0, 65] })), by decide +kernel⟩⟩

theorem test_meets_AttachQueueRows :
    (∃ (a : Nat) (c : Nat) (s : State),
        endpointUp s = true ∧
        s.attach.ccEn = false ∧
        a ≤ 32 ∧
        c ≤ 32) ∧
    (∃ (a : Nat) (c : Nat) (s : State),
        endpointUp s = true ∧
        s.attach.ccEn = false ∧
        (32 < a ∨ 32 < c)) ∧
    (∃ (a : Nat) (c : Nat) (s : State),
        endpointUp s = true ∧
        s.attach.ccEn = false ∧
        (32 < a ∨ 32 < c)) ∧
    (∃ (s : State),
        endpointUp s = true) ∧
    (∃ (s : State),
        endpointUp s = true) ∧
    (∃ (qid : Nat) (tail : Nat) (q : AttQ) (s : State),
        endpointUp s = true ∧
        s.attach.ccEn = true ∧
        s.attach.cfs = false ∧
        Tbl.get? s.attach.sqs qid = some q ∧
        let n := (tail + q.size - q.tail) % q.size
        tail < q.size ∧
        n ≠ 0) ∧
    (∃ (qid : Nat) (tail : Nat) (q : AttQ) (s : State),
        endpointUp s = true ∧
        s.attach.ccEn = true ∧
        s.attach.cfs = false ∧
        Tbl.get? s.attach.sqs qid = some q ∧
        let n := (tail + q.size - q.tail) % q.size
        tail < q.size ∧
        n ≠ 0) ∧
    (∃ (qid : Nat) (head : Nat) (q : AttQ) (s : State),
        endpointUp s = true ∧
        s.attach.ccEn = true ∧
        Tbl.get? s.attach.cqs qid = some q ∧
        head < q.size ∧
        s.attach.heldCqes = []) ∧
    (∃ (qid : Nat) (head : Nat) (q : AttQ) (s : State),
        endpointUp s = true ∧
        s.attach.ccEn = true ∧
        Tbl.get? s.attach.cqs qid = some q ∧
        head < q.size ∧
        s.attach.heldCqes = []) := ⟨
    ⟨32, 32, ((((md .solo).win).onAttach fun a => { a with ccEn := false })), by decide +kernel⟩,
    ⟨33, 32, ((((md .solo).win).onAttach fun a => { a with ccEn := false })), by decide +kernel⟩,
    ⟨32, 33, ((((md .solo).win).onAttach fun a => { a with ccEn := false })), by decide +kernel⟩,
    ⟨(((md .solo).win)), by decide +kernel⟩,
    ⟨(((((md .solo).win).ns1.onCmd fun d => { d with cmds := [(3, { cmdW (.attach 1) .write .receiving with data := [none], nlb := 1 })], nextCmd := 4 }).onAttach fun a => { a with tags := [(7, 196608)] })), by decide +kernel⟩,
    ⟨1, 3, ({ attQNew 16 1 with gens := [0] } : AttQ), (((md .solo).win)), (by decide +kernel), (by decide +kernel), (by decide +kernel), (by decide +kernel), (by decide +kernel), by decide +kernel⟩,
    ⟨1, 15, ({ attQNew 16 1 with gens := [0] } : AttQ), (((md .solo).win)), (by decide +kernel), (by decide +kernel), (by decide +kernel), (by decide +kernel), (by decide +kernel), by decide +kernel⟩,
    ⟨1, 3, (attQNew 16 1), (((md .solo).win)), by decide +kernel⟩,
    ⟨1, 15, (attQNew 16 1), (((md .solo).win)), by decide +kernel⟩⟩

theorem test_meets_WindowRows :
    (∃ (s : State),
        endpointUp s = true) ∧
    (∃ (s : State),
        endpointUp s = true) ∧
    (∃ (s : State),
        endpointUp s = true) ∧
    (∃ (s : State),
        endpointUp s = true) ∧
    (∃ (s : State),
        endpointUp s = true) ∧
    (∃ (s : State),
        endpointUp s = true) ∧
    (∃ (len : Nat) (s : State),
        endpointUp s = true ∧
        s.attach.mboxBusy = false ∧
        1 ≤ len ∧
        len ≤ 4096 ∧
        reachable .mailbox s = true ∧
        grants s poolMgmt 1 = true ∧
        inMode [.takeover] s = false) ∧
    (∃ (len : Nat) (s : State),
        endpointUp s = true ∧
        s.attach.mboxBusy = false ∧
        1 ≤ len ∧
        len ≤ 4096 ∧
        reachable .mailbox s = true ∧
        grants s poolMgmt 1 = true ∧
        inMode [.takeover] s = false) ∧
    (∃ (len : Nat) (s : State),
        endpointUp s = true ∧
        s.attach.mboxBusy = false ∧
        1 ≤ len ∧
        len ≤ 4096 ∧
        reachable .mailbox s = true ∧
        grants s poolMgmt 1 = true ∧
        inMode [.takeover] s = true) ∧
    (∃ (tag : Nat) (id : Nat) (s : State),
        Tbl.get? s.attach.tags tag = some (id * 65536) ∧
        s.attach.bme = false) ∧
    (∃ (tag : Nat) (id : Nat) (c : Cmd) (s : State),
        Tbl.get? s.attach.tags tag = some (id * 65536) ∧
        s.attach.bme = true ∧
        decides s = true ∧
        s.cmd.cmds = [(id, c)] ∧
        c.phase = .receiving ∧
        c.data = [none]) ∧
    (∃ (tag : Nat) (id : Nat) (q : Nat) (c : Cmd) (s : State),
        Tbl.get? s.attach.tags tag = some (id * 65536) ∧
        s.cmd.cmds = [(id, c)] ∧
        c.src = .attach q ∧
        c.bmeHeld = false ∧
        c.orphan = false ∧
        s.attach.bme = true ∧
        s.attach.ccEn = true) := ⟨
    ⟨(((md .solo).win)), by decide +kernel⟩,
    ⟨((((md .solo).win).onAttach fun a => { a with genUsers := (List.range 8).map fun i => (i, 1) })), by decide +kernel⟩,
    ⟨(((md .solo).win)), by decide +kernel⟩,
    ⟨(((md .solo).win)), by decide +kernel⟩,
    ⟨(((md .solo).win)), by decide +kernel⟩,
    ⟨(((md .solo).win)), by decide +kernel⟩,
    ⟨4096, (((md .solo).win)), by decide +kernel⟩,
    ⟨4096, (((md .solo).win)), by decide +kernel⟩,
    ⟨1, (((md .takeover).win)), by decide +kernel⟩,
    ⟨7, 3, ((((((md .solo).win).ns1.onCmd fun d => { d with cmds := [(3, { cmdW (.attach 1) .write .receiving with data := [none], nlb := 1 })], nextCmd := 4 }).onAttach fun a => { a with tags := [(7, 196608)] }).onAttach fun a => { a with bme := false })), by decide +kernel⟩,
    ⟨7, 3, ({ cmdW (.attach 1) .write .receiving with data := [none], nlb := 1 } : Cmd), (((((md .solo).win).ns1.onCmd fun d => { d with cmds := [(3, { cmdW (.attach 1) .write .receiving with data := [none], nlb := 1 })], nextCmd := 4 }).onAttach fun a => { a with tags := [(7, 196608)] })), by decide +kernel⟩,
    ⟨7, 3, 1, ({ cmdW (.attach 1) .write .receiving with data := [none], nlb := 1 } : Cmd), (((((md .solo).win).ns1.onCmd fun d => { d with cmds := [(3, { cmdW (.attach 1) .write .receiving with data := [none], nlb := 1 })], nextCmd := 4 }).onAttach fun a => { a with tags := [(7, 196608)] })), by decide +kernel⟩⟩

theorem test_meets_BootRows :
    (∃ (s : State),
        s.mode.mode ≠ .reset ∧
        ¬ (s.mode.mode = .holdup ∧ s.power.holdRunning = true)) ∧
    (∃ (s : State),
        s.mode.mode ≠ .reset ∧
        ¬ (s.mode.mode = .holdup ∧ s.power.holdRunning = true)) ∧
    (∃ (s : State),
        s.mode.mode ≠ .reset ∧
        s.mode.mode = .holdup ∧
        s.power.holdRunning = true) ∧
    (∃ (s : State),
        let runs := fun (i : ImageCheck) => i.digestOk && i.sigOk && decide (s.mode.secVersion ≤ i.version)
        s.mode.mode = .reset ∧
        s.mode.alwaysOn = true) ∧
    (∃ (a : ImageCheck) (b : ImageCheck) (l : List Engine) (s : State),
        let runs := fun (i : ImageCheck) => i.digestOk && i.sigOk && decide (s.mode.secVersion ≤ i.version)
        s.mode.mode = .reset ∧
        s.mode.alwaysOn = true ∧
        feedIsGood s = true ∧
        (runs a = true ∨ runs b = true) ∧
        (∀ e : Engine, e ∈ l) ∧
        (∀ e : Engine, (engineOf s e.val).state ≠ .retired) ∧
        s.mgmt.store = [] ∧
        s.pair.ring = []) ∧
    (∃ (a : ImageCheck) (b : ImageCheck) (l : List Engine) (s : State),
        let runs := fun (i : ImageCheck) => i.digestOk && i.sigOk && decide (s.mode.secVersion ≤ i.version)
        s.mode.mode = .reset ∧
        s.mode.alwaysOn = true ∧
        feedIsGood s = true ∧
        (runs a = true ∨ runs b = true) ∧
        (∀ e : Engine, e ∈ l) ∧
        (∀ e : Engine, (engineOf s e.val).state ≠ .retired) ∧
        s.mgmt.store = [] ∧
        s.pair.ring = []) ∧
    (∃ (a : ImageCheck) (b : ImageCheck) (s : State),
        let runs := fun (i : ImageCheck) => i.digestOk && i.sigOk && decide (s.mode.secVersion ≤ i.version)
        s.mode.mode = .reset ∧
        s.mode.alwaysOn = true ∧
        feedIsGood s = true ∧
        runs a = false ∧
        runs b = false) ∧
    (∃ (s : State),
        s.mode.mode = .boot ∧
        s.power.measuring = false) ∧
    (∃ (s : State),
        s.mode.mode = .boot ∧
        s.power.measuring = false) ∧
    (∃ (s : State),
        s.mode.mode = .boot ∧
        s.mode.bootRetried = true) ∧
    (∃ (s : State),
        s.mode.mode = .boot ∧
        s.mode.bootRetried = false ∧
        s.conns = [] ∧
        (slotRuns 1 s = true ∨ slotRuns 2 s = true) ∧
        (∀ e : Engine, (engineOf s e.val).state ≠ .retired) ∧
        s.mgmt.store = [] ∧
        s.pair.ring = []) ∧
    (∃ (s : State),
        s.mode.mode = .boot ∧
        s.mode.bootRetried = false ∧
        s.conns = [] ∧
        (slotRuns 1 s = true ∨ slotRuns 2 s = true) ∧
        (∀ e : Engine, (engineOf s e.val).state ≠ .retired) ∧
        s.mgmt.store = [] ∧
        s.pair.ring = []) ∧
    (∃ (s : State),
        s.mode.alwaysOn = true ∧
        s.conns = []) ∧
    (∃ (s : State),
        s.mode.alwaysOn = true ∧
        s.conns = []) ∧
    (∃ (s : State),
        s.mode.alwaysOn = false) := ⟨
    ⟨((md .solo).sess), by decide +kernel⟩,
    ⟨(((md .active).host1 .tcp).linked), by decide +kernel⟩,
    ⟨((md .holdup).onPower fun p => { p with holdRunning := true }), by decide +kernel⟩,
    ⟨((md .reset).feed 0 .good 12000), (by decide +kernel), by decide +kernel⟩,
    ⟨imgOk, imgOk, (List.ofFn id), (((md .reset).feed 0 .good 12000).onMode fun m => { m with bootReq := 1 }), (by decide +kernel), (by decide +kernel), (by decide +kernel), (by decide +kernel), (by decide +kernel), (by decide +kernel), (by decide +kernel), by decide +kernel⟩,
    ⟨({ imgOk with sigOk := false } : ImageCheck), imgOk, (List.ofFn id), (((md .reset).feed 0 .good 12000).onMode fun m => { m with bootReq := 1 }), (by decide +kernel), (by decide +kernel), (by decide +kernel), (by decide +kernel), (by decide +kernel), (by decide +kernel), (by decide +kernel), by decide +kernel⟩,
    ⟨({ imgOk with sigOk := false } : ImageCheck), ({ imgOk with version := 0 } : ImageCheck), (((md .reset).feed 0 .good 12000).onMode fun m => { m with secVersion := 1 }), (by decide +kernel), (by decide +kernel), (by decide +kernel), (by decide +kernel), by decide +kernel⟩,
    ⟨((md .boot).onMode fun m => { m with imageVersion := 3, secVersion := 2 }), by decide +kernel⟩,
    ⟨((md .boot).onMode fun m => { m with imageVersion := 3, secVersion := 2 }), by decide +kernel⟩,
    ⟨((md .boot).onMode fun m => { m with bootRetried := true }), by decide +kernel⟩,
    ⟨(((md .boot).onMgmt fun m => { m with images := #v[some imgOk, none] })), by decide +kernel⟩,
    ⟨(((md .boot).onMgmt fun m => { m with images := #v[none, some imgOk] })), by decide +kernel⟩,
    ⟨((md .active).bay0 fun b => { b with state := .on, seated := true, prsnt := true }), by decide +kernel⟩,
    ⟨((md .holdup).bay0 fun b => { b with state := .on, seated := true, prsnt := true }), by decide +kernel⟩,
    ⟨((md .reset).onMode fun m => { m with alwaysOn := false }), by decide +kernel⟩⟩

theorem test_meets_ModeRows :
    (∃ (t : Time) (w : Write) (x : Session) (c : WCtx) (s : State),
        WriteTaken 0x2001 serviceEnableCheck t w x c s) ∧
    (∃ (t : Time) (w : Write) (x : Session) (c : WCtx) (s : State),
        WriteTaken 0x2001 serviceEnableCheck t w x c s) ∧
    (∃ (t : Time) (w : Write) (x : Session) (c : WCtx) (s : State),
        WriteTaken 0x2005 restartCheck t w x c s) ∧
    (∃ (t : Time) (w : Write) (x : Session) (c : WCtx) (s : State),
        WriteTaken 0x2005 restartCheck t w x c s) ∧
    (∃ (s : State),
        inMode [.reset, .boot, .holdup, .safe] s = false) ∧
    (∃ (s : State),
        inMode [.reset, .boot, .holdup, .safe] s = false) ∧
    (∃ (s : State),
        inMode [.reset, .boot, .holdup, .safe] s = false) ∧
    (∃ (s : State),
        inMode [.reset, .boot, .holdup, .safe] s = false) ∧
    (∃ (s : State),
        inMode [.reset, .boot, .holdup, .safe] s = false) ∧
    (∃ (s : State),
        inMode [.reset, .boot, .holdup, .safe] s = false) ∧
    (∃ (s : State) (d : Domain),
        inMode [.reset, .boot, .holdup, .safe] s = false ∧
        (domOf s d.val).supply = maxSupply d.val ∧
        (domOf s d.val).slack < 5) ∧
    (∃ (s : State) (d : Domain),
        inMode [.reset, .boot, .holdup, .safe] s = false ∧
        (domOf s d.val).supply = maxSupply d.val ∧
        (domOf s d.val).slack < 5) ∧
    (∃ (s : State) (e : Engine),
        inMode [.reset, .boot, .holdup, .safe] s = false ∧
        (engineOf s e.val).state = .inService) ∧
    (∃ (s : State) (e : Engine),
        inMode [.reset, .boot, .holdup, .safe] s = false ∧
        (engineOf s e.val).state = .inService) := ⟨
    ⟨5, ({ sess := 1, sub := 0, val := .num 1 } : Write), _, _, ((md .solo).sess), (taken_of (by decide +kernel))⟩,
    ⟨5, ({ sess := 1, sub := 0, val := .num 1 } : Write), _, _, (((md .quiesced).sess)), (taken_of (by decide +kernel))⟩,
    ⟨5, ({ sess := 1, sub := 0, val := .num 0xB0B0 } : Write), _, _, ((md .isolated).sess), (taken_of (by decide +kernel))⟩,
    ⟨5, ({ sess := 1, sub := 0, val := .num 0xB0B0 } : Write), _, _, ((md .safe).sess), (taken_of (by decide +kernel))⟩,
    ⟨(md .active), by decide +kernel⟩,
    ⟨(md .rejoin), by decide +kernel⟩,
    ⟨(md .active), by decide +kernel⟩,
    ⟨(md .takeover), by decide +kernel⟩,
    ⟨((md .active).sess), by decide +kernel⟩,
    ⟨((md .standby).sess), by decide +kernel⟩,
    ⟨((md .active).onRepair fun r => { r with domains := r.domains.map fun x => { x with supply := 8500, slack := 4 } }), 0, by decide +kernel⟩,
    ⟨((md .active).onRepair fun r => { r with domains := r.domains.map fun x => { x with supply := 9000, slack := 4 } }), 2, by decide +kernel⟩,
    ⟨(md .active), 0, by decide +kernel⟩,
    ⟨(md .active), 15, by decide +kernel⟩⟩

theorem test_meets_PowerStateRows :
    (∃ (t : Time) (w : Write) (x : Session) (c : WCtx) (s : State),
        WriteTaken 0x2003 noCheck t w x c s) ∧
    (∃ (t : Time) (w : Write) (x : Session) (c : WCtx) (s : State),
        WriteTaken 0x2003 noCheck t w x c s) ∧
    (∃ (d : Nat) (r : Nat) (n : Nat) (s : State),
        policyModes s = true ∧
        cfg 0x2003 s = 3 ∧
        let at_ := fun (idx : Nat) => loadAt (cfg idx s) d r n
        s.mode.power = .full ∧
        at_ 0x2011 = false) ∧
    (∃ (d : Nat) (r : Nat) (n : Nat) (s : State),
        policyModes s = true ∧
        cfg 0x2003 s = 3 ∧
        let at_ := fun (idx : Nat) => loadAt (cfg idx s) d r n
        s.mode.power = .full ∧
        at_ 0x2011 = false) ∧
    (∃ (d : Nat) (r : Nat) (n : Nat) (s : State),
        policyModes s = true ∧
        cfg 0x2003 s = 3 ∧
        let at_ := fun (idx : Nat) => loadAt (cfg idx s) d r n
        s.mode.power = .full ∧
        at_ 0x2011 = true) ∧
    (∃ (d : Nat) (r : Nat) (n : Nat) (s : State),
        policyModes s = true ∧
        cfg 0x2003 s = 3 ∧
        let at_ := fun (idx : Nat) => loadAt (cfg idx s) d r n
        s.mode.power = .trimmed ∧
        at_ 0x2010 = true) ∧
    (∃ (d : Nat) (r : Nat) (n : Nat) (s : State),
        policyModes s = true ∧
        cfg 0x2003 s = 3 ∧
        let at_ := fun (idx : Nat) => loadAt (cfg idx s) d r n
        s.mode.power = .dormant ∧
        at_ 0x2013 = true) ∧
    (∃ (k : Fin 4) (i : Nat) (s : State),
        1 ≤ i ∧
        mayGate k.val i s = true ∧
        (k.val, i) ∉ s.mode.gated) ∧
    (∃ (k : Fin 4) (i : Nat) (s : State),
        1 ≤ i ∧
        mayGate k.val i s = true ∧
        (k.val, i) ∉ s.mode.gated) := ⟨
    ⟨5, ({ sess := 1, sub := 0, val := .num 0 } : Write), _, _, ((md .solo).sess), (taken_of (by decide +kernel))⟩,
    ⟨5, ({ sess := 1, sub := 0, val := .num 3 } : Write), _, _, ((md .standby).sess), (taken_of (by decide +kernel))⟩,
    ⟨0, 0, 0, ((md .active).onMode fun m => { m with power := .full, loadDown := 0 }), (by decide +kernel), (by decide +kernel), (by decide +kernel), by decide +kernel⟩,
    ⟨0, 0, 0, ((md .active).onMode fun m => { m with power := .full, loadDown := 59 }), (by decide +kernel), (by decide +kernel), (by decide +kernel), by decide +kernel⟩,
    ⟨3200000000000, 0, 0, ((md .active).onMode fun m => { m with power := .full, loadDown := 8 }), (by decide +kernel), (by decide +kernel), (by decide +kernel), by decide +kernel⟩,
    ⟨3200000000000, 0, 0, ((md .active).onMode fun m => { m with power := .trimmed, gated := [(0, 1)] }), (by decide +kernel), (by decide +kernel), (by decide +kernel), by decide +kernel⟩,
    ⟨3200000000000, 0, 0, ((md .active).onMode fun m => { m with power := .dormant }), (by decide +kernel), (by decide +kernel), (by decide +kernel), by decide +kernel⟩,
    ⟨0, 1, ((md .active).onMode fun m => { m with power := .trimmed }), by decide +kernel⟩,
    ⟨3, 4, ((md .active).onMode fun m => { m with power := .dormant }), by decide +kernel⟩⟩

theorem test_meets_SelfRepairRows :
    (∃ (e : Engine) (i : Nat) (s : State),
        inMode [.reset, .holdup] s = false ∧
        (engineOf s e.val).state = .inService ∧
        engineSpare e.val s = some i) ∧
    (∃ (e : Engine) (i : Nat) (s : State),
        inMode [.reset, .holdup] s = false ∧
        (engineOf s e.val).state = .inService ∧
        engineSpare e.val s = some i) ∧
    (∃ (a : Bool) (b : Bool),
        (a = true ∨ b = true)) ∧
    (∃ (a : Bool) (b : Bool),
        (a = true ∨ b = true)) ∧
    (∃ (e : Engine) (s : State),
        (engineOf s e.val).state = .underTest ∧
        testing 1 (e.val + 1) s = false) ∧
    (∃ (e : Engine) (s : State),
        (engineOf s e.val).state = .underTest ∧
        testing 1 (e.val + 1) s = false) ∧
    (∃ (e : Engine) (s : State),
        (engineOf s e.val).state = .underTest ∧
        testing 1 (e.val + 1) s = false) ∧
    (∃ (e : Engine) (s : State),
        (engineOf s e.val).state = .underTest ∧
        testing 1 (e.val + 1) s = false) ∧
    (∃ (l : Lane) (s : State),
        laneOf s l.val = .underTest ∧
        testing 2 (l.val + 1) s = false) ∧
    (∃ (l : Lane) (s : State),
        laneOf s l.val = .underTest ∧
        testing 2 (l.val + 1) s = false) ∧
    (∃ (l : Lane) (s : State),
        laneOf s l.val = .underTest ∧
        testing 2 (l.val + 1) s = false) ∧
    (∃ (l : Lane) (s : State),
        laneOf s l.val = .underTest ∧
        testing 2 (l.val + 1) s = false) ∧
    (∃ (t : Time) (w : Write) (x : Session) (c : WCtx) (kind : Nat) (i : Nat) (s : State),
        WriteTaken 0x7100 selfTestCheck t w x c s ∧
        testOf w.val.toNat = some (kind, i) ∧
        let P := fun (u : State) => u.repair.tests = [{ kind, inst := i }] ∧ u.repair.testResult = 1 ∧ poolUsed u poolSelfTest = poolUsed s poolSelfTest + 1 ∧ (kind = 1 → (engineOf u (i - 1)).state = .underTest) ∧ (kind = 2 → laneOf u (i - 1) = .underTest) ∧ (kind = 3 → (bayOf u (i - 1)).calibrating = true)
        kind = 1) ∧
    (∃ (t : Time) (w : Write) (x : Session) (c : WCtx) (kind : Nat) (i : Nat) (s : State),
        WriteTaken 0x7100 selfTestCheck t w x c s ∧
        testOf w.val.toNat = some (kind, i) ∧
        let P := fun (u : State) => u.repair.tests = [{ kind, inst := i }] ∧ u.repair.testResult = 1 ∧ poolUsed u poolSelfTest = poolUsed s poolSelfTest + 1 ∧ (kind = 1 → (engineOf u (i - 1)).state = .underTest) ∧ (kind = 2 → laneOf u (i - 1) = .underTest) ∧ (kind = 3 → (bayOf u (i - 1)).calibrating = true)
        kind = 1) ∧
    (∃ (t : Time) (w : Write) (x : Session) (c : WCtx) (kind : Nat) (i : Nat) (s : State),
        WriteTaken 0x7100 selfTestCheck t w x c s ∧
        testOf w.val.toNat = some (kind, i) ∧
        let P := fun (u : State) => u.repair.tests = [{ kind, inst := i }] ∧ u.repair.testResult = 1 ∧ poolUsed u poolSelfTest = poolUsed s poolSelfTest + 1 ∧ (kind = 1 → (engineOf u (i - 1)).state = .underTest) ∧ (kind = 2 → laneOf u (i - 1) = .underTest) ∧ (kind = 3 → (bayOf u (i - 1)).calibrating = true)
        kind = 2) ∧
    (∃ (t : Time) (w : Write) (x : Session) (c : WCtx) (kind : Nat) (i : Nat) (s : State),
        WriteTaken 0x7100 selfTestCheck t w x c s ∧
        testOf w.val.toNat = some (kind, i) ∧
        let P := fun (u : State) => u.repair.tests = [{ kind, inst := i }] ∧ u.repair.testResult = 1 ∧ poolUsed u poolSelfTest = poolUsed s poolSelfTest + 1 ∧ (kind = 1 → (engineOf u (i - 1)).state = .underTest) ∧ (kind = 2 → laneOf u (i - 1) = .underTest) ∧ (kind = 3 → (bayOf u (i - 1)).calibrating = true)
        kind = 2) ∧
    (∃ (t : Time) (w : Write) (x : Session) (c : WCtx) (kind : Nat) (i : Nat) (s : State),
        WriteTaken 0x7100 selfTestCheck t w x c s ∧
        testOf w.val.toNat = some (kind, i) ∧
        let P := fun (u : State) => u.repair.tests = [{ kind, inst := i }] ∧ u.repair.testResult = 1 ∧ poolUsed u poolSelfTest = poolUsed s poolSelfTest + 1 ∧ (kind = 1 → (engineOf u (i - 1)).state = .underTest) ∧ (kind = 2 → laneOf u (i - 1) = .underTest) ∧ (kind = 3 → (bayOf u (i - 1)).calibrating = true)
        kind = 3) ∧
    (∃ (kind : Nat) (i : Nat) (s : State),
        s.repair.tests = [{ kind, inst := i }]) ∧
    (∃ (kind : Nat) (i : Nat) (s : State),
        s.repair.tests = [{ kind, inst := i }]) ∧
    (∃ (s : State),
        inMode [.reset, .boot, .holdup] s = false) := ⟨
    ⟨0, 16, (md .solo), (by decide +kernel), (by decide +kernel), by decide +kernel⟩,
    ⟨19, 34, (md .safe), (by decide +kernel), (by decide +kernel), by decide +kernel⟩,
    ⟨true, false, by decide +kernel⟩,
    ⟨false, true, by decide +kernel⟩,
    ⟨0, ((md .solo).onRepair fun r => { r with engines := updNat r.engines 0 fun x => { x with state := .underTest } }), by decide +kernel⟩,
    ⟨16, ((md .solo).onRepair fun r => { r with engines := updNat r.engines 16 fun x => { x with state := .underTest } }), by decide +kernel⟩,
    ⟨0, ((md .solo).onRepair fun r => { r with engines := updNat r.engines 0 fun x => { x with state := .underTest } }), by decide +kernel⟩,
    ⟨16, ((md .solo).onRepair fun r => { r with engines := updNat r.engines 16 fun x => { x with state := .underTest } }), by decide +kernel⟩,
    ⟨0, ((md .solo).onCipher fun c => { c with lanes := updNat c.lanes 0 fun _ => .underTest }), by decide +kernel⟩,
    ⟨25, ((md .solo).onCipher fun c => { c with lanes := updNat c.lanes 25 fun _ => .underTest }), by decide +kernel⟩,
    ⟨0, ((md .solo).onCipher fun c => { c with lanes := updNat c.lanes 0 fun _ => .underTest }), by decide +kernel⟩,
    ⟨25, ((md .solo).onCipher fun c => { c with lanes := updNat c.lanes 25 fun _ => .underTest }), by decide +kernel⟩,
    ⟨5, ({ sess := 1, sub := 0, val := .num 16777217 } : Write), _, _, 1, 1, ((md .solo).sess), (taken_of (by decide +kernel)), (by decide +kernel), by decide +kernel⟩,
    ⟨5, ({ sess := 1, sub := 0, val := .num 16777233 } : Write), _, _, 1, 17, ((md .solo).sess), (taken_of (by decide +kernel)), (by decide +kernel), by decide +kernel⟩,
    ⟨5, ({ sess := 1, sub := 0, val := .num 33554433 } : Write), _, _, 2, 1, ((md .solo).sess), (taken_of (by decide +kernel)), (by decide +kernel), by decide +kernel⟩,
    ⟨5, ({ sess := 1, sub := 0, val := .num 33554536 } : Write), _, _, 2, 104, ((md .solo).sess), (taken_of (by decide +kernel)), (by decide +kernel), by decide +kernel⟩,
    ⟨5, ({ sess := 1, sub := 0, val := .num 50331649 } : Write), _, _, 3, 1, ((md .solo).sess), (taken_of (by decide +kernel)), (by decide +kernel), by decide +kernel⟩,
    ⟨1, 1, ((md .solo).onRepair fun r => { r with tests := [{ kind := 1, inst := 1 }], testResult := 1, engines := updNat r.engines 0 fun x => { x with state := .underTest } }), by decide +kernel⟩,
    ⟨3, 24, ((md .solo).onRepair fun r => { r with tests := [{ kind := 3, inst := 24 }], testResult := 1, engines := updNat r.engines 0 fun x => { x with state := .underTest } }), by decide +kernel⟩,
    ⟨(md .solo), by decide +kernel⟩⟩

theorem test_meets_AgeingRows :
    (∃ (s : State),
        inMode [.reset, .holdup] s = false) ∧
    (∃ (s : State),
        inMode [.reset, .holdup] s = false) ∧
    (∃ (t : Time) (w : Write) (x : Session) (c : WCtx) (e : Repair) (s : State),
        WriteTaken 0x7043 repairClearCheck t w x c s ∧
        repairAt w.val.toNat s = some e) ∧
    (∃ (sess : Nat) (x : Session) (n : Vector Nat 6) (s : State),
        Heard sess x s ∧
        sess < 65536 ∧
        s.mode.mode = .isolated ∧
        2 ≤ privRank x.priv ∧
        accessDenied x 0x7012 s = false ∧
        6 ≤ n[0] ∧
        6 ≤ n[1] ∧
        6 ≤ n[2] ∧
        3 ≤ n[3] ∧
        n[4] = 2 ∧
        n[5] = 2 ∧
        n.toList.sum = 32) := ⟨
    ⟨((md .solo).onRepair fun r => { r with domains := r.domains.map fun x => { x with supply := 8400 } }), by decide +kernel⟩,
    ⟨((md .solo).onRepair fun r => { r with domains := r.domains.map fun x => { x with supply := 6800 } }), by decide +kernel⟩,
    ⟨5, ({ sess := 1, sub := 0, val := .num 2 } : Write), _, _, ({ time := 0, kind := 7, source := 1, instNo := 3, detail := 0 } : Repair), ((md .solo).sess.onRepair fun r => { r with field := [{ time := 0, kind := 1, source := 1, instNo := 3, detail := 0 }, { time := 0, kind := 7, source := 1, instNo := 3, detail := 0 }] }), (taken_of (by decide +kernel)), by decide +kernel⟩,
    ⟨1, sessW, (#v[9, 7, 9, 3, 2, 2] : Vector Nat 6), ((md .isolated).sess), (by unfold Heard; decide +kernel), by decide +kernel⟩⟩

theorem test_meets_RequestRows :
    (∃ (sess : Nat) (trans : Nat) (x : Session) (s : State),
        RequestRuns sess trans x s) ∧
    (∃ (sess : Nat) (trans : Nat) (x : Session) (s : State),
        RequestRuns sess trans x s) ∧
    (∃ (t : Time) (sess : Nat) (trans : Nat) (idx : Nat) (sub : Nat) (x : Session) (s : State),
        RequestRuns sess trans x s ∧
        let s' := atSession t sess s
        let r := getOne sess idx sub x s'
        (checkGet x 0x2000 0 s').1 = .ok) ∧
    (∃ (t : Time) (sess : Nat) (trans : Nat) (idx : Nat) (sub : Nat) (x : Session) (s : State),
        RequestRuns sess trans x s ∧
        let s' := atSession t sess s
        let r := getOne sess idx sub x s'
        s.pair.link = 2) ∧
    (∃ (t : Time) (sess : Nat) (trans : Nat) (idx : Nat) (sub : Nat) (x : Session) (s : State) (l : List (Nat × Nat)),
        RequestRuns sess trans x s ∧
        let s' := atSession t sess s
        let r := getOne sess idx sub x s'
        l ≠ [] ∧
        l.length ≤ 64) ∧
    (∃ (t : Time) (sess : Nat) (trans : Nat) (idx : Nat) (sub : Nat) (x : Session) (s : State) (l : List (Nat × Nat)),
        RequestRuns sess trans x s ∧
        let s' := atSession t sess s
        let r := getOne sess idx sub x s'
        l ≠ [] ∧
        l.length ≤ 64) ∧
    (∃ (sess : Nat) (trans : Nat) (idx : Nat) (sub : Nat) (x : Session) (k : Kept) (s : State),
        Heard sess x s ∧
        sess < tunnelKey ∧
        x.kept.find? (fun k => k.trans = trans) = some k ∧
        k.req = .get idx sub) ∧
    (∃ (t : Time) (sess : Nat) (trans : Nat) (g : Nat) (it : Item) (x : Session) (c : WCtx) (s : State),
        let s' := atSession t sess s
        RequestRuns sess trans x s ∧
        SetPasses sess trans x g it c s' ∧
        it.index ≠ 0x5005) ∧
    (∃ (t : Time) (sess : Nat) (trans : Nat) (g : Nat) (it : Item) (x : Session) (c : WCtx) (s : State),
        let s' := atSession t sess s
        RequestRuns sess trans x s ∧
        SetPasses sess trans x g it c s' ∧
        it.index ≠ 0x5005) ∧
    (∃ (t : Time) (sess : Nat) (trans : Nat) (g : Nat) (it : Item) (x : Session) (s : State),
        let s' := atSession t sess s
        RequestRuns sess trans x s ∧
        forwardsTo it.index s = false ∧
        staleGen g s = true) ∧
    (∃ (t : Time) (sess : Nat) (it : Item) (x : Session) (c : WCtx) (s : State),
        let s' := atSession t sess s
        Heard sess x s ∧
        sess < tunnelKey ∧
        inMode [.takeover] s = false ∧
        SetPasses sess 0 x 0 it c s' ∧
        it.index ≠ 0x5005) ∧
    (∃ (t : Time) (sess : Nat) (trans : Nat) (g : Nat) (l : List Item) (x : Session) (s : State) (cs : _),
        RequestRuns sess trans x s ∧
        let s' := atSession t sess s
        l.any (fun it => forwardsTo it.index s) = false ∧
        l ≠ [] ∧
        l.length ≤ 64 ∧
        staleGen g s = false ∧
        groupWalk sess x trans (.setGroup g l) 1 l s' = .ok cs ∧
        groupJoint 1 (cs.zip l) (each cs putValue s') = none ∧
        (∀ it ∈ l, it.index ≠ 0x5005) ∧
        (∀ c ∈ cs, ∀ a b, effectAfter c a b = b)) ∧
    (∃ (t : Time) (sess : Nat) (trans : Nat) (g : Nat) (l : List Item) (x : Session) (s : State) (pos : _) (it : _) (st : _),
        RequestRuns sess trans x s ∧
        let s' := atSession t sess s
        l.any (fun it => forwardsTo it.index s) = false ∧
        l ≠ [] ∧
        l.length ≤ 64 ∧
        staleGen g s = false ∧
        groupWalk sess x trans (.setGroup g l) 1 l s' = .error (pos, it, st)) ∧
    (∃ (t : Time) (sess : Nat) (x : Session) (s : State) (k : _) (kek : _),
        Heard sess x s ∧
        sess < tunnelKey ∧
        inMode [.takeover] s = false ∧
        (checkGet x 0x5331 0 (atSession t sess s)).1 = .ok ∧
        s.keys.arrayKey = some k ∧
        s.keys.kek = some kek) ∧
    (∃ (t : Time) (sess : Nat) (x : Session) (s : State),
        Heard sess x s ∧
        sess < tunnelKey ∧
        inMode [.takeover] s = false ∧
        (checkGet x 0x5331 0 (atSession t sess s)).1 = .ok ∧
        s.keys.kek = none) ∧
    (∃ (t : Time) (sess : Nat) (x : Session) (s : State) (n : _),
        Heard sess x s ∧
        sess < tunnelKey ∧
        inMode [.takeover] s = false ∧
        (checkGet x 0x1008 0 (atSession t sess s)).1 = .ok ∧
        x.nonce = some n) ∧
    (∃ (t : Time) (sess : Nat) (x : Session) (s : State),
        Heard sess x s ∧
        sess < tunnelKey ∧
        inMode [.takeover] s = false ∧
        (checkGet x 0x1008 0 (atSession t sess s)).1 = .ok ∧
        x.nonce = none) := ⟨
    ⟨1, 7, sessW, (((md .solo).sess)), by unfold RequestRuns Heard; decide +kernel⟩,
    ⟨1, 7, sessW, (((md .solo).sess)), by unfold RequestRuns Heard; decide +kernel⟩,
    ⟨5, 1, 7, 0x2000, 0, sessW, (((md .solo).sess)), (by unfold RequestRuns Heard; decide +kernel), by decide +kernel⟩,
    ⟨5, 1, 7, 0x2000, 0, sessW, (((md .active).linked.sess)), (by unfold RequestRuns Heard; decide +kernel), by decide +kernel⟩,
    ⟨5, 1, 7, 0x2000, 0, sessW, (((md .solo).sess)), ([(0x2000, 0), (0x9999, 1), (0x4000, 2)] : List (Nat × Nat)), (by unfold RequestRuns Heard; decide +kernel), (by decide +kernel), by decide +kernel⟩,
    ⟨5, 1, 7, 0x2000, 0, sessW, (((md .solo).sess)), (List.replicate 64 (0x4000, 2)), (by unfold RequestRuns Heard; decide +kernel), (by decide +kernel), by decide +kernel⟩,
    ⟨1, 7, 0x2000, 0, ({ sessW with kept := [{ trans := 7, req := .get 0x2000 0, resp := answer 0x2000 0 1 .ok (some (.num 3)) }] } : Session), ({ trans := 7, req := .get 0x2000 0, resp := answer 0x2000 0 1 .ok (some (.num 3)) } : Kept), (((md .solo).sess fun _ => { sessW with kept := [{ trans := 7, req := .get 0x2000 0, resp := answer 0x2000 0 1 .ok (some (.num 3)) }] })), (by unfold Heard; decide +kernel), by decide +kernel⟩,
    ⟨5, 1, 7, 0, ({ index := 0x4101, sub := 0, ty := .dur, val := .num 500 } : Item), sessW, ({ ((checkSet 1 sessW ({ index := 0x4101, sub := 0, ty := .dur, val := .num 500 } : Item).index ({ index := 0x4101, sub := 0, ty := .dur, val := .num 500 } : Item).sub (some ({ index := 0x4101, sub := 0, ty := .dur, val := .num 500 } : Item).ty) ({ index := 0x4101, sub := 0, ty := .dur, val := .num 500 } : Item).val (atSession 5 1 (((md .solo).sess)))).2).getD { sess := 1, x := sessW, obj := ctxW.obj, sub := 0, rcd := 0, val := .num 0, trans := 0, req := .get 0 0 } with trans := 0 } : WCtx), (((md .solo).sess)), (by unfold RequestRuns Heard; decide +kernel), (setPasses_of (by decide +kernel)), by decide +kernel⟩,
    ⟨5, 1, 7, 3, ({ index := 0x4101, sub := 0, ty := .dur, val := .num 500 } : Item), sessW, ({ ((checkSet 1 sessW ({ index := 0x4101, sub := 0, ty := .dur, val := .num 500 } : Item).index ({ index := 0x4101, sub := 0, ty := .dur, val := .num 500 } : Item).sub (some ({ index := 0x4101, sub := 0, ty := .dur, val := .num 500 } : Item).ty) ({ index := 0x4101, sub := 0, ty := .dur, val := .num 500 } : Item).val (atSession 5 1 ((((md .solo).sess).onMgmt fun m => { m with configGen := 3 })))).2).getD { sess := 1, x := sessW, obj := ctxW.obj, sub := 0, rcd := 0, val := .num 0, trans := 0, req := .get 0 0 } with trans := 0 } : WCtx), ((((md .solo).sess).onMgmt fun m => { m with configGen := 3 })), (by unfold RequestRuns Heard; decide +kernel), (setPasses_of (by decide +kernel)), by decide +kernel⟩,
    ⟨5, 1, 7, 3, ({ index := 0x4101, sub := 0, ty := .u32, val := .num 500 } : Item), sessW, (((md .solo).sess)), (by unfold RequestRuns Heard; decide +kernel), (by decide +kernel), by decide +kernel⟩,
    ⟨5, 1, ({ index := 0x4101, sub := 0, ty := .dur, val := .num 500 } : Item), sessW, ({ ((checkSet 1 sessW ({ index := 0x4101, sub := 0, ty := .dur, val := .num 500 } : Item).index ({ index := 0x4101, sub := 0, ty := .dur, val := .num 500 } : Item).sub (some ({ index := 0x4101, sub := 0, ty := .dur, val := .num 500 } : Item).ty) ({ index := 0x4101, sub := 0, ty := .dur, val := .num 500 } : Item).val (atSession 5 1 ((((md .solo).sess).onMgmt fun m => { m with configGen := 3 })))).2).getD { sess := 1, x := sessW, obj := ctxW.obj, sub := 0, rcd := 0, val := .num 0, trans := 0, req := .get 0 0 } with trans := 0 } : WCtx), ((((md .solo).sess).onMgmt fun m => { m with configGen := 3 })), (by unfold Heard; decide +kernel), (by decide +kernel), (by decide +kernel), (setPasses_of (by decide +kernel)), by decide +kernel⟩,
    ⟨5, 1, 7, 0, ([{ index := 0x4101, sub := 0, ty := .dur, val := .num 500 }, { index := 0x2010, sub := 0, ty := .u8, val := .num 60 }] : List Item), sessW, (((md .solo).sess)), (((groupWalk 1 sessW 7 (.setGroup 0 ([{ index := 0x4101, sub := 0, ty := .dur, val := .num 500 }, { index := 0x2010, sub := 0, ty := .u8, val := .num 60 }] : List Item)) 1 ([{ index := 0x4101, sub := 0, ty := .dur, val := .num 500 }, { index := 0x2010, sub := 0, ty := .u8, val := .num 60 }] : List Item) (atSession 5 1 (((md .solo).sess)))).toOption.getD [])), (by unfold RequestRuns Heard; decide +kernel), (by decide +kernel), (by decide +kernel), (by decide +kernel), (by decide +kernel), (ok_of (by decide +kernel)), (by decide +kernel), (by decide +kernel), (effects_of (by decide +kernel))⟩,
    ⟨5, 1, 7, 0, ([{ index := 0x4101, sub := 0, ty := .dur, val := .num 500 }, { index := 0x9999, sub := 0, ty := .u8, val := .num 40 }] : List Item), sessW, (((md .solo).sess)), 2, ({ index := 0x9999, sub := 0, ty := .u8, val := .num 40 }), .noObject, (by unfold RequestRuns Heard; decide +kernel), (by decide +kernel), (by decide +kernel), (by decide +kernel), (by decide +kernel), (error_of (by decide +kernel))⟩,
    ⟨5, 1, sessW, ((((md .solo).sess).onKeys fun k => { k with kek := some [1], arrayKey := some 5 })), 5, ([1]), (by unfold Heard; decide +kernel), by decide +kernel⟩,
    ⟨5, 1, sessW, (((md .solo).sess)), (by unfold Heard; decide +kernel), by decide +kernel⟩,
    ⟨5, 1, ({ sessW with nonce := some [9] } : Session), (((md .solo).sess fun _ => { sessW with nonce := some [9] })), ([9]), (by unfold Heard; decide +kernel), by decide +kernel⟩,
    ⟨5, 1, sessW, (((md .solo).sess)), (by unfold Heard; decide +kernel), by decide +kernel⟩⟩

theorem test_meets_SessionRows :
    (∃ (path : Path) (anchor : Option (Fin 5)) (a : Bool) (b : Bool) (s : State) (priv : _) (k : _),
        dtlsPath path s = true ∧
        grants s poolMgmt 1 = true ∧
        let who := sessionPriv path (anchor.map fun k => k.val + 1) s
        let key := Tbl.freeFrom s.mgmt.sessions 1 (s.mgmt.sessions.length + 1)
        who = some (priv, k) ∧
        a = true ∧
        b = true ∧
        dtlsSessions s < 16) ∧
    (∃ (path : Path) (anchor : Option (Fin 5)) (a : Bool) (b : Bool) (s : State) (priv : _) (k : _),
        dtlsPath path s = true ∧
        grants s poolMgmt 1 = true ∧
        let who := sessionPriv path (anchor.map fun k => k.val + 1) s
        let key := Tbl.freeFrom s.mgmt.sessions 1 (s.mgmt.sessions.length + 1)
        who = some (priv, k) ∧
        a = true ∧
        b = true ∧
        dtlsSessions s < 16) ∧
    (∃ (path : Path) (anchor : Option (Fin 5)) (a : Bool) (b : Bool) (s : State),
        dtlsPath path s = true ∧
        grants s poolMgmt 1 = true ∧
        let who := sessionPriv path (anchor.map fun k => k.val + 1) s
        let key := Tbl.freeFrom s.mgmt.sessions 1 (s.mgmt.sessions.length + 1)
        (who = none ∨ a = false ∨ b = false ∨ 16 ≤ dtlsSessions s)) ∧
    (∃ (path : Path) (anchor : Option (Fin 5)) (a : Bool) (b : Bool) (s : State),
        dtlsPath path s = true ∧
        grants s poolMgmt 1 = true ∧
        let who := sessionPriv path (anchor.map fun k => k.val + 1) s
        let key := Tbl.freeFrom s.mgmt.sessions 1 (s.mgmt.sessions.length + 1)
        (who = none ∨ a = false ∨ b = false ∨ 16 ≤ dtlsSessions s)) ∧
    (∃ (sess : Nat) (x : Session) (s : State),
        Tbl.get? s.mgmt.sessions sess = some x ∧
        Tbl.wf s.mgmt.sessions = true) ∧
    (∃ (sess : Nat) (x : Session) (s : State),
        Tbl.get? s.mgmt.sessions sess = some x ∧
        Tbl.wf s.mgmt.sessions = true) ∧
    (∃ (sess : Nat) (trans : Nat) (x : Session) (s : State),
        RequestRuns sess trans x s) ∧
    (∃ (sess : Nat) (trans : Nat) (x : Session) (s : State),
        RequestRuns sess trans x s) ∧
    (∃ (sess : Nat) (idx : Nat) (sub : Nat) (x : Session) (sb : Subscr) (s : State),
        Tbl.get? s.mgmt.sessions sess = some x ∧
        x.sub = some sb ∧
        sb.samples = [(idx, sub)] ∧
        reachable x.path s = true) ∧
    (∃ (t : Time) (sess : Nat) (x : Session) (s : State),
        Tbl.get? s.mgmt.sessions sess = some x ∧
        reachable x.path s = true ∧
        x.notifyQ ≠ [] ∧
        (x.notifyAt.filter fun y => max s.now t < y + second).length < 50) ∧
    (∃ (t : Time) (sess : Nat) (x : Session) (s : State),
        Tbl.get? s.mgmt.sessions sess = some x ∧
        reachable x.path s = true ∧
        x.notifyQ ≠ [] ∧
        (x.notifyAt.filter fun y => max s.now t < y + second).length < 50) := ⟨
    ⟨(.mgmtPort : Path), (some 4), true, true, (md .isolated), .factory, 5, (by decide +kernel), (by decide +kernel), (by decide +kernel), (by decide +kernel), (by decide +kernel), by decide +kernel⟩,
    ⟨(.mgmtPort : Path), none, true, true, (md .solo), .maintainer, 0, (by decide +kernel), (by decide +kernel), (by decide +kernel), (by decide +kernel), (by decide +kernel), by decide +kernel⟩,
    ⟨(.mgmtPort : Path), (some 1), true, false, (md .solo), (by decide +kernel), (by decide +kernel), by decide +kernel⟩,
    ⟨(.mgmtPort : Path), (some 1), true, true, (((md .solo).sess)), (by decide +kernel), (by decide +kernel), by decide +kernel⟩,
    ⟨1, sessW, (((md .solo).sess)), by decide +kernel⟩,
    ⟨1, sessW, (((md .solo).sess)), by decide +kernel⟩,
    ⟨1, 7, sessW, (((md .solo).sess)), by unfold RequestRuns Heard; decide +kernel⟩,
    ⟨1, 7, sessW, (((md .solo).sess)), by unfold RequestRuns Heard; decide +kernel⟩,
    ⟨1, 0x2000, 0, ({ sessW with sub := some { filters := [], period := 100, samples := [(0x2000, 0)] } } : Session), ({ filters := [], period := 100, samples := [(0x2000, 0)] } : Subscr), (((md .solo).sess fun _ => { sessW with sub := some { filters := [], period := 100, samples := [(0x2000, 0)] } })), by decide +kernel⟩,
    ⟨5, 1, ({ sessW with notifyQ := List.replicate 1 { time := 0, seq := 1, code := 0x3001, severity := 2, instNo := 1, value := 1, object := 0, rom := false }, notifyAt := List.replicate 0 5 } : Session), (((md .solo).sess fun _ => { sessW with notifyQ := List.replicate 1 { time := 0, seq := 1, code := 0x3001, severity := 2, instNo := 1, value := 1, object := 0, rom := false }, notifyAt := List.replicate 0 5 })), by decide +kernel⟩,
    ⟨5, 1, ({ sessW with notifyQ := List.replicate 31 { time := 0, seq := 1, code := 0x3001, severity := 2, instNo := 1, value := 1, object := 0, rom := false }, notifyAt := List.replicate 49 5 } : Session), (((md .solo).sess fun _ => { sessW with notifyQ := List.replicate 31 { time := 0, seq := 1, code := 0x3001, severity := 2, instNo := 1, value := 1, object := 0, rom := false }, notifyAt := List.replicate 49 5 })), by decide +kernel⟩⟩

theorem test_meets_ManagementRows :
    (∃ (t : Time) (w : Write) (x : Session) (c : WCtx) (s : State),
        WriteTaken 0xF002 configResetCheck t w x c s) ∧
    (∃ (t : Time) (w : Write) (p : Bool) (x : Session) (c : WCtx) (s : State),
        WriteTaken 0x1020 (fun c _ => anchorCheckWith p c) t w x c s) ∧
    (∃ (t : Time) (w : Write) (p : Bool) (x : Session) (c : WCtx) (s : State),
        WriteTaken 0x1020 (fun c _ => anchorCheckWith p c) t w x c s) ∧
    (∃ (t : Time) (w : Write) (x : Session) (c : WCtx) (s : State),
        WriteTaken 0x1007 noCheck t w x c s) ∧
    (∃ (t : Time) (w : Write) (x : Session) (c : WCtx) (s : State),
        WriteTaken 0x1030 loadSlotCheck t w x c s) ∧
    (∃ (t : Time) (w : Write) (x : Session) (c : WCtx) (s : State),
        WriteTaken 0x1032 loadDataCheck t w x c s) ∧
    (∃ (t : Time) (w : Write) (x : Session) (c : WCtx) (s : State),
        WriteTaken 0x1032 loadDataCheck t w x c s) ∧
    (∃ (t : Time) (w : Write) (x : Session) (c : WCtx) (s : State),
        WriteTaken 0x1033 loadCommitCheck t w x c s) ∧
    (∃ (t : Time) (w : Write) (x : Session) (c : WCtx) (s : State),
        WriteTaken 0x1033 loadCommitCheck t w x c s) ∧
    (∃ (s : State),
        s.mode.mode ≠ .reset) ∧
    (∃ (s : State),
        inMode [.reset, .boot, .holdup] s = false) ∧
    (∃ (t : Time) (w : Write) (x : Session) (c : WCtx) (k : CtrBlock) (s : State),
        WriteTaken 0x8001 noCheck t w x c s ∧
        w.val.toNat = 1 ∧
        atNat s.mgmt.blocks (c.rcd - 1) = some k) ∧
    (∃ (t : Time) (w : Write) (x : Session) (c : WCtx) (k : CtrBlock) (s : State),
        WriteTaken 0x8003 noCheck t w x c s ∧
        atNat s.mgmt.blocks (c.rcd - 1) = some k ∧
        1 ≤ w.sub ∧
        w.sub ≤ 8) ∧
    (∃ (t : Time) (w : Write) (x : Session) (c : WCtx) (k : CtrBlock) (s : State),
        WriteTaken 0x8003 noCheck t w x c s ∧
        atNat s.mgmt.blocks (c.rcd - 1) = some k ∧
        1 ≤ w.sub ∧
        w.sub ≤ 8) ∧
    (∃ (t : Time) (w : Write) (x : Session) (c : WCtx) (s : State),
        WriteTaken 0x8004 ctrControlCheck t w x c s) := ⟨
    ⟨5, ({ sess := 1, sub := 0, val := .num 0xD5D5 } : Write), _, _, (((((md .isolated).sess).num 0x2010 0 0 40).num 0x7012 1 0 9).num 0x1021 1 0 2), (taken_of (by decide +kernel))⟩,
    ⟨5, ({ sess := 1, sub := 1, val := .oct (List.replicate 1024 0) } : Write), true, (xOf ({ sess := 1, sub := 1, val := .oct (List.replicate 1024 0) } : Write) ((md .solo).sess)), (cOf 0x1020 5 ({ sess := 1, sub := 1, val := .oct (List.replicate 1024 0) } : Write) ((md .solo).sess)), ((md .solo).sess), (taken_of (by decide +kernel))⟩,
    ⟨5, ({ sess := 1, sub := 1, val := .oct (List.replicate 1024 7) } : Write), true, _, _, (((md .solo).with 0x1020 1 0 (.oct (List.replicate 1024 3))).sess fun x => { x with anchor := 1 }), (taken_of (by decide +kernel))⟩,
    ⟨5, ({ sess := 1, sub := 0, val := .oct (List.replicate 32 7) } : Write), _, _, (((md .solo).sess)), (taken_of (by decide +kernel))⟩,
    ⟨5, ({ sess := 1, sub := 0, val := .num 2 } : Write), _, _, ((((md .solo).sess).onMode fun m => { m with bootSlot := 1 })), (taken_of (by decide +kernel))⟩,
    ⟨5, ({ sess := 1, sub := 0, val := .oct [7, 8] } : Write), _, _, ((((md .solo).sess fun _ => { sessW with loading := true }).onMgmt fun m => { m with loadSlot := 2, loadOffset := 0, loadState := 1, slots := #v[[], [1, 2, 3]] })), (taken_of (by decide +kernel))⟩,
    ⟨5, ({ sess := 1, sub := 0, val := .oct [7, 8] } : Write), _, _, ((((md .solo).sess fun _ => { sessW with loading := true }).onMgmt fun m => { m with loadSlot := 2, loadOffset := 3, loadState := 1, slots := #v[[], [1, 2, 3]] })), (taken_of (by decide +kernel))⟩,
    ⟨5, ({ sess := 1, sub := 0, val := .num 5 } : Write), _, _, ((((md .solo).sess fun _ => { sessW with loading := true }).onMgmt fun m => { m with loadSlot := 2, loadOffset := 3, loadState := 1, slots := #v[[], [1, 2, 3]] })), (taken_of (by decide +kernel))⟩,
    ⟨5, ({ sess := 1, sub := 0, val := .num 5 } : Write), _, _, ((((md .solo).sess fun _ => { sessW with loading := true }).onMgmt fun m => { m with loadSlot := 2, loadOffset := 3, loadState := 1, slots := #v[[], [1, 2, 3]] })), (taken_of (by decide +kernel))⟩,
    ⟨((raise 1 2 3 4 5 (md .solo))), by decide +kernel⟩,
    ⟨(bump 0x4110 0 3 (md .solo)), by decide +kernel⟩,
    ⟨5, ({ sess := 1, sub := 0, val := .num 1 } : Write), _, _, ((atNat ((((md .solo).sess fun _ => { sessW with sel := [(0x8000, 1)] }).onMgmt fun m => { m with blocks := updNat m.blocks 0 fun k => { k with cycles := 9, ctrs := k.ctrs.map fun c => { c with value := 5 } } })).mgmt.blocks 0).getD { ctrs := Vector.replicate 8 Ctr.reset, cycles := 0, cyclesLatch := 0, latched := false }), ((((md .solo).sess fun _ => { sessW with sel := [(0x8000, 1)] }).onMgmt fun m => { m with blocks := updNat m.blocks 0 fun k => { k with cycles := 9, ctrs := k.ctrs.map fun c => { c with value := 5 } } })), (taken_of (by decide +kernel)), by decide +kernel⟩,
    ⟨5, ({ sess := 1, sub := 8, val := .num 7 } : Write), _, _, ((atNat (((md .solo).sess fun _ => { sessW with sel := [(0x8000, 1)] })).mgmt.blocks 0).getD { ctrs := Vector.replicate 8 Ctr.reset, cycles := 0, cyclesLatch := 0, latched := false }), (((md .solo).sess fun _ => { sessW with sel := [(0x8000, 1)] })), (taken_of (by decide +kernel)), by decide +kernel⟩,
    ⟨5, ({ sess := 1, sub := 4, val := .num 7 } : Write), _, _, ((atNat (((md .solo).sess fun _ => { sessW with sel := [(0x8000, 15)] })).mgmt.blocks 14).getD { ctrs := Vector.replicate 8 Ctr.reset, cycles := 0, cyclesLatch := 0, latched := false }), (((md .solo).sess fun _ => { sessW with sel := [(0x8000, 15)] })), (taken_of (by decide +kernel)), by decide +kernel⟩,
    ⟨5, ({ sess := 1, sub := 2, val := .num 0x1 } : Write), _, _, (((md .solo).sess fun _ => { sessW with sel := [(0x8000, 1)] })), (taken_of (by decide +kernel))⟩⟩

/-! ### Results the spec states -/

/-- What holds of the next state. -/
def after (c : Instr) (s : State) (p : State → Bool) : Bool := match exec c s with
  | .next u => p u
  | .fault _ => false
  | .refused _ => false

/-- 14 R396: the state after reset. -/
theorem test_reset_mode : State.reset.mode.mode = .reset ∧ State.reset.mode.resetCause = 1 := by decide

/-- 04 R96, R98: a pool of 2,048 granules is granted them and counts them used. -/
theorem test_granules_granted : after (.granuleRequest 5 3 2048) (md .solo) (fun u => poolUsed u 3 = 2048) = true := by
  decide +kernel

/-- 04 R98: a request beyond the cap is refused whole and counted at 0x4003. -/
theorem test_granules_refused : after (.granuleRequest 5 3 2) ((md .solo).num 0x4001 4 0 1)
    (fun u => poolUsed u 3 = 0 && countOf 0x4003 4 u = 1) = true := by decide +kernel

/-- 05 R122, R123: the seventeenth cell of a VOQ is a shared one. -/
theorem test_shared_cell : after (.cellOffer 5 0 1 .doorbell { num := 1, bytes := [], names := none })
    ((md .solo).voq (voqKey 0 1 0) (voqW 16 0))
    (fun u => voqShared (voqAt (voqKey 0 1 0) u) = 1 && u.core.sharedFree = 140927) = true := by decide +kernel

/-- 12 R336: a reseat during the cool-down does not shorten it: the bay then waits 100 ms before RAMP. -/
theorem test_reseat_waits : after (.bayCooldownEnd 5 0)
    ((md .solo).bay0 fun b => { b with state := .cooldown, seated := true, reseat := true })
    (fun u => (bayOf u 0).state = .debounce) = true := by decide +kernel

/-- 12 R340: a bay that starts is calibrated no more. -/
theorem test_calibration_stops : after (.bayDebounceEnd 5 0)
    ((md .solo).bay0 fun b => { b with state := .debounce, seated := true, calibrating := true })
    (fun u => (bayOf u 0).state = .ramp && !(bayOf u 0).calibrating) = true := by decide +kernel

/-- 12 R342: loss of both feeds enters HOLDUP and turns every bay off. -/
theorem test_holdup : after (.feedLost 5 0 0) ((((md .solo).feed 0 .good 12000).feed 1 .lost 0).bay0 fun b => { b with state := .on })
    (fun u => u.mode.mode = .holdup && (bayOf u 0).state = .heldOff && u.pair.faultOut = 0) = true := by
  decide +kernel

/-- 14 R381: a boot watchdog that expires a second time ends in SAFE with code 8. -/
theorem test_watchdog : after (.bootWatchdog 5) ((md .boot).onMode fun m => { m with bootRetried := true })
    (fun u => u.mode.mode = .safe && u.mode.safeCause = 8) = true := by decide +kernel

end Sys2Proof.Machine
end

section
/-! PROOFS. The granules of the pools (04 R98): what a grant and a refusal change, when the manager grants, and the
rule of a request behind which nothing waits. -/

namespace Sys2Proof.Machine

/-! ### Counts under events (15 R416, R419) -/

@[simp] theorem flushLog_counts (s : State) : (flushLog s).mgmt.counts = s.mgmt.counts := by
  simp [flushLog]

@[simp] theorem raiseAt_counts (time : Time) (rom : Bool) (code inst value idx sub : Nat) (s : State) :
    (raiseAt time rom code inst value idx sub s).mgmt.counts = s.mgmt.counts := by
  simp only [raiseAt, apply_ite (fun u : State => u.mgmt.counts), flushLog_counts, ite_self]

@[simp] theorem raise_counts (code inst value idx sub : Nat) (s : State) :
    (raise code inst value idx sub s).mgmt.counts = s.mgmt.counts :=
  raiseAt_counts s.now false code inst value idx sub s

@[simp] theorem raiseWithin_counts (span code inst value idx sub : Nat) (s : State) :
    (raiseWithin span code inst value idx sub s).mgmt.counts = s.mgmt.counts := by
  simp only [raiseWithin]
  split
  · split <;> simp
  · simp

/-- What is read of a count depends on the table of counts only. -/
theorem countOf_of {s u : State} (h : u.mgmt.counts = s.mgmt.counts) (idx sub : Nat) :
    countOf idx sub u = countOf idx sub s := by
  simp [countOf, h]

@[simp] theorem countOf_finish (t : Time) (s x : State) (idx sub : Nat) :
    countOf idx sub (finish t s x) = countOf idx sub x :=
  countOf_of (by simp) idx sub

@[simp] theorem countOf_bump_self (idx sub n : Nat) (s : State) :
    countOf idx sub (bump idx sub n s) = countOf idx sub s + n := by
  simp [countOf, bump, Tbl.count, Tbl.add]

/-! ### Use of the pools -/

/-- What is read of a pool's use depends on the pools only. -/
theorem poolUsed_of {s u : State} (h : u.pools = s.pools) (q : Nat) : poolUsed u q = poolUsed s q := by
  simp [poolUsed, h]

@[simp] theorem poolUsed_takeGranules_self {p : Nat} (n : Nat) (s : State) (h : p < 16) :
    poolUsed (takeGranules p n s) p = poolUsed s p + n := by
  simp only [poolUsed, takeGranules, State.onPools_pools, atNat_updNat_self]
  rw [atNat_of_lt _ h]; rfl

@[simp] theorem poolUsed_takeGranules_ne {p q : Nat} (n : Nat) (s : State) (h : q ≠ p) :
    poolUsed (takeGranules p n s) q = poolUsed s q := by
  simp [poolUsed, takeGranules, h]

/-- In a mode that has a pot, the end of a command leaves every pool's use as its effect made it. -/
theorem poolUsed_finish {x : State} (h : x.mode.mode.potEmpty = false) (t : Time) (s : State) (q : Nat) :
    poolUsed (finish t s x) q = poolUsed x q :=
  poolUsed_of (by simp [h]) q

/-! ### A request (04 R98) -/

@[simp] theorem takeGranules_mgmt (p n : Nat) (s : State) : (takeGranules p n s).mgmt = s.mgmt := by
  simp [takeGranules]

@[simp] theorem poolUsed_refuseGranules (p q : Nat) (s : State) : poolUsed (refuseGranules p s) q = poolUsed s q :=
  poolUsed_of (Same.pools_eq (by simp)) q

/-- A refusal adds 1 to the refusals of its pool: the event that goes with it counts nothing. -/
theorem countOf_refuseGranules (p : Nat) (s : State) :
    countOf 0x4003 (p + 1) (refuseGranules p s) = countOf 0x4003 (p + 1) s + 1 := by
  rw [← countOf_bump_self]
  exact countOf_of (by simp [refuseGranules, raiseLimited]) _ _

theorem request_of_grants {p n : Nat} {s : State} (h : grants s p n = true) :
    (request p n s).2 = takeGranules p n s := by
  simp [request, h]

theorem request_of_not_grants {p n : Nat} {s : State} (h : ¬ grants s p n = true) :
    (request p n s).2 = refuseGranules p s := by
  simp [request, h]

/-- A request leaves the mode as it was. -/
theorem request_mode (p n : Nat) (s : State) : (request p n s).2.mode = s.mode :=
  Same.mode_eq (by simp)

/-- The manager's test for a request of at least one granule, with the claims of the other pools' kitties added to
the request and not taken from the free granules. -/
theorem grants_iff {p n : Nat} (s : State) (hn : 1 ≤ n) :
    grants s p n = true ↔
      if p = 0 then n ≤ pourFree s else poolUsed s p + n ≤ capOf s p ∧ n + reserveOther s p ≤ poolFree s := by
  unfold grants
  split
  · simp
  · simp only [Bool.and_eq_true, decide_eq_true_eq]
    omega

/-- A request behind which no read and no write waits is decided by the manager alone. -/
theorem exec_granuleRequest_alone (t : Time) (p : PoolNo) (n : Nat) {s : State} (hw : s.cmd.solicitQ = [])
    (hm : s.pot.missQ = []) :
    exec (.granuleRequest t p n) s = .next (finish t s (request p.val n (advance t s)).2) := by
  have hw' : (advance t s).cmd.solicitQ = [] := hw
  have hm' : (advance t s).pot.missQ = [] := hm
  simp [exec_granuleRequest, execGranuleRequest, act, solicitOf, hw', hm']

/-- Settles O17: the manager alone decides the request, by `grants_iff`; a grant then raises its pool's use only and
a refusal the count of its pool's refusals. -/
theorem granuleRequestRule : Obligations.GranuleRequestRule := by
  intro t p n s hw hm hmode hn _ used free reserve granted
  have hiff : granted ↔ grants (advance t s) p.val n = true := (grants_iff (advance t s) hn).symm
  have hfin (q : Nat) : poolUsed (finish t s (request p.val n (advance t s)).2) q =
      poolUsed (request p.val n (advance t s)).2 q :=
    poolUsed_finish (by rw [request_mode]; exact hmode) t s q
  refine ⟨_, exec_granuleRequest_alone t p n hw hm, ?_⟩
  simp only [hiff, hfin]
  by_cases hg : grants (advance t s) p.val n = true
  · rw [request_of_grants hg]
    refine ⟨fun _ => ⟨?_, ?_⟩, fun h => absurd hg h, fun q hq => ?_⟩
    · exact poolUsed_takeGranules_self n (advance t s) p.isLt
    · simp [advance]
    · exact poolUsed_takeGranules_ne n (advance t s) hq
  · rw [request_of_not_grants hg]
    refine ⟨fun h => absurd h hg, fun _ => ⟨?_, ?_⟩, fun q _ => ?_⟩
    · exact poolUsed_refuseGranules p.val p.val (advance t s)
    · rw [countOf_finish]
      exact countOf_refuseGranules p.val (advance t s)
    · exact poolUsed_refuseGranules p.val q (advance t s)

end Sys2Proof.Machine
end

section
/-! PROOFS. A cell offered to a VOQ whose reserved cells are in use (05 R123): what one cell does to its queue and to
the count of free shared cells, what an offer does from there, and the rule of an offer with none before it. -/

namespace Sys2Proof.Machine

/-! ### The key of a VOQ -/

theorem kindClass_lt (k : MsgKind) : kindClass k < 4 := by
  cases k with
  | memRead cls _ | memReply cls => exact cls.isLt
  | _ => decide

theorem keyOut_voqKey {inp out cls : Nat} (ho : out < 30) (hc : cls < 4) : keyOut (voqKey inp out cls) = out := by
  simp only [keyOut, voqKey]
  omega

/-! ### The rule itself -/

/-- The grant is the bound of R123 alone: the bound already fails when no shared cell is free. -/
theorem sharedGrant_iff (own free : Nat) (a : Int) :
    sharedGrant own free a = true ↔ if 0 ≤ a then own < free * 2 ^ a.toNat else own * 2 ^ (-a).toNat < free := by
  rcases Nat.eq_zero_or_pos free with rfl | hpos
  · simp [sharedGrant]
  · by_cases ha : 0 ≤ a <;> simp [sharedGrant, hpos, ha]

theorem sharedGrant_pos {own free : Nat} {a : Int} (h : sharedGrant own free a = true) : 0 < free := by
  simp only [sharedGrant, Bool.and_eq_true, decide_eq_true_eq] at h
  exact h.1

/-! ### What is read of the switch core -/

theorem voqAt_of {s u : State} (h : u.core.voqs = s.core.voqs) (k : Nat) : voqAt k u = voqAt k s := by
  simp [voqAt, h]

theorem offersAt_of {s u : State} (h : u.core.offers = s.core.offers) (k : Nat) : offersAt k u = offersAt k s := by
  simp [offersAt, h]

@[simp] theorem voqAt_finish (k : Nat) (t : Time) (s x : State) : voqAt k (finish t s x) = voqAt k x :=
  voqAt_of (by simp) k

@[simp] theorem offersAt_finish (k : Nat) (t : Time) (s x : State) : offersAt k (finish t s x) = offersAt k x :=
  offersAt_of (by simp) k

@[simp] theorem voqRefused_core (inp : Nat) (s : State) : (voqRefused inp s).core = s.core :=
  Same.core_eq (by simp)

@[simp] theorem putOffers_voqs (k : Nat) (l : List (CoreMsg × Nat)) (s : State) :
    (putOffers k l s).core.voqs = s.core.voqs := (rfl)

@[simp] theorem putOffers_sharedFree (k : Nat) (l : List (CoreMsg × Nat)) (s : State) :
    (putOffers k l s).core.sharedFree = s.core.sharedFree := (rfl)

@[simp] theorem voqAt_putOffers (j k : Nat) (l : List (CoreMsg × Nat)) (s : State) :
    voqAt j (putOffers k l s) = voqAt j s := (rfl)

@[simp] theorem offersAt_putOffers_self (k : Nat) (l : List (CoreMsg × Nat)) (s : State) :
    offersAt k (putOffers k l s) = l := by
  cases l <;> simp [offersAt, putOffers]

@[simp] theorem peak_core (idx sub v : Nat) (s : State) : (peak idx sub v s).core = s.core :=
  Same.core_eq (by simp)

@[simp] theorem when_raiseLimited_core (b : Bool) (code inst value idx sub : Nat) (s : State) :
    (when b (raiseLimited code inst value idx sub) s).core = s.core :=
  Same.core_eq (by simp)

/-! ### One cell (05 R122, R123) -/

/-- What a cell that enters a VOQ changes in the switch core: it stands at its queue's end, a shared one when the
reserved cells are in use, and a shared one leaves the free ones. -/
theorem voqPut_core {k : Nat} {c : Cell} {s u : State} (h : voqPut k c s = some u) :
    u.core = { s.core with
      voqs := Tbl.put s.core.voqs k { voqAt k s with
        cells := (voqAt k s).cells ++ [{ c with shared := !decide (voqReserved (voqAt k s) < 16) }] }
      sharedFree := if voqReserved (voqAt k s) < 16 then s.core.sharedFree else s.core.sharedFree - 1 } := by
  simp only [voqPut, Option.ite_none_right_eq_some, Option.some.injEq] at h
  obtain ⟨-, rfl⟩ := h
  rw [when_raiseLimited_core, peak_core]
  rfl

theorem voqPut_cells {k : Nat} {c : Cell} {s u : State} (h : voqPut k c s = some u) :
    (voqAt k u).cells =
      (voqAt k s).cells ++ [{ c with shared := !decide (voqReserved (voqAt k s) < 16) }] := by
  simp [voqAt, voqPut_core h]

theorem voqPut_sharedFree {k : Nat} {c : Cell} {s u : State} (h : voqPut k c s = some u) :
    u.core.sharedFree = if voqReserved (voqAt k s) < 16 then s.core.sharedFree else s.core.sharedFree - 1 := by
  simp [voqPut_core h]

/-- A VOQ whose reserved cells are in use takes a cell exactly under the grant of R123. -/
theorem voqPut_isSome_of_full {k : Nat} (c : Cell) {s : State} (h : 16 ≤ voqReserved (voqAt k s)) :
    (voqPut k c s).isSome = sharedGrant (voqShared (voqAt k s)) s.core.sharedFree (sharedAlpha s) := by
  have hfull : ¬ voqReserved (voqAt k s) < 16 := by omega
  cases hg : sharedGrant (voqShared (voqAt k s)) s.core.sharedFree (sharedAlpha s) <;> simp [voqPut, hfull, hg]

/-! ### An offer (05 R124, R125) -/

theorem offerCells_refused {k n i : Nat} {m : CoreMsg} {rest : List (CoreMsg × Nat)} {s : State}
    (ho : offersAt k s = (m, i) :: rest) (h : voqPut k (cellOf m i) s = none) :
    offerCells k (n + 1) s = voqRefused (keyInp k) s := by
  simp [offerCells, ho, h]

theorem offerCells_taken {k n i : Nat} {m : CoreMsg} {rest : List (CoreMsg × Nat)} {s v : State}
    (ho : offersAt k s = (m, i) :: rest) (hs : outputShut (keyOut k) s = false)
    (h : voqPut k (cellOf m i) s = some v) :
    offerCells k (n + 1) s =
      offerCells k n (putOffers k (if msgCells m ≤ i + 1 then rest else (m, i + 1) :: rest) v) := by
  simp [offerCells, ho, hs, h]

/-- An offer only appends to its queue, and frees no shared cell. -/
theorem offerCells_grows (k n : Nat) (s : State) :
    (voqAt k s).cells <+: (voqAt k (offerCells k n s)).cells ∧
      (offerCells k n s).core.sharedFree ≤ s.core.sharedFree := by
  induction n generalizing s with
  | zero => simp [offerCells]
  | succ n ih =>
    unfold offerCells
    split
    · simp
    · next m i rest _ =>
      split
      · next v hv =>
        have hv : voqPut k (cellOf m i) s = some v := by
          split at hv
          · cases hv
          · exact hv
        obtain ⟨hpre, hle⟩ := ih (putOffers k (if msgCells m ≤ i + 1 then rest else (m, i + 1) :: rest) v)
        rw [voqAt_putOffers, voqPut_cells hv] at hpre
        rw [putOffers_sharedFree, voqPut_sharedFree hv] at hle
        refine ⟨List.IsPrefix.trans ⟨_, rfl⟩ hpre, Nat.le_trans hle ?_⟩
        split <;> omega
      · simp [voqAt]

/-- A stage has a message to offer: a write is not acknowledged yet (05 R126). -/
def unacked (inp : Nat) (m : CoreMsg) (s : State) : State :=
  when (isWriteKind m.kind) (fun s => s.onCore fun c =>
    { c with acks := c.acks.filter fun a => a ≠ (inp, m.num) }) s

theorem unacked_core (inp : Nat) (m : CoreMsg) (s : State) :
    ∃ l, (unacked inp m s).core = { s.core with acks := l } := by
  unfold unacked when
  split
  · exact ⟨_, rfl⟩
  · exact ⟨s.core.acks, rfl⟩

/-- The state in which a stage begins to offer a message to a queue for which it keeps no other. -/
def offering (inp k : Nat) (m : CoreMsg) (s : State) : State := putOffers k [(m, 0)] (unacked inp m s)

section
variable (inp k : Nat) (m : CoreMsg) (s : State)

theorem offersAt_unacked : offersAt k (unacked inp m s) = offersAt k s := by
  obtain ⟨l, hl⟩ := unacked_core inp m s
  exact offersAt_of (by rw [hl]) k

@[simp] theorem voqAt_offering (j : Nat) : voqAt j (offering inp k m s) = voqAt j s := by
  obtain ⟨l, hl⟩ := unacked_core inp m s
  exact voqAt_of (by rw [offering, putOffers_voqs, hl]) j

@[simp] theorem offering_sharedFree : (offering inp k m s).core.sharedFree = s.core.sharedFree := by
  obtain ⟨l, hl⟩ := unacked_core inp m s
  rw [offering, putOffers_sharedFree, hl]

@[simp] theorem offersAt_offering : offersAt k (offering inp k m s) = [(m, 0)] :=
  offersAt_putOffers_self ..

@[simp] theorem sharedAlpha_offering : sharedAlpha (offering inp k m s) = sharedAlpha s := by
  have hd : (offering inp k m s).dict = s.dict := Same.dict_eq (by simp [offering, unacked])
  simp only [sharedAlpha, dval_of hd]

@[simp] theorem outputShut_offering (out : Nat) : outputShut out (offering inp k m s) = outputShut out s := by
  unfold offering unacked when
  split <;> rfl

end

/-- Where the stage keeps nothing for the queue of a message, that message is offered alone. -/
theorem offerMessage_alone {inp out : Nat} {m : CoreMsg} {s : State}
    (ho : offersAt (voqKey inp out (kindClass m.kind)) s = []) :
    offerMessage inp out m s = offerAgain (voqKey inp out (kindClass m.kind))
      (offering inp (voqKey inp out (kindClass m.kind)) m s) := by
  have hw := (offersAt_unacked inp (voqKey inp out (kindClass m.kind)) m s).trans ho
  change (if !(offersAt _ (unacked inp m s)).isEmpty then _
    else offerAgain _ (putOffers _ (offersAt _ (unacked inp m s) ++ [(m, 0)]) (unacked inp m s))) = _
  rw [hw]
  rfl

/-- A message without a named write, offered where the stage keeps nothing for its queue: its cells are offered in
turn. -/
theorem offerNew_alone {inp out : Nat} {m : CoreMsg} {s : State} (hne : inp ≠ out) (hn : m.names = none)
    (ho : offersAt (voqKey inp out (kindClass m.kind)) s = []) :
    offerNew inp out m s = offerCells (voqKey inp out (kindClass m.kind)) (msgCells m)
      (offering inp (voqKey inp out (kindClass m.kind)) m s) := by
  simp [offerNew, hne, hn, offerMessage_alone ho, offerAgain]

theorem msgCells_pos (m : CoreMsg) : 0 < msgCells m :=
  Nat.le_max_left 1 _

/-! ### The rule of an offer to a VOQ whose reserved cells are in use -/

section
variable {k n : Nat} {m : CoreMsg} {s : State} (ho : offersAt k s = [(m, 0)]) (hfull : 16 ≤ voqReserved (voqAt k s))
include ho hfull

/-- A grant refused: nothing enters, and the stage keeps the message. -/
theorem offerCells_core_of_not_grant
    (hg : ¬ sharedGrant (voqShared (voqAt k s)) s.core.sharedFree (sharedAlpha s) = true) :
    (offerCells k (n + 1) s).core = s.core := by
  have hput : voqPut k (cellOf m 0) s = none := by
    rw [← Option.not_isSome_iff_eq_none, voqPut_isSome_of_full _ hfull]
    exact hg
  rw [offerCells_refused ho hput, voqRefused_core]

/-- A grant: the first cell enters as a shared one, and of a message of one cell nothing else happens. -/
theorem offerCells_of_grant (hs : outputShut (keyOut k) s = false)
    (hg : sharedGrant (voqShared (voqAt k s)) s.core.sharedFree (sharedAlpha s) = true) :
    (voqAt k s).cells ++ [{ cellOf m 0 with shared := true }] <+: (voqAt k (offerCells k (n + 1) s)).cells ∧
      (offerCells k (n + 1) s).core.sharedFree < s.core.sharedFree ∧
      (n = 0 →
        (voqAt k (offerCells k (n + 1) s)).cells = (voqAt k s).cells ++ [{ cellOf m 0 with shared := true }] ∧
        (offerCells k (n + 1) s).core.sharedFree + 1 = s.core.sharedFree) := by
  have hpos := sharedGrant_pos hg
  obtain ⟨v, hv⟩ := Option.isSome_iff_exists.mp ((voqPut_isSome_of_full (cellOf m 0) hfull).trans hg)
  have hcells : (voqAt k v).cells = (voqAt k s).cells ++ [{ cellOf m 0 with shared := true }] := by
    simpa [Nat.not_lt.mpr hfull] using voqPut_cells hv
  have hfree : v.core.sharedFree = s.core.sharedFree - 1 := by
    simpa [Nat.not_lt.mpr hfull] using voqPut_sharedFree hv
  rw [offerCells_taken ho hs hv, ← hcells]
  obtain ⟨hpre, hle⟩ := offerCells_grows k n (putOffers k (if msgCells m ≤ 1 then [] else [(m, 1)]) v)
  refine ⟨hpre, ?_, ?_⟩
  · exact Nat.lt_of_le_of_lt hle (by rw [putOffers_sharedFree]; omega)
  · rintro rfl
    exact ⟨rfl, by simp only [offerCells, putOffers_sharedFree]; omega⟩

end

section
variable {inp out : SwPort} {m : CoreMsg} {s : State} (hne : inp ≠ out) (hn : m.names = none)
  (ho : offersAt (voqKey inp.val out.val (kindClass m.kind)) s = [])
  (hfull : 16 ≤ voqReserved (voqAt (voqKey inp.val out.val (kindClass m.kind)) s))
include hne hn ho hfull

/-- Without a grant the queue and the free shared cells stay, and the stage keeps the message. -/
theorem offerNew_of_not_grant
    (hg : ¬ sharedGrant (voqShared (voqAt (voqKey inp.val out.val (kindClass m.kind)) s)) s.core.sharedFree
      (sharedAlpha s) = true) :
    voqAt (voqKey inp.val out.val (kindClass m.kind)) (offerNew inp.val out.val m s) =
        voqAt (voqKey inp.val out.val (kindClass m.kind)) s ∧
      (offerNew inp.val out.val m s).core.sharedFree = s.core.sharedFree ∧
      offersAt (voqKey inp.val out.val (kindClass m.kind)) (offerNew inp.val out.val m s) = [(m, 0)] := by
  obtain ⟨n, hcount⟩ := Nat.exists_eq_add_one.mpr (msgCells_pos m)
  rw [offerNew_alone (Fin.val_ne_of_ne hne) hn ho, hcount]
  have hcore := offerCells_core_of_not_grant (n := n) (offersAt_offering inp.val _ m s) (by simpa using hfull)
    (by simpa using hg)
  refine ⟨?_, ?_, ?_⟩
  · rw [voqAt_of (congrArg Core.voqs hcore), voqAt_offering]
  · rw [hcore, offering_sharedFree]
  · rw [offersAt_of (congrArg Core.offers hcore), offersAt_offering]

/-- Under a grant the first cell enters as a shared one, and of a message of one cell nothing else happens. -/
theorem offerNew_of_grant (hs : outputShut out.val s = false)
    (hg : sharedGrant (voqShared (voqAt (voqKey inp.val out.val (kindClass m.kind)) s)) s.core.sharedFree
      (sharedAlpha s) = true) :
    (voqAt (voqKey inp.val out.val (kindClass m.kind)) s).cells ++ [{ cellOf m 0 with shared := true }] <+:
        (voqAt (voqKey inp.val out.val (kindClass m.kind)) (offerNew inp.val out.val m s)).cells ∧
      (offerNew inp.val out.val m s).core.sharedFree < s.core.sharedFree ∧
      (msgCells m = 1 →
        (voqAt (voqKey inp.val out.val (kindClass m.kind)) (offerNew inp.val out.val m s)).cells =
          (voqAt (voqKey inp.val out.val (kindClass m.kind)) s).cells ++ [{ cellOf m 0 with shared := true }] ∧
        (offerNew inp.val out.val m s).core.sharedFree + 1 = s.core.sharedFree) := by
  obtain ⟨n, hcount⟩ := Nat.exists_eq_add_one.mpr (msgCells_pos m)
  have hout := keyOut_voqKey (inp := inp.val) out.isLt (kindClass_lt m.kind)
  rw [offerNew_alone (Fin.val_ne_of_ne hne) hn ho, hcount]
  simpa using offerCells_of_grant (n := n) (offersAt_offering inp.val _ m s) (by simpa using hfull)
    (by simpa [hout] using hs) (by simpa using hg)

end

/-- Settles O21: the bound of the statement is the grant that the offer's first cell meets, by `sharedGrant_iff`. -/
theorem sharedCellRule : Obligations.SharedCellRule := by
  refine ⟨by decide, ?_⟩
  intro t inp out m s k q a free below hne hs hn ho hfull
  have hiff : below ↔ sharedGrant (voqShared q) free a = true := (sharedGrant_iff _ _ _).symm
  rw [exec_cellOffer, execCellOffer, completes_act]
  simp only [voqAt_finish, offersAt_finish, finish_core]
  refine ⟨fun hb => ?_, fun hb => ?_, fun h0 hb => ?_, fun h0 _ => ?_⟩
  · exact offerNew_of_grant (s := advance t s) hne hn ho hfull hs (hiff.mp hb)
  · obtain ⟨hvoq, hfree, hkept⟩ :=
      offerNew_of_not_grant (s := advance t s) hne hn ho hfull (fun hg => hb (hiff.mpr hg))
    exact ⟨congrArg Voq.cells hvoq, hfree, hkept⟩
  · exact Nat.ne_of_gt (sharedGrant_pos (hiff.mp hb)) h0
  · simp only [below, h0, Int.le_refl, if_true, Int.toNat_zero, Nat.pow_zero, Nat.mul_one]
    omega

end Sys2Proof.Machine
end

section
/-! PROOFS. A record of which both ingress lanes report a tag failure (09 R244, 02 R51): what the end of connections
leaves of the counts, of the other connections and of what ended ones still send, the last message of the connection
that ends, what R244 says of a unit on the 104 lanes, and a unit on none of them. -/

namespace Sys2Proof.Machine

/-! ### Tables -/

theorem Tbl.mem_of_get? {α : Type} {m : Tbl α} {k : Nat} {v : α} (h : Tbl.get? m k = some v) : (k, v) ∈ m := by
  induction m with
  | nil => simp at h
  | cons p m ih =>
    simp only [Tbl.get?] at h
    split at h
    · next hk => cases h; subst hk; exact List.mem_cons_self
    · exact List.mem_cons_of_mem _ (ih h)

theorem Tbl.get?_eq_none_iff {α : Type} {m : Tbl α} {k : Nat} : Tbl.get? m k = none ↔ ∀ p ∈ m, p.1 ≠ k := by
  induction m with
  | nil => simp
  | cons p m ih =>
    simp only [Tbl.get?, List.forall_mem_cons, ← ih]
    by_cases hk : k = p.1
    · simp [hk]
    · simp [hk, Ne.symm hk]

theorem Tbl.get?_map_snd {α β : Type} (m : Tbl α) (g : α → β) (k : Nat) :
    Tbl.get? (m.map fun p => (p.1, g p.2)) k = (Tbl.get? m k).map g := by
  induction m with
  | nil => rfl
  | cons p m ih =>
    simp only [List.map_cons, Tbl.get?, ih]
    split <;> rfl

theorem Tbl.le_freeFrom {α : Type} (m : Tbl α) (lo fuel : Nat) : lo ≤ Tbl.freeFrom m lo fuel := by
  induction fuel generalizing lo with
  | zero => exact Nat.le_refl lo
  | succ fuel ih =>
    simp only [Tbl.freeFrom]
    split
    · exact Nat.le_of_succ_le (ih (lo + 1))
    · exact Nat.le_refl lo

/-- A search that ends at a key in use has found every key before it in use. -/
theorem Tbl.range_subset_keys {α : Type} {m : Tbl α} {lo fuel : Nat} (h : Tbl.has m (Tbl.freeFrom m lo fuel) = true) :
    List.range' lo fuel ⊆ Tbl.keys m := by
  induction fuel generalizing lo with
  | zero => simp
  | succ fuel ih =>
    simp only [Tbl.freeFrom] at h
    split at h
    · next hlo =>
      obtain ⟨v, hv⟩ := Option.isSome_iff_exists.mp hlo
      exact List.cons_subset.mpr ⟨List.mem_map_of_mem (Tbl.mem_of_get? hv), ih h⟩
    · next hlo => exact absurd h hlo

/-- A search over more keys than the table has entries ends at a free one. -/
theorem Tbl.get?_freeFrom {α : Type} (m : Tbl α) (lo : Nat) :
    Tbl.get? m (Tbl.freeFrom m lo (m.length + 1)) = none := by
  rw [← Option.not_isSome_iff_eq_none]
  intro h
  have hlen := List.Nodup.length_le_of_subset (List.nodup_range' (step := 1)) (Tbl.range_subset_keys h)
  rw [List.length_range', Tbl.keys, List.length_map] at hlen
  omega

/-! ### Counts under the record and the contexts -/

@[simp] theorem record_counts (e : RecEntry) (s : State) : (record e s).mgmt.counts = s.mgmt.counts := by
  simp only [record]
  split
  · split <;> simp [raiseLimited]
  · rfl

theorem countOf_bump_ne {idx sub i j : Nat} (n : Nat) (s : State) (h : i * 256 + j ≠ idx * 256 + sub) :
    countOf i j (bump idx sub n s) = countOf i j s := by
  simp [countOf, bump, Tbl.count, Tbl.add, h]

/-- The use of a context moves no count but that of the contexts spilled. -/
theorem countOf_touchContext_ne {i j : Nat} (k : Nat) (s : State) (h : i * 256 + j ≠ 0x5308 * 256) :
    countOf i j (touchContext k s) = countOf i j s := by
  simp only [touchContext]
  split
  · rfl
  · split
    · exact countOf_bump_ne _ _ h
    · rfl

/-! ### The record and the plan -/

/-- An entry joins the record of this cycle or the entries held for the next, and nothing else of the pair changes. -/
theorem record_pair (e : RecEntry) (s : State) :
    ∃ l l', (record e s).pair = { s.pair with entries := l, heldEntries := l' } := by
  simp only [record]
  split
  · split
    · exact ⟨_, _, rfl⟩
    · exact ⟨_, _, Same.pair_eq (b := s.onPair fun p => { p with heldEntries := p.heldEntries ++ [e] }) (by simp)⟩
  · exact ⟨_, _, rfl⟩

@[simp] theorem record_paired (e : RecEntry) (s : State) : (record e s).pair.paired = s.pair.paired := by
  obtain ⟨l, l', h⟩ := record_pair e s
  rw [h]

@[simp] theorem record_planned (e : RecEntry) (s : State) : (record e s).pair.planned = s.pair.planned := by
  obtain ⟨l, l', h⟩ := record_pair e s
  rw [h]

/-! ### A port without frames -/

/-- The virtual time of a connection of a port starts afresh. -/
def freshOn (p : Nat) (x : Conn) : Conn := if x.info.port = p then { x with finish := 0 } else x

@[simp] theorem refs_freshOn (p : Nat) (x : Conn) : (freshOn p x).refs = x.refs := by
  unfold freshOn; split <;> rfl

@[simp] theorem sendQ_freshOn (p : Nat) (x : Conn) : (freshOn p x).sendQ = x.sendQ := by
  unfold freshOn; split <;> rfl

theorem portIdle_eq (p : Nat) (s : State) :
    portIdle p s =
      if (queuedOn p s).isEmpty && (((atNat s.egress.ports p).map (·.ctrlQ)).getD []).isEmpty then
        (s.onEgress fun e => { e with
          ports := updNat e.ports p fun x => { x with v := 0 }
          closing := e.closing.map fun c => (c.1, { c.2 with x := freshOn p c.2.x }) }).onConns
          fun m => m.map fun c => (c.1, freshOn p c.2)
      else s := (rfl)

/-! ### What the end of connections leaves -/

/-- No connection holds a reference to a buffer, and the numbers of connections are below those of ended ones. -/
def Unreferenced (s : State) : Prop := ∀ p ∈ s.conns, p.2.refs = [] ∧ p.1 < closingBase

/-- What the end of connections leaves: the mode, the counts and the pairing; of the connections, each that is left
with its references; and what a connection that had ended before still sends. -/
structure Ends (s u : State) : Prop where
  mode : u.mode = s.mode
  counts : u.mgmt.counts = s.mgmt.counts
  paired : u.pair.paired = s.pair.paired
  conns : ∀ p ∈ u.conns, ∃ q ∈ s.conns, q.1 = p.1 ∧ q.2.refs = p.2.refs
  closing : ∀ n c, Tbl.get? s.egress.closing n = some c →
    ∃ d, Tbl.get? u.egress.closing n = some d ∧ d.after = c.after ∧ d.x.sendQ = c.x.sendQ
  planned : ∀ n, closingBase ≤ n → Tbl.get? s.egress.closing n ≠ none →
    ∀ q ∈ s.pair.planned, q.conn = n → q ∈ u.pair.planned

theorem Ends.refl (s : State) : Ends s s where
  mode := rfl
  counts := rfl
  paired := rfl
  conns p hp := ⟨p, hp, rfl, rfl⟩
  closing _ c hc := ⟨c, hc, rfl, rfl⟩
  planned _ _ _ _ hq _ := hq

section
variable {s u v : State}

theorem Ends.unreferenced (h : Ends s u) (hs : Unreferenced s) : Unreferenced u := by
  intro p hp
  obtain ⟨q, hq, hkey, hrefs⟩ := h.conns p hp
  rw [← hkey, ← hrefs]
  exact hs q hq

/-- A connection that is not there is not opened. -/
theorem Ends.connOf_eq_none (h : Ends s u) {k : Nat} (hk : connOf s k = none) : connOf u k = none := by
  refine Tbl.get?_eq_none_iff.mpr fun p hp => ?_
  obtain ⟨q, hq, hkey, -⟩ := h.conns p hp
  rw [← hkey]
  exact Tbl.get?_eq_none_iff.mp hk q hq

theorem Ends.countOf_eq (h : Ends s u) (idx sub : Nat) : countOf idx sub u = countOf idx sub s :=
  countOf_of h.counts idx sub

/-- A state that has the parts in question of another stands for it. -/
theorem Ends.of_parts (h : Ends s u) (hv : ∀ p ∈ [Field.mode, .conns, .egress], Same p v u)
    (hcounts : v.mgmt.counts = u.mgmt.counts) (hpaired : v.pair.paired = u.pair.paired)
    (hplanned : v.pair.planned = u.pair.planned) : Ends s v := by
  simp only [List.forall_mem_cons] at hv
  obtain ⟨hmode, hconns, hegress, -⟩ := hv
  constructor
  · rw [hmode.mode_eq]; exact h.mode
  · rw [hcounts]; exact h.counts
  · rw [hpaired]; exact h.paired
  · rw [hconns.conns_eq]; exact h.conns
  · rw [hegress.egress_eq]; exact h.closing
  · rw [hplanned]; exact h.planned

theorem Ends.of_same (h : Ends s u) (hv : ∀ p ∈ [Field.mode, .conns, .egress], Same p v u)
    (hmgmt : Same .mgmt v u) (hpair : Same .pair v u) : Ends s v :=
  h.of_parts hv (congrArg _ hmgmt.mgmt_eq) (congrArg _ hpair.pair_eq) (congrArg _ hpair.pair_eq)

theorem Ends.record (h : Ends s u) (e : RecEntry) : Ends s (record e u) :=
  h.of_parts (by simp) (record_counts e u) (record_paired e u) (record_planned e u)

theorem Ends.raise (h : Ends s u) (code inst value idx sub : Nat) : Ends s (raise code inst value idx sub u) :=
  have hpair := Same.pair_eq (a := Machine.raise code inst value idx sub u) (b := u) (by simp)
  h.of_parts (by simp) (raise_counts code inst value idx sub u) (congrArg _ hpair) (congrArg _ hpair)

/-- The port's own part of the egress stage is none of what ended connections send. -/
theorem Ends.ctrlPut (h : Ends s u) (port c : Nat) (hd : FrameHdr) (m : HostMsg) : Ends s (ctrlPut port c hd m u) :=
  ⟨h.mode, h.counts, h.paired, h.conns, h.closing, h.planned⟩

theorem Ends.each {α : Type} {f : α → State → State} (hf : ∀ a u, Ends s u → Ends s (f a u)) (l : List α)
    (h : Ends s u) : Ends s (each l f u) := by
  induction l generalizing u with
  | nil => exact h
  | cons a l ih => exact ih (hf a u h)

theorem Ends.portIdle (h : Ends s u) (p : Nat) : Ends s (portIdle p u) := by
  rw [portIdle_eq]
  split
  · refine ⟨h.mode, h.counts, h.paired, fun q hq => ?_, fun n c hc => ?_, h.planned⟩
    · obtain ⟨r, hr, rfl⟩ := List.mem_map.mp hq
      obtain ⟨q, hq, hkey, hrefs⟩ := h.conns r hr
      exact ⟨q, hq, hkey, hrefs.trans (refs_freshOn p r.2).symm⟩
    · obtain ⟨d, hd, hafter, hq⟩ := h.closing n c hc
      have hget := Tbl.get?_map_snd u.egress.closing (fun d => ({ d with x := freshOn p d.x } : Closing)) n
      rw [hd] at hget
      exact ⟨_, hget, hafter, (sendQ_freshOn p d.x).trans hq⟩
  · exact h

/-- The plans of a connection are dropped; those of ended ones stay. -/
theorem Ends.dropPlans (h : Ends s u) {k : Nat} (hk : k < closingBase) :
    Ends s (u.onPair fun p => { p with planned := p.planned.filter fun q => q.conn ≠ k,
                                       firstPass := p.firstPass.filter (· ≠ k) }) where
  mode := h.mode
  counts := h.counts
  paired := h.paired
  conns := h.conns
  closing := h.closing
  planned n hn hc q hq hqn :=
    List.mem_filter.mpr ⟨h.planned n hn hc q hq hqn, decide_eq_true (by omega)⟩

theorem Ends.onCmd (h : Ends s u) (f : CmdSt → CmdSt) : Ends s (u.onCmd f) :=
  ⟨h.mode, h.counts, h.paired, h.conns, h.closing, h.planned⟩

theorem Ends.dropConn (h : Ends s u) (k : Nat) : Ends s (u.onConns fun m => Tbl.del m k) where
  mode := h.mode
  counts := h.counts
  paired := h.paired
  conns p hp := h.conns p (List.mem_filter.mp hp).1
  closing := h.closing
  planned := h.planned

/-- The end of a connection without references. -/
theorem Ends.endOne (h : Ends s u) (hs : Unreferenced s) (k reason : Nat) : Ends s (endOne k reason u) := by
  cases hx : connOf u k with
  | none => simpa [Machine.endOne, hx] using h
  | some x =>
    obtain ⟨hrefs, hk⟩ := h.unreferenced hs _ (Tbl.mem_of_get? hx)
    dsimp only at hrefs hk
    simp only [Machine.endOne, hx, hrefs]
    have hfreed (l : List (Nat × Cmd)) : Ends s (dropContext k (freeReceived k
        (Machine.each l (fun p s => orphanCmd p.1 p.2 s)
          (giveBack (rxPool x) x.capsules.sum (Machine.record (.connEnd k reason) u))))) :=
      (h.record (.connEnd k reason)).of_same (by simp) (by simp) (by simp)
    exact ((((hfreed _).dropPlans hk).onCmd _).dropConn k).portIdle _

/-- A change of what an ended connection sends, when its number was free before. -/
theorem Ends.onFlow (h : Ends s u) {n : Nat} (hn : closingBase ≤ n) (hfree : Tbl.get? s.egress.closing n = none)
    (f : Conn → Conn) : Ends s (onFlow n f u) := by
  rw [Machine.onFlow, if_neg (Nat.not_lt.mpr hn)]
  refine ⟨h.mode, h.counts, h.paired, h.conns, fun j c hc => ?_, h.planned⟩
  have hj : j ≠ n := fun e => by rw [e, hfree] at hc; cases hc
  simpa [hj] using h.closing j c hc

theorem Ends.putClosing (h : Ends s u) {n : Nat} (hfree : Tbl.get? s.egress.closing n = none) (c : Closing) :
    Ends s (u.onEgress fun e => { e with closing := Tbl.put e.closing n c }) := by
  refine ⟨h.mode, h.counts, h.paired, h.conns, fun j d hd => ?_, h.planned⟩
  have hj : j ≠ n := fun e => by rw [e, hfree] at hd; cases hd
  simpa [hj] using h.closing j d hd

theorem Ends.onCipher (h : Ends s u) (f : Cipher → Cipher) : Ends s (u.onCipher f) :=
  ⟨h.mode, h.counts, h.paired, h.conns, h.closing, h.planned⟩

theorem Ends.plans (h : Ends s u) (l : List Planned) :
    Ends s (u.onPair fun p => { p with planned := p.planned ++ l }) where
  mode := h.mode
  counts := h.counts
  paired := h.paired
  conns := h.conns
  closing := h.closing
  planned n hn hc q hq hqn := List.mem_append_left _ (h.planned n hn hc q hq hqn)

theorem Ends.when {f : State → State} (hf : ∀ u, Ends s u → Ends s (f u)) (b : Bool) (h : Ends s u) :
    Ends s (when b f u) := by
  unfold Machine.when; split
  · exact hf u h
  · exact h

/-- The last messages of an ended connection whose number was free before. -/
theorem Ends.lastMessages (h : Ends s u) {n : Nat} (hn : closingBase ≤ n)
    (hfree : Tbl.get? s.egress.closing n = none) (k : Nat) (l : List HostMsg) : Ends s (lastMessages k n l u) := by
  induction l generalizing u with
  | nil => exact h
  | cons m l ih =>
    simp only [Machine.lastMessages]
    split
    · exact h
    · refine ih ?_
      have hpast (f : Conn → Conn) := h.onFlow hn hfree f
      simp only [planOrQueue, enqueue]
      split
      · exact (hpast _).onFlow hn hfree _
      · split
        · exact ((hpast _).record _).plans _
        · exact (Ends.when (fun _ hw => hw.record _) _ (hpast _)).onFlow hn hfree _

/-- What is left to send of a connection takes a free number of its own. -/
theorem Ends.finalSend (h : Ends s u) (k : Nat) (x : Conn) (plans : List Planned) (l after : List HostMsg) :
    Ends s (finalSend k x plans l after u) := by
  simp only [Machine.finalSend]
  split
  · exact h
  · split
    · exact Ends.each (fun m _ hw => hw.ctrlPut _ _ _ m) _ h
    · have hfree : Tbl.get? s.egress.closing
          (Tbl.freeFrom u.egress.closing closingBase (u.egress.closing.length + 1)) = none := by
        rw [Option.eq_none_iff_forall_ne_some]
        intro c hc
        obtain ⟨d, hd, -⟩ := h.closing _ c hc
        rw [Tbl.get?_freeFrom] at hd
        cases hd
      exact (((h.putClosing hfree _).plans _).onCipher _).lastMessages (Tbl.le_freeFrom _ _ _) hfree k l

theorem Ends.endWith (h : Ends s u) (hs : Unreferenced s) (k reason : Nat) (l after : List HostMsg) :
    Ends s (endWith k reason l after u) := by
  unfold Machine.endWith; split
  · exact h
  · exact (h.endOne hs k reason).finalSend _ _ _ _ _

theorem Ends.hardEnd (h : Ends s u) (hs : Unreferenced s) (k reason : Nat) (l : List HostMsg) :
    Ends s (hardEnd k reason l u) := by
  unfold Machine.hardEnd; split
  · exact h
  · split
    · exact h.endWith hs _ _ _ _
    · exact h.endWith hs _ _ _ _

theorem Ends.endQueues (h : Ends s u) (hs : Unreferenced s) (k : Nat) (x : Conn) (reason : Nat) :
    Ends s (endQueues k x reason u) := by
  unfold Machine.endQueues; split
  · split
    · split
      · exact (Ends.each (fun q _ hw => hw.hardEnd hs q.2 _ _) _ h).onCmd _
      · exact h
    · exact h
  · exact h

theorem Ends.closeConn (h : Ends s u) (hs : Unreferenced s) (k reason : Nat) (l : List HostMsg) :
    Ends s (closeConn k reason l u) := by
  unfold Machine.closeConn; split
  · exact h
  · exact (h.hardEnd hs k reason l).endQueues hs k _ reason

end

/-! ### The last message of a connection (02 R47, R58) -/

theorem transmits_of {s u : State} (h : u.mode = s.mode) : transmits u = transmits s := by
  simp [transmits, inMode, h]

/-- A module that transmits decides. -/
theorem decides_of_transmits {s : State} (h : transmits s = true) : decides s = true := by
  simp only [transmits, decides, inMode, Bool.and_eq_true] at h ⊢
  cases hm : s.mode.mode <;> simp_all

/-- Number `n` of the ended connections closes what was connection `x`: message `m` is the last of its queue, or with
a partner a planned one, and the frames `after` follow. -/
def ClosesWith (paired : Bool) (n : Nat) (x : Conn) (m : HostMsg) (after : List HostMsg) (u : State) : Prop :=
  ∃ c, Tbl.get? u.egress.closing n = some c ∧ c.after = after ∧
    (paired = false → c.x.sendQ.map (·.msg) = x.sendQ.map (·.msg) ++ [m]) ∧
    (paired = true → (n, m) ∈ u.pair.planned.map fun q => (q.conn, q.frame.msg))

theorem ClosesWith.of_ends {b : Bool} {n : Nat} {x : Conn} {m : HostMsg} {after : List HostMsg} {u v : State}
    (h : ClosesWith b n x m after u) (hn : closingBase ≤ n) (huv : Ends u v) : ClosesWith b n x m after v := by
  obtain ⟨c, hc, hafter, halone, hpaired⟩ := h
  obtain ⟨d, hd, hdafter, hdq⟩ := huv.closing n c hc
  refine ⟨d, hd, hdafter.trans hafter, by rw [hdq]; exact halone, fun hb => ?_⟩
  obtain ⟨q, hq, hqm⟩ := List.mem_map.mp (hpaired hb)
  exact List.mem_map.mpr ⟨q, huv.planned n hn (by simp [hc]) q hq (congrArg Prod.fst hqm), hqm⟩

theorem get?_closing_onFlow {n : Nat} (hn : closingBase ≤ n) {s : State} {c : Closing}
    (hc : Tbl.get? s.egress.closing n = some c) (f : Conn → Conn) :
    Tbl.get? (onFlow n f s).egress.closing n = some { c with x := f c.x } := by
  rw [onFlow, if_neg (Nat.not_lt.mpr hn)]
  simp [hc]

section
variable {n : Nat} (hn : closingBase ≤ n) {m : HostMsg} (hm : isPlanned m = true) (k : Nat) {c : Closing} {s : State}
  (hc : Tbl.get? s.egress.closing n = some c) {b : Bool} (hb : s.pair.paired = b)
include hn hm hc hb

/-- A message of an ended connection that has a place in the plan is the last of what it still sends. -/
theorem closesWith_planOrQueue (cmd : Nat) (z : Conn) :
    ClosesWith b n c.x m c.after (planOrQueue k n z m cmd s) := by
  simp only [planOrQueue, hm, hb, Bool.not_true, Bool.false_eq_true, if_false]
  cases b with
  | true =>
    obtain ⟨d, hd, hafter, -⟩ :=
      ((Ends.refl s).record (.plan k z.txNext z.tls.txSeq (checksOf z m) m)).closing n c hc
    exact ⟨d, hd, hafter, by simp, fun _ => by simp [frameOf]⟩
  | false =>
    have hrec : Ends s (when s.pair.partnerJoining (record (.plan k z.txNext z.tls.txSeq (checksOf z m) m)) s) :=
      Ends.when (fun _ hw => hw.record _) _ (Ends.refl s)
    obtain ⟨d, hd, hafter, hq⟩ := hrec.closing n c hc
    simp only [Bool.false_eq_true, if_false, enqueue]
    exact ⟨_, get?_closing_onFlow hn hd _, hafter, fun _ => by simp [hq, frameOf], by simp⟩

theorem closesWith_lastMessages : ClosesWith b n c.x m c.after (lastMessages k n [m] s) := by
  have hflow : flowOf s n = some c.x := by simp [flowOf, Nat.not_lt.mpr hn, hc]
  have hpair : (onFlow n (pastMsg m s) s).pair = s.pair := Same.pair_eq (by simp)
  simp only [lastMessages, hflow]
  exact closesWith_planOrQueue hn hm k (get?_closing_onFlow hn hc _) (hpair ▸ hb) 0 _

end

/-- Such a message closes a connection of a module that transmits. -/
theorem closesWith_finalSend {u : State} (ht : transmits u = true) {m : HostMsg} (hm : isPlanned m = true) (k : Nat)
    (x : Conn) (plans : List Planned) (after : List HostMsg) :
    ∃ n, closingBase ≤ n ∧ ClosesWith u.pair.paired n x m after (finalSend k x plans [m] after u) := by
  have hn := Tbl.le_freeFrom u.egress.closing closingBase (u.egress.closing.length + 1)
  refine ⟨_, hn, ?_⟩
  simp only [finalSend, ht, Bool.not_true, Bool.false_eq_true, if_false, List.isEmpty_cons]
  exact closesWith_lastMessages hn hm k (c := { x, after }) (by simp) rfl

/-- A connection that has ended is no connection. -/
theorem connOf_endOne_self (k reason : Nat) (s : State) : connOf (endOne k reason s) k = none := by
  cases hx : connOf s k with
  | none => simp [endOne, hx]
  | some x =>
    simp only [endOne, hx]
    exact ((Ends.refl _).portIdle _).connOf_eq_none (Tbl.get?_del_self _ _)

/-- This side ends a TCP connection with a last message: the RST follows it, and the connection is ended. -/
theorem closeConn_closesWith {s : State} (hs : Unreferenced s) (ht : transmits s = true) {k : Nat} {x : Conn}
    (hx : connOf s k = some x) (htcp : x.info.kind = .tcp) {m : HostMsg} (hm : isPlanned m = true) (reason : Nat) :
    connOf (closeConn k reason [m] s) k = none ∧
      ∃ n, ClosesWith s.pair.paired n x m [.rst] (closeConn k reason [m] s) := by
  have hone := (Ends.refl s).endOne hs k reason
  have hone' := hone.unreferenced hs
  obtain ⟨n, hn, hcloses⟩ := closesWith_finalSend ((transmits_of hone.mode).trans ht) hm k x
    (s.pair.planned.filter fun q => q.conn = k) [.rst]
  have hend : closeConn k reason [m] s = endQueues k x reason (finalSend k x
      (s.pair.planned.filter fun q => q.conn = k) [m] [.rst] (endOne k reason s)) := by
    simp [closeConn, hardEnd, endWith, hx, htcp]
  have hfinal := (Ends.refl (endOne k reason s)).finalSend k x (s.pair.planned.filter fun q => q.conn = k) [m] [.rst]
  rw [hend, ← hone.paired]
  exact ⟨(hfinal.endQueues hone' k x reason).connOf_eq_none (connOf_endOne_self k reason s),
    n, hcloses.of_ends hn ((Ends.refl _).endQueues (hfinal.unreferenced hone') k x reason)⟩

/-! ### A tag failure that both lanes report (02 R51; 09 R244) -/

section
variable {k : Nat} {x : Conn} {s : State} (ht : transmits s = true) (hx : connOf s k = some x)
  (hearly : (x.tls.skipEarly && !x.tls.finished) = false)
include ht hx hearly

/-- A forged record ends the connection from this side, after the events of the failure. -/
theorem recordForged_eq_closeConn :
    ∃ u, Ends s u ∧ u.conns = s.conns ∧ recordForged k s = closeConn k 7 [.alert alertBadRecordMac] u := by
  have hraised := (Ends.refl s).raise 0x3111 k alertBadRecordMac 0x3100 0
  refine ⟨_, Ends.when (fun _ hw => hw.raise 0x3110 k alertBadRecordMac 0x3100 0) (!x.tls.finished) hraised,
    Same.conns_eq (by simp), ?_⟩
  have hx' : connOf (raise 0x3111 k alertBadRecordMac 0x3100 0 s) k = some x :=
    (connOf_of (Same.conns_eq (by simp)) k).trans hx
  simp [recordForged, tlsFail, hx, hx', hearly, decides_of_transmits ht, when]

theorem recordForged_ends (hs : Unreferenced s) : Ends s (recordForged k s) := by
  obtain ⟨u, hu, -, heq⟩ := recordForged_eq_closeConn ht hx hearly
  rw [heq]
  exact hu.closeConn hs k 7 _

/-- The only count that a forged record moves is that of the contexts spilled, with the use of the connection's
context. -/
theorem countOf_finish_forged (hs : Unreferenced s) (t : Time) (id idx sub : Nat) :
    countOf idx sub (finish t s (recordForged k (dropUnit id (touchContext k (advance t s))))) =
      countOf idx sub (touchContext k (advance t s)) := by
  have hconns : (dropUnit id (touchContext k (advance t s))).conns = s.conns := Same.conns_eq (by simp)
  rw [countOf_finish, (recordForged_ends ((transmits_of (Same.mode_eq (by simp))).trans ht)
    ((connOf_of hconns k).trans hx) hearly (by rw [Unreferenced, hconns]; exact hs)).countOf_eq]
  rfl

theorem recordForged_closesWith (hs : Unreferenced s) (htcp : x.info.kind = .tcp) :
    connOf (recordForged k s) k = none ∧
      ∃ n, ClosesWith s.pair.paired n x (.alert alertBadRecordMac) [.rst] (recordForged k s) := by
  obtain ⟨u, hu, hconns, heq⟩ := recordForged_eq_closeConn ht hx hearly
  rw [heq, ← hu.paired]
  exact closeConn_closesWith (hu.unreferenced hs) ((transmits_of hu.mode).trans ht) ((connOf_of hconns k).trans hx)
    htcp rfl 7

end

section
variable (t : Time) {id k ct len : Nat} {fault : Option Nat} {v : CUnit} (a : BitVec 64) {x : Conn} {s : State}
  (hv : Tbl.get? s.cipher.units id = some v) (hop : v.op = .ingress k ct len fault) (hheld : v.held = false)
  (hres : k ∈ s.cipher.resident) (hbefore : recordBefore id v s = false) (hx : connOf s k = some x)
include hv hop hheld hres hbefore hx

/-- The results of a tag failure that both lanes report agree, and the record is a forged one. -/
theorem exec_cipherUnitComplete_forged :
    exec (.cipherUnitComplete t id a a false false true) s =
      .next (finish t s (recordForged k (dropUnit id (touchContext k (advance t s))))) := by
  have hv' : Tbl.get? (advance t s).cipher.units id = some v := hv
  have hres' : k ∈ (advance t s).cipher.resident := hres
  have hagree : unitAgrees v a a false false = true := by simp [unitAgrees, hop]
  have hconn : unitConn v = some k := by simp [unitConn, hop]
  simp [exec_cipherUnitComplete, execCipherUnitComplete, act, hv', hheld, hconn, hres', hx, hbefore, hagree,
    unitPassed, hop, when]

variable (hearly : (x.tls.skipEarly && !x.tls.finished) = false) (ht : transmits s = true) (hs : Unreferenced s)
include hearly ht hs

/-- What the statement of R244 says of a unit on lanes of the 104: the counts of their mismatches are none of the
contexts spilled. -/
theorem ingressTagFailure_of_lanes (htcp : x.info.kind = .tcp) (hA : v.laneA < 104) (hB : v.laneB < 104) :
    unitAgrees v a a false false = true ∧
    Completes (exec (.cipherUnitComplete t id a a false false true) s) fun u =>
      connOf u k = none ∧ (∃ n, ClosesWith s.pair.paired n x (.alert alertBadRecordMac) [.rst] u) ∧
      countOf 0x5301 (v.laneA + 1) u = countOf 0x5301 (v.laneA + 1) s ∧
      countOf 0x5301 (v.laneB + 1) u = countOf 0x5301 (v.laneB + 1) s := by
  have hconns : (dropUnit id (touchContext k (advance t s))).conns = s.conns := Same.conns_eq (by simp)
  have hpair : (dropUnit id (touchContext k (advance t s))).pair = s.pair := Same.pair_eq (by simp)
  obtain ⟨hnone, hcloses⟩ := recordForged_closesWith ((transmits_of (Same.mode_eq (by simp))).trans ht)
    ((connOf_of hconns k).trans hx) hearly (by rw [Unreferenced, hconns]; exact hs) htcp
  have hcount (l : Nat) (hl : l < 104) := (countOf_finish_forged ht hx hearly hs t id 0x5301 (l + 1)).trans
    (countOf_touchContext_ne k (advance t s) (by omega))
  refine ⟨by simp [unitAgrees, hop], _, exec_cipherUnitComplete_forged t a hv hop hheld hres hbefore hx, ?_, ?_,
    hcount _ hA, hcount _ hB⟩
  · simpa using hnone
  · simpa [ClosesWith, hpair] using hcloses

end

/-! ### A lane that is none of the 104 -/

/-- Connection 1 of the refutation: TLS with the client Finished received, nothing queued. -/
def forgedConn : Conn :=
  let info : ConnInfo :=
    { kind := .tcp, port := 0, src := [], svc := 0, listen := 4420, isn := 100, peerIsn := 200, mss := 1460,
      wnd := 65535, wscale := false, sack := false, tstamps := false, ecn := false, dscp := 0, pcp := 0, respRes := 0 }
  let x := connNew info false State.reset
  { x with tls := { x.tls with active := true, finished := true } }

/-- A record of connection 1 on lane 1,791, for which 0x5301 × 256 + 1,792 = 0x5308 × 256. -/
def strayUnit : CUnit :=
  { op := .ingress 1 23 9 none, ns := 0, lba := 0, input := [], cluster := 0, laneA := 1791, laneB := 0, sumA := 0,
    sumB := 0, held := false, oldKey := false }

/-- A module alone with that unit, and with one context more than the 3,072 that may be resident: the use of one spills
another. -/
def crowdedState : State :=
  { State.reset with
    mode := { State.reset.mode with mode := .solo }
    conns := [(1, forgedConn)]
    cipher := { State.reset.cipher with units := [(1, strayUnit)], resident := List.range' 1 3073 } }

theorem countOf_crowdedState :
    countOf 0x5301 (strayUnit.laneA + 1) (touchContext 1 (advance 0 crowdedState)) =
      countOf 0x5301 (strayUnit.laneA + 1) crowdedState + 1 := by
  decide +kernel

/-- Refutes O20 in its last clause, and there only in a state that no run reaches: the statement bounds neither the
unit's lanes nor the resident contexts. The place of lane 1,791 at 0x5301 is that of the contexts spilled at 0x5308,
and the completion spills one. Of a unit on lanes of the 104 the statement holds (`ingressTagFailure_of_lanes`). -/
theorem not_ingressTagFailure : ¬ Obligations.IngressTagFailure := by
  intro h
  have hres : 1 ∈ crowdedState.cipher.resident := List.mem_range'_1.mpr (by decide)
  have hs : Unreferenced crowdedState := by
    simp [Unreferenced, crowdedState, forgedConn, connNew, closingBase]
  obtain ⟨-, u, hu, -, -, hcount, -⟩ :=
    h 0 1 1 23 9 none strayUnit 0 forgedConn crowdedState rfl rfl rfl hres rfl rfl rfl rfl rfl hs
  have hexec : exec (.cipherUnitComplete 0 1 0 0 false false true) crowdedState = .next _ :=
    exec_cipherUnitComplete_forged 0 0 (v := strayUnit) (x := forgedConn) rfl rfl rfl hres rfl rfl
  cases hu.symm.trans hexec
  rw [countOf_finish_forged (x := forgedConn) rfl rfl rfl hs, countOf_crowdedState] at hcount
  omega

end Sys2Proof.Machine
end

section
/-! PROOFS. Calibration of the bays under every command (12 R340): what a command leaves of the bays, chapter by
chapter, and from that the step. -/

namespace Sys2Proof.Machine

/-! ### Around the effect

Every command is an `act`, so `exec c s` unfolds to `.next (finish t s x)`, with `x` the state its effect leads to:
given `h : exec c s = .next u`, these lemmas leave a goal about `x` alone. -/

theorem same_of_ended {t : Time} {s u x : State}
    (h : (.next (finish t s x) : Host.Outcome State Fault Refusal) = .next u) (hx : Same .bays x s) :
    Same .bays u s := by
  cases h; exact (finish_bays t s x).trans hx.bays_eq

theorem CalibratesOff.of_ended {t : Time} {s u x : State}
    (h : (.next (finish t s x) : Host.Outcome State Fault Refusal) = .next u) (hx : CalibratesOff x) :
    CalibratesOff u := by
  cases h; exact hx.of_bays (finish_bays t s x)

theorem CalibratesOff.advanced {s : State} (hs : CalibratesOff s) (t : Time) : CalibratesOff (advance t s) :=
  hs.of_bays (by simp)

theorem CalibratesOff.owedSent {s : State} (hs : CalibratesOff s) : CalibratesOff (sendOwed s) :=
  hs.of_bays (by simp)

@[simp] theorem awake_same {p : Field} {f : State → State} {s t : State} (hf : ∀ v, Same p (f v) t ↔ Same p v t) :
    Same p (awake f s) t ↔ Same p s t := by
  unfold awake; split
  · exact hf s
  · rfl

/-! ### Commands by chapter

The first line of each proof puts the other chapters' commands aside. Then come the commands that meet the bays, by the
law of the operation they run; every other leaves the bays as they were, by the frames of its operations: at once, or
branch by branch where its effect is a match. -/

section
variable {c : Instr} {s u : State} (h : exec c s = .next u)
include h

theorem exec_host_bays (hc : chapter c ≤ 3) : Same .bays u s := by
  cases c
  all_goals try exact absurd hc (of_decide_eq_false rfl)
  all_goals refine same_of_ended h ?_
  case tcpSegment | tcpRetransmissionTimeout | tcpSendTimeout | hostConnectionClose | tlsClientHello | tlsRecord
    | keyupdateSend | roceSend | roceInboundRdma | roceAckTimeout | roceReadResponse | ceMarkedPacket
    | congestionNotification | rateRecovery | connect | disconnect | h2cData | keepAliveExpired =>
    dsimp only
    (repeat' split) <;> simp
  case propertyGet =>
    refine (withAdmin_same _ _ _ _ (by simp) fun k v => ?_).2 (by simp)
    dsimp only
    (repeat' split) <;> simp
  case propertySet | identify | abort | setFeatures | getFeatures | asynchronousEventRequest =>
    refine (withAdmin_same _ _ _ _ (by simp) fun k v => ?_).2 (by simp)
    (repeat' split) <;> simp
  case getLogPage =>
    refine (withAdmin_same _ _ _ _ (by simp) fun k v => ?_).2 (by simp)
    dsimp only
    split
    · simp
    · rename_i b v' hpage
      have hv (w : State) : Same .bays v' w ↔ Same .bays v w := by
        split at hpage
        · exact discPage_frame hpage w (by simp)
        · exact logPage_frame hpage w (by simp)
      split <;> simp [hv]
  case invalidOpcode =>
    dsimp only
    split
    · simp
    split
    · simp
    split
    · rename_i g v hentry
      simp [takeEntry_frame hentry]
    · simp
  case probeIntervalExpiry =>
    refine (when_same _ _ _ _ (each_same _ _ _ _ fun p v => ?_)).2 (by simp)
    dsimp only
    split <;> simp
  case probeReport =>
    exact (whenFrame_same _ _ _ _ (by simp) fun v => by simp).2 (by simp)
  all_goals simp

theorem calibratesOff_exec_data (hs : CalibratesOff s) (hc : 4 ≤ chapter c ∧ chapter c ≤ 9) :
    CalibratesOff u := by
  cases c
  all_goals try exact absurd hc (of_decide_eq_false rfl)
  case arrayKeyExport => exact .of_ended h (calibratesOff_namedReq (hs.advanced _) _ _)
  all_goals refine hs.of_bays (same_of_ended h ?_)
  case keyupdateReceive | closeNotify | portPausedLong | cipherUnitComplete | mergeCommit | checkpoint
    | compactionCommit | memberMoveSwitch | rebuildSwitch | cipherRetryComplete | pfcPauseExpiry | granuleRequest
    | clusterRebind =>
    dsimp only
    (repeat' split) <;> simp
  all_goals simp

theorem calibratesOff_exec_pair (hs : CalibratesOff s) (hc : 10 ≤ chapter c ∧ chapter c ≤ 11) :
    CalibratesOff u := by
  cases c
  all_goals try exact absurd hc (of_decide_eq_false rfl)
  case cycleRecord t m r =>
    refine .of_ended h ((hs.advanced t).framed m fun v hv => hv.when (fun w hw => ?_) _)
    exact calibratesOff_recordArrives hw r
  case streamFill t m k n b =>
    refine .of_ended h ((hs.advanced t).framed m fun v hv => hv.when (fun w hw => ?_) _)
    exact calibratesOff_streamArrives hw k n b
  case sectorData t m l =>
    refine .of_ended h ((hs.advanced t).framed m fun v hv => hv.when (fun w hw => ?_) _)
    exact calibratesOff_tryConfirm (hw.of_bays (by simp))
  case snapshot t m l p b =>
    refine .of_ended h ?_
    dsimp only
    split
    · exact hs.of_bays (by simp)
    · exact CalibratesOff.framed (hs.of_bays (by simp)) m fun v hv => calibratesOff_snapshotArrives hv m.cycle l p b
  case cycleBoundary t =>
    refine .of_ended h ?_
    dsimp only
    split
    · exact hs.advanced t
    split
    · exact hs.of_bays (by simp)
    refine calibratesOff_runWaiting (CalibratesOff.owedSent ?_)
    split
    · exact hs.of_bays (by simp)
    · exact calibratesOff_boundaryFollows (hs.advanced t)
  case fwActivate t w =>
    exact .of_ended h ((hs.advanced t).written _ _ _ (fun k v _ => calibratesOff_fwActivateEffect k v) w)
  all_goals refine hs.of_bays (same_of_ended h ?_)
  case receiveGapTimeout | carrierIdentifyDone | setLinkTagDone | reserveReadDone | temperatureDone
    | badEuListDone | eventWaitDone =>
    dsimp only
    (repeat' split) <;> simp
  case carrierReadDone | carrierProgramDone | carrierEraseDone | setCellModeDone | markBadDone =>
    refine (mediaDone_same _ _ _ _ _ (by simp) fun m v => ?_).2 (by simp)
    (repeat' split) <;> simp
  case heartbeat | confirm | fillRequest | pairing =>
    exact (whenFrame_same _ _ _ _ (by simp) fun v => by simp).2 (by simp)
  all_goals simp

theorem calibratesOff_exec_power (hs : CalibratesOff s) (hc : chapter c = 12) : CalibratesOff u := by
  cases c
  all_goals try exact absurd hc (of_decide_eq_false rfl)
  case feedGood t f n | feedLow t f n | feedOvervoltageClear t f n | feedReverse t f n | feedReverseClear t f n =>
    refine hs.of_bays (same_of_ended h ((awake_same fun v => ?_).2 (by simp)))
    (repeat' split) <;> simp
  case holdupTest => exact hs.of_bays (same_of_ended h (by simp))
  all_goals refine .of_ended h ?_
  all_goals have hv := hs.advanced
  case feedLost t f n =>
    refine (hv t).awoken fun w hw => ?_
    split
    · exact calibratesOff_checkFeeds (hw.of_bays (by simp))
    · exact calibratesOff_checkFeeds (hw.of_bays (by simp))
    · exact hw.of_bays (by simp)
  case feedOvervoltage t f n =>
    refine (hv t).awoken fun w hw => ?_
    split
    · exact hw.of_bays (by simp)
    · exact calibratesOff_checkFeeds (hw.of_bays (by simp))
  case holdupSequenceEnd t =>
    dsimp only
    split
    · exact hv t
    split
    · exact hs.of_bays (by simp)
    · exact calibratesOff_enterReset _ _
  case holdupRestart t =>
    dsimp only
    split
    · exact calibratesOff_startBoot (hv t) _ _ _ _
    · exact hv t
  case bayPresent t b => exact (hv t).awoken fun w hw => calibratesOff_bayPresent hw b.val
  case baySeated t b i => exact (hv t).awoken fun w hw => calibratesOff_baySeated hw b.val i
  case baySeatingLost t b p => exact (hv t).awoken fun w hw => calibratesOff_baySeatingLost hw b.val p
  case bayRemoved t b => exact (hv t).awoken fun w hw => calibratesOff_bayRemoved hw b.val
  case bayRampDone t b n =>
    dsimp only
    split
    · rename_i hramp
      refine CalibratesOff.raise ((hv t).onBay fun _ hb hcal => ?_) _ _ _ _ _
      exact absurd (of_decide_eq_true (Bool.and_eq_true_iff.mp hramp).1) (hb hcal).1
    · exact hv t
  case bayStartDeadline t b => exact calibratesOff_bayFault (hv t) _ _ _
  case bayOvercurrent t b n | bayFastTrip t b n =>
    dsimp only
    split
    · exact calibratesOff_bayFault (hv t) _ _ _
    · exact hv t
  case bayPassTempSample t b n =>
    dsimp only
    split
    · exact calibratesOff_bayFault ((hv t).onBay fun _ hb => hb) _ _ _
    · exact (hv t).onBay fun _ hb => hb
  case bayOverBudget t b n =>
    dsimp only
    split
    · split
      · exact CalibratesOff.raise ((hv t).onBay fun _ hb => hb) _ _ _ _ _
      · exact (hv t).onBay fun _ hb => hb
    · exact hv t
  case bayCooldownEnd t b => exact calibratesOff_cooldownEnd (hv t) b.val
  case bayDebounceEnd t b =>
    dsimp only
    split
    · exact calibratesOff_bayStart (hv t) b.val
    · exact hv t
  case bayLock t w =>
    exact (hv t).written _ _ _ (fun k v hk => calibratesOff_bayLockApplied (hk.of_bays (by simp)) _ _) w
  case bayClear t w => exact (hv t).written _ _ _ (fun k v hk => calibratesOff_bayClearEffect hk k) w
  case auxTrip t b => exact calibratesOff_auxTrip (hv t) b.val
  case auxCooldownEnd t b => exact (hv t).onBay fun _ hb => hb
  case holdupMeasurement t n => exact calibratesOff_holdupMeasurement (hv t) n

theorem calibratesOff_exec_attach (hs : CalibratesOff s) (hc : chapter c = 13) : CalibratesOff u := by
  cases c
  all_goals try exact absurd hc (of_decide_eq_false rfl)
  case mboxDoorbell t n q => exact .of_ended h (calibratesOff_mailbox (hs.advanced t) n q)
  all_goals refine hs.of_bays (same_of_ended h ?_)
  case createIoSq | createIoCq | deleteIoSq =>
    refine (attachAdmin_same _ _ _ _ (by simp) fun v => ?_).2 (by simp)
    (repeat' split) <;> simp
  all_goals simp

theorem calibratesOff_exec_modes (hs : CalibratesOff s) (hc : chapter c = 14) : CalibratesOff u := by
  cases c
  all_goals try exact absurd hc (of_decide_eq_false rfl)
  case resetNAssert t =>
    refine .of_ended h ?_
    dsimp only
    split
    · exact hs.of_bays (by simp)
    · exact calibratesOff_enterReset _ _
  case resetRelease t testN s1 s2 found =>
    refine .of_ended h ?_
    dsimp only
    split
    · exact hs.advanced t
    split
    · exact calibratesOff_startBoot (hs.of_bays (by simp)) _ _ _ _
    · exact hs.of_bays (by simp)
  case bootWatchdog t =>
    refine .of_ended h ?_
    dsimp only
    split
    · exact hs.advanced t
    split
    · exact calibratesOff_bootFails (hs.advanced t) 8
    · exact calibratesOff_startBoot (calibratesOff_stopAll _) _ _ _ _
  case restart t w =>
    exact .of_ended h ((hs.advanced t).written _ _ _ (fun k v _ => calibratesOff_restartEffect k v) w)
  case selfTestEngine t w | selfTestLane t w | selfTestBay t w =>
    exact .of_ended h ((hs.advanced t).written _ _ _ (fun k v hk => calibratesOff_selfTestEffect hk k) w)
  case selfTestDone t p => exact .of_ended h (calibratesOff_selfTestDone (hs.advanced t) p)
  case deal t k n => exact .of_ended h (calibratesOff_namedReq (hs.advanced t) _ _)
  case alwaysOnDomainStop t =>
    refine .of_ended h ?_
    dsimp only
    split
    · exact calibratesOff_alwaysOnStops _
    · exact hs.advanced t
  all_goals exact hs.of_bays (same_of_ended h (by simp))

theorem calibratesOff_exec_management (hs : CalibratesOff s) (hc : 15 ≤ chapter c) : CalibratesOff u := by
  cases c
  all_goals try exact absurd hc (of_decide_eq_false rfl)
  case epquin t m k => exact .of_ended h ((hs.advanced t).framed m fun v hv => calibratesOff_tunnelled hv k)
  case get t a b p i j | set t a b p i j | getMulti t a b p i | setGroup t a b p i j | subscribe t a b p i j =>
    exact .of_ended h (calibratesOff_receiveReq (hs.advanced t) a b _)
  case configWrite t k i => exact .of_ended h (calibratesOff_namedReq (hs.advanced t) k _)
  case attestReport t k => exact .of_ended h (calibratesOff_namedReq (hs.advanced t) k _)
  case configReset t w | attestNonce t w | loadSlot t w | loadData t w | ctrSnapshot t w | ctrValue t w
    | ctrControl t w =>
    exact .of_ended h ((hs.advanced t).written _ _ _ (fun k v hk => calibratesOff_writeOne hk k) w)
  all_goals exact hs.of_bays (same_of_ended h (by simp))

/-- No command calibrates a bay whose 12 V output is on or starts. -/
theorem calibratesOff_exec (hs : CalibratesOff s) : CalibratesOff u := by
  obtain hc | hc | hc | hc | hc | hc | hc :
      chapter c ≤ 3 ∨ (4 ≤ chapter c ∧ chapter c ≤ 9) ∨ (10 ≤ chapter c ∧ chapter c ≤ 11) ∨
        chapter c = 12 ∨ chapter c = 13 ∨ chapter c = 14 ∨ 15 ≤ chapter c := by omega
  · exact hs.of_bays (exec_host_bays h hc)
  · exact calibratesOff_exec_data h hs hc
  · exact calibratesOff_exec_pair h hs hc
  · exact calibratesOff_exec_power h hs hc
  · exact calibratesOff_exec_attach h hs hc
  · exact calibratesOff_exec_modes h hs hc
  · exact calibratesOff_exec_management h hs hc
end

/-- What the statement of R340 says of a step: its first clause. -/
theorem calibratesOff_step {s u : State} (hs : CalibratesOff s) (h : step s = .next u) : CalibratesOff u := by
  unfold step at h
  split at h
  · cases h; exact hs
  · exact calibratesOff_exec h (hs.of_bays (by simp))

end Sys2Proof.Machine
end

section
/-! PROOFS. A request to calibrate a bay (12 R340, 14 R389): what a write that is taken leads to, what the end of a
command leaves of the pools, the request that starts a calibration, the one that is refused, and a refusal that empties
a pool. -/

namespace Sys2Proof.Machine

/-! ### A write that is taken (15 R405) -/

theorem withSession_of_heard {k : Session → State → State} {sess : Nat} {x : Session} {s : State}
    (h : Heard sess x s) (t : Time) : withSession sess k (advance t s) = k x (atSession t sess s) := by
  obtain ⟨hx, hreach, hgrants⟩ := h
  have hx' : Tbl.get? (advance t s).mgmt.sessions sess = some x := hx
  simp only [withSession, hx', reachable_advance, grants_advance, hreach, hgrants]
  rfl

theorem WriteTaken.own_ok {idx : Nat} {own : WCtx → State → EpStatus} {t : Time} {w : Write} {x : Session} {c : WCtx}
    {s : State} (h : WriteTaken idx own t w x c s) : own c (atSession t w.sess s) = .ok := by
  obtain ⟨-, -, -, -, hown⟩ := h
  exact hown

/-- A write whose general checks pass runs the object's own check `own`, whichever check `own'` it is known to pass. -/
theorem writeObject_of_taken {idx : Nat} {own own' : WCtx → State → EpStatus} {f : WCtx → State → State}
    {t : Time} {w : Write} {x : Session} {c : WCtx} {s : State} (h : WriteTaken idx own' t w x c s) :
    writeObject idx own f w (advance t s) =
      reply w.sess 0 (.set 0 (itemOf idx w)) (answer idx w.sub 1 (own c (atSession t w.sess s)) none)
        (if own c (atSession t w.sess s) = .ok then f c (atSession t w.sess s) else atSession t w.sess s) := by
  obtain ⟨hheard, hmode, hhere, hcheck, -⟩ := h
  have hforward : forwardsTo idx (atSession t w.sess s) = false := hhere
  have htakeover : inMode [.takeover] (atSession t w.sess s) = false := hmode
  unfold writeObject writeWhen
  rw [withSession_of_heard hheard]
  simp [hforward, htakeover, hcheck]

@[simp] theorem atSession_same (t : Time) (sess : Nat) (s : State) {p : Field} (u : State) (hp : p ∉ [.now, .mgmt]) :
    Same p (atSession t sess s) u ↔ Same p s u := by
  simp at hp
  simp [hp, atSession]

/-! ### The pools behind a command that leaves them alone -/

theorem updNat_eq_self {α : Type} {n i : Nat} {v : Vector α n} {f : α → α}
    (h : ∀ a, atNat v i = some a → f a = a) : updNat v i f = v := by
  unfold updNat; split
  · rename_i hi
    have ha := h v[i] (atNat_of_lt v hi)
    simp [updAt, ha]
  · rfl

theorem emptyPot_pools {s : State} (h : poolUsed s poolPour = 0) : (emptyPot s).pools = s.pools := by
  have hpools : (emptyPot s).pools = updNat s.pools poolPour fun q => { q with used := 0 } := by
    simp [emptyPot, poolPour]
  rw [hpools]
  refine updNat_eq_self fun q hq => ?_
  have hused : q.used = 0 := by simpa [poolUsed, hq] using h
  rw [← hused]

theorem poolUsed_finish_of_potEmpty {x : State} (h : x.mode.mode.potEmpty = true) (t : Time) (s : State) :
    poolUsed (finish t s x) poolPour = 0 := by
  rw [← emptyPot_used x]
  exact poolUsed_of (by rw [finish_pools, if_pos h]) _

theorem finish_pools_of_potFollowsMode {t : Time} {s x : State} (hs : PotFollowsMode s) (hm : x.mode = s.mode)
    (hp : x.pools = s.pools) : (finish t s x).pools = s.pools := by
  rw [finish_pools, hm]; split
  · rename_i hempty
    obtain ⟨-, -, -, -, -, -, hused⟩ := hs hempty
    exact (emptyPot_pools ((poolUsed_of hp _).trans hused)).trans hp
  · exact hp

/-! ### A write to SELF_TEST for a bay (14 R389, 12 R340) -/

theorem bayBusy_iff (y : BaySt) : bayBusy y = true ↔ y.state ∈ [.ramp, .on, .cooldown] := by
  unfold bayBusy; cases y.state <;> simp

theorem bayOf_atSession (t : Time) (sess : Nat) (s : State) (b : Nat) :
    bayOf (atSession t sess s) b = bayOf s b := bayOf_of (Same.bays_eq (by simp)) b

@[simp] theorem bayOf_reply (sess trans : Nat) (q : Req) (r : Resp) (s : State) (b : Nat) :
    bayOf (reply sess trans q r s) b = bayOf s b := bayOf_of (Same.bays_eq (by simp)) b

theorem reply_out {sess : Nat} (h : sess < tunnelKey) (trans : Nat) (q : Req) (r : Resp) (s : State) :
    (reply sess trans q r s).out = s.out ++ [.reply sess trans r] := by
  have hmailbox : sess ≠ mailboxKey := by unfold tunnelKey at h; unfold mailboxKey; omega
  simp [reply, sendReply, hmailbox, Nat.not_le.mpr h, emit]

section
variable {t : Time} {w : Write} {x : Session} {c : WCtx} {b : Bay} {s : State}
  (hb : testOf c.nat = some (3, b.val + 1))
include hb

theorem selfTestEffect_bay (u : State) :
    selfTestEffect c u = onBay b.val (fun y => { y with calibrating := !bayBusy y })
      ((takeGranules poolSelfTest 1 u).onRepair fun r => { r with tests := [⟨3, b.val + 1⟩], testResult := 1 }) := by
  simp [selfTestEffect, hb]

theorem selfTestCheck_bay (u : State) :
    selfTestCheck c u =
      refuseIf (testRuns u || bayBusy (bayOf u b.val) || !grants u poolSelfTest 1) .busyInService := by
  simp [selfTestCheck, hb, testable]

theorem exec_selfTestBay_starts (h : WriteTaken 0x7100 selfTestCheck t w x c s) :
    Completes (exec (.selfTestBay t w) s) fun u => (bayOf u b.val).calibrating = true := by
  have hok := h.own_ok
  have hfree : bayBusy (bayOf s b.val) = false := by
    rw [selfTestCheck_bay hb, bayOf_atSession] at hok
    cases hbusy : bayBusy (bayOf s b.val) with
    | false => rfl
    | true => simp [refuseIf, hbusy] at hok
  have hsame : bayOf ((takeGranules poolSelfTest 1 (atSession t w.sess s)).onRepair fun r =>
      { r with tests := [⟨3, b.val + 1⟩], testResult := 1 }) b.val = bayOf s b.val :=
    bayOf_of (Same.bays_eq (by simp)) _
  refine (completes_act _ _ _ _).2 ?_
  rw [writeObject_of_taken h, if_pos hok, selfTestEffect_bay hb, bayOf_finish, bayOf_reply,
    bayOf_onBay_self _ _ b.isLt, hsame, hfree]
  rfl

theorem exec_selfTestBay_refused (h : WriteTaken 0x7100 noCheck t w x c s)
    (hbusy : (bayOf s b.val).state ∈ [.ramp, .on, .cooldown]) :
    exec (.selfTestBay t w) s = .next (finish t s (reply w.sess 0 (.set 0 (itemOf 0x7100 w))
      (answer 0x7100 w.sub 1 .busyInService none) (atSession t w.sess s))) := by
  have hrefused : selfTestCheck c (atSession t w.sess s) = .busyInService := by
    simp [selfTestCheck_bay hb, refuseIf, bayOf_atSession, (bayBusy_iff _).2 hbusy]
  rw [exec_selfTestBay, execSelfTestBay, act, writeObject_of_taken h, hrefused]
  rfl

/-- What the statement says of a request for a bay in RAMP, ON or COOLDOWN holds where the pot follows the mode, as it
does at reset and behind every command. -/
theorem exec_selfTestBay_refused_changes_nothing (hs : PotFollowsMode s) (h : WriteTaken 0x7100 noCheck t w x c s)
    (hbusy : (bayOf s b.val).state ∈ [.ramp, .on, .cooldown]) :
    Completes (exec (.selfTestBay t w) s) fun u =>
      u.bays = s.bays ∧ u.repair = s.repair ∧ u.pools = s.pools ∧
      (w.sess < tunnelKey → Puts (.reply w.sess 0 (answer 0x7100 w.sub 1 .busyInService none)) s u) := by
  refine ⟨_, exec_selfTestBay_refused hb h hbusy, ?_, ?_, ?_, fun hk => ?_⟩
  · exact (finish_bays _ _ _).trans (Same.bays_eq (by simp))
  · exact (finish_repair _ _ _).trans (Same.repair_eq (by simp))
  · exact finish_pools_of_potFollowsMode hs (Same.mode_eq (by simp)) (Same.pools_eq (by simp))
  · have hout : (atSession t w.sess s).out = s.out := rfl
    simp [Puts, reply_out hk, hout]
end

/-! ### A refusal that changes a pool -/

/-- A maintenance session of the factory. -/
def factorySession : Session :=
  { path := .mgmtPort, priv := .factory, anchor := 5, sel := [], lastMsg := 0, kept := [], nonce := none, sub := none,
    notifySeq := 0, notifyQ := [], gap := false, notifyAt := [], sampleQ := [], loading := false }

/-- An isolated module whose first bay starts, with a granule of POUR in use where 04 R115 leaves none. -/
def pouringState : State :=
  { State.reset with
    mode := { State.reset.mode with mode := .isolated }
    mgmt := { State.reset.mgmt with sessions := [(1, factorySession)] }
    bays := updNat State.reset.bays 0 fun y => { y with state := .ramp }
    pools := updNat State.reset.pools 0 fun q => { q with used := 1 } }

/-- A request to calibrate the first bay. -/
def calibrateFirst : Write := { sess := 1, sub := 0, val := .num 0x03000001 }

/-- The context in which its checks pass. -/
def calibrateCtx : WCtx :=
  { sess := 1, x := factorySession, obj := ⟨0x7100, 0, 0, .u32, 0, .wo, .maintainer, 0, 0, 4294967295, 0⟩, sub := 0,
    rcd := 0, val := .num 0x03000001, trans := 0,
    req := .set 0 { index := 0x7100, sub := 0, ty := .u32, val := .num 0x03000001 } }

theorem pouringState_taken : WriteTaken 0x7100 noCheck 0 calibrateFirst factorySession calibrateCtx pouringState := by
  refine ⟨⟨rfl, rfl, ?_⟩, rfl, ?_, ?_, rfl⟩ <;> decide +kernel

/-- Refutes O41 in its last clause, and there only in a state that no run reaches: the clause does not ask that the pot
follow the mode, and the end of the refused command gives back the granule of POUR that an isolated module still holds.
The first two clauses hold (`calibratesOff_step`, `exec_selfTestBay_starts`), and the last holds where the pot follows
the mode (`exec_selfTestBay_refused_changes_nothing`). -/
theorem not_calibrationRule : ¬ Obligations.CalibrationRule := by
  rintro ⟨-, -, hrefused⟩
  have hb : testOf calibrateCtx.nat = some (3, (0 : Bay).val + 1) := by decide
  have hramp : (bayOf pouringState (0 : Bay).val).state ∈ [.ramp, .on, .cooldown] := by decide
  obtain ⟨u, hu, -, -, hpools, -⟩ :=
    hrefused 0 calibrateFirst factorySession calibrateCtx 0 pouringState pouringState_taken hb hramp
  cases hu.symm.trans (exec_selfTestBay_refused hb pouringState_taken hramp)
  have hempty : poolUsed pouringState poolPour = 0 := by
    rw [← poolUsed_of hpools]
    exact poolUsed_finish_of_potEmpty rfl _ _
  exact absurd hempty (by decide)

end Sys2Proof.Machine
end

section
/-! PROOFS. What the commands of one feed leave (12 R330): the other feed, and while that one is enabled the mode and
the bays. -/

namespace Sys2Proof.Machine

/-! ### Reading one feed after changing the other (12 R328) -/

theorem feedOf_of {s u : State} (h : u.power = s.power) (f : Nat) : feedOf u f = feedOf s f := by
  simp [feedOf, h]

@[simp] theorem feedOf_onFeed_ne {f j : Nat} (g : FeedSt → FeedSt) (s : State) (h : j ≠ f) :
    feedOf (onFeed f g s) j = feedOf s j := by
  simp [feedOf, onFeed, h]

@[simp] theorem feedOf_settleNode (j : Nat) (s : State) : feedOf (settleNode s) j = feedOf s j := by
  unfold settleNode; dsimp only
  split <;> rfl

theorem not_enabled_of_feedsLost {s : State} (h : feedsLost s = true) {j : Nat} (hj : j < 2) :
    (feedOf s j).enabled = false := by
  have hmem : feedOf s j ∈ s.power.feeds.toList := by
    simp [feedOf, atNat_of_lt _ hj]
  have hlost := List.all_eq_true.mp h _ hmem
  revert hlost
  unfold FeedSt.enabled
  cases (feedOf s j).state <;> simp

@[simp] theorem stopAll_power (s : State) : (stopAll s).power = s.power :=
  Same.power_eq ((with_attach_same _ _ _ (by simp)).2 (by simp))

@[simp] theorem feedOf_enterHoldup (j : Nat) (s : State) : feedOf (enterHoldup s) j = feedOf s j := by
  unfold enterHoldup; split
  · rfl
  · refine (feedOf_of (Same.power_eq ((enterMode_same _ _ _ (by simp)).2 (same_refl _ _))) j).trans ?_
    simp [feedOf]

/-! ### What one feed leaves to the other (12 R330) -/

/-- The other feed is as it was; while it is GOOD or LOW, so are the mode and the bays. -/
def FeedKept (f : Feed) (s u : State) : Prop :=
  feedOf u (1 - f.val) = feedOf s (1 - f.val) ∧
    ((feedOf s (1 - f.val)).enabled = true → u.mode = s.mode ∧ u.bays = s.bays)

theorem FeedKept.refl (f : Feed) (s : State) : FeedKept f s s := ⟨rfl, fun _ => ⟨rfl, rfl⟩⟩

section
variable {f : Feed} {s u : State}

theorem feedKept_settleNode (g : FeedSt → FeedSt) : FeedKept f s (settleNode (onFeed f.val g s)) := by
  refine ⟨?_, fun _ => ⟨Same.mode_eq (by simp), Same.bays_eq (by simp)⟩⟩
  rw [feedOf_settleNode, feedOf_onFeed_ne g s (by omega)]

theorem feedKept_feedTo (st : FeedState) (mv : Nat) : FeedKept f s (feedTo f.val st mv s) := feedKept_settleNode _

theorem feedKept_feedSame (mv : Nat) : FeedKept f s (feedSame f.val mv s) := feedKept_settleNode _

theorem FeedKept.of_same {v : State} (h : FeedKept f s u) (hv : ∀ p ∈ [Field.mode, .power, .bays], Same p v u) :
    FeedKept f s v := by
  obtain ⟨hother, hkept⟩ := h
  refine ⟨(feedOf_of (Same.power_eq (hv _ (by simp))) _).trans hother, fun hon => ?_⟩
  obtain ⟨hmode, hbays⟩ := hkept hon
  exact ⟨(Same.mode_eq (hv _ (by simp))).trans hmode, (Same.bays_eq (hv _ (by simp))).trans hbays⟩

theorem FeedKept.raise (h : FeedKept f s u) (code inst value idx sub : Nat) :
    FeedKept f s (Machine.raise code inst value idx sub u) := h.of_same (by simp)

/-- The two feeds are lost together only when the other is lost already. -/
theorem FeedKept.checked (h : FeedKept f s u) : FeedKept f s (checkFeeds u) := by
  unfold checkFeeds; split
  · rename_i hlost
    obtain ⟨hother, -⟩ := h
    have hoff := not_enabled_of_feedsLost hlost (show 1 - f.val < 2 by omega)
    refine ⟨(feedOf_enterHoldup _ u).trans hother, fun hon => ?_⟩
    rw [hother, hon] at hoff
    cases hoff
  · exact h

theorem FeedKept.awoken {g : State → State} (h : FeedKept f s (g s)) : FeedKept f s (awake g s) := by
  unfold awake; split
  · exact h
  · exact .refl f s

theorem FeedKept.of_ended {t : Time} {x : State}
    (h : (.next (finish t s x) : Host.Outcome State Fault Refusal) = .next u) (hx : FeedKept f (advance t s) x) :
    FeedKept f s u := by
  cases h
  refine FeedKept.of_same (s := s) hx fun p hp => ?_
  simp only [List.mem_cons, List.not_mem_nil, or_false] at hp
  obtain rfl | rfl | rfl := hp
  · exact finish_mode t s x
  · exact finish_power t s x
  · exact finish_bays t s x

end

/-- Settles O60, by what each state of the feed makes of its command: `checkFeeds` alone could reach further, and it
finds both feeds lost only where the other is not enabled. -/
theorem feedFrame : Obligations.FeedFrame := by
  intro t f mv s u c hc h
  simp only [List.mem_cons, List.not_mem_nil, or_false] at hc
  obtain rfl | rfl | rfl | rfl | rfl | rfl | rfl := hc <;> refine FeedKept.of_ended h (FeedKept.awoken ?_)
  · split
    · exact (feedKept_feedTo .good mv).raise _ _ _ _ _
    · exact (feedKept_feedTo .good mv).raise _ _ _ _ _
    · exact feedKept_feedTo .good mv
    · exact feedKept_feedSame mv
  · split
    · exact (feedKept_feedTo .low mv).raise _ _ _ _ _
    · exact feedKept_feedSame mv
  · split
    · exact ((feedKept_feedTo .lost mv).raise _ _ _ _ _).checked
    · exact ((feedKept_feedTo .lost mv).raise _ _ _ _ _).checked
    · exact feedKept_feedSame mv
  · split
    · exact feedKept_feedSame mv
    · exact ((feedKept_feedTo .overvoltage mv).raise _ _ _ _ _).checked
  · split
    · exact feedKept_feedTo .good mv
    · exact feedKept_feedSame mv
  · split
    · exact (feedKept_feedTo .reverse mv).raise _ _ _ _ _
    · exact (feedKept_feedTo .reverse mv).raise _ _ _ _ _
    · exact feedKept_feedSame mv
  · split
    · exact feedKept_feedTo _ mv
    · exact feedKept_feedSame mv

end Sys2Proof.Machine
end
